-- ==== Sys2Proof/Word.lean ====
section
/-! DEFINITION. The native word of the NV648 (R5) and the byte of its host link (R7). -/

namespace Sys2Proof

/-- The native 24-bit word (R5). -/
abbrev Word := BitVec 24

/-- A byte of a frame (R5). -/
abbrev Byte := BitVec 8

/-- The reserved code for no value (R10). -/
abbrev noValue : Word := 0x800000#24

end Sys2Proof
end

