-- ==== Sys2Proof/Syntax.lean ====
section
/-! DEFINITION. The commands of the NV648: one constructor of `Instr` for each row of spec/opcode_table.json, and the plain data they carry. -/

namespace Sys2Proof

/-- A host port (R90). -/
inductive Port where
  | hpa | hpb
  deriving DecidableEq, Repr

/-- A controller die (R18). -/
inductive HelmId where
  | a | b
  deriving DecidableEq, Repr

/-- The generation of Umaner Link in which a frame came (R94). -/
inductive Gen where
  | ul1 | ul2 | ul3
  deriving DecidableEq, Repr

/-- Which frame a command came in: its port, its alive value and its generation. -/
structure Tag where
  port : Port
  alive : Byte
  gen : Gen
  deriving DecidableEq, Repr

/-- A window word whose W1C flags a host may clear (R42, R80, R126). -/
inductive W1cReg where
  | bellCause | tideStatus | syncStatus
  deriving DecidableEq, Repr

/-- One entry of SET_PROP: the CH byte and the SETPOINT (R150). -/
structure PropEntry where
  ch : Byte
  sp : Word
  deriving DecidableEq, Repr

/-- A gangway frame as received: the header GF, the payload and the CRC word (R368) (log entry 7, DESIGN CHOICE). -/
structure RxFrame where
  gf : Word
  payload : List Word
  crc : Word
  deriving DecidableEq, Repr

/-- An ECHO frame, with its direction: from pontoon to helm, or from helm to pontoon (R369). -/
structure EchoFrame where
  up : Bool
  frame : RxFrame
  deriving DecidableEq, Repr

/-- What an ORDER frame orders (R70, R389, R355); the spec gives its payload no layout (log entry 7, DESIGN CHOICE). -/
inductive OrderKind where
  | safeState
  | stop
  | readout
  deriving DecidableEq, Repr

/-- What the read-backs of a write into both banks show: in each the first, and the one after the rewrite (R441). -/
structure PairBack where
  a1 : Bool
  a2 : Bool
  b1 : Bool
  b2 : Bool
  deriving DecidableEq, Repr

/-- The read-backs of a commit: those of the ring with its journal entry, and those of the first-fault area (R441). -/
structure ReadBack where
  ring : PairBack
  ff : PairBack
  deriving DecidableEq, Repr

/-- How a copy is left when VHOLD is exhausted during its commit (R447). -/
inductive CopyLeft where
  | old | complete | corrupt
  deriving DecidableEq, Repr

/-- How a bank is left when VHOLD is exhausted during a commit: the copy in the ring, whether its journal entry is written, and the
copy in the first-fault area (R441, R447). -/
structure BankLeft where
  ring : CopyLeft
  journal : Bool
  ff : CopyLeft
  deriving DecidableEq, Repr

/-- The causes of R184 that halt a helm within itself. -/
inductive HaltCause where
  | lockstep | strokeMissing | memory
  deriving DecidableEq, Repr

/-- One of the two 16.384 MHz oscillators (R36). -/
inductive TideId where
  | a | b
  deriving DecidableEq, Repr

/-- The voltage at an output pin against VOLT and VSTK (R257). -/
inductive PinV where
  | belowVolt | between | aboveStk
  deriving DecidableEq, Repr

/-- The four sag conditions of R359. -/
inductive Sag where
  | warn | shed3 | shed2 | dark
  deriving DecidableEq, Repr

/-- The wake sources of R390. -/
inductive WakeSrc where
  | hpa | hpb | moored | pin
  deriving DecidableEq, Repr

/-- How an address pin is strapped (R478). -/
inductive Strap where
  | low | opened | high
  deriving DecidableEq, Repr

/-- What stands on SDI when SELx rises (R114): whole bytes of an unfinished frame, and the bits of a byte cut short after them. -/
structure RxTail where
  bytes : List Byte
  part : List Bool
  deriving DecidableEq, Repr

/-- An output at its current limit, for so many µs (R249, R252). -/
structure Overload where
  q : Fin 32
  us : Nat
  deriving DecidableEq, Repr

/-- A conversion of the check converter at a channel (R318): the voltage at its balls as measured against the bandgap, the group
reference as measured in the same frame, both in nV, and whether the converter saturated. -/
structure CkConv where
  v : Int
  vref : Int
  sat : Bool
  deriving DecidableEq, Repr

/-- The means of one 1 ms judgement window of a group's references (R312, R321): the group reference in units of
10 uV, and the conversions of IREF, CKREF and SMREF on one common scale. -/
structure RefMeas where
  vref : Nat
  iref : Nat
  ckref : Nat
  smref : Nat
  deriving DecidableEq, Repr

/-- The field quantities a pontoon measures at a sounding. The spec leaves them to the field (R253, R326).
`wbLow`/`wbHigh`: class S current below IWB / above IWBC (R227). `fold`: class L in foldback (R224).
`openOn`/`openOff`/`stuck`: the conditions of R251 hold; `judged`: the output was outside its blanking.
`current`: mean load currents in sc (R280). `vf`, `ivf`: VFp in mV and its current in mA. `tjDie`, `tjHot`: in 0.1 °C
(R381). `excI`: in 2 uA (R332). `excLimiting`: still limiting (R309). `skew`: marks differ by more than 1 us (R44).
`safen`: SAFEn high; `dl`: levels of DL pins 0..7 (R382). `ckSat`: the channels on which the check converter saturated in the
crossing that ends (R331). `rises`: the crossing and stroke of every rising edge of SAFEn since the sounding before (R60). -/
structure SoundingMeas where
  wbLow : BitVec 8
  wbHigh : BitVec 8
  fold : BitVec 4
  openOn : BitVec 8
  openOff : BitVec 8
  stuck : BitVec 8
  judged : BitVec 8
  limiting : BitVec 8
  current : List Int
  vf : Int
  ivf : Nat
  tjDie : BitVec 12
  tjHot : BitVec 12
  excI : Nat
  excLimiting : Bool
  skew : Bool
  safen : Bool
  dl : BitVec 8
  ckSat : BitVec 4
  rises : List (Nat × Nat) := []
  deriving DecidableEq, Repr

/-- The commands and events of the opcode table, whole (log entry 1, DESIGN CHOICE; log entry 42, DESIGN CHOICE). -/
inductive Instr where
  /-- UL1_READ (R101): 4 frame bytes as received; CRC-8 checked, answered from the classic mirror, reply due in the next frame. -/
  | ul1Read (p : Port) (f : List Byte)
  /-- UL1_WRITE (R101): 4 frame bytes; an output command stamped into the command slips, ignored, or refused. -/
  | ul1Write (p : Port) (f : List Byte)
  /-- UL2_FRAME (R111): all frame bytes from the marker to the last CRC byte (or to the byte that ends a rejected frame); checks of R111, fan-out, reply due. -/
  | ul2Frame (p : Port) (f : List Byte)
  /-- UL3_REQUEST (R108): header, command, address and data phases and CRC; entered, its reply held in the fetch buffer. -/
  | ul3Request (p : Port) (f : List Byte)
  /-- UL3_FETCH (R110): header, ALIVE, REQ_ALIVE, CRC; the fetch buffer answers. -/
  | ul3Fetch (p : Port) (f : List Byte)
  /-- SEL_RELEASE (R114): SELx rises: whether any clock edge came, whole bytes clocked, and what stands on SDI. -/
  | selRelease (p : Port) (edges : Bool) (clocked : Nat) (got : RxTail)
  /-- STATUS (R139): STATUS at its point of application: three words of the snapshot of L - 1. -/
  | status (t : Tag)
  /-- COLLECTION (R117): the held reply of frame k answered in the holder's background work. -/
  | collection (t : Tag) (k : Byte)
  /-- SESSION_RESET (R119): the front end flushes, opens, answers and raises the stamped event. -/
  | sessionReset (p : Port) (alive : Byte)
  /-- READ_WINDOW (R141): COUNT words of the snapshot of L - 1. -/
  | readWindow (t : Tag) (addr : Nat) (count : Nat)
  /-- WRITE_WINDOW (R144): all words or none at landing L. -/
  | writeWindow (t : Tag) (addr : Nat) (ws : List Word)
  /-- BELL_CAUSE_CLEAR (R128): W1C write of BELL_CAUSE, TIDE_STATUS or SYNC_STATUS. -/
  | bellCauseClear (t : Tag) (r : W1cReg) (v : Word)
  /-- BELL_MASK_WRITE (R126): write of BELL_MASK. -/
  | bellMaskWrite (t : Tag) (v : Word)
  /-- CT_ZERO (R236): CT_ZERO of counter k: zeroed after the snapshot of sounding L + 1. -/
  | ctZero (t : Tag) (k : Fin 16)
  /-- SET_OUTPUTS (R149): FLAGS 0: host image of the selected outputs. -/
  | setOutputs (t : Tag) (mask : BitVec 32) (value : BitVec 32)
  /-- SET_OUTPUTS_FORCE (R149): FORCE in SLIPWAY. -/
  | setOutputsForce (t : Tag) (mask : BitVec 32) (value : BitVec 32)
  /-- SET_OUTPUTS_RELEASE (R149): RELEASE ends forces. -/
  | setOutputsRelease (t : Tag) (mask : BitVec 32) (value : BitVec 32)
  /-- SET_PROP (R150): host setpoints, clamped to SP_CEIL, CLAMPED reported. -/
  | setProp (t : Tag) (es : List PropEntry)
  /-- SET_PROP_FORCE (R150): one FORCE entry. -/
  | setPropForce (t : Tag) (ch : Fin 8) (sp : Word)
  /-- SET_PROP_RELEASE (R150): one RELEASE entry. -/
  | setPropRelease (t : Tag) (ch : Fin 8) (sp : Word)
  /-- PULSE_OUTPUT (R151): on now, off scheduled at L + DURATION. -/
  | pulseOutput (t : Tag) (ch : Nat) (dur : Nat)
  /-- PULSE_END (R151): the pulse due at this landing turns the output off in the host image. -/
  | pulseEnd (q : Fin 32)
  /-- SET_MODE (R152): mode transition or MODE_DENIED. -/
  | setMode (t : Tag) (target : Byte)
  /-- WAKE_REQUEST (R390): in MOORED, SET_MODE BERTHED on an open session goes to the wake logic. -/
  | wakeRequest (p : Port)
  /-- ROLE_CHALLENGE (R398): 32 challenge bytes from the noise source (free value); CHALLENGED. -/
  | roleChallenge (t : Tag) (role : Byte)
  /-- ROLE_RESPONSE (R398): HMAC-SHA-256 check; grant or failure. -/
  | roleResponse (t : Tag) (resp : List Byte)
  /-- ROLE_DROP (R398): the role held or challenged ends. -/
  | roleDrop (t : Tag)
  /-- CHALLENGE_EXPIRY (R398): 30 s elapsed: back to the role held before. -/
  | challengeExpiry (p : Port)
  /-- LOCKOUT_END (R398): 10 s elapsed: unlocked, failure count 0. -/
  | lockoutEnd (p : Port)
  /-- ROLE_IDLE_EXPIRY (R398): not heard for ROLE_IDLE: the role session ends. -/
  | roleIdleExpiry (p : Port)
  /-- CHARTER_READ (R157): words of the charter in force, the draft or a stored copy, key bodies zero. -/
  | charterRead (t : Tag) (src : Byte) (off : Nat) (count : Nat)
  /-- CHARTER_WRITE (R156): words into the draft, created if none. -/
  | charterWrite (t : Tag) (off : Nat) (ws : List Word)
  /-- CHARTER_DISCARD (R156): the draft is discarded. -/
  | charterDiscard (t : Tag)
  /-- CHARTER_COMMIT (R159): checks, then the pending charter for AT. -/
  | charterCommit (t : Tag) (gen : Word) (atW : Word) (crc : BitVec 32)
  /-- CHARTER_COPY_WRITE (R408): the holder writes copy c; whether both helms read it back equal. -/
  | charterCopyWrite (c : Fin 3) (good : Bool)
  /-- CHARTER_COPY_CHECK (R454): every 65 536 crossings all three copies are read and repaired. -/
  | charterCopyCheck
  /-- CHARTER_LOAD (R453): the vote over the three copies, load, repairs, records. -/
  | charterLoad (h : HelmId)
  /-- TOLL (R161): the front end answers and enters the stamped check-in. -/
  | toll (p : Port) (alive : Byte) (prm : List Byte)
  /-- TOLL_CHECK_IN (R414): the toll keeper takes the oldest check-in and judges it. -/
  | tollCheckIn
  /-- TOLL_CONFIG (R430): settings pending for the next window, toll keeper enabled. -/
  | tollConfig (t : Tag) (roster : Byte) (closed : Word) (opn : Word) (pulse : Nat) (pol : Byte)
  /-- TK_OPENING_TICK (R416): the window passes to its open part. -/
  | tkOpeningTick
  /-- TK_CLOSING_TICK (R418): the turn is complete, or MISSING. -/
  | tkClosingTick
  /-- WDP_PULSE_END (R418): WDP inactive; a new window, IDLE or MOORING. -/
  | wdpPulseEnd
  /-- MOORED_INTERVAL_END (R418): MOOR_S seconds elapsed: wake with SUB 0x3. -/
  | mooredIntervalEnd
  /-- BLACKBOX_READ (R164): flagged copies of slots and NEXT. -/
  | blackboxRead (t : Tag) (area : Byte) (start : Nat) (count : Nat)
  /-- HOST_MARK (R165): a HOST_MARK record. -/
  | hostMark (t : Tag) (d0 : Word) (d1 : Word) (d2 : Word)
  /-- BLACKBOX_MARK_CLEAR (R165): requests the clearing of the first-fault area. -/
  | blackboxMarkClear (t : Tag)
  /-- FIRST_FAULT_CLEAR (R443): the commit engine empties the first-fault area and commits FF_CLEAR. -/
  | firstFaultClear
  /-- RECORD_COMMIT (R441): the commit engine takes and commits one record; the read-back outcomes of its writes. -/
  | recordCommit (v : ReadBack)
  /-- VHOLD_EXHAUSTED (R447): what each bank is left as. -/
  | vholdExhausted (a : BankLeft) (b : BankLeft)
  /-- CHECK_CONFIG (R166): configures and restarts a check unit. -/
  | checkConfig (t : Tag) (unit : Nat) (source : Byte) (width : Nat) (flags : Byte) (poly : BitVec 32) (init : BitVec 32) (xorout : BitVec 32)
  /-- CHECK_READ (R167): result, bytes and state at L - 1; optional restart. -/
  | checkRead (t : Tag) (unit : Nat) (flags : Byte)
  /-- CHECK_UNIT_SNOOP (R455): words that arrived in the snoop slip since the last take; the oldest is processed. -/
  | checkUnitSnoop (u : Fin 4) (arrived : Nat)
  /-- ANALOG_SNAPSHOT (R324): one check conversion requested, or CONVERTER_BUSY. -/
  | analogSnapshot (t : Tag) (ch : Nat)
  /-- SNAPSHOT_CONVERSION (R325): the conversion in the free slot, as in CkConv, and whether it saturated at its low or its high end;
the primary sample beside it is the channel's own. -/
  | snapshotConversion (p : Fin 4) (v : Int) (vref : Int) (low : Bool) (high : Bool)
  /-- WAKE_ARM (R352): empties and arms a wake buffer at landing L. -/
  | wakeArm (t : Tag) (p : Nat) (chans : Byte) (trig : Byte) (level : Word) (pre : Nat) (total : Nat)
  /-- WAKE_DISARM (R352): TRIGGER 0xFF: emptied, IDLE. -/
  | wakeDisarm (t : Tag) (p : Nat)
  /-- WAKE_READ (R355): samples of a COMPLETE capture requested. -/
  | wakeRead (t : Tag) (p : Nat) (off : Nat) (count : Nat)
  /-- WAKE_READ_COMPLETE (R355): the reply of the pontoon's oldest read completes, or NOT_READY. -/
  | wakeReadComplete (p : Fin 4)
  /-- SYNC_ISSUE (R79): all decimators reset at the sounding of L + 1; a LEAD sends a marked pulse. -/
  | syncIssue (t : Tag)
  /-- FIRMWARE_STAGE_DATA (R171): image words into the staging area. -/
  | firmwareStageData (t : Tag) (off : Nat) (ws : List Word)
  /-- FIRMWARE_STAGE_FINISH (R171): closes the image; STAGE_STATE shows the CRC outcome. -/
  | firmwareStageFinish (t : Tag) (len : Nat) (crc : BitVec 32) (version : Word)
  /-- FIRMWARE_SWAP (R470): boot entry to the target, the standby restarts on it. -/
  | firmwareSwap (t : Tag) (h : Byte)
  /-- HELM_HANDOVER (R201): control moves to the named standby at L. -/
  | helmHandover (t : Tag) (h : Byte)
  /-- HELM_RETURN_HOLD (R203): 0x01: the return is held. -/
  | helmReturnHold (t : Tag)
  /-- HELM_RETURN_RELEASE (R203): 0x00: the hold is released. -/
  | helmReturnRelease (t : Tag)
  /-- SELFTEST_TEST_PASSAGE (R197): a test passage in the next two background windows. -/
  | selftestTestPassage (t : Tag) (h : Byte)
  /-- SELFTEST_FULL (R186): a standby leaves service through its full self-test. -/
  | selftestFull (t : Tag) (h : Byte)
  /-- DEBUG_OPEN (R215): hand over if needed, attach. -/
  | debugOpen (t : Tag) (h : Byte)
  /-- DEBUG_CLOSE (R216): the attachment ends through HALTED and the full self-test. -/
  | debugClose (t : Tag) (h : Byte)
  /-- DEBUG_CLOSE_INSTRUCTION (R216): the debug port's closing instruction, at the next landing. -/
  | debugCloseInstruction (h : HelmId)
  /-- STROKE (R35): the crossing counter advances by one stroke. -/
  | stroke
  /-- STROKE_TOKEN (R27): a helm takes its oldest stroke token, offers records, or halts on a gap. -/
  | strokeToken (h : HelmId)
  /-- BEAT_TOKEN (R43): a beat token into the eight beat slips, marked at sounding and landing. -/
  | beatToken
  /-- BEAT (R43): a pontoon receives the beat symbol of helm h. -/
  | beat (p : Fin 4) (h : HelmId)
  /-- REGENERATOR_LOCK (R43): the 64th beat: the regenerator counts as locked. -/
  | regeneratorLock (p : Fin 4)
  /-- SOUNDING (R52): the pontoon latches, snapshots, closes records and sends its report; the field quantities measured. -/
  | sounding (p : Fin 4) (m : SoundingMeas)
  /-- PASSAGE (R61): the helm's work of R61 for the current crossing. -/
  | passage (h : HelmId)
  /-- HOST_LOST (R269): the host-loss state enters LOST. -/
  | hostLost
  /-- HAIL_CHECK_MISS (R86): order k's ACTION applies after MISS_LIMIT misses. -/
  | hailCheckMiss (k : Fin 64)
  /-- BACKGROUND_STEP (R211): the next background self-test step and its outcome. -/
  | backgroundStep (h : HelmId) (good : Bool)
  /-- TEST_PASSAGE (R195): the fixed test passage and its signature. -/
  | testPassage (h : HelmId) (sig : BitVec 48)
  /-- TEST_OUTCOME (R196): at (n+3):64 the Quay raises the verdicts. -/
  | testOutcome
  /-- MANIFEST_COMPARE (R189): stroke 232: the verdict and the holder. -/
  | manifestCompare (p : Fin 4)
  /-- LANDING (R55): the marked landing beat: the chosen manifest lands, holds and queue released. -/
  | landing (p : Fin 4)
  /-- GANGWAY_SILENCE (R45): the silence bound of R45 is reached. -/
  | gangwaySilence (p : Fin 4)
  /-- GW_DOWN (R373): the gangway from helm h is marked down. -/
  | gwDown (p : Fin 4) (h : HelmId)
  /-- REPORT (R31): a report frame as received by helm h. -/
  | report (h : HelmId) (p : Fin 4) (f : RxFrame)
  /-- MANIFEST (R30): a manifest frame as received by pontoon p. -/
  | manifest (p : Fin 4) (h : HelmId) (f : RxFrame)
  /-- CONFIG (R363): a CONFIG frame; last when it completes the reload. -/
  | config (p : Fin 4) (h : HelmId) (f : RxFrame) (last : Bool)
  /-- ORDER (R70): an ORDER frame and what it orders. -/
  | order (p : Fin 4) (h : HelmId) (f : RxFrame) (o : OrderKind)
  /-- BULK (R27): a BULK frame into data SRAM. -/
  | bulk (h : HelmId) (p : Fin 4) (f : RxFrame)
  /-- ECHO (R211): a loopback frame, echoed. -/
  | echo (p : Fin 4) (h : HelmId) (f : EchoFrame)
  /-- SET_CROSSING (R371): the pontoon's crossing count is set. -/
  | setCrossing (p : Fin 4) (h : HelmId) (f : RxFrame)
  /-- HELM_HALT (R184): a helm halts at once and drives its halt line. -/
  | helmHalt (h : HelmId) (cause : HaltCause)
  /-- HELM_SILENT (R184): no stroke token taken for 2 crossings. -/
  | helmSilent (h : HelmId)
  /-- FULL_SELFTEST_DONE (R212): the full self-test ends. -/
  | fullSelftestDone (h : HelmId) (pass : Bool)
  /-- BIST_RETRY (R212): 60 s after a failed self-test it is repeated. -/
  | bistRetry (h : HelmId)
  /-- HELM_LOADED (R186): patch RAM and charter loaded: JOINING or HOLDING. -/
  | helmLoaded (h : HelmId)
  /-- FIRST_HOLDER_TIMEOUT (R464): the primary missed its deadline. -/
  | firstHolderTimeout
  /-- JOIN_REQUEST (R206): the joiner's request over the painter. -/
  | joinRequest (h : HelmId)
  /-- RESYNC_CHUNK (R207): one image chunk and the delta of this passage, its length in words. -/
  | resyncChunk (delta : Nat)
  /-- HELM_JOIN (R206): the joiner's first passage; HELM_JOIN handed to the Quay. -/
  | helmJoin (h : HelmId)
  /-- HELM_PROVEN (R210): PROVE agreed landings: STANDBY. -/
  | helmProven (h : HelmId)
  /-- RETURN_TO_HELM (R203): the primary takes the helm back. -/
  | returnToHelm
  /-- TIDE_CROSS_CHECK (R39): tide B counted over 65 536 periods of tide A. -/
  | tideCrossCheck (countB : Nat)
  /-- TIDE_CALIBRATION_WINDOW (R38): selected-tide periods in 64 mooring ticks. -/
  | tideCalibrationWindow (count : Nat)
  /-- TIDE_ARBITRATION (R39): both counts over 64 mooring ticks. -/
  | tideArbitration (a : Nat) (b : Nat)
  /-- TIDE_LOST (R39): no edge for 2 us. -/
  | tideLost (x : TideId)
  /-- TIDE_RESTART (R39): from TIDE_DEAD a tide runs again. -/
  | tideRestart (x : TideId)
  /-- REFCLK_LOCK (R37): REFCLK accepted. -/
  | refclkLock
  /-- REFCLK_LOST (R37): REFCLK left its limit or stopped. -/
  | refclkLost
  /-- SYNC_EDGE (R77): own stroke 0 minus edge in tide periods, pulse width in ns, period difference in ppm. -/
  | syncEdge (phase : Int) (width : Nat) (periodOff : Nat)
  /-- SYNC_LOST (R78): no expected edge in 4 consecutive crossings. -/
  | syncLost
  /-- SAFEN_LOW (R375): a recognised low, or loss of the carrier. -/
  | safenLow (p : Fin 4)
  /-- REFLEX_TRIGGER (R264): pair j is triggered. -/
  | reflexTrigger (p : Fin 4) (j : Fin 4)
  /-- COUNTER_EDGE (R221, R233, R234): the comparators' samples at the pair of class L inputs that i belongs to, of A and of B at the same instants, oldest
  first, since the last row that brought samples of the pair. -/
  | counterEdge (p : Fin 4) (i : Fin 4) (sa sb : List Bool)
  /-- DL_DRIVE_EDGE (R377): an edge on a DRIVE lane. -/
  | dlDriveEdge (m : Fin 8) (level : Bool)
  /-- DL_PERMIT_LOW (R377): a PERMIT lane goes low. -/
  | dlPermitLow (m : Fin 8)
  /-- DL_LOST (R378): the field carrier of the lane is lost. -/
  | dlLost (m : Fin 8)
  /-- DL_WAKE_EDGE (R390): in MOORED, an edge on a DL pin. -/
  | dlWakeEdge (m : Fin 8) (rising : Bool)
  /-- HAIL_SLOT (R256): stroke 8 of a hail crossing; the pin voltages at the slot start. -/
  | hailSlot (v : List PinV)
  /-- HAIL_PULSE_END (R256): tHP or 100 us elapsed. -/
  | hailPulseEnd (q : Fin 32)
  /-- HAIL_SLOT_END (R257): the lowest and highest pin voltage within the slot. -/
  | hailSlotEnd (lo : List PinV) (hi : List PinV)
  /-- OVERCURRENT (R249): an output at ILIMQ for so long; longer than the blanking it counts. -/
  | overcurrent (o : Overload)
  /-- THERMAL_SHUTDOWN (R249): junction at TSD. -/
  | thermalShutdown (q : Fin 32)
  /-- THERMAL_COOLED (R249): junction below TSD - TSDH. -/
  | thermalCooled (q : Fin 32)
  /-- RETRY_RELOAD (R249): on for 1.0 s without thermal shutdown. -/
  | retryReload (q : Fin 32)
  /-- REVERSE_BLOCK (R250): VOUT above VFp by more than VREV. -/
  | reverseBlock (q : Fin 32)
  /-- REVERSE_RELEASE (R250): VOUT below VFp + VREV. -/
  | reverseRelease (q : Fin 32)
  /-- PWM_PERIOD (R289): the mean current of the period just ended (sc) and VFp (mV). -/
  | pwmPeriod (n : Fin 8) (iRaw : Int) (vf : Nat)
  /-- PQ_TRIP (R295): above ITRIP, or a thermal shutdown. -/
  | pqTrip (n : Fin 8) (thermal : Bool)
  /-- ANALOG_SAMPLE (R314, R319): the modulator bits since the last output instant, and of the channel's check conversions in the
frames since then, oldest first, the two voltages as in CkConv and whether each saturated. -/
  | analogSample (n : Fin 16) (bits : List Bool) (cks : List (Int × Int)) (sats : List Bool)
  /-- REF_WINDOW (R312): the end of a 1 ms judgement window and its means. -/
  | refWindow (p : Fin 4) (w : RefMeas)
  /-- REF_STUCK (R312): 50 ms after a change, still unsettled. -/
  | refStuck (p : Fin 4)
  /-- SHUNT_TRIP (R308): shunt current above ISHT. -/
  | shuntTrip (n : Fin 16)
  /-- SHUNT_RECLOSE (R308): 100 ms later. -/
  | shuntReclose (n : Fin 16)
  /-- EXC_LIMIT (R309): the excitation enters its current limit. -/
  | excLimit (p : Fin 4)
  /-- SAG_ASSERT (R359): below the threshold of c for tF. -/
  | sagAssert (p : Fin 4) (c : Sag)
  /-- SAG_RELEASE (R359): at or above the recovery level of c for tQ. -/
  | sagRelease (p : Fin 4) (c : Sag)
  /-- VF_OVER_SET (R359): above VOVER for tF. -/
  | vfOverSet (p : Fin 4)
  /-- VF_OVER_CLEAR (R359): at or below VOVER - 1 V for tQ. -/
  | vfOverClear (p : Fin 4)
  /-- LOGIC_STOP (R363): VFp below VSTOP. -/
  | logicStop (p : Fin 4)
  /-- PONTOON_RESTART (R363): VFp past VSTART. -/
  | pontoonRestart (p : Fin 4)
  /-- POWER_ON (R459): a POWER_ON reset. -/
  | powerOn
  /-- RSTN_PIN (R459): RSTn low for 10 us or more. -/
  | rstnPin
  /-- VDD_LOW (R446): VDD below its low threshold. -/
  | vddLow
  /-- QUAY_CHECK (R459): an invalid rail code. -/
  | quayCheck
  /-- TAP_RESET (R459): the debug port's reset instruction under MAKER. -/
  | tapReset
  /-- TESTEN_HIGH (R479): the logic side is held in reset. -/
  | testenHigh
  /-- TESTEN_LOW (R479): restart as for RSTn. -/
  | testenLow
  /-- MOORED_WAKE (R390): a wake source leaves MOORED. -/
  | mooredWake (w : WakeSrc)
  /-- START (R463): rings resumed, START committed, start-up begins. -/
  | start
  /-- ADDR_LATCH (R95): the device address is latched. -/
  | addrLatch (a1 : Strap) (a0 : Strap)
  /-- VDDIO_LOW (R474): VDDIO below 1.50 V. -/
  | vddioLow
  /-- VDDIO_RETURN (R474): VDDIO at 1.50 V or more again. -/
  | vddioReturn
  /-- TIDES_STOP (R389): the tides stop on entry to MOORED. -/
  | tidesStop
  /-- SEL_FALL (R92): a select period starts; the due reply is chosen. -/
  | selFall (p : Port)
  /-- INPUT_LEVEL_CHANGE (R221, R228, R238): the comparators' samples at the pair of inputs that i belongs to, the even one and the odd one of each
  instant, oldest first, since the last row that brought samples of the pair. -/
  | inputLevelChange (p : Fin 4) (i : Fin 8) (samples : List (Bool × Bool))
  /-- TOLL_KEEPER_ENABLED (R418): IDLE is left, the first window begins. -/
  | tollKeeperEnabled
  /-- TOLL_KEEPER_DISABLED (R418): the window is abandoned. -/
  | tollKeeperDisabled
  /-- MOORING_DOMAIN_LOST (R460): VHOLD below 2.0 V while VDD is absent. -/
  | mooringDomainLost
  /-- DL_CARRIER_RETURN (R378): the field carrier returns. -/
  | dlCarrierReturn (m : Fin 8)
  deriving DecidableEq, Repr

end Sys2Proof
end

