-- ==== Sys2Proof/Config.lean ====
section
/-! DEFINITION. What one NV648 fixes for itself, and the free values: every constant here is opaque, so nothing
can be proved of its value and a statement holds whatever it is (log entry 2, DESIGN CHOICE). -/

namespace Sys2Proof

/-- A free word for the n-th value the spec leaves open (log entry 2, DESIGN CHOICE). -/
opaque Config.freeWord : Nat → BitVec 24

/-- Whether a read-back of non-volatile memory shows what was written, for the n-th one of which no command tells: those of the records
that the engine commits by itself and of the charter copies rewritten (R441, R453) (log entry 2, DESIGN CHOICE). -/
opaque Config.readBack : Nat → Bool

/-- A byte of the noise source of the Quay, for the n-th challenge and the k-th byte (R154) (log entry 2, DESIGN CHOICE). -/
opaque Config.noise : Nat → Nat → BitVec 8

/-- The unique serial number, SERIAL_HI and SERIAL_LO (R178) (log entry 5, DESIGN CHOICE). -/
opaque Config.serial : BitVec 48

/-- The factory key of MAKER, byte by byte (R395) (log entry 5, DESIGN CHOICE). -/
opaque Config.factoryKey : Nat → BitVec 8

/-- The golden signature of the test passage in code ROM (R195) (log entry 2, DESIGN CHOICE). -/
opaque Config.goldenSig : BitVec 48

/-- Whether an inexact quotient of these two numbers is rounded up, where the spec states no rounding
(R289, R293, R296; log entry 10, DESIGN CHOICE). -/
opaque Config.roundUp : Int → Int → Bool

/-- Where in its cycle a dither shape stands at phase 0 (R288) (log entry 11, DESIGN CHOICE). -/
opaque Config.ditherOrigin : Nat → BitVec 24

/-- The 24-bit coefficients of FIR1 in ROM at its middle tap and 1 and 3 taps from it (R336) (log entry 2, DESIGN CHOICE). -/
opaque Config.fir1 : Nat → BitVec 24

/-- The 24-bit coefficients of the first half of FIR2 in ROM, one set for each preset (R336) (log entry 2, DESIGN CHOICE). -/
opaque Config.fir2 : Nat → Nat → BitVec 24

/-- The fraction bits of the coefficients of FIR1 (1) and FIR2 (2) in ROM (R336) (log entry 2, DESIGN CHOICE). -/
opaque Config.firShift : Nat → Nat

/-- The factory trim of analog input n in range r, at index 8n + r: from the filter's output to the ratio of the input voltage to
the reference the converter uses, in units of 2^-28 (R311, R314 step 2) (log entry 2, DESIGN CHOICE). -/
opaque Config.factoryTrim : Nat → Int → Int

/-- The matched filter of a preset for a channel converted in a slot: its output over the check values of its span, latest first,
in sc; the spec gives its response and delay, not its coefficients (R319) (log entry 2, DESIGN CHOICE). -/
opaque Config.matchedFilter : Nat → Nat → List Int → Int

/-- FLAGS bit 0 of a snapshot beside which no primary sample exists (R325) (log entry 2, DESIGN CHOICE). -/
opaque Config.noPrimaryFar : Bool

/-- The trimmed switch resistance of a proportional stage in milliohm, weighted by a duty (R293) (log entry 2, DESIGN CHOICE). -/
opaque Config.switchRes : Nat → Int → Int

/-- A quantity of the logic side measured at a crossing, by its index (R382; outside R72 by R26) (log entry 2, DESIGN CHOICE). -/
opaque Config.measured : Nat → Nat → BitVec 12

/-- The length in strokes of the passage of a crossing at a helm, by the helm's code, which depends on fabric speed
(R26, R64) (log entry 2, DESIGN CHOICE). -/
opaque Config.passageLength : Nat → Nat → Nat

/-- The single-bit corrections that a helm, by its code, made in the 256 crossings up to a crossing (R19, R180)
(log entry 2, DESIGN CHOICE). -/
opaque Config.corrections : Nat → Nat → Nat

/-- A word of a draft between its end and the offset of a later CHARTER_WRITE, by frame and offset (R156) (log entry 2, DESIGN CHOICE). -/
opaque Config.draftGap : Nat → Nat → BitVec 24

/-- The state-image format of the image of a version (R468, R470) (log entry 2, DESIGN CHOICE). -/
opaque Config.imageFormat : BitVec 24 → BitVec 16

/-- The ticks from an expiry at a tick to the start of its pulse; the reader takes at most 2 (R419) (log entry 24, DESIGN CHOICE). -/
opaque Config.wdpDelay : Nat → Nat

/-- Whether the reply to an output command that is dropped at application is OK or NO_AUTHORITY (R122) (log entry 2, DESIGN CHOICE). -/
opaque Config.droppedOk : Bool

/-- The bits of a UL1 frame's first byte that a release of SELx cut off, as its reply echoes them (R100) (log entry 48, DESIGN
CHOICE). -/
opaque Config.cutEcho : BitVec 8

end Sys2Proof
end

