-- ==== Sys2Proof/Machine/State.lean ====
section
/-! DEFINITION. The state of the NV648 as plain data, part by part, and the state right after reset. Every field's
default is its value after a POWER_ON reset of a blank device; where the spec gives none, log entry 3, DESIGN CHOICE names it. -/

namespace Sys2Proof.Machine

/-! ### Names the manual gives to codes -/

/-- The reply status codes (R115, R137, R399). -/
inductive Status where
  | ok | acceptedPending | crcBad | aliveSkip | frameCut | lenOver | badOpcode | roleDenied | modeDenied | busy
  | addrOverrun | undefinedAddr | sessionRequired | budgetOver | headerBad | replyGone | noAuthority | paramBad
  | recordInvalid | authFailed | noHelm | converterBusy | draftOwned | notReady | noStandby | authLocked
  deriving DecidableEq, Repr

/-- The modes (R384); `unreported` is MODE_CODE 0xF (R120). -/
inductive Mode where
  | moored | berthed | slipway | underway | singleHanded | anchored | unreported
  deriving DecidableEq, Repr

/-- The three roles (R394). -/
inductive Role where
  | operator | installer | maker
  deriving DecidableEq, Repr

/-- The service states of a helm (R186). -/
inductive Svc where
  | starting | joining | proving | standby | holding | fenced | halted | debug
  deriving DecidableEq, Repr

/-- The landing verdicts (R190). -/
inductive Verdict where
  | none | agreed | shadowMissing | provingMismatch | mismatch | viewSplit | late | safe
  deriving DecidableEq, Repr

/-- The mark a beat carries (R43). -/
inductive Mark where
  | plain | sounding | landing
  deriving DecidableEq, Repr

/-- A beat token: its mark, and the number of its beat interval, by which a pontoon counts each interval once (R43). -/
structure Beat where
  mark : Mark
  no : Nat
  deriving DecidableEq, Repr

/-- The tide selector's states (R39); ARBITRATE counts its inconclusive windows in succession. -/
inductive TideSt where
  | agree | arbitrate (runs : Nat) | single | split | dead
  deriving DecidableEq, Repr

/-- The states of the toll keeper (R418). -/
inductive TkState where
  | idle | closed | opened | pulse | mooring
  deriving DecidableEq, Repr

/-- The pin WDP (R422). -/
inductive Wdp where
  | hiz | inactive | active
  deriving DecidableEq, Repr

/-- The host-loss states (R269). -/
inductive HlState where
  | watching | expired | lost
  deriving DecidableEq, Repr

/-- The protection states of a switching output (R249). -/
inductive Prot where
  | normal | cooling | latched
  deriving DecidableEq, Repr

/-- The wake-buffer states (R352). -/
inductive WakeState where
  | idle | filling | waiting | capturing | complete | aborted
  deriving DecidableEq, Repr

/-- The reference judgement (R321). -/
inductive RefJudge where
  | agree | judging | irefOut | ckrefOut | split
  deriving DecidableEq, Repr

/-- A verdict of TEST_OUTCOME for one helm (R196). -/
inductive TestVerdict where
  | pass | fail | none
  deriving DecidableEq, Repr

/-! ### Stamps, records, replies -/

/-- A timestamp: crossing and stroke (R12). -/
structure Stamp where
  crossing : Nat
  stroke : Nat
  deriving DecidableEq, Repr

/-- A black-box record before it is laid out in 8 words (R436). -/
structure Rec where
  at_ : Stamp
  source : Nat
  cls : Nat
  code : Nat
  d0 : Word := 0
  d1 : Word := 0
  d2 : Word := 0
  deriving DecidableEq, Repr

/-- A reply: STATUS, ALIVE_ECHO, EFF_CROSSING and DATA (R105). `clr`: the reading of RC fields whose data it carries
(R147). -/
structure Reply where
  status : Status
  alive : Byte
  eff : Word
  data : List Byte
  clr : Option Nat := none
  deriving DecidableEq, Repr

/-- The place of an RC field in the window: its word and its lowest bit (R14). -/
structure RcKey where
  addr : Nat
  lo : Nat
  deriving DecidableEq, Repr

/-- How an RC field counts: a count or flag with its limit, or an extreme (R147). -/
inductive RcKind where
  | count (limit : Nat) | largest | smallest
  deriving DecidableEq, Repr

/-- One event for an RC field, as a report or a front end brings it. -/
structure RcInc where
  key : RcKey
  amount : Int
  deriving DecidableEq, Repr

/-- What a passage does to the RC fields at its landing: an event counted, or the clear that a reply brings (R147). -/
inductive RcOp where
  | inc (e : RcInc)
  | clear (id : Nat)
  deriving DecidableEq, Repr

/-- What a READ_WINDOW reply returned of the RC fields, and the events counted since its snapshot (R147). -/
structure RcTag where
  id : Nat
  addr : Nat
  count : Nat
  base : List (RcKey × Int)
  since : List (RcKey × Int)
  deriving DecidableEq, Repr

/-- What a frame brings along from a discarded passage (R68). `again`: it moved from one; `silent`: its reply has been given, and is not
repeated; `passed`: the output authority of its port passed the check there (R122); `landed`: what it does outside the helm states has been
done, since the Quay kept that landing (log entry 43, DEDUCED). -/
structure Moved where
  again : Bool := false
  silent : Bool := false
  passed : Bool := false
  landed : Bool := false
  deriving DecidableEq, Repr

/-- A command frame as it stands in a command slip: what it carries and its stamp (R24, R27), and what it brings along from a discarded
passage. -/
structure Entered where
  tag : Tag
  op : Byte
  prm : List Byte
  at_ : Stamp
  id : Nat
  moved : Moved := {}
  deriving DecidableEq, Repr

/-- The stamped events that reach the helms (R60, R119, R147, R185, R268). `before`: the frames entered before it. -/
inductive Ev where
  | sessionReset (p : Port) (before : Nat)
  | heard (p : Port)
  | rcClear (id : Nat)
  | tollExpiry
  | tideSplit
  | tideDiscard
  | tideTransient
  | refclkLost
  | safenEdge (p : Fin 4) (high : Bool)
  | supply (vddio : Bool)
  | cause (bit : Nat)
  | helmHalt (h : HelmId) (cause : BitVec 4)
  | helmFence (h : HelmId) (cause : BitVec 4) (step : Nat)
  | helmJoin (h : HelmId)
  | testOutcome (a b : TestVerdict) (requested : Bool)
  | debugClose (h : HelmId)
  deriving DecidableEq, Repr

/-- A stamped event with its stamp. `landed`: it moved from a discarded passage whose landing the Quay kept (R68; log entry 43,
DEDUCED). -/
structure EvAt where
  at_ : Stamp
  ev : Ev
  landed : Bool := false
  deriving DecidableEq, Repr

/-! ### The Quay -/

/-- The reply due to the last UL1 or UL2 frame of a port (R96): its bytes and the reading they carry, or awaited from the
helm. -/
inductive Due where
  | raw (bytes : List Byte) (clr : Option Nat)
  | helm (id : Nat) (alive : Byte) (eff : Word)
  deriving DecidableEq, Repr

/-- A port's fetch buffer (R110). -/
inductive Fetch where
  | empty
  | pending (alive : Byte) (id : Nat) (eff : Word)
  | ready (alive : Byte) (r : Reply)
  deriving DecidableEq, Repr

/-- A stamped check-in (R25). `at_`: the crossing and the stroke at which its frame completed, which an expiry at its tick is
stamped with (R419). -/
structure CheckIn where
  param : Word
  port : Port
  tick : Nat
  at_ : Stamp := ⟨0, 0⟩
  deriving DecidableEq, Repr

/-- A host-port front end (R92, R96, R110, R113, R118). -/
structure PortFE where
  opened : Bool := false
  alive : Byte := 0
  sel : Bool := false
  done : Bool := false
  due : Option Due := none
  sending : Option (List Byte) := none
  sendId : Option Nat := none
  driven : List Byte := []
  clocked : Nat := 0
  head : List Byte := []
  lanes : Nat := 0
  dummies : Nat := 0
  io : List (BitVec 4) := []
  fetch : Fetch := .empty
  slipA : List Entered := []
  slipB : List Entered := []
  toll : List CheckIn := []
  heardAt : Option Nat := none
  deriving DecidableEq, Repr

/-- Tides, crossing counter, tide selector, REFCLK and SYNC (R35 to R42, R75 to R80). `syncOut`: the width in ns of the
pulse that stands on the SYNC pin, 0 while it is low. `w1c`: the flags REFCLK_LOST, SYNC_LOST, SYNC_MISMATCH and MARK_SEEN that
the next landing clears; `fresh`: those set since the last landing (R146). `markDue`, `decimDue`: what a SYNC_ISSUE of the
passage asks for (R68). `beatNo`: the beat intervals begun; `age`, `ageSnd`, `ageLand`: the tide periods gone by, now, at the last stroke 0 and
at the last stroke 240, which the pontoons' own times refer to and which no reset sets back (R467). -/
structure Timebase where
  crossing : Nat := 0
  stroke : Nat := 0
  strokeTide : Nat := 64
  counting : Bool := false
  tides : Bool := true
  mark : Mark := .plain
  selB : Bool := false
  aOk : Bool := true
  bOk : Bool := true
  ts : TideSt := .agree
  unresolved : Bool := false
  close : Bool := true
  cWin : List Nat := []
  diff : Int := 0
  refLocked : Bool := false
  refLost : Bool := false
  syncLocked : Bool := false
  syncLost : Bool := false
  syncMismatch : Bool := false
  markSeen : Bool := false
  phaseErr : Int := 0
  inLock : Nat := 0
  stepped : Bool := false
  stepping : Bool := false
  markAt : Option Nat := none
  decimAt : Option Nat := none
  markDue : Option Nat := none
  decimDue : Option Nat := none
  syncOut : Nat := 0
  w1c : BitVec 4 := 0
  fresh : BitVec 4 := 0
  age : Nat := 0
  ageSnd : Nat := 0
  ageLand : Nat := 0
  beatNo : Nat := 0
  deriving DecidableEq, Repr

/-- The reset controller with the reset-cause record and the supplies it watches (R178, R181, R459, R475). `powerOn`: no start-up has come
since POWER_ON (R462). -/
structure ResetCtl where
  held : Bool := false
  started : Bool := false
  landed : Bool := false
  cause : BitVec 4 := 0x1
  sub : BitVec 4 := 0
  task : BitVec 3 := 0
  count : Nat := 1
  atC : Nat := 0
  atS : Nat := 0
  atT : Nat := 0
  powerOn : Bool := true
  prev : BitVec 12 := 0
  vdd : Bool := true
  vddio : Bool := true
  mooringAlive : Bool := true
  testen : Bool := false
  addr : Option Nat := none
  tick : Nat := 0
  wakeSub : Option (BitVec 4) := none
  wakeTick : Nat := 0
  firstGiven : Bool := false
  firstLate : Bool := false
  deriving DecidableEq, Repr

/-- Toll-keeper settings, the moored interval in seconds among them (R428, R430). -/
structure TkSet where
  roster : Byte := 0
  closed : Nat := 0
  opened : Nat := 0
  pulse : Nat := 0
  pol : Bool := false
  moorS : Nat := 3600
  deriving DecidableEq, Repr

/-- A change of the toll keeper's settings that a landing brings (R430): the settings, their source, and whether the keeper is
then enabled. -/
structure TkDue where
  set : TkSet
  src : Bool
  enabled : Bool
  deriving DecidableEq, Repr

/-- The toll keeper (R414 to R432). `due`: a change that the next landing brings when its passage is kept; `first`: the
settings the first holder hands it (R465); `expPend`: expiries, each with its own stamp, that the first landing to come applies
(R389, R419, R421); `pulseAt`: the tick at which WDP becomes active (R419); `stamps`: at which crossing and stroke the ticks fell that
have passed, the newest first, each with the first tick of its stroke, while a window or a pulse runs (R419). -/
structure Toll where
  st : TkState := .idle
  w : Nat := 0
  cur : TkSet := {}
  src : Bool := false
  pend : Option (TkSet × Bool) := none
  due : Option TkDue := none
  first : Option TkDue := none
  enabled : Bool := false
  checked : Byte := 0
  pulseEnd : Nat := 0
  pulsePol : Bool := false
  moorAfter : Bool := false
  moorEnd : Nat := 0
  wdp : Wdp := .hiz
  lastSub : BitVec 4 := 0
  lastTask : BitVec 3 := 0
  lastMissing : Byte := 0
  lastAt : Nat := 0
  left : Nat := 0
  expPend : List Stamp := []
  pulseAt : Nat := 0
  stamps : List (Nat × Stamp) := []
  deriving DecidableEq, Repr

/-- The bell (R126 to R128): the cause and mask words, and what waits for the next landing. `due`: causes that a passage
raises, and which move with it when it is discarded (R68). -/
structure Bell where
  cause : Word := 0x800000
  mask : Word := 0xFFFE00
  raised : Word := 0
  due : Word := 0
  cleared : Word := 0
  maskTo : Option Word := none
  deriving DecidableEq, Repr

/-- One NVM bank: its written words, addresses rising (R434). -/
structure Bank where
  mem : List (Nat × Word) := []
  deriving DecidableEq, Repr

/-- What a commit replaced in the ring, the journal and the first-fault area, with the record it wrote, so that a reading can
show the rings as of an earlier stamp (R164). `inFf`: its copy in the first-fault area stands, not cleared since. -/
structure CommitUndo where
  record : Rec
  slot : Nat
  lap : Nat
  total : Nat
  ffFill : Nat
  inFf : Bool
  ringA : List Word
  ringB : List Word
  jourA : Word
  jourB : Word
  ffA : List Word
  ffB : List Word
  deriving DecidableEq, Repr

/-- The commit engine (R27, R32, R441 to R449). `recent`: the commits of this crossing and the one before (R164); `ffDue`: the
clearings that a passage asks for (R68), `ffClear`: those that landings have brought (R443). -/
structure Commit where
  slipA : List Rec := []
  slipB : List Rec := []
  slipQ : List Rec := []
  turnB : Bool := false
  total : Nat := 0
  slot : Nat := 0
  lap : Nat := 0
  ffFill : Nat := 0
  ffClear : List Rec := []
  ffDue : List Rec := []
  recent : List CommitUndo := []
  holdUp : Bool := false
  powerFail : Option Rec := none
  deriving DecidableEq, Repr

/-- A word on its way to, or in, a snoop slip: its bytes and the landing they belong to (R456). -/
structure SnoopWord where
  bytes : List Byte
  landing : Nat
  deriving DecidableEq, Repr

/-- An item of a source of the check units (R456): the source, the landing it belongs to, what FOLD_ADDR and FOLD_CROSSING
add first, and its bytes. -/
structure SnoopItem where
  source : Byte
  landing : Nat
  foldA : List Byte
  foldC : List Byte
  bytes : List Byte
  deriving DecidableEq, Repr

/-- A check unit (R455 to R458). -/
structure CheckUnit where
  source : Byte := 0
  width : Nat := 32
  flags : Byte := 0
  poly : BitVec 32 := 0
  init : BitVec 32 := 0
  xorout : BitVec 32 := 0
  reg : BitVec 32 := 0
  bytes : Nat := 0
  overrun : Bool := false
  restartAt : Nat := 0
  stream : List SnoopWord := []
  slip : List SnoopWord := []
  taken : List SnoopWord := []
  resReg : BitVec 32 := 0
  resBytes : Nat := 0
  deriving DecidableEq, Repr

/-- A restart of a check unit that is due at landing `at_`, with a new configuration or without (R457). -/
structure CuOp where
  unit : Nat
  at_ : Nat
  cfg : Option CheckUnit
  deriving DecidableEq, Repr

/-- The eight direct lanes as the logic side sees them (R376 to R378, R382): `atSnd` and `safenPin` at the soundings of
crossing `sndAt`, `prevSnd` and `prevSafen` at those before it; `safenNow`: the SAFEn pin as last seen, by an edge or a sounding; `riseAt`: its last rising edge that the helms were
told (R60). -/
structure Lanes where
  level : BitVec 8 := 0
  mirror : BitVec 8 := 0
  lost : BitVec 8 := 0
  atSnd : BitVec 8 := 0
  safenPin : Bool := false
  safenNow : Bool := false
  riseAt : Option Stamp := none
  sndAt : Nat := 0
  prevSnd : BitVec 8 := 0
  prevSafen : Bool := false
  deriving DecidableEq, Repr

/-! ### What a report carries -/

/-- What a report says of one analog input for standing orders (R84, R85). -/
structure AiRep where
  latest : Word := noValue
  valid : Bool := false
  peak : Word := noValue
  rms : Word := noValue
  env : Word := noValue
  uns : Bool := true
  deriving DecidableEq, Repr

/-- The result of an analog snapshot (R325). -/
structure SnapRes where
  ch : Nat
  primary : Word
  check : Word
  flags : Byte
  deriving DecidableEq, Repr

/-- A snapshot whose conversion is made and whose primary sample is to come (R325): the channel, the conversion scaled, whether
the converter saturated, and the slot in modulator periods after the last sounding. -/
structure SnapWait where
  ch : Nat
  conv : Int
  sat : Bool
  at_ : Int
  deriving DecidableEq, Repr

/-- A judged hail slot at a listening input (R258): the input, the slot's owner, whether the owner acted and whether
the input carried its code. -/
structure HailHeard where
  input : Nat
  owner : Nat
  acted : Bool
  code : Bool
  deriving DecidableEq, Repr

/-- A report of a pontoon (R52, R53, R498). `words` are the read-only window words latched at this sounding. -/
structure Report where
  crossing : Nat
  configuring : Bool
  verdict : Verdict
  holder : Option HelmId
  fromH : Option HelmId
  hadMan : Bool
  words : List (Nat × Word)
  rc : List RcInc
  diOn : BitVec 8
  diValid : BitVec 8
  diEn : BitVec 8
  ai : List AiRep
  landed : List Int
  held : List Int
  rxNow : BitVec 4
  rxTrip : BitVec 4
  ckFault : Bool
  wake : WakeState
  wakeTotal : Nat
  wakeTrig : List (Stamp × Nat)
  snaps : List SnapRes
  hails : List HailHeard
  gwA : Bool
  gwB : Bool
  dark : Bool
  vfState : Nat
  bells : Word
  recs : List (Nat × Nat × Word × Word × Word)
  deriving DecidableEq, Repr

/-! ### The state both helms hold alike -/

/-- The mode words (R178, R385). While the mode of landing `baseAt` is in the making, `old`, `oldPrev`, `oldCause`, `oldSince` and
`oldSh` are those of the landing before (R387); `want`, `wantD0`, `wantFp`: the cause of the change under way and the actor of its
record (R412); `shWhy`: the cause that a change of SH_HELM has. -/
structure ModeSt where
  mode : Mode := .unreported
  prev : Mode := .unreported
  cause : Byte := 0
  since : Nat := 0
  ack : Bool := false
  shHelm : Bool := false
  shPont : BitVec 4 := 0
  old : Mode := .unreported
  want : Byte := 0
  wantD0 : Word := 0
  wantFp : Word := 0
  shWhy : Byte := 8
  baseAt : Option Nat := none
  oldPrev : Mode := .unreported
  oldCause : Byte := 0
  oldSince : Nat := 0
  oldSh : Bool := false
  deriving DecidableEq, Repr

/-- A challenge outstanding on a port (R398). -/
structure Chal where
  role : Role
  bytes : List Byte
  at_ : Word
  expires : Nat
  deriving DecidableEq, Repr

/-- The role state of a port (R398). -/
structure RoleSt where
  held : Option Role := none
  fp : Word := 0
  chal : Option Chal := none
  fails : Nat := 0
  lockedUntil : Option Nat := none
  lastHeard : Nat := 0
  deriving DecidableEq, Repr

/-- The state of a standing order (R86, R88, R89). -/
structure OrdSt where
  fresh : Bool := true
  hyst : Bool := false
  delay : List (Nat × Option Bool) := []
  lastOn : Bool := false
  changedAt : Option Nat := none
  misses : Nat := 0
  failed : Bool := false
  result : Bool := false
  acted : Bool := false
  deriving DecidableEq, Repr

/-- A held reply (R117): complete, or not yet. -/
structure HeldReply where
  id : Nat
  alive : Byte
  eff : Word
  reply : Option Reply
  deriving DecidableEq, Repr

/-- The charter draft (R155). -/
structure Draft where
  owner : Port
  words : List Word
  deriving DecidableEq, Repr

/-- A pending charter (R408). `fp`: the fingerprint of the key that won the role of the port as it committed (R413); `done`: its landing
has come, and is not yet past. -/
structure Pending where
  words : List Word
  gen : Word
  at_ : Nat
  ok : BitVec 3
  wrote : BitVec 3 := 0
  writer : Option HelmId := none
  port : Port
  role : Option Role
  fp : Word := 0
  done : Bool := false
  deriving DecidableEq, Repr

/-- Redundancy as the helms decide it from identical inputs (R185 to R203). `svcA`, `svcB`: the service states as the
helms have decided them. -/
structure Redund where
  view : Option HelmId := none
  arb : Option Nat := none
  arbReq : Option Nat := none
  transients : List Nat := []
  outcome : BitVec 4 := 0
  retLeft : Nat := 0
  retOn : Bool := false
  retHold : Bool := false
  proveLeft : Nat := 0
  lastDisagree : Nat := 0
  lastHandover : Nat := 0
  doubleFail : Option HelmId := none
  forceHolder : Option HelmId := none
  svcA : Svc := .starting
  svcB : Svc := .starting
  deriving DecidableEq, Repr

/-- A request in a manifest: a snapshot (R324), CT_ZERO (R236), the wake buffer (R352), a decimator reset (R339). -/
inductive ManReq where
  | snap (n : Nat)
  | ctZero (i : Nat)
  | wake (chans : BitVec 4) (trig : Byte) (level : Int) (pre total : Nat)
  | decim
  deriving DecidableEq, Repr

/-- A wake read or a snapshot whose reply is outstanding (R324, R355). `total`: TOTAL of the capture read (R170). -/
structure OutReq where
  id : Nat
  tag : Tag
  ch : Nat
  off : Nat
  count : Nat
  doneAt : Nat
  eff : Word
  total : Nat := 0
  deriving DecidableEq, Repr

/-- The helm state of R206. `inSvc`, `prevSvc`: the pontoons in service in this passage and in the one before (R364). `staged`: the image words that the passage wrote into the staging area, by their first address (R68, R171). -/
structure HelmState where
  modes : ModeSt := {}
  img : Vector Int 32 := Vector.replicate 32 0
  forced : Vector (Option Int) 32 := Vector.replicate 32 none
  pulses : Vector (Option Nat) 32 := Vector.replicate 32 none
  man : Vector Int 32 := Vector.replicate 32 0
  landed : Vector Int 32 := Vector.replicate 32 0
  holdImg : BitVec 32 := 0
  safeOn : Bool := false
  safeHold : Vector Int 32 := Vector.replicate 32 0
  auth : Option Port := none
  takeover : Option (Port × Nat × Stamp) := none
  roleA : RoleSt := {}
  roleB : RoleSt := {}
  orders : Vector OrdSt 64 := Vector.replicate 64 {}
  heldA : List HeldReply := []
  heldB : List HeldReply := []
  draft : Option Draft := none
  pend : Option Pending := none
  charter : List Word := []
  chSource : BitVec 3 := 0
  copyOk : BitVec 3 := 0
  stageOwner : Option Port := none
  imgTab : List Word := []
  red : Redund := {}
  hl : HlState := .watching
  hlCount : Nat := 0
  late : List Nat := []
  heard : List (Port × Nat) := []
  cmds : List Entered := []
  evs : List EvAt := []
  reps : Vector (Option Report) 4 := Vector.replicate 4 none
  prevReps : Vector (Option Report) 4 := Vector.replicate 4 none
  inSvc : BitVec 4 := 0
  prevSvc : BitVec 4 := 0
  taken : Vector (Option Nat) 4 := Vector.replicate 4 none
  wakeReads : Vector (List OutReq) 4 := Vector.replicate 4 []
  snaps : Vector (List OutReq) 4 := Vector.replicate 4 []
  wakeNext : Vector Nat 4 := Vector.replicate 4 0
  rcOps : List RcOp := []
  reqs : Vector (List ManReq) 4 := Vector.replicate 4 []
  staged : List (Nat × List Word) := []
  anchorDue : Option (Nat × Byte) := none
  deriving DecidableEq, Repr

/-- The name of a test passage (R195 to R197): the crossing at whose stroke 64 its outcome is raised, and whether a command asked
for it. -/
abbrev TestKey := Nat × Bool

/-- A test passage whose outcome is to come (R195 to R197): the helms that it names, and the verdicts of the TEST_RESULT records
that have reached the commit engine. -/
structure TestRun where
  key : TestKey
  nameA : Bool := true
  nameB : Bool := true
  resA : TestVerdict := .none
  resB : TestVerdict := .none
  deriving DecidableEq, Repr

/-- What a helm says of itself across the painter: its firmware and image, and the generation and CRC of its charter (R46, R180). -/
structure Said where
  fw : Word
  image : List Word
  gen : Word
  crc : BitVec 32
  deriving DecidableEq, Repr

/-- How far a resynchronisation has come (R206). `win`: the crossing whose background window had the last chunk. -/
structure Resync where
  r : Option Nat := none
  chunks : Nat := 0
  win : Nat := 0
  handed : Bool := false
  retryAt : Nat := 0
  deriving DecidableEq, Repr

/-- A word on the painter, and whether it belongs to a test signature, which goes before health words (R32, R196, R211). -/
structure PainterWord where
  sig : Bool
  word : Word
  deriving DecidableEq, Repr

/-- A read that a helm asks of the general port of NVM-A, or of NVM-B when `bank`: its first word, the words there, and the landing they
belong to (R27, R456). -/
structure NvmRead where
  bank : Bool
  addr : Nat
  words : List Word
  landing : Nat
  deriving DecidableEq, Repr

/-- The slips of a helm's painter port and of its NVM access port, and what waits behind them (R27). `peerSig`, `peerHealth`: the last
words received over the painter, the other helm's signature and its health word (R46, R196, R211). -/
structure Links where
  painterWait : List PainterWord := []
  painterSlip : List PainterWord := []
  peerSig : List Word := []
  peerHealth : Word := 0xC00000
  nvmWait : List NvmRead := []
  nvmSlip : List NvmRead := []
  deriving DecidableEq, Repr

/-- One helm (R18, R180, R186, R212). `reports`: the reports taken at stroke 32 (R31, R51); `shared`: the records of the
passage in the making, `held`: those of the landing that the next passage judges, `sure`: those that no discard touches, which the passage hands
on at its end, `recQ`: those handed on (R68, R438); `begun`: the passage last begun, `viewWas`: its view of the holder then; `passNo`: the
passage last finished, `lastNo`: the one before it; `image`: length, CRC and version of the image it runs (R468); `tests`: test passages due, `testRecs`: those whose record
has not reached the commit engine; `boot`: the image it loaded, 0 or 1 a slot, 3 code ROM only (R469); `said`: what it said at its latest
passage, with the crossing, and `saidOld`: at the one before; `crossOut`, `cfgOut`: the pontoons to which it sends SET_CROSSING and
CONFIG (R371, R465); `gwSeen`: the pontoons whose last report showed its own gangway up (R371); `closing`: the closing instruction of the debug port waits for a landing (R216). -/
structure Helm where
  svc : Svc := .starting
  outCause : BitVec 4 := 0
  silent : Bool := false
  testing : Bool := true
  joinable : Bool := true
  bistFail : Bool := false
  bistTries : Nat := 0
  loaded : Bool := false
  ready : Bool := false
  lockOk : Bool := false
  memOk : Bool := false
  testOk : Bool := false
  gwOk : Bool := false
  painterOk : Bool := false
  health : Word := 0xC00000
  healthSeq : Nat := 0
  secCount : Nat := 0
  said : Option (Nat × Said) := none
  saidOld : Option Said := none
  bgStep : Nat := 0
  tests : List TestKey := []
  testRecs : List TestKey := []
  closing : Bool := false
  sig : BitVec 48 := 0
  resync : Resync := {}
  strokeReg : Option Stamp := none
  strokeSlip : List Stamp := []
  tokenAt : Nat := 0
  repSlips : Vector (List Report) 4 := Vector.replicate 4 []
  reports : Vector (Option Report) 4 := Vector.replicate 4 none
  seqIn : Vector (Option Byte) 4 := Vector.replicate 4 none
  bulkSlip : Vector (List (Nat × Word)) 4 := Vector.replicate 4 []
  bulk : Vector (List (Nat × Word)) 4 := Vector.replicate 4 []
  echoOk : Vector Bool 4 := Vector.replicate 4 true
  links : Links := {}
  shared : List Rec := []
  held : List Rec := []
  sure : List Rec := []
  recQ : List Rec := []
  fw : Word := 0
  image : List Word := []
  boot : BitVec 2 := 0b11
  swapped : Bool := false
  begun : Option Nat := none
  viewWas : Option HelmId := none
  passNo : Option Nat := none
  lastNo : Option Nat := none
  out : Vector (List Word) 4 := Vector.replicate 4 []
  outAt : Option Nat := none
  ordOut : Option OrderKind := none
  crossOut : BitVec 4 := 0
  cfgOut : BitVec 4 := 0
  gwSeen : BitVec 4 := 0
  slipA : List (Nat × Reply) := []
  slipB : List (Nat × Reply) := []
  waitA : List (Nat × Reply) := []
  waitB : List (Nat × Reply) := []
  hs : HelmState := {}
  saved : HelmState := {}
  lastCmds : List Entered := []
  lastEvs : List EvAt := []
  deriving DecidableEq, Repr

/-- What the helms show of the window: the snapshot of the last complete landing, the RC fields, what was counted since
that snapshot, the events counted since the last landing (R72), the inputs enabled at that landing (R102), DI_WB of the last report taken of each pontoon (R497), and when a record that R281, R333 or R383 limits was last written (R142, R147). -/
structure Window where
  snap : List (Nat × Word) := []
  landing : Option Nat := none
  rc : List (RcKey × Int) := []
  since : List (RcKey × Int) := []
  base : List (RcKey × Int) := []
  tags : List RcTag := []
  pend : List RcInc := []
  diEn : BitVec 32 := 0
  aiEn : BitVec 16 := 0
  wbSeen : Vector (BitVec 8) 4 := Vector.replicate 4 0
  recAt : List (Nat × Nat) := []
  deriving DecidableEq, Repr

/-- What the Quay and the helms' own logic show of themselves at a landing, for the snapshot of that landing (R72, R142). -/
structure QuaySnap where
  tide : Word := 0x0E0000
  sync : Word := 0
  openA : Bool := false
  openB : Bool := false
  healthA : Word := 0xC00000
  healthB : Word := 0xC00000
  outA : BitVec 4 := 0
  outB : BitVec 4 := 0
  sigA : BitVec 48 := 0
  sigB : BitVec 48 := 0
  bistA : Bool := false
  bistB : Bool := false
  lost : BitVec 8 := 0
  deriving DecidableEq, Repr

/-- Words that a passage writes to a bank, or to both, once its landing is kept (R68). -/
structure NvmDue where
  toA : Bool
  toB : Bool
  addr : Nat
  words : List Word
  deriving DecidableEq, Repr

/-! ### Pontoons -/

/-- A diagnostic flag with its run of soundings that speak against it (R251, R294). -/
structure Flag4 where
  on : Bool := false
  run : Nat := 0
  deriving DecidableEq, Repr

/-- A digital input (R221, R227, R229 to R231, R239). `cmp`, `cmpRun`: the comparator's last sample and for how many samples it
has shown it; `raw`: the prefiltered level (R228). -/
structure DiSt where
  cmp : Bool := false
  cmpRun : Nat := 0
  raw : Bool := false
  state : Bool := false
  known : Bool := false
  run : Nat := 0
  same : Nat := 0
  lastLvl : Bool := false
  wb : Bool := false
  wbLo : Nat := 0
  wbHi : Nat := 0
  hailLvl : Option Bool := none
  hailCode : Bool := false
  deriving DecidableEq, Repr

/-- A counter (R233 to R236). `restart`: CT_RESTART is due in the next snapshot; `started`: in the next valid one. -/
structure CtSt where
  count : BitVec 46 := 0
  zeroAt : Option Nat := none
  clearDue : Bool := false
  restart : Bool := false
  started : Bool := false
  gap : Bool := false
  deriving DecidableEq, Repr

/-- A reflex pair (R264 to R267). -/
structure RxSt where
  trig : Bool := false
  since : Bool := false
  atSnd : Bool := false
  calm : Bool := true
  hold : BitVec 8 := 0
  deriving DecidableEq, Repr

/-- An output (R247 to R272, R280). `holdLanded`: the landed value when the hold began (R261); `swOn`, `swAt`: the switch as
last set, hail pulses apart, and the count of tide periods then (R252); `lastWord`: Q_DIAG as the last snapshot with a report showed
it (R281). -/
structure OutSt where
  landed : Int := 0
  prot : Prot := .normal
  retry : Nat := 0
  overcurrent : Bool := false
  reverse : Bool := false
  openOn : Flag4 := {}
  openOff : Flag4 := {}
  stuck : Flag4 := {}
  hailMissing : Bool := false
  hailForeign : Bool := false
  hailFrom : Nat := 0
  hailActed : Bool := false
  hailPulse : Bool := false
  hailStart : PinV := .between
  rearm : Bool := false
  held : Bool := false
  holdVal : Int := 0
  holdLanded : Int := 0
  swOn : Bool := false
  swAt : Nat := 0
  shed : Bool := false
  queued : Bool := false
  lastWord : Word := 0
  deriving DecidableEq, Repr

/-- A proportional stage's loop (R283 to R299). `onTime`: modulator periods for which the high-side switch is on in a period;
`bothOpen`: both switches are open; `gridNew`: no period has ended since its grid began (R284, R296); `lastWord`: the word Bn+0 as the last snapshot with a report showed it (R281, R305). -/
structure PqSt where
  onTime : Nat := 0
  bothOpen : Bool := true
  rOld : Int := 0
  elapsed : Nat := 0
  smoothing : Bool := false
  refAct : Int := 0
  g : Int := 0
  duty : Int := 0
  phase : BitVec 24 := 0
  fd : Bool := false
  fdNow : Bool := false
  iEntry : Int := 0
  iLast : Int := 0
  vLast : Nat := 0
  touched : Bool := false
  gridNew : Bool := true
  latch : Bool := false
  trip : Bool := false
  thermal : Bool := false
  hot : Bool := false
  frozen : Bool := false
  n : Nat := 0
  iSum : Int := 0
  iMax : Int := 0
  iMin : Int := 0
  dSum : Int := 0
  nMax : Nat := 0
  vSum : Nat := 0
  anyFd : Bool := false
  anyHail : Bool := false
  coilR : Option Int := none
  headroom : Flag4 := {}
  coilOpen : Flag4 := {}
  rHigh : Flag4 := {}
  rLow : Flag4 := {}
  unctl : Flag4 := {}
  lastWord : Word := 0
  deriving DecidableEq, Repr

/-- The stages of a filter block (R336). -/
structure Decim where
  delay : List Int := [0, 0]
  integ : Vector (BitVec 62) 4 := Vector.replicate 4 0
  comb : Vector (BitVec 62) 4 := Vector.replicate 4 0
  left : Nat := 0
  f1 : List Int := []
  f1odd : Bool := false
  f2 : List Int := []
  f2odd : Bool := false
  out : Int := 0
  deriving DecidableEq, Repr

/-- An analog input (R308, R314, R320, R338 to R347). `pos`: modulator periods from the last sounding to the last
output instant; `none` until the first one after a reset. -/
structure AiSt where
  dec : Decim := {}
  preset : Nat := 3
  pos : Int := 0
  settle : Nat := 0
  sample : Option Int := none
  valid : Bool := false
  isOut : Bool := false
  plausS : Bool := false
  unsS : Bool := false
  settleS : Nat := 0
  nRec : Nat := 0
  curMax : Option Int := none
  curMin : Option Int := none
  recs : List (Nat × Int × Int) := []
  conv : List (Int × Bool) := []
  plausNew : Bool := false
  acc : Nat := 0
  fill : Nat := 0
  skipped : Bool := false
  rms : Option Nat := none
  rmsSeq : Nat := 0
  rmsPartial : Bool := false
  env : Option Nat := none
  clearDue : Bool := false
  peakClear : Bool := false
  rmsClear : Bool := false
  envClear : Bool := false
  resetDue : Bool := false
  plaus : Bool := false
  plRun : Nat := 0
  pause : Nat := 0
  shunt : Bool := false
  chkDiff : Option Int := none
  cmpMade : Bool := false
  orHigh : Bool := false
  orLow : Bool := false
  orNew : Bool := false
  deriving DecidableEq, Repr

/-- The references, excitation and check converter of a group (R309 to R325). `wins`, `litWins`: windows since the reference changed
and since DARK was released (R312, R313). -/
structure GrpSt where
  uns : Bool := true
  changed : Bool := true
  wins : Nat := 0
  minWins : Nat := 1
  stable : Nat := 0
  litWins : Nat := 0
  lastVref : Option Nat := none
  vref : Nat := 0
  aWin : List (Nat × Nat) := []
  sWin : List (Nat × Nat) := []
  judge : RefJudge := .agree
  run : Nat := 0
  jruns : Nat := 0
  excNew : Bool := false
  excLim : Bool := false
  irefDev : Int := 0
  snaps : List (Nat × Nat) := []
  waits : List SnapWait := []
  slotsUsed : Nat := 0
  results : List SnapRes := []
  deriving DecidableEq, Repr

/-- A wake buffer (R352 to R356). -/
structure WakeSt where
  st : WakeState := .idle
  chans : BitVec 4 := 0
  trig : Byte := 0
  level : Int := 0
  pre : Nat := 0
  total : Nat := 0
  buf : List Word := []
  part : List (Nat × Word) := []
  hit : Bool := false
  prevS : List (Option Int) := [none, none, none, none]
  edge : Bool := false
  at_ : Stamp := ⟨0, 0⟩
  fine : Nat := 0
  trigRecs : List (Stamp × Nat) := []
  abort : BitVec 3 := 0
  deriving DecidableEq, Repr

/-- A gangway port of a pontoon (R43, R367 to R373). `alive`: beats arrive, and are not missing (R43); `beats`: valid beats since GW_DOWN
was set (R373); `seq`: GF_SEQ of the last frame that passed; `read`: readout samples still to be
sent, with their places in the capture (R355); `echo`: the payload of an ECHO frame to be returned (R369). -/
structure GwPort where
  up : Bool := false
  alive : Bool := false
  beats : Nat := 0
  discards : Nat := 0
  seq : Option Byte := none
  slip : List Beat := []
  mans : List (Nat × List Word) := []
  read : List (Nat × Word) := []
  echo : Option (List Word) := none
  deriving DecidableEq, Repr

/-- A pontoon. `stopDue`: a stop order acts at its next landing (R389); `tide`: tide periods of a stroke in this crossing; `soundGap`: modulator periods between its last two soundings;
`sndAge`, `landAge`: tide periods counted at its last sounding and landing; `lastBeat`: the beat interval last counted (R43); `told`: a helm has taken the report last built. -/
structure Pont where
  tide : Nat := 0
  soundGap : Nat := 0
  sndAge : Nat := 0
  landAge : Nat := 0
  lastBeat : Nat := 0
  running : Bool := false
  mooredStop : Bool := false
  loaded : Bool := false
  configuring : Bool := false
  setup : List Word := []
  nextSetup : Option (Nat × List Word) := none
  crossing : Nat := 0
  mark : Mark := .plain
  marked : Bool := false
  sag : BitVec 4 := 0
  startDark : Bool := false
  vfOver : Bool := false
  gwA : GwPort := {}
  gwB : GwPort := {}
  regBeats : Nat := 0
  regLocked : Bool := false
  decimDue : Bool := false
  gridDue : Bool := false
  prevMan : List Word := []
  chosen : Option (List Word) := none
  chosenBy : Option HelmId := none
  holder : Option HelmId := none
  verdict : Verdict := .none
  fromH : Option HelmId := none
  hadMan : Bool := false
  silence : Bool := false
  order : Bool := false
  orderDue : Bool := false
  stopDue : Bool := false
  safenLow : Bool := false
  permitLow : BitVec 2 := 0
  permitHold : BitVec 2 := 0
  safenHold : Bool := false
  drive : BitVec 2 := 0
  ins : Vector DiSt 8 := Vector.replicate 8 {}
  cts : Vector CtSt 4 := Vector.replicate 4 {}
  rx : Vector RxSt 4 := Vector.replicate 4 {}
  outs : Vector OutSt 8 := Vector.replicate 8 {}
  pqs : Vector PqSt 2 := Vector.replicate 2 {}
  ais : Vector AiSt 4 := Vector.replicate 4 {}
  grp : GrpSt := {}
  wake : WakeSt := {}
  queue : List Nat := []
  slotOf : Option Nat := none
  hails : List HailHeard := []
  ownOff : List (Nat × Nat) := []
  report : Option Report := none
  told : Bool := false
  rcInc : List RcInc := []
  bells : Word := 0
  recs : List (Nat × Nat × Word × Word × Word) := []
  recsV : List (Nat × Nat) := []
  deriving DecidableEq, Repr

/-! ### The whole machine -/

/-- Faults of a step. No meaning of this model raises one: every command of the table has an effect in the spec. -/
inductive Fault where
  /-- Kept for a command that the spec would stop on; raised by no command (safe). -/
  | stopped
  deriving DecidableEq, Repr

/-- Refusals of a step. -/
inductive Refusal where
  /-- A command that has no meaning yet, by its mnemonic (safe). -/
  | notModelled (mnemonic : String)
  deriving DecidableEq, Repr

/-- The state of the NV648. `nvmDue`, `setups`: what the passage of this crossing writes to the banks and sends to the
pontoons when its landing is kept (R68, R409); `keptAt`: the last landing that the Quay kept; `quay`: what the snapshot of the last landing shows of the Quay (R72);
`genTurn`: for each bank, whether its general port serves Helm B first (R32). -/
structure State where
  pending : List Instr := []
  tb : Timebase := {}
  rst : ResetCtl := {}
  toll : Toll := {}
  tollSnap : Toll := {}
  hpa : PortFE := {}
  hpb : PortFE := {}
  bell : Bell := {}
  com : Commit := {}
  nvmA : Bank := {}
  nvmB : Bank := {}
  cus : Vector CheckUnit 4 := Vector.replicate 4 {}
  cuOps : List CuOp := []
  nvmDue : List NvmDue := []
  setups : Option (List Word) := none
  keptAt : Option Nat := none
  quay : QuaySnap := {}
  snooped : List SnoopItem := []
  genTurn : BitVec 2 := 0
  lanes : Lanes := {}
  helmA : Helm := {}
  helmB : Helm := {}
  holder : Option HelmId := none
  mode : Mode := .unreported
  outcomes : List TestRun := []
  win : Window := {}
  ponts : Vector Pont 4 := Vector.replicate 4 {}
  nextId : Nat := 0
  free : Nat := 0
  deriving DecidableEq, Repr

/-- The machine right after a POWER_ON reset of a blank device (R178, R181, R411, R459; log entry 3, DESIGN CHOICE) (log entry 13, DESIGN CHOICE). -/
def State.reset : State := {}

end Sys2Proof.Machine
end

