-- ==== Sys2Proof/Machine/Ops.lean ====
section
/-! DEFINITION. Operations over the state shared by the meanings: bit fields, span counts, the access to helms, ports
and pontoons, RC fields (R14, R147), the bell (R126) and the record slips (R27). -/

namespace Sys2Proof.Machine

/-! ### Bits, words and numbers -/

/-- The field w[hi:lo] as a number (R6). -/
def fld (w : Word) (hi lo : Nat) : Nat := (w.toNat >>> lo) % 2 ^ (hi + 1 - lo)

/-- The bit w[k] (R6). -/
def bitOf (w : Word) (k : Nat) : Bool := w.getLsbD k

/-- A number as a word, modulo 2^24. -/
def wd (n : Nat) : Word := BitVec.ofNat 24 n

/-- A flag as a number. -/
def bn (b : Bool) : Nat := if b then 1 else 0

/-- The signed value of a word (R9). -/
def sc (w : Word) : Int := w.toInt

/-- An integer held within a range. -/
def clampI (lo hi v : Int) : Int := if v < lo then lo else if hi < v then hi else v

/-- A value as a word of span counts, saturating at the representable range (R10). -/
def ofSc (v : Int) : Word := BitVec.ofInt 24 (clampI (-8388607) 8388607 v)

/-- A value as a word of span counts, or no value (R10). -/
def ofScO : Option Int → Word
  | some v => ofSc v
  | none => noValue

/-- A signed 16-bit field, saturating at ±32 767. -/
def sat16 (v : Int) : Nat := (BitVec.ofInt 16 (clampI (-32767) 32767 v)).toNat

/-- Quotient of two numbers rounded to nearest; how a half goes the spec leaves open (log entry 10, DESIGN CHOICE). -/
def divNear (a : Int) (b : Nat) : Int :=
  if b = 0 then 0 else
  let r := 2 * a.fmod b
  a.fdiv b + (if (b : Int) < r || (decide (r = (b : Int)) && Config.roundUp a b) then 1 else 0)

/-- Quotient whose rounding the spec leaves open (log entry 10, DESIGN CHOICE). -/
def divOpen (a b : Int) : Int :=
  if b = 0 then 0 else
  a.fdiv b + (if a.fmod b ≠ 0 && Config.roundUp a b then 1 else 0)

/-- The bit vector of n flags. -/
def bits8 (f : Nat → Bool) : BitVec 8 :=
  BitVec.ofNat 8 ((List.range 8).foldl (fun a k => a + (if f k then 2 ^ k else 0)) 0)

/-- The mask of n flags as a number. -/
def maskOf (n : Nat) (f : Nat → Bool) : Nat :=
  (List.range n).foldl (fun a k => a + (if f k then 2 ^ k else 0)) 0

/-- A list at an index, with a default. -/
def nth {α : Type} (l : List α) (k : Nat) (d : α) : α := l.getD k d

/-- A vector entry, with a default beyond its end. -/
def vat {α : Type} {n : Nat} (v : Vector α n) (k : Nat) (d : α) : α := if h : k < n then v[k] else d

/-- A vector entry set; nothing beyond its end. -/
def vset {α : Type} {n : Nat} (v : Vector α n) (k : Nat) (x : α) : Vector α n :=
  if h : k < n then v.set k x h else v

/-- A vector entry changed; nothing beyond its end. -/
def vmod {α : Type} {n : Nat} (v : Vector α n) (k : Nat) (f : α → α) : Vector α n :=
  if h : k < n then v.set k (f v[k]) h else v

/-- Association by key: the value set, or added at the end. -/
def assocSet {κ β : Type} [DecidableEq κ] (l : List (κ × β)) (k : κ) (v : β) : List (κ × β) :=
  if l.any (fun e => e.1 = k) then l.map (fun e => if e.1 = k then (k, v) else e) else l ++ [(k, v)]

/-- Association by key: the value, or none. -/
def assocGet {κ β : Type} [DecidableEq κ] (l : List (κ × β)) (k : κ) : Option β :=
  (l.find? (fun e => e.1 = k)).map (·.2)

/-! ### Parts of the state -/

/-- A pontoon. -/
def State.pont (s : State) (p : Fin 4) : Pont := s.ponts[p]

/-- A pontoon changed. -/
def State.modPont (s : State) (p : Fin 4) (f : Pont → Pont) : State :=
  { s with ponts := s.ponts.set p (f s.ponts[p]) }

/-- A helm. -/
def State.helm (s : State) : HelmId → Helm
  | .a => s.helmA
  | .b => s.helmB

/-- A helm changed. -/
def State.modHelm (s : State) (h : HelmId) (f : Helm → Helm) : State :=
  match h with
  | .a => { s with helmA := f s.helmA }
  | .b => { s with helmB := f s.helmB }

/-- A host port's front end. -/
def State.port (s : State) : Port → PortFE
  | .hpa => s.hpa
  | .hpb => s.hpb

/-- A host port's front end changed. -/
def State.modPort (s : State) (p : Port) (f : PortFE → PortFE) : State :=
  match p with
  | .hpa => { s with hpa := f s.hpa }
  | .hpb => { s with hpb := f s.hpb }

/-- The other helm. -/
def otherHelm : HelmId → HelmId
  | .a => .b
  | .b => .a

/-- The other host port. -/
def otherPort : Port → Port
  | .hpa => .hpb
  | .hpb => .hpa

/-- A free word, and the step past it (log entry 2, DESIGN CHOICE). -/
def State.takeFree (s : State) : Word × State :=
  (Config.freeWord s.free, { s with free := s.free + 1 })

/-- Whether a helm is in service: it receives commands and stamped events (R28, R186). -/
def Svc.inService : Svc → Bool
  | .standby | .holding | .proving | .joining => true
  | .starting | .fenced | .halted | .debug => false

/-- Whether a helm computes passages: JOINING has not yet begun (R180, R206). -/
def Svc.computes : Svc → Bool
  | .standby | .holding | .proving => true
  | _ => false

/-- The decided service state of a helm. -/
def Redund.svc (r : Redund) : HelmId → Svc
  | .a => r.svcA
  | .b => r.svcB

/-- The decided service state of a helm changed. -/
def Redund.setSvc (r : Redund) (g : HelmId) (v : Svc) : Redund :=
  match g with
  | .a => { r with svcA := v }
  | .b => { r with svcB := v }

/-- The present instant. -/
def State.now (s : State) : Stamp := ⟨s.tb.crossing, s.tb.stroke⟩

/-- Stamps in order of time (R58). -/
def Stamp.lt (a b : Stamp) : Bool := a.crossing < b.crossing || (a.crossing == b.crossing && a.stroke < b.stroke)

/-- The effective landing of a stamp (R56). -/
def Stamp.landing (a : Stamp) : Nat := if a.stroke < 160 then a.crossing + 1 else a.crossing + 2

/-- A tick in the notes of the toll keeper, which last from the start of a window to the end of its pulse (R419). -/
def Toll.noteTick (t : Toll) (tick : Nat) (at_ : Stamp) : Toll :=
  match t.st with
  | .idle | .mooring => { t with stamps := [] }
  | _ => if t.stamps.head?.map (·.2) = some at_ then t else { t with stamps := (tick, at_) :: t.stamps }

/-- The crossing and stroke at which a tick fell; a tick still to come falls now (R419). -/
def State.stampAt (s : State) (te : Nat) : Stamp :=
  if s.rst.tick < te then s.now
  else match s.toll.stamps.find? (fun e => decide (e.1 ≤ te)) with
    | some e => e.2
    | none => s.now

/-- A mooring tick passes (R13, R25; log entry 9, DESIGN CHOICE). -/
def State.mooringTick (s : State) : State :=
  { s with rst := { s.rst with tick := s.rst.tick + 1 }, toll := s.toll.noteTick (s.rst.tick + 1) s.now }

end Sys2Proof.Machine
end

