-- ==== Sys2Proof/Machine/Crc.lean ====
section
/-! DEFINITION. The cyclic redundancy checks of the links, the records and the check units (R99, R104, R158, R370,
R455), and SHA-256 with HMAC (R396, R397; the algorithm's constants are those of its public standard, log entry 12, PRESUMED). -/

namespace Sys2Proof.Machine

/-! ### Cyclic redundancy checks -/

/-- One bit through a register of `w` bits, most significant bit first. -/
def crcBit (w poly : Nat) (reg : Nat) (b : Bool) : Nat :=
  let top := reg.testBit (w - 1) != b
  let sh := (reg <<< 1) % 2 ^ w
  if top then sh ^^^ poly else sh

/-- The bits of a byte, most significant first. -/
def bitsOfByte (b : Byte) : List Bool :=
  [b.getLsbD 7, b.getLsbD 6, b.getLsbD 5, b.getLsbD 4, b.getLsbD 3, b.getLsbD 2, b.getLsbD 1, b.getLsbD 0]

/-- A byte, its bits reversed first when `refin`. -/
def crcByte (w poly : Nat) (refin : Bool) (reg : Nat) (b : Byte) : Nat :=
  (if refin then (bitsOfByte b).reverse else bitsOfByte b).foldl (crcBit w poly) reg

/-- Bytes through the register. -/
def crcRun (w poly : Nat) (refin : Bool) (reg : Nat) (bs : List Byte) : Nat := bs.foldl (crcByte w poly refin) reg

/-- A register of `w` bits, reflected. -/
def reflectN (w n : Nat) : Nat := (List.range w).foldl (fun a k => a + (if n.testBit k then 2 ^ (w - 1 - k) else 0)) 0

/-- CRC-8/SMBUS (R99). -/
def crc8 (bs : List Byte) : Byte := BitVec.ofNat 8 (crcRun 8 0x07 false 0 bs)

/-- CRC-16/IBM-3740 (R104). -/
def crc16 (bs : List Byte) : BitVec 16 := BitVec.ofNat 16 (crcRun 16 0x1021 false 0xFFFF bs)

/-- CRC-24/OPENPGP (R370, R436). -/
def crc24 (bs : List Byte) : Word := BitVec.ofNat 24 (crcRun 24 0x864CFB false 0xB704CE bs)

/-- CRC-32C (R158, R452). -/
def crc32c (bs : List Byte) : BitVec 32 :=
  BitVec.ofNat 32 (reflectN 32 (crcRun 32 0x1EDC6F41 true 0xFFFFFFFF bs) ^^^ 0xFFFFFFFF)

/-- A word as three bytes, most significant first (R7). -/
def bytesOfWord (w : Word) : List Byte :=
  [BitVec.ofNat 8 (w.toNat / 65536), BitVec.ofNat 8 (w.toNat / 256), BitVec.ofNat 8 w.toNat]

/-- Words as bytes (R7). -/
def bytesOfWords (ws : List Word) : List Byte := ws.flatMap bytesOfWord

/-- `n` bytes of a number, most significant first. -/
def bytesOfNat (n v : Nat) : List Byte := (List.range n).map (fun k => BitVec.ofNat 8 (v / 256 ^ (n - 1 - k)))

/-- The number that bytes spell, most significant first (R134). -/
def natOfBytes (bs : List Byte) : Nat := bs.foldl (fun a b => a * 256 + b.toNat) 0

/-- The words that bytes spell, three bytes each; a rest of fewer than three is dropped. -/
def wordsOfBytes : List Byte → List Word
  | a :: b :: c :: rest => wd (natOfBytes [a, b, c]) :: wordsOfBytes rest
  | _ => []

/-- CRC-32C over words as sent (R158). -/
def crcWords (ws : List Word) : BitVec 32 := crc32c (bytesOfWords ws)

/-! ### SHA-256 and HMAC (log entry 12, PRESUMED) -/

/-- The integer part of the e-th root of a number below 2 ^ (e * bits), bit by bit. -/
def rootN (e : Nat) : Nat → Nat → Nat → Nat
  | 0, _, r => r
  | bits + 1, n, r => rootN e bits n (if (r + 2 ^ bits) ^ e ≤ n then r + 2 ^ bits else r)

/-- The primes below a bound. -/
def primesTo (bound : Nat) : List Nat :=
  (List.range bound).filter (fun n => 2 ≤ n && (List.range n).all (fun d => d < 2 || n % d != 0))

/-- The first 32 bits of the fractional part of the e-th root of a number. -/
def rootBits (e n : Nat) : BitVec 32 := BitVec.ofNat 32 (rootN e 38 (n * 2 ^ (32 * e)) 0)

/-- The 64 round constants: from the cube roots of the first 64 primes. -/
def shaRoundConsts : List (BitVec 32) := (primesTo 312).map (rootBits 3)

/-- The initial hash: from the square roots of the first 8 primes. -/
def shaStart : List (BitVec 32) := (primesTo 20).map (rootBits 2)

/-- The exclusive or of a value turned right by each of some distances. -/
def turns (x : BitVec 32) (by_ : List Nat) : BitVec 32 := by_.foldl (fun acc k => acc ^^^ x.rotateRight k) 0

/-- A message with its padding: a 1 bit, zeros, and its length in bits, in whole blocks of 64 bytes. -/
def shaFill (m : List Byte) : List Byte :=
  let zeros := (119 - m.length % 64) % 64
  m ++ (0x80#8 :: List.replicate zeros 0#8) ++ bytesOfNat 8 (8 * m.length)

/-- The message schedule of a block, latest word first: word k is byte 4k to byte 4k + 3, and from word 16 on made of four words
before it. -/
def shaSched (blk : List Byte) : Nat → List (BitVec 32)
  | 0 => []
  | k + 1 =>
    let w := shaSched blk k
    let ago (j : Nat) : BitVec 32 := w.getD (j - 1) 0
    let next : BitVec 32 :=
      if k < 16 then BitVec.ofNat 32 (natOfBytes ((blk.drop (4 * k)).take 4))
      else ago 16 + ago 7 + (turns (ago 15) [7, 18] ^^^ (ago 15 >>> 3)) + (turns (ago 2) [17, 19] ^^^ (ago 2 >>> 10))
    next :: w

/-- The working state of SHA-256: the last four values of each of its two registers, latest first. -/
structure ShaRegs where
  up : List (BitVec 32)
  low : List (BitVec 32)
  deriving DecidableEq, Repr

/-- One round, with its constant and schedule word added up. -/
def ShaRegs.round (v : ShaRegs) (kw : BitVec 32) : ShaRegs :=
  let u (j : Nat) : BitVec 32 := v.up.getD j 0
  let l (j : Nat) : BitVec 32 := v.low.getD j 0
  let pick := l 2 ^^^ (l 0 &&& (l 1 ^^^ l 2))
  let most := (u 0 &&& u 1) ||| (u 2 &&& (u 0 ||| u 1))
  let t := kw + l 3 + pick + turns (l 0) [6, 11, 25]
  ⟨(t + most + turns (u 0) [2, 13, 22]) :: v.up.take 3, (t + u 3) :: v.low.take 3⟩

/-- One block added into the hash. -/
def shaAbsorb (h : List (BitVec 32)) (blk : List Byte) : List (BitVec 32) :=
  let kws := List.zipWith (· + ·) shaRoundConsts (shaSched blk 64).reverse
  let v := kws.foldl ShaRegs.round ⟨h.take 4, h.drop 4⟩
  List.zipWith (· + ·) h (v.up ++ v.low)

/-- SHA-256 of a message, 32 bytes (R397). -/
def sha256 (m : List Byte) : List Byte :=
  let text := shaFill m
  let blocks := (List.range (text.length / 64)).map (fun k => (text.drop (64 * k)).take 64)
  (blocks.foldl shaAbsorb shaStart).flatMap (fun w => bytesOfNat 4 w.toNat)

/-- HMAC-SHA-256 with a key of at most 64 bytes (R396). -/
def hmac256 (k m : List Byte) : List Byte :=
  let mask (pad : Byte) : List Byte := (List.range 64).map (fun j => k.getD j 0 ^^^ pad)
  sha256 (mask 0x5C#8 ++ sha256 (mask 0x36#8 ++ m))

end Sys2Proof.Machine
end

