-- ==== Sys2Proof/Machine/Charter.lean ====
section
/-! DEFINITION. The charter (R400 to R411): its records, its fields, the fallback charter, the checks of a commit
(R159, R160, R496), and the budget (R63). -/

namespace Sys2Proof.Machine

/-! ### Records and fields -/

/-- A record of a charter (R400). -/
structure Rcd where
  off : Nat
  typ : Nat
  body : List Word
  deriving DecidableEq, Repr

/-- What a walk over the records found: the records up to and with the end record, or the offset of the first word after
the last complete record. -/
structure Walk where
  recs : List Rcd
  broken : Option Nat
  deriving DecidableEq, Repr

/-- The records from an offset on, by fuel (R400). -/
def walkRecs : Nat → Nat → List Word → List Rcd → Walk
  | 0, off, _, acc => ⟨acc.reverse, some off⟩
  | _ + 1, off, [], acc => ⟨acc.reverse, some off⟩
  | n + 1, off, hd :: tl, acc =>
    let len := fld hd 15 0
    if fld hd 23 16 = 0xFF then ⟨(⟨off, 0xFF, tl.take len⟩ :: acc).reverse, none⟩
    else if tl.length < len then ⟨acc.reverse, some off⟩
    else walkRecs n (off + 1 + len) (tl.drop len) (⟨off, fld hd 23 16, tl.take len⟩ :: acc)

/-- The records of a charter. -/
def chWalk (ch : List Word) : Walk := walkRecs 8193 0 ch []

/-- The records of a charter, in order. -/
def chRecs (ch : List Word) : List Rcd := (chWalk ch).recs

/-- The records of one type, in order. -/
def recsOf (rs : List Rcd) (t : Nat) : List Rcd := rs.filter (fun r => r.typ == t)

/-- The body of the record of a type that appears once; empty when absent. -/
def bodyOf (rs : List Rcd) (t : Nat) : List Word := ((recsOf rs t).head?.map (·.body)).getD []

/-- The field +k[hi:lo] of a record body. -/
def bf (b : List Word) (k hi lo : Nat) : Nat := fld (b.getD k 0) hi lo

/-- The flag +k[n] of a record body. -/
def bb (b : List Word) (k n : Nat) : Bool := bitOf (b.getD k 0) n

/-- The signed word +k of a record body. -/
def bs (b : List Word) (k : Nat) : Int := sc (b.getD k 0)

/-- The body of a charter's record of a type. -/
def chBody (ch : List Word) (t : Nat) : List Word := bodyOf (chRecs ch) t

/-- The standing orders in index order (R401). -/
def chOrders (ch : List Word) : List (List Word) := (recsOf (chRecs ch) 0x10).map (·.body)

/-- Generation (R402). -/
def chGen (ch : List Word) : Word := (chBody ch 0x01).getD 1 0

/-- STROKE_TIDE (R75). -/
def chStrokeTide (ch : List Word) : Nat := bf (chBody ch 0x02) 0 23 12

/-- The setpoint ceiling of a PQ stage (R150, R283). -/
def chCeil (ch : List Word) (n : Nat) : Int := bs (chBody ch 0x08) (10 * n + 4)

/-- PRIMARY (R213), read as Helm A where R464 says so is left to the caller. -/
def chPrimary (ch : List Word) : Option HelmId :=
  match bf (chBody ch 0x05) 0 23 22 with
  | 1 => some .a
  | 2 => some .b
  | _ => none

/-- The role-key record of a role, its 32 bytes (R403). -/
def chKey (ch : List Word) (role : Nat) : Option (List Byte) :=
  ((recsOf (chRecs ch) 0x11).find? (fun r => bf r.body 0 23 22 == role)).map
    (fun r => (bytesOfWords (r.body.drop 1)).take 32)

/-- CRC-32C of a charter (R158). -/
def chCrc (ch : List Word) : BitVec 32 := crcWords ch

/-! ### The fallback charter (R411) -/

/-- The fallback charter: every record that appears once, every field at its After reset value. -/
def fallbackCharter : List Word :=
  [0x010002, 0x010000, 0x000000, 0x020002, 0x040000, 0x200000, 0x030001, 0x200000, 0x040002, 0x000258, 0x000000,
   0x050002, 0x642710, 0x03E800]
  ++ [0x060030] ++ List.replicate 32 0x840202 ++ List.replicate 16 0
  ++ [0x070032]
  ++ (List.replicate 4 ([0x300000, 0x300000] ++ List.replicate 6 0x330800)).flatten
  ++ [0x100E00, 0x006400] ++ List.replicate 16 0
  ++ [0x080050]
  ++ (List.replicate 8 [0xA00100, 0x000000, 0x040000, 0x010000, 0x0F4240, 0x000000, 0x009C40, 0x00A3E8, 0x000000,
      0x400000]).flatten
  ++ [0x090048] ++ (List.replicate 16 [0x880800, 0x000000, 0x400000, 0x000BB8]).flatten
  ++ (List.replicate 4 [0x0861A8, 0x053977]).flatten
  ++ [0x0A0020] ++ (List.replicate 16 [0x608010, 0x03E700]).flatten
  ++ [0x0B0008] ++ List.replicate 8 0
  ++ [0x0C0004, 0x008064, 0x000666, 0x000CCD, 0x0E1000]
  ++ [0xFF0000]

/-- Whether this charter is the fallback charter, by its generation (R407). -/
def isFallback (ch : List Word) : Bool := chGen ch == 0

/-! ### The structure (R401) -/

/-- Whether a record type allows a body length. -/
def lenOk (t len : Nat) : Bool :=
  match t with
  | 0x01 | 0x02 | 0x04 | 0x05 => len == 2
  | 0x03 => len == 1
  | 0x06 => len == 48
  | 0x07 => len == 50
  | 0x08 => len == 80
  | 0x09 => len == 72
  | 0x0A => len == 32
  | 0x0B => len == 8
  | 0x0C => len == 4
  | 0x10 => len == 6
  | 0x11 => len == 12
  | 0x12 => len % 4 == 0 && 4 ≤ len && len ≤ 512
  | 0xFF => len == 0
  | _ => false

/-- How many records of a type may appear. -/
def maxCount (t : Nat) : Nat :=
  match t with
  | 0x10 => 64
  | 0x11 => 3
  | _ => 1

/-- The records that must appear once. -/
def onceTypes : List Nat := [0x01, 0x02, 0x03, 0x04, 0x05, 0x06, 0x07, 0x08, 0x09, 0x0A, 0x0B, 0x0C]

/-- Step 1 of R496: the offset at which the structure is broken. The records are walked by their own lengths, and a
header whose type or length is not allowed breaks the walk at that header. -/
def structBad : Nat → Nat → List Word → List Rcd → Option Nat
  | 0, off, _, _ => some off
  | _ + 1, off, [], _ => some off
  | n + 1, off, hd :: tl, before =>
    let t := fld hd 23 16
    let len := fld hd 15 0
    if !lenOk t len then some off
    else if before.isEmpty && t != 0x01 then some off
    else if maxCount t ≤ (recsOf before t).length then some off
    else if t == 0xFF then (if onceTypes.all (fun q => before.any (fun r => r.typ == q)) then none else some off)
    else if tl.length < len then some off
    else if t == 0x11 && (recsOf before 0x11).any (fun q => bf q.body 0 23 22 == fld (tl.headD 0) 23 22) then some off
    else structBad n (off + 1 + len) (tl.drop len) (before ++ [⟨off, t, tl.take len⟩])

/-! ### Values (REASON 0x01) -/

/-- Whether any of these bits of a word is set. -/
def anyBits (w : Word) (mask : Nat) : Bool := w &&& wd mask != 0

/-- Whether a number lies outside a range. -/
def outside (lo hi v : Int) : Bool := v < lo || hi < v

/-- A SRC code that R83 lists. -/
def srcOk (c : Nat) : Bool := c < 0x90 || c == 0xFF

/-- A digital input source. -/
def srcDi (c : Nat) : Bool := c < 0x20

/-- An analog source. -/
def srcAi (c : Nat) : Bool := 0x80 ≤ c && c < 0x90

/-- Whether Qn is a PQn (R4). -/
def isPq (n : Nat) : Bool := n % 8 < 2

/-- The PQ index of a Qn that is one (R4). -/
def pqOf (n : Nat) : Nat := 2 * (n / 8) + n % 8

/-- The output that is PQn (R4). -/
def qOfPq (n : Nat) : Nat := 8 * (n / 2) + n % 2

/-- REASON 0x01 at a standing order (R87). -/
def orderBad1 (b : List Word) : Bool :=
  let nv (k : Nat) := b.getD k 0 == noValue
  anyBits (b.getD 0 0) 0x003FFF ||
  match bf b 0 23 20 with
  | 0 => (b.drop 1).any (fun w => w != 0)
  | 1 => !srcOk (bf b 1 23 16) || !srcOk (bf b 1 14 7) || bf b 1 5 4 == 3 || nv 2 || nv 3 || decide (bs b 3 < 0)
      || anyBits (b.getD 1 0) 0x00000F || b.getD 4 0 != 0 || b.getD 5 0 != 0
  | 2 => nv 1 || nv 2 || decide (bs b 1 < 0) || decide (bs b 2 < 0) || b.getD 3 0 != 0 || b.getD 4 0 != 0
      || b.getD 5 0 != 0
  | 3 => !srcOk (bf b 1 23 16) || nv 2 || nv 3 || nv 4 || nv 5 || decide (bs b 5 < 0) || anyBits (b.getD 1 0) 0x003FFF
  | 4 => b.getD 3 0 != 0 || b.getD 4 0 != 0 || b.getD 5 0 != 0
  | 5 => !srcOk (bf b 1 23 16) || nv 2 || anyBits (b.getD 1 0) 0x00007F || b.getD 3 0 != 0 || b.getD 4 0 != 0
      || b.getD 5 0 != 0
  | 6 => !srcOk (bf b 1 23 16) || bf b 1 15 12 == 0 || bf b 1 11 10 == 3 || anyBits (b.getD 1 0) 0x0003FF
      || b.getD 2 0 != 0 || b.getD 3 0 != 0 || b.getD 4 0 != 0 || b.getD 5 0 != 0
  | _ => true

/-- A PREFILTER or CT_MODE code, or reserved bits, of the input record (R242). -/
def inputBad1 (b : List Word) : Bool :=
  (List.range 32).any (fun k => bf b k 19 17 > 4 || bb b k 16 || (k % 8 < 4 && (bb b k 22 || bb b k 21)))
  || (List.range 16).any (fun k => bf b (32 + k) 23 21 == 7 || anyBits (b.getD (32 + k) 0) 0x0FFFFF)

/-- The output record (R276). -/
def outputBad1 (b : List Word) : Bool :=
  (List.range 32).any (fun n => bf b n 21 20 == 0 || bf b n 15 14 == 3 || anyBits (b.getD n 0) 0x0003FF
    || (isPq n && anyBits (b.getD n 0) 0x0FF800))
  || decide (bf b 32 23 12 < 32) || anyBits (b.getD 32 0) 0x0001FF || anyBits (b.getD 33 0) 0x0000FF
  || (List.range 16).any (fun j => anyBits (b.getD (34 + j) 0) 0x0003FF)

/-- The PQ record (R302). -/
def pqBad1 (b : List Word) : Bool :=
  (List.range 8).any (fun n =>
    let o := 10 * n
    let f := bf b (o + 1) 23 15
    outside 256 8192 (bf b o 22 9) || (decide (1 ≤ f) && decide (f ≤ 39)) || decide (400 < f)
    || decide (3000 < bf b (o + 1) 14 3) || bf b (o + 1) 2 1 == 3
    || outside 0 1200000 (bs b (o + 6)) || outside 0 1200000 (bs b (o + 4))
    || b.getD (o + 5) 0 == noValue || b.getD (o + 8) 0 == noValue
    || anyBits (b.getD o 0) 0x00007F || bb b (o + 1) 0 || anyBits (b.getD (o + 2) 0) 0x0000FF
    || anyBits (b.getD (o + 3) 0) 0x0000FF)

/-- The analog record (R329). -/
def analogBad1 (b : List Word) : Bool :=
  (List.range 16).any (fun n =>
    let o := 4 * n
    bf b o 22 20 > 4 || anyBits (b.getD o 0) 0x0700FF || bf b o 15 8 == 0 || outside 100 1000000 (bs b (o + 3))
    || b.getD (o + 1) 0 == noValue)
  || (List.range 4).any (fun p =>
    let o := 64 + 2 * p
    bf b o 20 17 == 0 || bb b o 16 || (bf b o 23 22 == 1 && outside 20000 45000 (bf b o 15 0)))

/-- REASON 0x01 at a record: a reserved code or value, or a value outside the field's own range. -/
def bad1 (r : Rcd) : Bool :=
  let b := r.body
  match r.typ with
  | 0x01 => bf b 0 23 16 != 1 || anyBits (b.getD 0 0) 0x00FFFF
  | 0x02 => outside 16 1280 (bf b 0 23 12) || anyBits (b.getD 0 0) 0x000FFF || bf b 1 23 22 == 3
      || anyBits (b.getD 1 0) 0x07FFFF
  | 0x03 => bf b 0 23 22 == 3 || anyBits (b.getD 0 0) 0x1FFFFF
  | 0x04 => anyBits (b.getD 0 0) 0x7F0000 || anyBits (b.getD 1 0) 0x0000FF
  | 0x05 => bf b 0 23 22 == 3 || bf b 0 21 20 == 3 || anyBits (b.getD 0 0) 0x030000 || anyBits (b.getD 1 0) 0x0000FF
  | 0x06 => inputBad1 b
  | 0x07 => outputBad1 b
  | 0x08 => pqBad1 b
  | 0x09 => analogBad1 b
  | 0x0A => (List.range 16).any (fun n => bf b (2 * n) 23 21 ≥ 6 || bf b (2 * n) 11 4 == 0
      || anyBits (b.getD (2 * n) 0) 0x10000F || anyBits (b.getD (2 * n + 1) 0) 0x0000FF)
  | 0x0B => (List.range 8).any (fun m => anyBits (b.getD m 0) 0x07FFFF)
  | 0x0C => outside 1 1000 (bf b 0 9 0) || outside 33 2129920 (b.getD 1 0).toNat || outside 33 2129920 (b.getD 2 0).toNat
      || bf b 3 23 8 == 0 || anyBits (b.getD 0 0) 0x003C00 || anyBits (b.getD 3 0) 0x0000FF
  | 0x10 => orderBad1 b
  | 0x11 => bf b 0 23 22 == 0 || anyBits (b.getD 0 0) 0x3FFFFF || anyBits (b.getD 11 0) 0x0000FF
  | 0x12 => (List.range (b.length / 4)).any (fun e => anyBits (b.getD (4 * e) 0) 0x000180
      || anyBits (b.getD (4 * e + 1) 0) 0x003FFF || bf b (4 * e + 1) 23 19 > 23 || bf b (4 * e + 1) 18 14 > 23
      || (bf b (4 * e) 23 16 != 0x10 && bf b (4 * e) 15 10 != 0))
  | _ => false

/-! ### Fields an INSTALLER may change (R277, R303, R330, R350, R406) -/

/-- The bits of word +k of a record of a type that INSTALLER may change. -/
def installerMask (t k : Nat) : Nat :=
  match t with
  | 0x01 | 0x06 => 0xFFFFFF
  | 0x07 => if k < 32 then 0x00FC00 else if k = 32 then 0xFFF000 else if k = 33 then 0xFFFF00 else 0
  | 0x08 => match k % 10 with
    | 0 => 0x7FFFFF
    | 4 | 5 | 7 => 0
    | _ => 0xFFFFFF
  | 0x09 => if k < 64 then (if k % 4 = 0 then 0x0FFFFF else 0xFFFFFF) else if k % 2 = 0 then 0x1F0000 else 0xFFFFFF
  | 0x0A => if k % 2 = 0 then 0x1FFFFF else 0xFFFFFF
  | _ => 0

/-- The bits hi to lo. -/
def bitRange (hi lo : Nat) : Nat := 2 ^ (hi + 1) - 2 ^ lo

/-! ### Rules between fields (REASON 0x02) -/

/-- The reflex pairs that designate input k of the device as theirs, enabled (R275). -/
def reflexUses (outB : List Word) (k : Nat) : Bool :=
  (List.range 4).any (fun j => bb outB (34 + 4 * (k / 8) + j) 23 && bf outB (34 + 4 * (k / 8) + j) 22 20 == k % 8)

/-- REASON 0x02 at the input record (R242, R237, R239). -/
def inputBad2 (rs : List Rcd) (b : List Word) : Bool :=
  let outB := bodyOf rs 0x07
  (List.range 16).any (fun k =>
    let m := bf b (32 + k) 23 21
    let di := 8 * (k / 4) + k % 4
    (k % 2 == 1 && (m ≥ 4 || (m != 0 && bf b (32 + k - 1) 23 21 ≥ 4)))
    || (m != 0 && !bb b di 23) || (m ≥ 4 && !bb b (di + 1) 23))
  || (List.range 32).any (fun k => reflexUses outB k && bf b k 19 17 > 2)
  || (recsOf rs 0x10).any (fun o => bf o.body 0 23 20 == 6 && bf o.body 1 23 16 < 32
      && bf b (bf o.body 1 23 16) 19 17 > 1)

/-- REASON 0x02 at the output record (R276). -/
def outputBad2 (rs : List Rcd) (b : List Word) : Bool :=
  let inB := bodyOf rs 0x06
  (List.range 32).any (fun n => (bf b n 23 22 == 1 && isPq n) || (bf b n 23 22 == 3 && !isPq n))
  || (List.range 16).any (fun q =>
    let w := 34 + q
    let di := 8 * (q / 4) + bf b w 22 20
    bb b w 23 && (bf b w 17 10 == 0 || !bb inB di 23 || bf inB di 19 17 > 2
      || (List.range 8).any (fun i => (bf b w 17 10).testBit i && bf b (8 * (q / 4) + i) 23 22 == 2)))

/-- REASON 0x02 at the PQ record (R302). -/
def pqBad2 (rs : List Rcd) (b : List Word) : Bool :=
  let outB := bodyOf rs 0x07
  (List.range 8).any (fun n =>
    let o := 10 * n
    decide (8192000 < bf b (o + 1) 23 15 * (8 * bf b o 22 9)) || decide (bf b (o + 7) 11 0 ≤ bf b (o + 7) 23 12)
    || outside 0 (bs b (o + 4)) (bs b (o + 5))
    || (bf outB (qOfPq n) 23 22 == 3 && !bb b o 23)
    || (recsOf rs 0x10).any (fun r => bf r.body 0 23 20 == 5 && bf r.body 0 19 15 == qOfPq n
        && outside 0 (bs b (o + 4)) (bs r.body 2)))

/-- A rotation that keeps R318 for the channels enabled. -/
def rotationOk (w : Word) (en : Nat → Bool) : Bool :=
  let items := (List.range 8).map (fun s => fld w (23 - 3 * s) (21 - 3 * s))
  (List.range 7).all (fun c => (items.filter (· == c)).length ≤ 1)
  && (List.range 4).all (fun i => !en i || items.contains i)
  && items.contains 4 && items.contains 5 && items.contains 6

/-- REASON 0x02 at a standing order (R87). -/
def orderBad2 (rs : List Rcd) (b : List Word) : Bool :=
  let t := bf b 0 19 15
  let src := bf b 1 23 16
  match bf b 0 23 20 with
  | 1 => srcAi (bf b 1 14 7)
  | 2 => !isPq t
  | 3 => !isPq t || !srcAi src || decide (bs b 3 ≤ bs b 2) || decide (bs b 4 < bs b 5)
  | 5 => !(decide (src < 0x80))
  | 6 => !srcDi src || !bb (bodyOf rs 0x07) t 10
  | _ => false

/-- An envelope bound compared as ENV_SIGNED says. -/
def envLt (signed : Bool) (x y : Word) : Bool := if signed then decide (sc x < sc y) else decide (x.toNat < y.toNat)

/-- REASON 0x02 at the envelope record (R405). Of an entry that names a word past its record the spec says nothing; it is accepted
and the word compared as 0 (R496; log entry 49, DESIGN CHOICE). -/
def envBad2 (b : List Word) : Bool :=
  let n := b.length / 4
  let key (e : Nat) := (bf b (4 * e) 23 16, bf b (4 * e) 15 10, bf b (4 * e) 6 0, bf b (4 * e + 1) 23 14)
  (List.range n).any (fun e =>
    let t := bf b (4 * e) 23 16
    let hi := bf b (4 * e + 1) 23 19
    let lo := bf b (4 * e + 1) 18 14
    (t != 0x10 && (bitRange hi lo &&& installerMask t (bf b (4 * e) 6 0) != bitRange hi lo))
    || decide (hi < lo) || envLt (bb b (4 * e) 9) (b.getD (4 * e + 3) 0) (b.getD (4 * e + 2) 0)
    || (List.range e).any (fun e' => key e' == key e))

/-- REASON 0x02 at a record: a rule between fields is broken. -/
def bad2 (rs : List Rcd) (r : Rcd) : Bool :=
  let b := r.body
  match r.typ with
  | 0x05 => bf b 0 15 0 == 0 || decide (bf b 1 23 8 < 16) || (bf b 0 21 20 == 1 && bf b 0 23 22 == 0)
  | 0x06 => inputBad2 rs b
  | 0x07 => outputBad2 rs b
  | 0x08 => pqBad2 rs b
  | 0x09 => (List.range 4).any (fun p => !rotationOk (b.getD (65 + 2 * p) 0) (fun i => bb b (4 * (4 * p + i)) 23)
      || (bf b (64 + 2 * p) 23 22 == 2 && !bb b (64 + 2 * p) 21))
  | 0x0B => (List.range 8).any (fun m =>
      (bf b m 23 22 == 2 && (bf b m 21 19 < 2 || (bf b (4 * (m / 2) + 1 - m) 23 22 == 2
        && bf b (4 * (m / 2) + 1 - m) 21 19 == bf b m 21 19)))
      || (bf b m 23 22 == 3 && bf (bodyOf rs 0x07) (8 * (m / 2) + bf b m 21 19) 23 22 == 2))
  | 0x0C => bb b 0 23 && bf b 0 22 15 == 0
  | 0x10 => orderBad2 rs b
  | 0x11 => (bytesOfWords (b.drop 1)).all (· == 0)
  | 0x12 => envBad2 b
  | _ => false

/-! ### The envelope (REASON 0x03) -/

/-- A field's value in the comparison of its entry. -/
def envVal (signed : Bool) (w : Word) (hi lo : Nat) : Int :=
  let v := fld w hi lo
  if signed && decide (2 ^ (hi - lo) ≤ v) then (v : Int) - 2 ^ (hi + 1 - lo) else v

/-- Whether a body of a record type, of order `ix` for an order, lies outside an entry of the envelope (R404). -/
def envOutside (env : List Word) (t ix : Nat) (b : List Word) : Bool :=
  (List.range (env.length / 4)).any (fun e =>
    let sg := bb env (4 * e) 9
    let lim (k : Nat) : Int := if sg then sc (env.getD (4 * e + k) 0) else ((env.getD (4 * e + k) 0).toNat : Int)
    bf env (4 * e) 23 16 == t && (t != 0x10 || bf env (4 * e) 15 10 == ix)
    && outside (lim 2) (lim 3)
      (envVal sg (b.getD (bf env (4 * e) 6 0) 0) (bf env (4 * e + 1) 23 19) (bf env (4 * e + 1) 18 14)))

/-- REASON 0x03: outside the maker's envelope, or a calibration outside its range (R302, R329). -/
def bad3 (env : List Word) (ix : Nat) (r : Rcd) : Bool :=
  envOutside env r.typ ix r.body ||
  match r.typ with
  | 0x08 => (List.range 8).any (fun n => outside (-20000) 20000 (bs r.body (10 * n + 8))
      || outside 0x3C0000 0x440000 (bs r.body (10 * n + 9)))
  | 0x09 => (List.range 16).any (fun n => outside (-50000) 50000 (bs r.body (4 * n + 1))
      || outside 0x3C0000 0x440000 (bs r.body (4 * n + 2)))
  | _ => false

/-! ### Role rights (REASON 0x04) -/

/-- REASON 0x04 for INSTALLER: a field differs from the charter in force that INSTALLER may not change (R406). -/
def bad4 (force : List Rcd) (ix : Nat) (r : Rcd) : Bool :=
  match r.typ with
  | 0x10 => ((recsOf force 0x10)[ix]?.map (·.body)) != some r.body
  | 0x11 => ((recsOf force 0x11).find? (fun q => bf q.body 0 23 22 == bf r.body 0 23 22)).map (·.body) != some r.body
  | 0x12 => ((recsOf force 0x12).head?.map (·.body)) != some r.body
  | 0xFF => false
  | t => (List.range r.body.length).any (fun k =>
      anyBits (r.body.getD k 0 ^^^ (bodyOf force t).getD k 0) (0xFFFFFF ^^^ installerMask t k))

/-- The reasons at one record, in their order (R496 step 3). -/
def judgeRec (rs force : List Rcd) (maker : Bool) (ix : Nat) (r : Rcd) : Option Nat :=
  if bad1 r then some 1 else if bad2 rs r then some 2
  else if bad3 (bodyOf rs 0x12) ix r then some 3 else if !maker && bad4 force ix r then some 4 else none

/-- The index of a record among those of its type. -/
def recIx (rs : List Rcd) (r : Rcd) : Nat := ((recsOf rs r.typ).filter (fun q => q.off < r.off)).length

/-- A record of the charter in force that the draft lacks and INSTALLER may not remove (R496 step 4). -/
def lacks (rs force : List Rcd) : Bool :=
  decide ((recsOf rs 0x10).length < (recsOf force 0x10).length)
  || (recsOf force 0x11).any (fun q => !(recsOf rs 0x11).any (fun r => bf r.body 0 23 22 == bf q.body 0 23 22))
  || (!(recsOf force 0x12).isEmpty && (recsOf rs 0x12).isEmpty)

/-- The refusal of a draft at step 2 of R159: offset and REASON (R160, R496). -/
def judgeDraft (draft forceCh : List Word) (maker : Bool) : Option (Nat × Nat) :=
  match structBad 8193 0 draft [] with
  | some off => some (off, 5)
  | none =>
    let rs := chRecs draft
    let force := chRecs forceCh
    let env := (recsOf rs 0x12).filterMap (fun r => (judgeRec rs force maker 0 r).map (fun q => (r.off, q)))
    match env.head? with
    | some e => some e
    | none =>
      let rest := (rs.filter (fun r => r.typ != 0x12)).filterMap
        (fun r => (judgeRec rs force maker (recIx rs r) r).map (fun q => (r.off, q)))
      match rest.head? with
      | some e => some e
      | none =>
        if !maker && lacks rs force then some (((rs.getLast?).map (·.off)).getD 0, 4) else none

/-! ### The budget (R63) -/

/-- Four times the worst-case estimate E in µs. -/
def estimate4 (ch : List Word) : Nat :=
  352 + 5 * ((chOrders ch).filter (fun b => bf b 0 23 20 != 0)).length
    + 3 * ((List.range 16).filter (fun n => bb (chBody ch 0x09) (4 * n) 23)).length

/-- Whether E exceeds the budget of 176 strokes. -/
def budgetOver (ch : List Word) : Bool := decide (4 * 176 * 1000 * chStrokeTide ch < estimate4 ch * 16384)

/-- E in strokes, rounded up, saturating at 255 (R64). -/
def estStrokes (ch : List Word) : Nat :=
  let d := 4000 * chStrokeTide ch
  if d = 0 then 255 else min 255 ((estimate4 ch * 16384 + d - 1) / d)

/-- The number of crossings in so many microseconds, rounded up. -/
def crossingsIn (strokeTide us : Nat) : Nat :=
  if strokeTide = 0 then us else (us * 16384 + 256000 * strokeTide - 1) / (256000 * strokeTide)

/-- D of R159. -/
def commitDelay (ch : List Word) : Nat := max 16 (crossingsIn (chStrokeTide ch) 40000)

end Sys2Proof.Machine
end

