-- ==== Sys2Proof/Machine/Records.lean ====
section
/-! DEFINITION. RC fields (R14, R147), the bell (R126 to R128), black-box records (R436 to R440) and the record slips
(R27, R438). -/

namespace Sys2Proof.Machine

/-! ### RC fields -/

/-- How the RC field at a place counts. -/
def rcKind (k : RcKey) : RcKind :=
  let a := k.addr
  let lo := k.lo
  if a = 0x024 then .largest
  else if a = 0x025 then (if lo = 8 then .count 65535 else .count 15)
  else if a = 0x02F then (if lo = 16 then .count 15 else .count 255)
  else if 0x104 ≤ a && a < 0x108 then .count 1
  else if 0x130 ≤ a && a < 0x140 then (if lo = 8 then .count 255 else .count 1)
  else if 0x20C ≤ a && a < 0x210 then .count 255
  else if 0x210 ≤ a && a < 0x230 then (if lo = 15 then .count 1 else .count 15)
  else if 0x300 ≤ a && a < 0x400 then (if lo = 0 then .count 65535 else .count 15)
  else if 0x400 ≤ a && a < 0x500 then
    match a % 16 with
    | 8 => if lo = 0 then .count 65535 else .count 15
    | 14 => .largest
    | 15 => if lo = 16 then .count 63 else .count 255
    | _ => .count 15
  else if 0x500 ≤ a && a < 0x540 then
    match a % 16 with
    | 2 => .smallest
    | 3 => .largest
    | 6 => .count 4095
    | _ => .count 15
  else if a = 0x603 then (if lo = 12 then .count 4095 else .count 15)
  else if a = 0x60B then (if lo = 16 then .count 255 else .count 15)
  else if a = 0x704 then .count 65535
  else if a = 0x705 then (if lo = 0 then .count 255 else .count 15)
  else .count 15

/-- One event counted into an association of RC values; an absent entry is the after-reset value. -/
def rcBump (l : List (RcKey × Int)) (e : RcInc) : List (RcKey × Int) :=
  match rcKind e.key with
  | .count lim => assocSet l e.key (min (lim : Int) ((assocGet l e.key).getD 0 + e.amount))
  | .largest => assocSet l e.key (match assocGet l e.key with | some v => max v e.amount | none => e.amount)
  | .smallest => assocSet l e.key (match assocGet l e.key with | some v => min v e.amount | none => e.amount)

/-- An event of an RC field is counted: in the field, since the snapshot, and for every held reading (R147) (log entry 14, DEDUCED). -/
def Window.count (w : Window) (e : RcInc) : Window :=
  { w with
    rc := rcBump w.rc e
    since := rcBump w.since e
    tags := w.tags.map (fun t => { t with since := rcBump t.since e }) }

/-- An RC field's value as a number, 0 when nothing was counted. -/
def Window.rcNat (w : Window) (addr lo : Nat) : Nat := ((assocGet w.rc ⟨addr, lo⟩).getD 0).toNat

/-- An RC field's value, absent when nothing was counted. -/
def Window.rcGet (w : Window) (addr lo : Nat) : Option Int := assocGet w.rc ⟨addr, lo⟩

/-- One field cleared of what a reading returned (R147). -/
def rcClear1 (rc : List (RcKey × Int)) (since : List (RcKey × Int)) (k : RcKey) (v : Int) : List (RcKey × Int) :=
  let sn := assocGet since k
  match rcKind k with
  | .count lim =>
    let s := sn.getD 0
    let cur := (assocGet rc k).getD 0
    assocSet rc k (if v = lim || s = lim then s else max 0 (cur - v))
  | _ =>
    match sn with
    | some s => assocSet rc k s
    | none => rc.filter (fun e => e.1 ≠ k)

/-- The clear event of a reply that was sent in full (R147) (log entry 14, DEDUCED). -/
def Window.clearRead (w : Window) (id : Nat) : Window :=
  match w.tags.find? (fun t => t.id = id) with
  | none => w
  | some t =>
    { w with
      rc := t.base.foldl (fun rc e => rcClear1 rc t.since e.1 e.2) w.rc
      tags := w.tags.filter (fun u => u.id ≠ id) }

/-- Whether landings run: crossings are counted and a helm holds the helm (R128). -/
def State.landingsRun (s : State) : Bool :=
  s.tb.counting && s.rst.landed && (s.helmA.svc.computes || s.helmB.svc.computes)

/-- An event of an RC field outside the passages: counted at the next landing (R72), or at once when no landing runs
(log entry 43, DEDUCED). -/
def State.rcAdd (s : State) (addr lo : Nat) (amount : Int) : State :=
  { s with win :=
      if s.landingsRun then { s.win with pend := s.win.pend ++ [⟨⟨addr, lo⟩, amount⟩] }
      else s.win.count ⟨⟨addr, lo⟩, amount⟩ }

/-- The events since the last landing are counted at this one (R72; log entry 43, DEDUCED). -/
def Window.land (w : Window) : Window := { w.pend.foldl Window.count w with pend := [] }

/-- Events of RC fields that the first passage of a crossing counts. -/
def State.rcAdds (s : State) (es : List RcInc) : State := { s with win := es.foldl Window.count s.win }

/-! ### The bell -/

/-- The bell causes (R126), by their bits. -/
abbrev bellRestart : Nat := 23
abbrev bellMode : Nat := 22
abbrev bellHelm : Nat := 21
abbrev bellLate : Nat := 20
abbrev bellTide : Nat := 19
abbrev bellSync : Nat := 18
abbrev bellToll : Nat := 17
abbrev bellField : Nat := 16
abbrev bellOutput : Nat := 15
abbrev bellInput : Nat := 14
abbrev bellAnalog : Nat := 13
abbrev bellOrder : Nat := 12
abbrev bellAuth : Nat := 11
abbrev bellBlackbox : Nat := 10
abbrev bellCharter : Nat := 9

/-- A mask with one bit set. -/
def oneBit (k : Nat) : Word := wd (2 ^ k)

/-- A cause is raised: set at the landing, or at once when no landing runs (R128). -/
def State.ring (s : State) (k : Nat) : State :=
  if s.landingsRun then { s with bell := { s.bell with raised := s.bell.raised ||| oneBit k } }
  else { s with bell := { s.bell with cause := s.bell.cause ||| oneBit k } }

/-- A cause that a stamped event of the Quay raises: the passage that applies the event raises it, or it is set at once
when no landing runs (R128). -/
def State.ringEv (s : State) (k : Nat) : State := if s.landingsRun then s else s.ring k

/-- A cause that a command or stamped event of a passage raises: set at the landing that keeps the passage, or at once when
no landing runs (R68, R128). -/
def State.ringDue (s : State) (k : Nat) : State :=
  if s.landingsRun then { s with bell := { s.bell with due := s.bell.due ||| oneBit k } } else s.ring k

/-- The bell at a landing: cleared bits first, then raised ones; a written mask (R128). -/
def Bell.land (b : Bell) : Bell :=
  { cause := (b.cause &&& ~~~b.cleared) ||| b.raised ||| b.due
    mask := b.maskTo.getD b.mask
    raised := 0
    due := 0
    cleared := 0
    maskTo := none }

/-- The bell at a landing that the Quay does not keep: what no passage can take back (R68, R128). -/
def Bell.landRaised (b : Bell) : Bell := { b with cause := b.cause ||| b.raised, raised := 0 }

/-- What the commands and events of a discarded passage asked of the bell is dropped; it comes with the passage that is kept
(R68). -/
def Bell.drop (b : Bell) : Bell := { b with due := 0, cleared := 0, maskTo := none }

/-- Whether ALERTn is driven low (R127) (log entry 42, DESIGN CHOICE). -/
def State.alert (s : State) : Bool :=
  s.rst.vdd && !s.rst.held && !s.rst.testen && s.mode != .moored && (s.bell.cause &&& s.bell.mask != 0)

/-- What WDP drives at a tick: the pulse of an expiry begins at its own tick (R419; log entry 24, DESIGN CHOICE). -/
def Toll.wdpAt (t : Toll) (tick : Nat) : Wdp := if t.wdp = .active && decide (tick < t.pulseAt) then .inactive else t.wdp

/-- The level of the WDP pin; none at high impedance, as it is before the first charter load and without VDD or VDDIO (R380, R422 to
R424, R474). -/
def State.wdpPin (s : State) : Option Bool :=
  if !(s.rst.vdd && s.rst.vddio) then none
  else match s.toll.wdpAt s.rst.tick with
    | .hiz => none
    | .inactive => some (!s.toll.cur.pol)
    | .active => some s.toll.pulsePol

/-! ### Records -/

/-- Classes of records (R436). -/
abbrev clsInfo : Nat := 0
abbrev clsAct : Nat := 1
abbrev clsWarn : Nat := 2
abbrev clsFault : Nat := 3

/-- The 8 words of a record, its CRC last (R436). -/
def Rec.words (r : Rec) : List Word :=
  let w := [wd (r.at_.crossing / 2 ^ 24), wd r.at_.crossing, wd (r.at_.stroke * 65536 + r.source * 4096),
    wd (r.cls * 2 ^ 22 + r.code * 4096), r.d0, r.d1, r.d2]
  w ++ [crc24 (bytesOfWords w)]

/-- The subject code of R440 in D0[23:16]. -/
def subj (n : Nat) : Word := wd (n * 65536)

/-- The subject code of a helm. -/
def helmSubj : HelmId → Nat
  | .a => 0x01
  | .b => 0x02

/-- The subject code of a port. -/
def portSubj : Port → Nat
  | .hpa => 0x08
  | .hpb => 0x09

/-- A record of a Quay source enters its slip of 4, or is lost and counted (R27, R446). -/
def State.quayRec (s : State) (r : Rec) : State :=
  if s.com.holdUp then s
  else if s.com.slipQ.length < 4 then { s with com := { s.com with slipQ := s.com.slipQ ++ [r] } }
  else s.rcAdd 0x021 4 1

/-- The SOURCE code of a helm (R436). -/
def helmSource : HelmId → Nat
  | .a => 1
  | .b => 2

/-- A helm puts a record into its queue of 64 in data SRAM (R27). -/
def State.helmRec (s : State) (h : HelmId) (at_ : Stamp) (cls code : Nat) (d0 d1 d2 : Word) : State :=
  s.modHelm h (fun x =>
    if x.recQ.length < 64 then { x with recQ := x.recQ ++ [⟨at_, helmSource h, cls, code, d0, d1, d2⟩] } else x)

/-- A record of a passage that both helms compute: it waits until the passage is judged, and is dropped with a discarded one (R68,
R438) (log entry 31, DEDUCED). -/
def State.sharedRec (s : State) (h : HelmId) (at_ : Stamp) (cls code : Nat) (d0 d1 d2 : Word) : State :=
  s.modHelm h (fun x => { x with shared := x.shared ++ [⟨at_, helmSource h, cls, code, d0, d1, d2⟩] })

/-- A record that both helms compute and that no discard touches: what reports say of a landing, and how a landing is judged (R61,
R438). -/
def State.sureRec (s : State) (h : HelmId) (at_ : Stamp) (cls code : Nat) (d0 d1 d2 : Word) : State :=
  s.modHelm h (fun x => { x with sure := x.sure ++ [⟨at_, helmSource h, cls, code, d0, d1, d2⟩] })

/-- What was noted so far in the passage no discard touches (R61). -/
def Helm.nowSure (x : Helm) : Helm := { x with sure := x.sure ++ x.shared, shared := [] }

/-- Records handed on by the helm whose own view holds the helm; the other drops its own (R438) (log entry 31, DEDUCED). -/
def Helm.handing (x : Helm) (h : HelmId) (l : List Rec) : Helm :=
  if x.hs.red.view = some h then { x with recQ := (x.recQ ++ l).take 64 } else x

/-- The records that wait for nothing more are handed on, at the end of a passage. -/
def State.handOn (s : State) (h : HelmId) : State :=
  s.modHelm h (fun x => { x.handing h x.sure with sure := [] })

/-- The records of a landing that is kept are handed on (R68, R438). -/
def Helm.keepHeld (x : Helm) (h : HelmId) : Helm := { x.handing h (x.held ++ x.shared) with held := [], shared := [] }

/-- The records that a helm has not handed on to its record port are lost (R438), and what waits in its painter port and its NVM access
port (R184). -/
def Helm.dropRecs (x : Helm) : Helm :=
  { x with shared := [], held := [], sure := [], recQ := [], testRecs := [], links := {} }

/-- Words for the painter, those of test signatures before health words (R32); of the health words the newest is sent (log entry
57, DESIGN CHOICE). -/
def Links.say (l : Links) (sig : Bool) (ws : List Word) : Links :=
  let old (b : Bool) : List PainterWord := l.painterWait.filter (fun w => w.sig == b)
  { l with painterWait := if sig then old true ++ ws.map (fun w => ⟨true, w⟩) ++ old false else old true ++ ws.map (fun w => ⟨false, w⟩) }

/-- A word received over the painter (R196, R211). -/
def Links.hear (l : Links) (w : PainterWord) : Links :=
  if w.sig then { l with peerSig := (if l.peerSig.length < 2 then l.peerSig else l.peerSig.drop 1) ++ [w.word] }
  else { l with peerHealth := w.word }

/-- The words that wait enter the painter slip of 32; the sender waits while it is full (R27). -/
def Links.fill (l : Links) : Links :=
  let k := 32 - l.painterSlip.length
  { l with painterSlip := l.painterSlip ++ l.painterWait.take k, painterWait := l.painterWait.drop k }

/-- A helm's painter port in its background window: it takes what the other helm's slip holds and fills its own; with the painter down
nothing crosses (R27, R46). -/
def State.painterTime (s : State) (h : HelmId) : State :=
  if !((s.helm h).svc.inService && (s.helm h).painterOk) then s
  else
    let got := (s.helm (otherHelm h)).links.painterSlip
    (s.modHelm (otherHelm h) (fun x => { x with links := { x.links with painterSlip := [] } })).modHelm h (fun x =>
      { x with links := (got.foldl Links.hear x.links).fill })

/-- Whether a test passage names a helm (R195, R197). -/
def TestRun.names (t : TestRun) : HelmId → Bool
  | .a => t.nameA
  | .b => t.nameB

/-- The verdict of a helm's TEST_RESULT record is at the commit engine (R196). -/
def TestRun.reached (t : TestRun) (h : HelmId) (v : TestVerdict) : TestRun :=
  match h with
  | .a => { t with resA := v }
  | .b => { t with resB := v }

/-- A test passage is due no longer, and no outcome of it is to come: it is raised (R196), or the passage that asked for it is
discarded (R68). -/
def State.dropTest (s : State) (key : TestKey) : State :=
  let drop (x : Helm) : Helm := { x with tests := x.tests.filter (fun k => k ≠ key) }
  { s with outcomes := s.outcomes.filter (fun t => t.key ≠ key), helmA := drop s.helmA, helmB := drop s.helmB }

/-- The TEST_RESULT records of a helm among those that enter its record slip give the verdicts of their test passages (R196;
log entry 50, DEDUCED). -/
def State.results (s : State) (h : HelmId) : List Rec → State
  | [] => s
  | r :: l =>
    match (s.helm h).testRecs with
    | k :: ks =>
      if r.code ≠ 0x022 then s.results h l
      else
        let v : TestVerdict := if fld r.d0 3 0 = 1 then .pass else .fail
        ({ s with outcomes := s.outcomes.map (fun (t : TestRun) => if t.key = k then t.reached h v else t) }.modHelm h (fun x =>
          { x with testRecs := ks })).results h l
    | [] => s

/-- The records in a helm's record slip. -/
def Commit.slip (c : Commit) : HelmId → List Rec
  | .a => c.slipA
  | .b => c.slipB

/-- Records into a helm's record slip. -/
def Commit.enter (c : Commit) (h : HelmId) (l : List Rec) : Commit :=
  match h with
  | .a => { c with slipA := c.slipA ++ l }
  | .b => { c with slipB := c.slipB ++ l }

/-- A helm offers its queued records to its record slip of 8 (R27). -/
def State.offerRecords (s : State) (h : HelmId) : State :=
  if s.com.holdUp then s else
  let q := (s.helm h).recQ
  let n := 8 - (s.com.slip h).length
  ({ s with com := s.com.enter h (q.take n) }.modHelm h (fun x => { x with recQ := q.drop n })).results h (q.take n)

end Sys2Proof.Machine
end

