-- ==== Sys2Proof/Machine/ResetOps.lean ====
section
/-! DEFINITION. The reset-cause record (R181) and what a reset of the logic side sets (R459, R461, R467). -/

namespace Sys2Proof.Machine

/-- A reset-class event in the reset-cause record, with the instant and the mooring tick at which it happened (R181). -/
def State.recordCauseAt (s : State) (cause sub : BitVec 4) (task : BitVec 3) (at_ : Stamp) (tick : Nat) : State :=
  let r := s.rst
  { s with rst := { r with
      prev := BitVec.ofNat 12 (r.cause.toNat * 256 + r.sub.toNat * 16 + r.task.toNat * 2)
      cause := cause
      sub := sub
      task := task
      count := min 4095 (r.count + 1)
      atC := at_.crossing
      atS := at_.stroke
      atT := tick } }

/-- A reset-class event of the present instant (R181). -/
def State.recordCause (s : State) (cause sub : BitVec 4) (task : BitVec 3) : State :=
  s.recordCauseAt cause sub task s.now s.rst.tick

/-- The word 0x000018 (R178). -/
def ResetCtl.causeWord (r : ResetCtl) : Word :=
  wd (r.cause.toNat * 2 ^ 20 + r.sub.toNat * 2 ^ 16 + r.task.toNat * 2 ^ 13 + r.count)

/-- IREF_OUT, CKREF_OUT and SPLIT last until the device is reset (R322). -/
def Pont.forgetJudge (x : Pont) : Pont :=
  match x.grp.judge with
  | .irefOut | .ckrefOut | .split => { x with grp := { x.grp with judge := .agree, run := 0, jruns := 0 } }
  | _ => x

/-- The beat slips of the gangway ports stand on the logic side (R27). -/
def Pont.noBeats (x : Pont) : Pont := { x with gwA := { x.gwA with slip := [] }, gwB := { x.gwB with slip := [] } }

/-- The dies of the logic side in reset (R459): helms, ports, bell, check units, window and timebase at their after-reset
values; the crossing held, the reset-cause record, the toll keeper, the record slips (R461), both banks, the lanes and
the pontoons stay but for what R322 names (R467). Records queued in a helm are lost with the helm; a swap whose image has not yet proven
itself stays in mind (R471), and tides that are dead stay so (R39). -/
def State.resetLogic (s : State) : State :=
  { s with
    tb := { crossing := s.tb.crossing, stroke := s.tb.stroke, age := s.tb.age, ageSnd := s.tb.ageSnd, ageLand := s.tb.ageLand, beatNo := s.tb.beatNo
            ts := if s.tb.ts = .dead then .dead else .agree, aOk := decide (s.tb.ts ≠ .dead), bOk := decide (s.tb.ts ≠ .dead) }
    rst := { s.rst with started := false, landed := false, addr := none, firstGiven := false, firstLate := false,
                        wakeSub := none }
    toll := { s.toll with
      st := if s.toll.st = .pulse then .pulse else .idle
      enabled := false
      src := false
      pend := none
      due := none
      first := none
      checked := 0
      moorAfter := false }
    tollSnap := {}
    hpa := {}
    hpb := {}
    bell := {}
    cus := Vector.replicate 4 {}
    cuOps := []
    genTurn := 0
    nvmDue := []
    setups := none
    keptAt := none
    com := { s.com with ffDue := [] }
    quay := {}
    helmA := { swapped := s.helmA.swapped }
    helmB := { swapped := s.helmB.swapped }
    holder := none
    mode := .unreported
    outcomes := []
    win := {}
    ponts := s.ponts.map (fun x => x.forgetJudge.noBeats) }

/-- A reset with its cause (R181, R459). -/
def State.resetWith (s : State) (cause : BitVec 4) (sub : BitVec 4) : State :=
  (s.recordCause cause sub 0).resetLogic

/-- The charter in force, as the helm that holds the helm has it; without a holder, as a loaded helm has it. -/
def State.inForce (s : State) : List Word :=
  match s.holder with
  | some h => (s.helm h).hs.charter
  | none => if s.helmA.loaded then s.helmA.hs.charter else s.helmB.hs.charter

/-- A stamped event of the Quay reaches every helm in service (R60, R186). -/
def State.raiseEv (s : State) (at_ : Stamp) (e : Ev) : State :=
  let add (x : Helm) : Helm := if x.svc.inService then { x with hs := { x.hs with evs := x.hs.evs ++ [{ at_ := at_, ev := e }] } } else x
  { s with helmA := add s.helmA, helmB := add s.helmB }

/-- A bell cause of the Quay: its stamped event reaches the helms, whose passage raises it, or it is set at once when no landing
runs (R60, R128). -/
def State.quayCause (s : State) (k : Nat) : State := (s.ringEv k).raiseEv s.now (.cause k)

/-- A change of both copies of the helm state, the present one and the saved one, in both helms. -/
def State.modAllHs (s : State) (f : HelmState → HelmState) : State :=
  let g (x : Helm) : Helm := { x with hs := f x.hs, saved := f x.saved }
  { s with helmA := g s.helmA, helmB := g s.helmB }

/-- A service state that the helms learn of outside a passage. -/
def State.setDecided (s : State) (g : HelmId) (v : Svc) : State :=
  s.modAllHs (fun hs => { hs with red := hs.red.setSvc g v })

/-- The logic side runs: VDD present and no reset held. -/
def State.live (s : State) : Bool := s.rst.vdd && !s.rst.held && !s.rst.testen

/-- A port's front end takes frames: the logic side runs, VDDIO is present, and the address is latched (R95, R474). -/
def State.portOn (s : State) : Bool := s.live && s.rst.vddio && s.rst.addr.isSome

/-- The device is in the running mode (R385). -/
def Mode.running : Mode → Bool
  | .underway | .singleHanded => true
  | _ => false

end Sys2Proof.Machine
end

