-- ==== Sys2Proof/Machine/Tide.lean ====
section
/-! DEFINITION. The timebase: strokes and marks (R35, R43, R51), the tide selector (R36 to R42), REFCLK (R37) and SYNC
(R75 to R80), and the check units' results at a landing (R455 to R457). -/

namespace Sys2Proof.Machine

/-! ### Status words -/

/-- TIDE_STATUS (R42). -/
def State.tideStatus (s : State) : Word :=
  let t := s.tb
  wd (bn t.unresolved * 2 ^ 23 + bn t.refLocked * 2 ^ 22 + bn t.refLost * 2 ^ 21 + (if t.selB then 2 else 1) * 2 ^ 19
    + bn t.aOk * 2 ^ 18 + bn t.bOk * 2 ^ 17 + sat16 t.diff)

/-- The timing record in force (R75). -/
def State.timingRec (s : State) : List Word := chBody s.inForce 0x02

/-- SYNC_ROLE in force: 1 LEAD, 2 FOLLOW (R75). -/
def State.syncRole (s : State) : Nat := bf s.timingRec 1 23 22

/-- SYNC_STATUS (R80). -/
def State.syncStatus (s : State) : Word :=
  let t := s.tb
  wd (s.syncRole * 2 ^ 22 + bn t.syncLocked * 2 ^ 21 + bn t.syncLost * 2 ^ 20 + bn t.syncMismatch * 2 ^ 19
    + bn t.markSeen * 2 ^ 18 + sat16 t.phaseErr)

/-- A record of the tide selector with TIDE_STATUS (R439). -/
def State.tideRec (s : State) (cls code : Nat) : State :=
  s.quayRec ⟨s.now, 8, cls, code, 0, s.tideStatus, 0⟩

/-! ### Check units at a landing -/

/-- The result that a register gives (R455). -/
def CheckUnit.result (u : CheckUnit) (reg : BitVec 32) : BitVec 32 :=
  (if u.flags.getLsbD 2 then BitVec.ofNat 32 (reflectN u.width reg.toNat) else reg) ^^^ u.xorout

/-- Bytes folded into the register while ENABLE is set (R455). -/
def CheckUnit.feed (u : CheckUnit) (bs : List Byte) : CheckUnit :=
  if u.flags.getLsbD 0 then
    { u with
      reg := BitVec.ofNat 32 (crcRun u.width u.poly.toNat (u.flags.getLsbD 1) u.reg.toNat bs)
      bytes := min 0xFFFFFF (u.bytes + bs.length) }
  else u

/-- A restart of the unit (R457). -/
def CheckUnit.restart (u : CheckUnit) (L : Nat) : CheckUnit :=
  { u with reg := u.init, bytes := 0, overrun := false, restartAt := L }

/-- The bytes that belong to landings up to n are folded in, in the order in which they came (R456) (log entry 33, DEDUCED). -/
def CheckUnit.foldUpTo (u : CheckUnit) (n : Nat) : CheckUnit :=
  let due := (u.taken ++ u.slip ++ u.stream).filter (fun w => w.landing ≤ n)
  let u := due.foldl (fun u w => u.feed w.bytes) u
  let later (l : List SnoopWord) : List SnoopWord := l.filter (fun w => n < w.landing)
  { u with taken := later u.taken, slip := later u.slip, stream := later u.stream }

/-- Bytes in words of three. -/
def chunk3 : List Byte → List (List Byte)
  | a :: b :: c :: rest => [a, b, c] :: chunk3 rest
  | [] => []
  | l => [l]

/-- The words of an item that a unit of its source takes, the fold bytes first (R456). -/
def CheckUnit.words (u : CheckUnit) (i : SnoopItem) : List SnoopWord :=
  (chunk3 ((if u.flags.getLsbD 3 then i.foldA else []) ++ (if u.flags.getLsbD 4 then i.foldC else []) ++ i.bytes)).map
    (fun bs => ⟨bs, i.landing⟩)

/-- An item of a source on its way to the units that snoop it; while ENABLE is 0 a unit takes nothing (R455) (log entry 33, DEDUCED). -/
def State.snoop (s : State) (i : SnoopItem) : State :=
  { s with
    snooped := s.snooped.filter (fun j => s.tb.crossing < j.landing + 4) ++ [i]
    cus := s.cus.map (fun u =>
      if u.source = i.source && u.flags.getLsbD 0 then { u with stream := u.stream ++ u.words i } else u) }

/-- CHECK_UNIT_SNOOP (R27, R456): words arrive in the snoop slip of depth 4, a word over it takes the place of the oldest and
flags OVERRUN, and the unit takes the oldest word. -/
def execCheckUnitSnoop (k : Fin 4) (arrived : Nat) (s : State) : Host.Outcome State Fault Refusal :=
  let u := s.cus[k]
  let slip := u.slip ++ u.stream.take arrived
  let lost := slip.length - 4
  let slip := slip.drop lost
  let u' := { u with
    stream := u.stream.drop arrived
    slip := slip.drop 1
    taken := u.taken ++ slip.take 1
    overrun := u.overrun || decide (0 < lost) }
  let s' := { s with cus := s.cus.set k u' }
  .next (if lost = 0 then s' else s'.rcAdd 0x021 0 lost)

/-- A restart that is due (R457): what belongs to the landings before it is folded in first; a unit newly configured takes
what its source has delivered for that landing already (log entry 33, DEDUCED). -/
def CuOp.apply (o : CuOp) (u : CheckUnit) (snooped : List SnoopItem) : CheckUnit :=
  match o.cfg with
  | none => (u.foldUpTo (o.at_ - 1)).restart o.at_
  | some c =>
    let c := c.restart o.at_
    if c.flags.getLsbD 0 then
      { c with stream := (snooped.filter (fun i => i.source = c.source && o.at_ ≤ i.landing)).flatMap c.words }
    else c

/-- The restarts due at landing n are made, in their order (R457, R58) (log entry 33, DEDUCED). -/
def State.restartCus (s : State) (n : Nat) : State :=
  let due := s.cuOps.filter (fun o => o.at_ ≤ n)
  { s with
    cus := due.foldl (fun v o => vmod v o.unit (fun u => o.apply u s.snooped)) s.cus
    cuOps := s.cuOps.filter (fun o => n < o.at_) }

/-- A check unit at landing n: what belongs to landings up to n is folded in, and the result shown. -/
def CheckUnit.land (u : CheckUnit) (n : Nat) : CheckUnit :=
  let u := u.foldUpTo n
  { u with resReg := u.result u.reg, resBytes := u.bytes }

/-! ### Strokes -/

/-- TK_LEFT: ticks left of the closed part, the open part or the pulse (R432). -/
def Toll.ticksLeft (t : Toll) (tick : Nat) : Nat :=
  match t.st with
  | .closed => t.w + t.cur.closed - tick
  | .opened => t.w + t.cur.closed + t.cur.opened - tick
  | .pulse => t.pulseEnd - tick
  | _ => 0

/-- The settings that a landing brings are pending from then on (R430). -/
def Toll.land (t : Toll) : Toll :=
  match t.due.or t.first with
  | some d => { t with pend := some (d.set, d.src), enabled := d.enabled, due := none, first := none }
  | none => t

/-- A stroke token enters a helm's stroke slip, or is lost (R27). -/
def Helm.pushStroke (x : Helm) (t : Stamp) : Helm :=
  if x.strokeSlip.length < 4 then { x with strokeSlip := x.strokeSlip ++ [t] } else x

/-- The helm that computes passages and, in its own view, holds the helm. -/
def State.leader (s : State) : Option HelmId :=
  if s.helmA.svc.computes && s.helmA.hs.red.view = some .a then some .a
  else if s.helmB.svc.computes && s.helmB.hs.red.view = some .b then some .b
  else none

/-- A beat token into the slips of the ports of both helms that send beat symbols (R43, R186): depth 2, a token over it
is lost (R27). -/
def Pont.pushBeat (x : Pont) (a b : Bool) (m : Beat) : Pont :=
  let add (g : GwPort) : GwPort := if g.slip.length < 2 then { g with slip := g.slip ++ [m] } else g
  { x with gwA := if a then add x.gwA else x.gwA, gwB := if b then add x.gwB else x.gwB }

/-- Whether a helm's state sends beat symbols (R186). -/
def Svc.beats : Svc → Bool
  | .joining | .proving | .standby | .holding => true
  | _ => false

/-- BEAT_TOKEN (R43). The mark set at stroke 0 or 240 goes with the next token. -/
def execBeatToken (s : State) : Host.Outcome State Fault Refusal :=
  if s.live && s.tb.tides && s.tb.counting then
    .next { s with
      ponts := s.ponts.map (fun x => x.pushBeat s.helmA.svc.beats s.helmB.svc.beats ⟨s.tb.mark, s.tb.beatNo + 1⟩)
      tb := { s.tb with mark := .plain, beatNo := s.tb.beatNo + 1 } }
  else .next s

/-! ### Tides -/

/-- The calibration figure C: the mean of the windows held, to the nearest count (R38); of those held so far, before there are 16 (log
entry 57, DESIGN CHOICE). -/
def Timebase.c (t : Timebase) : Int := divNear ((t.cWin.foldl (· + ·) 0 : Nat) : Int) t.cWin.length

/-- Whether both tides are compared: the device is out of MOORED and no tide is lost. -/
def Timebase.both (t : Timebase) : Bool := t.tides && t.aOk && t.bOk

/-- TIDE_CROSS_CHECK (R38, R39): the difference in ppm, and arbitration when it exceeds 327 counts. -/
def execTideCrossCheck (countB : Nat) (s : State) : Host.Outcome State Fault Refusal :=
  if s.live && s.tb.both then
    let d : Int := (countB : Int) - 65536
    .next { s with tb := { s.tb with
      diff := clampI (-32767) 32767 (divOpen (d * 1000000) 65536)
      close := decide (d.natAbs * 1000 ≤ 65536)
      ts := if s.tb.ts = .agree && decide (327 < d.natAbs) then .arbitrate 0 else s.tb.ts } }
  else .next s

/-- TIDE_CALIBRATION_WINDOW (R38). -/
def execTideCalibrationWindow (count : Nat) (s : State) : Host.Outcome State Fault Refusal :=
  if s.live && s.tb.both && s.tb.ts = .agree && s.tb.close then
    .next { s with tb := { s.tb with cWin := (count :: s.tb.cWin).take 16 } }
  else .next s

/-- The tide selector settles on one tide and discards the other (R39, R40). -/
def State.discardTide (s : State) (keepB : Bool) : State :=
  let s := { s with tb := { s.tb with
    ts := .single
    unresolved := false
    selB := keepB
    aOk := !keepB && s.tb.aOk
    bOk := keepB && s.tb.bOk } }
  ((s.tideRec clsFault 0x005).ringEv bellTide).raiseEv s.now .tideDiscard

/-- TIDE_ARBITRATION (R39): the two counts over one window of 64 mooring ticks. The spec names no measurement for "the tides agree
within 0.1 %" nor when C is taken up again: the two counts of this window are compared, and C runs on at once
(log entry 44, DESIGN CHOICE). -/
def execTideArbitration (a b : Nat) (s : State) : Host.Outcome State Fault Refusal :=
  let c := s.tb.c
  let near (n : Nat) : Bool := decide (((n : Int) - c).natAbs ≤ c.toNat / 400)
  let agree01 : Bool := decide (((a : Int) - b).natAbs * 1000 ≤ a)
  if !(s.live && s.tb.both) then .next s else
  match s.tb.ts with
  | .arbitrate runs =>
    if near a != near b then .next (s.discardTide (near b))
    else if near a && near b && agree01 then
      let s := { s with tb := { s.tb with ts := .agree, unresolved := false, close := true } }
      .next ((s.tideRec clsWarn 0x006).raiseEv s.now .tideTransient)
    else if runs < 2 then .next { s with tb := { s.tb with ts := .arbitrate (runs + 1), unresolved := true } }
    else
      let s := { s with tb := { s.tb with ts := .split, unresolved := true } }
      .next (((s.tideRec clsFault 0x007).ringEv bellTide).raiseEv s.now .tideSplit)
  | .split => if near a != near b then .next (s.discardTide (near b)) else .next s
  | _ => .next s

/-- TIDE_LOST (R39): one tide lost selects the other; the last tide lost holds all dies in reset with cause TIDE_LOSS (log entry 32, DEDUCED). -/
def execTideLost (x : TideId) (s : State) : Host.Outcome State Fault Refusal :=
  if !(s.live && s.tb.tides) then .next s else
  match s.tb.ts with
  | .dead => .next s
  | .single =>
    if decide (x = TideId.b) = s.tb.selB then
      let s' := s.resetWith 0x4 0
      .next { s' with rst := { s'.rst with held := true }, tb := { s'.tb with ts := .dead, aOk := false, bOk := false } }
    else .next s
  | _ =>
    let s := { s with tb := { s.tb with
      ts := .single
      unresolved := false
      selB := decide (x = TideId.a)
      aOk := s.tb.aOk && decide (x ≠ TideId.a)
      bOk := s.tb.bOk && decide (x ≠ TideId.b) } }
    .next (s.tideRec clsFault 0x004)

/-- REFCLK_LOCK (R37); with VDDIO or without (R474) (log entry 32, DEDUCED). -/
def execRefclkLock (s : State) : Host.Outcome State Fault Refusal :=
  if s.live && s.tb.tides && bb s.timingRec 1 20 then
    .next { s with tb := { s.tb with refLocked := true } }
  else .next s

/-- REFCLK_LOST (R37, R60, R126). -/
def execRefclkLost (s : State) : Host.Outcome State Fault Refusal :=
  if s.live && s.tb.refLocked && bb s.timingRec 1 20 then
    let s := { s with tb := { s.tb with refLocked := false, refLost := true, fresh := s.tb.fresh ||| 1 } }
    .next (((s.tideRec clsWarn 0x008).ringEv bellTide).raiseEv s.now .refclkLost)
  else .next s

/-! ### SYNC -/

/-- An edge that a FOLLOW takes up, with its phase error in tide periods (R77): locked after 16 crossings within 1 us,
unlocked above 2 us (log entry 32, DEDUCED). -/
def Timebase.steer (t : Timebase) (phase : Int) : Timebase :=
  let n := if phase.natAbs * 1000 ≤ 16384 then t.inLock + 1 else 0
  { t with
    phaseErr := clampI (-32767) 32767 phase
    inLock := min 16 n
    syncLocked := if 32768 < phase.natAbs * 1000 then false else t.syncLocked || decide (16 ≤ n) }

/-- SYNC_LOST (R78): no edge in 4 consecutive crossings at a FOLLOW. -/
def execSyncLost (s : State) : Host.Outcome State Fault Refusal :=
  if s.live && s.tb.counting && s.syncRole = 2 then
    let s := { s with tb := { s.tb with syncLost := true, inLock := 0, stepping := false, fresh := s.tb.fresh ||| 2 } }
    .next ((s.quayRec ⟨s.now, 0xC, clsWarn, 0x009, 0, s.syncStatus, 0⟩).quayCause bellSync)
  else .next s

end Sys2Proof.Machine
end

