-- ==== Sys2Proof/Machine/TollKeeper.lean ====
section
/-! DEFINITION. The toll keeper (R414 to R432). An event of the mooring clock brings the tick count to the tick at which
it stands (log entry 9, DESIGN CHOICE). -/

namespace Sys2Proof.Machine

/-- The closing tick of the window (R416). -/
def Toll.closing (t : Toll) : Nat := t.w + t.cur.closed + t.cur.opened

/-- A window begins: pending settings come into force and CHECKED is cleared (R418, R430). -/
def Toll.beginWindow (t : Toll) (w : Nat) : Toll :=
  let t := match t.pend with
    | some (c, src) => { t with cur := c, src := src, pend := none }
    | none => t
  { t with st := .closed, w := w, checked := 0 }

/-- The mooring tick count is at least this tick (log entry 9, DESIGN CHOICE). -/
def State.atTick (s : State) (n : Nat) : State := { s with rst := { s.rst with tick := max s.rst.tick n } }

/-- Ticks of a pulse of so many ms: ceil(ms × 32.768) (R419). -/
def pulseTicks (ms : Nat) : Nat := (ms * 32768 + 999) / 1000

/-- The ticks from an expiry to the start of its pulse: at most 2, and no rule says which (R419; log entry 24, DESIGN CHOICE). -/
def wdpDelay (te : Nat) : Nat := min 2 (Config.wdpDelay te)

/-- An expiry at tick `te`, stamped with the crossing and stroke current then (R419, R420, R421; log entry 24, DESIGN CHOICE). WDP_PULSE
is at least 1 (R428), so a pulse is never over at `te`. With no helm in service its event waits for the first landing. -/
def State.expire (s : State) (te : Nat) (at_ : Stamp) (sub : BitVec 4) (task : Nat) (port : Nat) (param : Word) (rcLo : Nat) :
    State :=
  let t := s.toll
  let s := { (s.atTick te) with toll := { t with
    st := .pulse
    wdp := if t.wdp = Wdp.hiz then Wdp.hiz else .active
    pulseAt := te + wdpDelay te
    pulseEnd := te + max 1 (wdpDelay te + pulseTicks t.cur.pulse)
    pulsePol := t.cur.pol
    checked := 0
    lastSub := sub
    lastTask := BitVec.ofNat 3 task
    lastMissing := if sub = 4 then t.cur.roster &&& ~~~t.checked else t.lastMissing
    lastAt := at_.crossing } }
  let s := s.recordCauseAt 0x8 sub (BitVec.ofNat 3 task) at_ te
  let s := s.quayRec ⟨at_, 9, clsFault, 0x003,
    wd (sub.toNat * 2 ^ 20 + port * 2 ^ 18 + t.cur.roster.toNat * 256 + t.checked.toNat), param, wd te⟩
  let s := (s.rcAdd 0x705 rcLo 1).ringEv bellToll
  if s.helmA.svc.inService || s.helmB.svc.inService then s.raiseEv at_ .tollExpiry
  else { s with toll := { s.toll with expPend := s.toll.expPend ++ [at_] } }

/-- The lowest-numbered task of a set. -/
def lowestTask (m : Byte) : Nat := ((List.range 8).find? (fun k => m.getLsbD k)).getD 0

/-- The port code of D0 (R421). -/
def portCode : Port → Nat
  | .hpa => 1
  | .hpb => 2

/-- One check-in judged against the window state at its tick (R414). -/
def State.judge (s : State) (c : CheckIn) : State :=
  let t := s.toll
  let task := c.param.toNat % 16
  let inWin := (t.st = .closed || t.st = .opened) && decide (t.w ≤ c.tick)
  if !inWin then s.rcAdd 0x705 0 1
  else if c.param.toNat / 16 ≠ 0xC0A57 || decide (7 < task) || !t.cur.roster.getLsbD task then
    s.expire c.tick c.at_ 3 0 (portCode c.port) c.param 12
  else if c.tick < t.w + t.cur.closed then s.expire c.tick c.at_ 1 task (portCode c.port) c.param 20
  else if t.checked.getLsbD task then s.expire c.tick c.at_ 2 task (portCode c.port) c.param 16
  else { s with toll := { t with checked := t.checked ||| BitVec.ofNat 8 (2 ^ task) } }

/-- The port whose oldest check-in is judged next: the earlier tick, HPA before HPB (R415). -/
def State.nextCheckIn (s : State) : Option (CheckIn × State) :=
  match s.hpa.toll, s.hpb.toll with
  | a :: ra, b :: rb =>
    if a.tick ≤ b.tick then some (a, { s with hpa := { s.hpa with toll := ra } })
    else some (b, { s with hpb := { s.hpb with toll := rb } })
  | a :: ra, [] => some (a, { s with hpa := { s.hpa with toll := ra } })
  | [], b :: rb => some (b, { s with hpb := { s.hpb with toll := rb } })
  | [], [] => none

/-- The closing tick judged (R418); its expiry carries the crossing and stroke at which that tick fell (R419). -/
def State.closeWindow (s : State) : State :=
  let t := s.toll
  let te := t.closing
  let at_ := s.stampAt te
  let s := s.atTick te
  if t.cur.roster &&& ~~~t.checked = 0 then { (s.rcAdd 0x704 8 1) with toll := t.beginWindow te }
  else s.expire te at_ 4 (lowestTask (t.cur.roster &&& ~~~t.checked)) 0 0 8

/-- The end of the pulse: WDP inactive, then a new window, the moored interval, or IDLE (R418) (log entry 24, DESIGN CHOICE). -/
def State.pulseOver (s : State) : State :=
  let t := s.toll
  let te := t.pulseEnd
  let s := s.atTick te
  let t := { t with wdp := if t.wdp = Wdp.hiz then Wdp.hiz else .inactive }
  let t := if t.moorAfter then
      (if t.enabled then { t with st := .mooring, moorAfter := false, moorEnd := te + t.cur.moorS * 32768 }
       else { t with st := .idle, moorAfter := false })
    else if t.enabled then t.beginWindow te
    else { t with st := .idle }
  { s with toll := t }

/-- The tick of the window's or the pulse's next event, other than its opening. -/
def Toll.nextEvent (t : Toll) : Option Nat :=
  match t.st with
  | .closed | .opened => some t.closing
  | .pulse => some t.pulseEnd
  | _ => none

/-- That event (R418). -/
def State.tollEvent (s : State) : State :=
  match s.toll.st with
  | .closed | .opened => s.closeWindow
  | .pulse => s.pulseOver
  | _ => s

/-- The toll keeper brought up to tick `lim` in order of ticks: its own events up to it, and the check-ins stamped before it, a
check-in stamped with the tick of an event after that event (R416 to R418); by fuel. -/
def State.tollTo : Nat → Nat → State → State
  | 0, _, s => s
  | n + 1, lim, s =>
    match s.toll.nextEvent, s.nextCheckIn with
    | some e, some (c, s') =>
      if c.tick < e then (if c.tick < lim then State.tollTo n lim (s'.judge c) else s)
      else if e ≤ lim then State.tollTo n lim (s.tollEvent) else s
    | some e, none => if e ≤ lim then State.tollTo n lim (s.tollEvent) else s
    | none, some (c, s') => if c.tick < lim then State.tollTo n lim (s'.judge c) else s
    | none, none => s

/-- The toll keeper at a tick: every event lasts a tick at least and each slip holds 8 (R27, R428), so the fuel is enough; an opening
tick that has come opens the window (R416). -/
def State.tollAt (s : State) (tick : Nat) : State :=
  let s := State.tollTo (tick + 20) tick s
  if s.toll.st = .closed && decide (s.toll.w + s.toll.cur.closed ≤ tick) then { s with toll := { s.toll with st := .opened } } else s

/-- TOLL_CHECK_IN (R414): the oldest check-in, against the window at its tick. -/
def execTollCheckIn (s : State) : Host.Outcome State Fault Refusal :=
  match s.nextCheckIn with
  | some (c, s') => .next ((s'.tollAt c.tick).judge c)
  | none => .next s

/-- TK_OPENING_TICK (R416). -/
def execTkOpeningTick (s : State) : Host.Outcome State Fault Refusal :=
  if s.toll.st = .closed then
    .next { (s.atTick (s.toll.w + s.toll.cur.closed)) with toll := { s.toll with st := .opened } }
  else .next s

/-- TK_CLOSING_TICK (R416 to R418): after the check-ins stamped before it. -/
def execTkClosingTick (s : State) : Host.Outcome State Fault Refusal :=
  if s.toll.st = .opened then .next (State.tollTo (s.toll.closing + 20) s.toll.closing s) else .next s

/-- WDP_PULSE_END (R418, R424). -/
def execWdpPulseEnd (s : State) : Host.Outcome State Fault Refusal :=
  if s.toll.st = .pulse then .next s.pulseOver else .next s

/-- TOLL_KEEPER_ENABLED (R418, R425): IDLE is left at the first tick after stroke 240 of the landing. -/
def execTollKeeperEnabled (s : State) : Host.Outcome State Fault Refusal :=
  if s.toll.st = .idle && s.toll.enabled && s.rst.landed then
    .next { s with toll := s.toll.beginWindow s.rst.tick }
  else .next s

/-- TOLL_KEEPER_DISABLED (R418): the check-ins stamped before this tick and the window's own event at it first; a pulse
completes. -/
def execTollKeeperDisabled (s : State) : Host.Outcome State Fault Refusal :=
  if s.toll.enabled then .next s else
  let s := s.tollAt s.rst.tick
  match s.toll.st with
  | .closed | .opened => .next { s with toll := { s.toll with st := .idle, checked := 0 } }
  | _ => .next s

/-- A wake source of this code; of two in one mooring tick the lowest stands (R390). -/
def State.wakeBy (s : State) (code : BitVec 4) : State :=
  if s.mode = .moored then
    match s.rst.wakeSub with
    | some c => if s.rst.wakeTick = s.rst.tick && decide (code.toNat < c.toNat) then
        { s with rst := { s.rst with wakeSub := some code } } else s
    | none => { s with rst := { s.rst with wakeSub := some code, wakeTick := s.rst.tick } }
  else s

/-- MOORED_INTERVAL_END (R418, R426): a wake source with SUB 0x3. -/
def execMooredIntervalEnd (s : State) : Host.Outcome State Fault Refusal :=
  if s.toll.st = .mooring then
    .next ({ (s.atTick s.toll.moorEnd) with toll := { s.toll with st := .idle } }.wakeBy 3)
  else .next s

/-- WAKE_REQUEST (R129, R390): SET_MODE BERTHED on an open session in MOORED. -/
def execWakeRequest (p : Port) (s : State) : Host.Outcome State Fault Refusal :=
  if s.portOn && (s.port p).opened then .next (s.wakeBy (match p with | .hpa => 1 | .hpb => 2)) else .next s

/-! ### The words 0x000700 to 0x000708 (R432) -/

/-- TK_STATE. -/
def TkState.code : TkState → Nat
  | .idle | .mooring => 0
  | .closed => 1
  | .opened => 2
  | .pulse => 3

/-- The window words of the toll keeper as the Quay passed its state at the last landing, RC fields
apart; none beyond them. -/
def State.tollWord (s : State) (a : Nat) : Option Word :=
  let t := s.tollSnap
  match a with
  | 0x700 => some (wd (t.st.code * 2 ^ 21 + bn t.src * 2 ^ 20 + t.checked.toNat * 2 ^ 12 + t.cur.roster.toNat * 16
      + bn t.cur.pol * 8 + bn (t.wdp = .active) * 4))
  | 0x701 => some (wd t.left)
  | 0x702 => some (wd t.cur.closed)
  | 0x703 => some (wd t.cur.opened)
  | 0x704 | 0x705 => some 0
  | 0x706 => some (wd (t.lastSub.toNat * 2 ^ 20 + t.lastTask.toNat * 2 ^ 17 + t.lastMissing.toNat * 256))
  | 0x707 => some (wd t.lastAt)
  | 0x708 => some (wd (t.cur.pulse * 2 ^ 14))
  | _ => none

end Sys2Proof.Machine
end

