-- ==== Sys2Proof/Machine/Nvm.lean ====
section
/-! DEFINITION. The two banks of non-volatile memory (R433, R434), the commit engine (R441 to R449), reading the black
box (R450, R451), charter copies (R452 to R454) and the image table (R468). -/

namespace Sys2Proof.Machine

/-! ### Words of a bank -/

/-- The number of words of a bank (R434). -/
abbrev bankWords : Nat := 0x0AAAAA

/-- What a word that was never written reads as: the empty pattern in the ring and the first-fault area (R437), all ones
elsewhere, as R449 says of the journal (log entry 6, DESIGN CHOICE). -/
def nvmBlank (a : Nat) : Word :=
  if a < 0x055550 || (0x057550 ≤ a && a < 0x057D50) then 0 else 0xFFFFFF

/-- A word of the sparse list. -/
def nvmFind : List (Nat × Word) → Nat → Option Word
  | [], _ => none
  | e :: tl, a => if e.1 = a then some e.2 else nvmFind tl a

/-- A word of the sparse list set, addresses rising. -/
def nvmInsert : List (Nat × Word) → Nat → Word → List (Nat × Word)
  | [], a, w => [(a, w)]
  | e :: tl, a, w =>
    if a < e.1 then (a, w) :: e :: tl
    else if a = e.1 then (a, w) :: tl
    else e :: nvmInsert tl a w

/-- A word removed from the sparse list. -/
def nvmErase (l : List (Nat × Word)) (a : Nat) : List (Nat × Word) := l.filter (fun e => e.1 ≠ a)

/-- Reading a word of a bank (log entry 6, DESIGN CHOICE). -/
def Bank.read (b : Bank) (a : Nat) : Word := (nvmFind b.mem a).getD (nvmBlank a)

/-- Writing a word of a bank; nothing is there beyond the last word. The list holds no word equal to what an unlisted
word reads as (log entry 6, DESIGN CHOICE). -/
def Bank.write (b : Bank) (a : Nat) (w : Word) : Bank :=
  if bankWords ≤ a then b
  else if w = nvmBlank a then { mem := nvmErase b.mem a } else { mem := nvmInsert b.mem a w }

/-- Writing words from an address on. -/
def Bank.writes (b : Bank) (a : Nat) : List Word → Bank
  | [] => b
  | w :: ws => (b.write a w).writes (a + 1) ws

/-- Reading n words from an address on. -/
def Bank.reads (b : Bank) (a n : Nat) : List Word := (List.range n).map (fun k => b.read (a + k))

/-- The canonical form: addresses rise, lie in the bank, and no entry is what an unlisted word reads as. -/
def memWf : List (Nat × Word) → Bool
  | [] => true
  | [e] => decide (e.1 < bankWords) && e.2 != nvmBlank e.1
  | e :: f :: tl => decide (e.1 < f.1) && decide (e.1 < bankWords) && e.2 != nvmBlank e.1 && memWf (f :: tl)

/-- The canonical form of a bank. -/
def Bank.wf (b : Bank) : Bool := memWf b.mem

/-- Bank NVM-A when `false`, NVM-B when `true`. -/
def State.bank (s : State) (b : Bool) : Bank := if b then s.nvmB else s.nvmA

/-- A bank changed. -/
def State.modBank (s : State) (b : Bool) (f : Bank → Bank) : State :=
  if b then { s with nvmB := f s.nvmB } else { s with nvmA := f s.nvmA }

/-- Words that the general port of a bank has delivered, on their way to the check units that take them, in one request (R456; log entry
33, DEDUCED). -/
def State.delivered (s : State) (b : Bool) (addr : Nat) (ws : List Word) (landing : Nat) : State :=
  s.snoop ⟨if b then 0x21 else 0x20, landing, bytesOfNat 3 addr, [], bytesOfWords ws⟩

/-- The requests that wait enter the NVM request slip of 4 (R27). -/
def Links.askNvm (l : Links) : Links :=
  let k := 4 - l.nvmSlip.length
  { l with nvmSlip := l.nvmSlip ++ l.nvmWait.take k, nvmWait := l.nvmWait.drop k }

/-- A read that a passage asks of a general port: the task waits while the slip is full (R27). -/
def State.askRead (s : State) (h : HelmId) (r : NvmRead) : State :=
  s.modHelm h (fun x => { x with links := { x.links with nvmWait := x.links.nvmWait ++ [r] }.askNvm })

/-- The request that the general ports serve next: where both helms ask the same bank, one each in turn (R32). -/
def State.nextRead (s : State) : Option (HelmId × NvmRead) :=
  match s.helmA.links.nvmSlip.head?, s.helmB.links.nvmSlip.head? with
  | some a, some b => if a.bank = b.bank && s.genTurn.getLsbD (bn a.bank) then some (.b, b) else some (.a, a)
  | some a, none => some (.a, a)
  | none, some b => some (.b, b)
  | none, none => none

/-- The general ports serve the requests of the helms, by fuel; the words pass the check units (R27, R32, R456; log entry 33, DEDUCED). -/
def State.servePorts : Nat → State → State
  | 0, s => s
  | n + 1, s =>
    match s.nextRead with
    | none => s
    | some (h, r) =>
      let s := s.modHelm h (fun x => { x with links := { x.links with nvmSlip := x.links.nvmSlip.drop 1 }.askNvm })
      let bit : BitVec 2 := BitVec.ofNat 2 (2 ^ bn r.bank)
      State.servePorts n (({ s with genTurn := if h = HelmId.a then s.genTurn ||| bit else s.genTurn &&& ~~~bit }).delivered r.bank r.addr
        r.words r.landing)

/-- How many reads the helms have asked for. -/
def State.readsAsked (s : State) : Nat :=
  s.helmA.links.nvmSlip.length + s.helmA.links.nvmWait.length + s.helmB.links.nvmSlip.length + s.helmB.links.nvmWait.length

/-- Every read that the helms have asked for is served, at the next stroke token that a helm takes or at the landing (R456; log entry
57, DESIGN CHOICE). -/
def State.serveReads (s : State) : State :=
  let ask (x : Helm) : Helm := { x with links := x.links.askNvm }
  State.servePorts s.readsAsked ((s.modHelm .a ask).modHelm .b ask)

/-- Words of a bank read outside the passages, which belong to the next landing (R456; log entry 33, DEDUCED). -/
def State.readWords (s : State) (b : Bool) (addr n : Nat) : State :=
  s.delivered b addr ((s.bank b).reads addr n) (s.tb.crossing + 1)

/-! ### Records as stored (R436, R437) -/

/-- First word of the first-fault area. -/
abbrev ffBase : Nat := 0x057550

/-- First word of the journal. -/
abbrev journalBase : Nat := 0x055550

/-- Slots of the ring. -/
abbrev ringSlots : Nat := 43690

/-- Whether a stored copy is intact (R437). -/
def copyIntact (w : List Word) : Bool := w.getD 7 0 == crc24 (bytesOfWords (w.take 7))

/-- Whether a stored copy is empty (R437). -/
def copyEmpty (w : List Word) : Bool := w.all (· == 0)

/-- The newest record of a bank by its journal: lap, slot, and the journal word that names it (R449). -/
def Bank.newest (b : Bank) : Option (Nat × Nat × Nat) :=
  let es := b.mem.filter (fun e => journalBase ≤ e.1 && e.1 < journalBase + 8192)
  let succ (w : Word) : Word :=
    let slot := fld w 15 0
    let lap := fld w 23 16
    if slot + 1 < ringSlots then wd (lap * 65536 + slot + 1) else wd ((lap + 1) % 256 * 65536)
  (es.find? (fun e => b.read (journalBase + (e.1 - journalBase + 1) % 8192) != succ e.2)).map
    (fun e => (fld e.2 23 16, fld e.2 15 0, e.1 - journalBase))

/-- Whether position y (lap, slot) is later than x; laps count modulo 256 (R441). -/
def ringLater (x y : Nat × Nat) : Bool :=
  if x.1 = y.1 then decide (x.2 < y.2) else decide ((y.1 + 256 - x.1) % 256 < 128)

/-- The later of the two banks' newest records (R449). -/
def State.newest (s : State) : Option (Nat × Nat × Nat) :=
  match s.nvmA.newest, s.nvmB.newest with
  | some a, some b => if ringLater (a.1, a.2.1) (b.1, b.2.1) then some b else some a
  | some a, none => some a
  | none, b => b

/-- The first empty slot of the first-fault area in both banks, 256 when it is full. -/
def State.ffNext (s : State) : Nat :=
  ((List.range 256).find? (fun k => copyEmpty (s.nvmA.reads (ffBase + 8 * k) 8)
    && copyEmpty (s.nvmB.reads (ffBase + 8 * k) 8))).getD 256

/-- The rings resumed at start-up (R449). -/
def State.resumeRings (s : State) : State :=
  let c := s.com
  let c := match s.newest with
    | some (lap, slot, j) =>
      { c with
        slot := if slot + 1 < ringSlots then slot + 1 else 0
        lap := if slot + 1 < ringSlots then lap else (lap + 1) % 256
        total := (j + 1) % 8192 }
    | none => { c with slot := 0, lap := 0, total := 0 }
  { s with com := { c with ffFill := s.ffNext, holdUp := false, powerFail := none } }

/-! ### Committing (R441) -/

/-- Free words in place of what a write left, when both read-backs differ (log entry 2, DESIGN CHOICE). -/
def freeWords (n from_ : Nat) : List Word := (List.range n).map (fun k => Config.freeWord (from_ + k))

/-- The words of a record, and its journal entry if it has one, in a bank that reads them back in the end; otherwise free words, of
which the spec gives no contents (log entry 2, DESIGN CHOICE). -/
def Bank.put (b : Bank) (addr : Nat) (ws : List Word) (journal : Option (Nat × Word)) (ok : Bool) (n : Nat) : Bank :=
  match journal with
  | some (j, w) => (b.writes addr (if ok then ws else freeWords 8 n)).write j (if ok then w else Config.freeWord (n + 8))
  | none => b.writes addr (if ok then ws else freeWords 8 n)

/-- That, with the NVM_FAULT record of a bank whose second read-back differs too (R441; log entry 34, DEDUCED). -/
def State.putBank (s : State) (b : Bool) (addr : Nat) (ws : List Word) (journal : Option (Nat × Word)) (ok : Bool) : State :=
  let n := s.free
  let t := s.quayRec ⟨s.now, 0xB, clsFault, 0x00A, 0, wd (bn b), wd addr⟩
  ({ s with free := if ok then n else n + 9, com := if ok then s.com else t.com, win := if ok then s.win else t.win }).modBank b
    (fun k => k.put addr ws journal ok n)

/-- One record written into both banks at an address, with its journal entry; a bank is written once more when its read-back differs
(R441). -/
def State.writeBoth (s : State) (addr : Nat) (ws : List Word) (journal : Option (Nat × Word)) (v : PairBack) : State :=
  (s.putBank false addr ws journal (v.a1 || v.a2)).putBank true addr ws journal (v.b1 || v.b2)

/-- What the commit of a record is about to replace (R164). -/
def State.undoOf (s : State) (r : Rec) : CommitUndo :=
  let c := s.com
  let j := journalBase + c.total % 8192
  { record := r, slot := c.slot, lap := c.lap, total := c.total, ffFill := c.ffFill
    inFf := r.cls = clsFault && decide (c.ffFill < 256)
    ringA := s.nvmA.reads (8 * c.slot) 8, ringB := s.nvmB.reads (8 * c.slot) 8
    jourA := s.nvmA.read j, jourB := s.nvmB.read j
    ffA := if c.ffFill < 256 then s.nvmA.reads (ffBase + 8 * c.ffFill) 8 else []
    ffB := if c.ffFill < 256 then s.nvmB.reads (ffBase + 8 * c.ffFill) 8 else [] }

/-- The slots that a commit wrote show their earlier content (R164). -/
def State.hide (s : State) (u : CommitUndo) : State :=
  let back (b : Bank) (ring ff : List Word) : Bank :=
    let b := b.writes (8 * u.slot) ring
    if u.inFf then b.writes (ffBase + 8 * u.ffFill) ff else b
  { s with nvmA := back s.nvmA u.ringA u.ffA, nvmB := back s.nvmB u.ringB u.ffB }

/-- A commit that none before the instant follows has no journal entry either (R164). -/
def State.undo (s : State) (u : CommitUndo) : State :=
  let j := journalBase + u.total % 8192
  let s := s.hide u
  { s with
    nvmA := s.nvmA.write j u.jourA
    nvmB := s.nvmB.write j u.jourB
    com := { s.com with slot := u.slot, lap := u.lap, total := u.total } }

/-- The commits kept in mind: those of this crossing and the one before (R164). -/
def State.recall (s : State) (u : CommitUndo) : List CommitUndo :=
  s.com.recent.dropWhile (fun v => v.record.at_.crossing + 1 < s.tb.crossing) ++ [u]

/-- The commit of one record (R441): the ring, the journal, and the first-fault area for class FAULT, with its bell cause, but in hold-up,
in which the bell has no supply (R443, R446). -/
def State.commitOne (s : State) (r : Rec) (v : ReadBack) : State :=
  let c := s.com
  let s := { s with com := { c with
    recent := s.recall (s.undoOf r)
    slot := if c.slot + 1 < ringSlots then c.slot + 1 else 0
    lap := if c.slot + 1 < ringSlots then c.lap else (c.lap + 1) % 256
    total := (c.total + 1) % 8192 } }
  let s := s.writeBoth (8 * c.slot) r.words (some (journalBase + c.total % 8192, wd (c.lap % 256 * 65536 + c.slot))) v.ring
  if r.cls = clsFault && decide (c.ffFill < 256) then
    let s := s.writeBoth (ffBase + 8 * c.ffFill) r.words none v.ff
    let s := { s with com := { s.com with ffFill := c.ffFill + 1 } }
    if c.holdUp then s else s.quayCause bellBlackbox
  else s

/-- The read-backs of a write of which no command tells: the k-th of those at hand (log entry 2, DESIGN CHOICE). -/
def State.backAt (s : State) (k : Nat) : PairBack :=
  ⟨Config.readBack (s.free + 4 * k), Config.readBack (s.free + 4 * k + 1), Config.readBack (s.free + 4 * k + 2),
   Config.readBack (s.free + 4 * k + 3)⟩

/-- A record that the engine commits outside RECORD_COMMIT (R443, R446, R449, R461). -/
def State.commitOwn (s : State) (r : Rec) : State :=
  { s with free := s.free + 8 }.commitOne r ⟨s.backAt 0, s.backAt 1⟩

/-- Read-backs that all show what was written. -/
abbrev allGood : ReadBack := ⟨⟨true, true, true, true⟩, ⟨true, true, true, true⟩⟩

/-- The record the engine takes next: Quay sources first, then the helms' slips alternately (R32). -/
def Commit.take (c : Commit) : Option (Rec × Commit) :=
  match c.slipQ with
  | r :: rest => some (r, { c with slipQ := rest })
  | [] =>
    match c.slipA, c.slipB with
    | a :: ra, b :: rb =>
      if c.turnB then some (b, { c with slipB := rb, turnB := false }) else some (a, { c with slipA := ra, turnB := true })
    | a :: ra, [] => some (a, { c with slipA := ra, turnB := true })
    | [], b :: rb => some (b, { c with slipB := rb, turnB := false })
    | [], [] => none

/-- RECORD_COMMIT (R441, R446): one record; in hold-up, after the last one, the POWER_FAIL record. -/
def execRecordCommit (v : ReadBack) (s : State) : Host.Outcome State Fault Refusal :=
  match s.com.take with
  | some (r, c) => .next ({ s with com := c }.commitOne r v)
  | none =>
    match s.com.powerFail with
    | some r => .next ({ s with com := { s.com with powerFail := none } }.commitOne r v)
    | none => .next s

/-- The records in the slips in the order in which the engine takes them (R32). -/
def Commit.order : Nat → Commit → List Rec
  | 0, _ => []
  | n + 1, c => match c.take with
    | some (r, c) => r :: c.order n
    | none => []

/-- The slips once the engine has taken so many records (R32). -/
def Commit.after : Nat → Commit → Commit
  | 0, c => c
  | n + 1, c => match c.take with
    | some (_, c) => c.after n
    | none => c

/-- The engine commits every record that is in the slips, at most 20 (R446, R461); an NVM_FAULT of theirs stays in its slip. -/
def State.drainEngine (s : State) : State :=
  (s.com.order 20).foldl (fun s r => s.commitOwn r) { s with com := s.com.after 20 }

/-- The engine at the end of a hold-up: every record in the slips, then POWER_FAIL (R446). -/
def State.finishHoldUp (s : State) : State :=
  let s := s.drainEngine
  match s.com.powerFail with
  | some r => { s with com := { s.com with powerFail := none } }.commitOwn r
  | none => s

/-- A bank's copy of the record in progress when VHOLD is exhausted (R447) (log entry 34, DEDUCED). -/
def Bank.leave (b : Bank) (addr : Nat) (ws : List Word) (left : CopyLeft) (n : Nat) : Bank :=
  match left with
  | .old => b
  | .complete => b.writes addr ws
  | .corrupt =>
    let w := freeWords 7 n
    b.writes addr (w ++ [crc24 (bytesOfWords w) ^^^ 1])

/-- What a bank is left with of a commit whose ring copies are both complete: the journal entry, and the copy of a FAULT record in the
first-fault area (R441, R447) (log entry 34, DEDUCED). -/
def Bank.leaveRest (b : Bank) (c : Commit) (r : Rec) (left : BankLeft) (n : Nat) : Bank :=
  let b := if left.journal then b.write (journalBase + c.total % 8192) (wd (c.lap % 256 * 65536 + c.slot)) else b
  if r.cls = clsFault && decide (c.ffFill < 256) then b.leave (ffBase + 8 * c.ffFill) r.words left.ff n else b

/-- VHOLD_EXHAUSTED (R447): the commit in progress ends with each copy as given, a journal entry only after its record; the engine
stops (log entry 34, DEDUCED). -/
def execVholdExhausted (a b : BankLeft) (s : State) : Host.Outcome State Fault Refusal :=
  if !s.com.holdUp then .next s else
  let r := match s.com.take with
    | some (r, _) => some r
    | none => s.com.powerFail
  let stop (s : State) : State :=
    { s with com := { s.com with slipA := [], slipB := [], slipQ := [], powerFail := none } }
  match r with
  | some r =>
    let addr := 8 * s.com.slot
    let full : Bool := decide (a.ring = .complete ∧ b.ring = .complete)
    let left (k : Bank) (l : BankLeft) (n : Nat) : Bank :=
      let k := k.leave addr r.words l.ring n
      if full then k.leaveRest s.com r l (n + 7) else k
    .next (stop { s with nvmA := left s.nvmA a s.free, nvmB := left s.nvmB b (s.free + 14), free := s.free + 28 })
  | none => .next s

/-- The first-fault area cleared (R443): both areas emptied, then FF_CLEAR into the rings and slot 0. -/
def State.clearFf (s : State) (r : Rec) : State :=
  let wipe (b : Bank) : Bank := b.writes ffBase (List.replicate 2048 0)
  let s := { s with nvmA := wipe s.nvmA, nvmB := wipe s.nvmB
                    com := { s.com with ffFill := 1, recent := s.com.recent.map (fun (u : CommitUndo) => { u with inFf := false }) } }
  let t : State := { s with free := s.free + 8 }
  (t.writeBoth ffBase r.words none (s.backAt 0)).commitOne { r with cls := clsAct } ⟨s.backAt 1, s.backAt 1⟩

/-- FIRST_FAULT_CLEAR (R443): the clearings that were accepted, one after the other, each with its own FF_CLEAR record (log entry 34,
DEDUCED); from the start of a hold-up on the engine commits the records in the slips and nothing else (R446). -/
def execFirstFaultClear (s : State) : Host.Outcome State Fault Refusal :=
  if s.com.holdUp then .next s else
  match s.com.ffClear with
  | r :: l => .next (({ s with com := { s.com with ffClear := l } }.clearFf r).quayCause bellBlackbox)
  | [] => .next s

/-! ### Reading the black box (R164, R450, R451) -/

/-- The first word of slot k of an area. -/
def areaAddr (ff : Bool) (k : Nat) : Nat := if ff then ffBase + 8 * k else 8 * k

/-- Whether slot k of a bank belongs to its current lap (R449), and that lap. -/
def Bank.lapOf (b : Bank) (k : Nat) : Nat :=
  match b.newest with
  | some (lap, slot, _) => if k ≤ slot then lap else (lap + 255) % 256
  | none => 0

/-- An item: the FLAG word and a copy (R164). -/
def bbItem (flags slot : Nat) (ws : List Word) : List Word := wd (flags * 2 ^ 18 + slot) :: ws

/-- The items of a slot (R450, R451). FLAG bits 23 to 18: DISAGREE, PREFERRED, BANK, EMPTY, CRC_FAIL, ONE_COPY. -/
def State.slotItems (s : State) (ff : Bool) (k : Nat) : List (List Word) :=
  let a := s.nvmA.reads (areaAddr ff k) 8
  let b := s.nvmB.reads (areaAddr ff k) 8
  if copyIntact a && copyIntact b then
    if a = b then [bbItem 16 k a]
    else
      let bLater := !ff && decide ((s.nvmB.lapOf k + 256 - s.nvmA.lapOf k) % 256 ∈ (List.range 127).map (· + 1))
      [bbItem (32 + (if bLater then 0 else 16)) k a, bbItem (32 + 8 + (if bLater then 16 else 0)) k b]
  else if copyIntact a then [bbItem (16 + 1) k a]
  else if copyIntact b then [bbItem (16 + 8 + 1) k b]
  else if copyEmpty a && copyEmpty b then [bbItem 4 k (List.replicate 8 0)]
  else [bbItem 2 k a]

/-- Items of slots in ascending order, by fuel, until a slot's items would not fit; the words and NEXT (log entry 41, DEDUCED). -/
def State.bbGather (s : State) (ff : Bool) : Nat → Nat → Nat → List Word → Nat × List Word
  | 0, k, _, acc => (k, acc)
  | n + 1, k, room, acc =>
    if ff && decide (256 ≤ k) then (k, acc) else
    let it := s.slotItems ff k
    let need := 27 * it.length
    if room < need then (k, acc)
    else State.bbGather s ff n (if !ff && k + 1 = ringSlots then 0 else k + 1) (room - need) (acc ++ it.flatten)

/-- The oldest record held: the slot after the later newest record, or slot 0 before the first wrap (R449). -/
def State.oldestSlot (s : State) : Nat :=
  match s.newest with
  | some (lap, slot, _) =>
    let next := if slot + 1 < ringSlots then slot + 1 else 0
    if lap = 0 && copyEmpty (s.nvmA.reads (8 * next) 8) && copyEmpty (s.nvmB.reads (8 * next) 8) then 0 else next
  | none => 0

/-- The copies of the slots that a reading of the black box takes pass the general ports, slot by slot, those of NVM-A first (R33, R456;
log entry 33, DEDUCED). `v`: the state with the rings as read. -/
def State.readSlots (s v : State) (h : HelmId) (ff : Bool) (slots : List Nat) (landing : Nat) : State :=
  slots.foldl (fun s k =>
    let a := areaAddr ff k
    (s.askRead h ⟨false, a, v.nvmA.reads a 8, landing⟩).askRead h ⟨true, a, v.nvmB.reads a 8, landing⟩) s

/-- The slots of a reading from the first up to, and without, the next one to read. -/
def slotsRead (ff : Bool) (first next count : Nat) : List Nat :=
  ((List.range count).map (fun j => if ff then first + j else (first + j) % ringSlots)).takeWhile (· ≠ next)

/-- Every record keeps the slot that it was committed to; slots that hold a record stamped after an instant show their earlier
content, and the last of them no journal entry (R164). -/
def State.asOf (s : State) (lim : Stamp) : State :=
  let late (u : CommitUndo) : Bool := lim.lt u.record.at_
  let s := (s.com.recent.reverse.takeWhile late).foldl (fun s u => s.undo u) s
  ((s.com.recent.reverse.dropWhile late).filter late).foldl (fun s u => s.hide u) s

/-- The state once every record in the slips, or queued by a helm, that is stamped at or before an instant is committed, a
clearing of the first-fault area stamped by then carried out; later ones that the engine takes before them have their slots, which
show their earlier content (R164; log entry 41, DEDUCED). -/
def State.commitUpTo (s : State) (lim : Stamp) : State :=
  let s := (s.com.ffClear.filter (fun r => !lim.lt r.at_)).foldl (fun s r => s.clearFf r) s
  let given (x : Helm) (h : HelmId) : List Rec := if x.hs.red.view = some h then x.sure ++ x.held ++ x.shared else []
  let due := s.com.order 20 ++ (s.helmA.recQ ++ s.helmB.recQ ++ given s.helmA .a ++ given s.helmB .b).filter (fun r => !lim.lt r.at_)
  (due.foldl (fun s r => s.commitOne r allGood) s).asOf lim

/-! ### Charter copies (R452) -/

/-- The bank and first word of the region of copy c = 0, 1, 2 (R434). -/
def copyRegion (c : Nat) : Bool × Nat :=
  match c with
  | 0 => (false, 0x058000)
  | 1 => (true, 0x058000)
  | _ => (false, 0x05A400)

/-- COPY_LEN of a stored copy. -/
def State.copyLen (s : State) (c : Nat) : Nat := ((s.bank (copyRegion c).1).read (copyRegion c).2).toNat

/-- The charter words of a stored copy, 8 192 of them when COPY_LEN is out of range (R157). -/
def State.copyWords (s : State) (c : Nat) : List Word :=
  let n := s.copyLen c
  (s.bank (copyRegion c).1).reads ((copyRegion c).2 + 4) (if 1 ≤ n && n ≤ 8192 then n else 8192)

/-- Whether a stored copy is intact (R452). -/
def State.copyOk (s : State) (c : Nat) : Bool :=
  let b := s.bank (copyRegion c).1
  let a := (copyRegion c).2
  let n := s.copyLen c
  1 ≤ n && n ≤ 8192 &&
    BitVec.ofNat 32 (fld (b.read (a + 1)) 15 0 * 65536 + fld (b.read (a + 2)) 15 0) == crcWords (s.copyWords c)

/-- The words of a copy of a charter, its header first (R452). -/
def copyImage (ch : List Word) : List Word :=
  let crc := (chCrc ch).toNat
  [wd ch.length, wd (crc / 65536), wd (crc % 65536), 0] ++ ch

/-- A copy written from a charter (R452). -/
def State.writeCopy (s : State) (c : Nat) (ch : List Word) : State :=
  s.modBank (copyRegion c).1 (fun b => b.writes (copyRegion c).2 (copyImage ch))

/-- First word that the helms may write: below it lie the ring, the journal and the first-fault area, which the commit engine alone
writes (R434, R435). -/
abbrev helmBase : Nat := 0x058000

/-- First word of the factory area, which no command reads or writes (R434, R435). -/
abbrev factoryBase : Nat := 0x0AA000

/-- Words that a passage writes to a bank or to both, at the landing that keeps it (R68); no command writes the black box or the
factory area (R435). -/
def State.queueNvm (s : State) (toA toB : Bool) (addr : Nat) (ws : List Word) : State :=
  if helmBase ≤ addr && decide (addr + ws.length ≤ factoryBase) then { s with nvmDue := s.nvmDue ++ [⟨toA, toB, addr, ws⟩] } else s

/-- A copy written by a passage (R410, R452). -/
def State.queueCopy (s : State) (c : Nat) (ch : List Word) : State :=
  s.queueNvm (!(copyRegion c).1) (copyRegion c).1 (copyRegion c).2 (copyImage ch)

/-- A mask of the copies for which a test holds. -/
def copyMask (f : Nat → Bool) : Nat := maskOf 3 f

/-! ### The image table (R468) -/

/-- First word of the image table. -/
abbrev imgBase : Nat := 0x071E00

/-- Whether a bank's image table is intact (R468). -/
def Bank.tableOk (b : Bank) : Bool := b.read (imgBase + 11) == crc24 (bytesOfWords (b.reads imgBase 11))

/-- The table's words in use: NVM-A's if intact, else NVM-B's if intact, else those of a blank device. -/
def State.imgTable (s : State) : List Word :=
  if s.nvmA.tableOk then s.nvmA.reads imgBase 11
  else if s.nvmB.tableOk then s.nvmB.reads imgBase 11
  else 0xFF0000 :: List.replicate 10 0

/-- The table read, from NVM-B when NVM-A's is not intact (R456, R468). -/
def State.readTable (s : State) : State :=
  let t := s.readWords false imgBase 12
  if s.nvmA.tableOk then t else t.readWords true imgBase 12

/-- The words of the image table with their check (R468). -/
def imgTableWords (t : List Word) : List Word := t ++ [crc24 (bytesOfWords t)]

/-- The table written, NVM-A first, then NVM-B. -/
def State.writeImgTable (s : State) (t : List Word) : State :=
  { s with nvmA := s.nvmA.writes imgBase (imgTableWords t), nvmB := s.nvmB.writes imgBase (imgTableWords t) }

/-- Length, CRC and version of the image that an entry of the table names; nothing for code ROM (R468). -/
def imageOf (t : List Word) (b : Nat) : List Word := if b < 2 then (List.range 4).map (fun k => t.getD (2 + 5 * b + k) 0) else []

/-- A word of NVM-A with what the passage of a helm has written there (R68, R171). -/
def State.stagedRead (s : State) (hs : HelmState) (a : Nat) : Word :=
  match hs.staged.reverse.find? (fun d => d.1 ≤ a && decide (a < d.1 + d.2.length)) with
  | some d => d.2.getD (a - d.1) 0
  | none => s.nvmA.read a

/-- BOOT_h as it stands in the table: 0 or 1 a slot, 3 code ROM only. -/
def bootOf (t : List Word) (h : HelmId) : Nat :=
  match h with
  | .a => fld (t.getD 0 0) 23 22
  | .b => fld (t.getD 0 0) 21 20

/-- The staging area: the slot that neither BOOT entry names, slot 0 when both name code ROM only; none when they name different
slots (R469). -/
def stagingSlot (t : List Word) : Option Nat :=
  let a := bootOf t .a
  let b := bootOf t .b
  if a < 2 && b < 2 && a != b then none else if a = 0 || b = 0 then some 1 else some 0

/-- First word of an image slot. -/
def imgSlotBase (k : Nat) : Nat := if k = 0 then 0x05C800 else 0x067300

/-- SLOT_STATE of a slot. -/
def slotState (t : List Word) (k : Nat) : Nat := fld (t.getD (1 + 5 * k) 0) 23 22

/-- STAGE_STATE: SLOT_STATE of the staging area, empty when there is none (R469). -/
def State.stageState (s : State) : Nat :=
  match stagingSlot s.imgTable with
  | some k => slotState s.imgTable k
  | none => 0

/-- The table with a slot's words replaced. -/
def imgSlotSet (t : List Word) (k : Nat) (ws : List Word) : List Word :=
  (List.range 11).map (fun j => if 1 + 5 * k ≤ j && j < 6 + 5 * k then ws.getD (j - (1 + 5 * k)) 0 else t.getD j 0)

/-- Whether the copy of image slot k in a bank has the length and the CRC that the table gives (R468, R469). -/
def imageIntact (b : Bank) (t : List Word) (k : Nat) : Bool :=
  let w (j : Nat) : Word := t.getD (j + 5 * k) 0
  crcWords (b.reads (imgSlotBase k) (w 2).toNat) == BitVec.ofNat 32 (fld (w 3) 15 0 * 65536 + fld (w 4) 15 0)

/-- The image of a slot read, from NVM-B when NVM-A's copy is not intact (R456, R469). -/
def State.readImage (s : State) (t : List Word) (k : Nat) : State :=
  let n := (t.getD (2 + 5 * k) 0).toNat
  let u := s.readWords false (imgSlotBase k) n
  if imageIntact s.nvmA t k then u else u.readWords true (imgSlotBase k) n

/-- The image that a helm loads: that of its BOOT entry; code ROM only, with an NVM_FAULT record, when both copies fail (R469;
log entry 52, DESIGN CHOICE). -/
def State.loadImage (s : State) (h : HelmId) (t : List Word) : State :=
  let b := bootOf t h
  let s := if b < 2 then s.readImage t b else s
  if b < 2 && !imageIntact s.nvmA t b && !imageIntact s.nvmB t b then
    ((s.modHelm h (fun x => { x with boot := 3 })).helmRec h s.now clsFault 0x00A 0 0 (wd (imgSlotBase b))).offerRecords h
  else s.modHelm h (fun x => { x with boot := BitVec.ofNat 2 b })

/-- The version and the image that a helm runs, as the table has them (R468, R470). -/
def Helm.runImage (x : Helm) (t : List Word) : Helm :=
  let b := x.boot.toNat
  { x with fw := if b < 2 then t.getD (5 + 5 * b) 0 else 0, image := imageOf t b }

end Sys2Proof.Machine
end

