-- ==== Sys2Proof/Machine/Field.lean ====
section
/-! DEFINITION. A pontoon's setups (R49, R363) and what decides an output: levels, holds and safe states (R247, R259 to
R263), shedding (R271, R272), and what a pontoon collects for its next report. -/

namespace Sys2Proof.Machine

/-! ### Setups from the store -/

/-- The input record a pontoon was loaded with. -/
def Pont.inRec (x : Pont) : List Word := chBody x.setup 0x06

/-- The output record a pontoon was loaded with. -/
def Pont.outRec (x : Pont) : List Word := chBody x.setup 0x07

/-- The PQ record a pontoon was loaded with. -/
def Pont.pqRec (x : Pont) : List Word := chBody x.setup 0x08

/-- The analog record a pontoon was loaded with. -/
def Pont.aiRec (x : Pont) : List Word := chBody x.setup 0x09

/-- The filter record a pontoon was loaded with. -/
def Pont.filRec (x : Pont) : List Word := chBody x.setup 0x0A

/-- The direct-lane record a pontoon was loaded with. -/
def Pont.dlRec (x : Pont) : List Word := chBody x.setup 0x0B

/-- SAFE_STATE of output i of Pontoon p; OFF with an empty store (R49, R259). -/
def Pont.safeState (x : Pont) (p i : Nat) : Nat := bf x.outRec (8 * p + i) 23 22

/-- PRIORITY of output i; priority 1 with an empty store (R49, R271). -/
def Pont.priority (x : Pont) (p i : Nat) : Nat :=
  let q := bf x.outRec (8 * p + i) 21 20
  if q = 0 then 1 else q

/-- RETRIES of output i (R249). -/
def Pont.retries (x : Pont) (p i : Nat) : Nat := bf x.outRec (8 * p + i) 19 16

/-- The word of reflex pair j (R275). -/
def Pont.rxWord (x : Pont) (p j : Nat) : Word := x.outRec.getD (34 + 4 * p + j) 0

/-- DL_MODE and DL_CH of lane l = 0, 1 of Pontoon p (R376). -/
def Pont.lane (x : Pont) (p l : Nat) : Nat × Nat := (bf x.dlRec (2 * p + l) 23 22, bf x.dlRec (2 * p + l) 21 19)

/-- SAFEN_REARM (R274). -/
def Pont.rearmSet (x : Pont) : Bool := bb x.outRec 32 11

/-! ### Sag -/

/-- The bit of a sag condition. -/
def Sag.ix : Sag → Nat
  | .warn => 0
  | .shed3 => 1
  | .shed2 => 2
  | .dark => 3

/-- Whether a pontoon is dark (R361); a stopped one counts as dark for its outputs (R363). -/
def Pont.dark (x : Pont) : Bool := !x.running || x.sag.getLsbD 3

/-- Whether an output of a priority is to be shed (R271). -/
def Pont.mustShed (x : Pont) (prio : Nat) : Bool :=
  x.sag.getLsbD 3 || (prio == 2 && x.sag.getLsbD 2) || (prio == 3 && x.sag.getLsbD 1)

/-- VF_STATE (R359): the most severe condition asserted, STOPPED while the logic is not running. -/
def Pont.vfState (x : Pont) : Nat :=
  if !x.running then 5
  else if x.sag.getLsbD 3 then 4
  else if x.sag.getLsbD 2 then 3
  else if x.sag.getLsbD 1 then 2
  else if x.sag.getLsbD 0 then 1
  else 0

/-! ### What decides an output (R247) -/

/-- A PERMIT lane of this pontoon holds output i. -/
def Pont.permitHolds (x : Pont) (p i : Nat) : Bool :=
  (List.range 2).any (fun l => x.permitHold.getLsbD l && (x.lane p l).1 == 3 && (x.lane p l).2 == i)

/-- A level-4 cause other than waiting for rearm or for the release of a latched reflex holds output i (R263). -/
def Pont.otherCause (x : Pont) (p i : Nat) : Bool :=
  x.order || x.silence || x.safenHold || x.permitHolds p i
  || x.rx.toList.any (fun r => r.hold.getLsbD i && (r.trig || !r.calm))

/-- Output i is held at level 4 (R247). -/
def Pont.heldNow (x : Pont) (p i : Nat) : Bool :=
  x.order || x.silence || x.safenHold || x.permitHolds p i || x.rx.toList.any (fun r => r.hold.getLsbD i)
  || (vat x.outs i {}).rearm

/-- A setpoint held to SP_CEIL of the store, for the stages 0 and 1 (R287, R300). -/
def Pont.capped (x : Pont) (p i : Nat) (v : Int) : Int := if i < 2 then min v (bs x.pqRec (10 * (2 * p + i) + 4)) else v

/-- The safe value of output i by the store in force; HOLD_LAST is what landed before the hold began (R259, R261, R287). -/
def Pont.safeValue (x : Pont) (p i : Nat) (last : Int) : Int :=
  match x.safeState p i with
  | 1 => 1
  | 2 => x.capped p i last
  | 3 => bs x.pqRec (10 * (2 * p + i) + 5)
  | _ => 0

/-- Holds begin, with the landed value of that instant, and end; a hold gives the safe state of the store in force, so that a
store loaded during it acts from its landing on (R261, R277, R285). -/
def Pont.refreshHolds (x : Pont) (p : Nat) : Pont :=
  { x with outs := Vector.ofFn (fun (i : Fin 8) =>
      let o := x.outs[i]
      let h := x.heldNow p i
      let last := if h && !o.held then o.landed else o.holdLanded
      { o with held := h, holdLanded := last, holdVal := if h then x.safeValue p i last else o.holdVal }) }

/-- Levels 2 and 3: shed or queued, protection, reverse blocking, the PQ latch. -/
def Pont.level23 (x : Pont) (i : Nat) : Bool :=
  let o := vat x.outs i {}
  o.shed || o.queued || o.prot != .normal || o.reverse || (decide (i < 2) && (vat x.pqs i {}).latch)

/-- The level-5 value: the landed value, or the level of a DRIVE lane (R377). -/
def Pont.level5 (x : Pont) (p i : Nat) : Int :=
  match (List.range 2).find? (fun l => (x.lane p l).1 == 2 && (x.lane p l).2 == i) with
  | some l => if x.drive.getLsbD l then 1 else 0
  | none => (vat x.outs i {}).landed

/-- The value of levels 3 to 5 (R272). -/
def Pont.value345 (x : Pont) (p i : Nat) : Int :=
  let o := vat x.outs i {}
  if o.prot != .normal || o.reverse || (decide (i < 2) && (vat x.pqs i {}).latch) then 0
  else if o.held then o.holdVal
  else x.level5 p i

/-- The level that decides output i (R247). -/
def Pont.level (x : Pont) (i : Nat) : Nat :=
  let o := vat x.outs i {}
  if x.dark then 1
  else if o.shed || o.queued then 2
  else if x.level23 i then 3
  else if o.held then 4
  else 5

/-- The value of output i after every level, a hail pulse apart (R247). -/
def Pont.value (x : Pont) (p i : Nat) : Int :=
  match x.level i with
  | 1 | 2 | 3 => 0
  | 4 => (vat x.outs i {}).holdVal
  | _ => x.level5 p i

/-- Whether the switch of output i is closed; its hail pulse or gap acts on the landed value, whatever a DRIVE lane does (R256, R377). -/
def Pont.switchOn (x : Pont) (p i : Nat) : Bool :=
  let o := vat x.outs i {}
  if o.hailPulse && x.level i == 5 then decide (o.landed ≤ 0) else decide (0 < x.value p i)

/-- The switches as the levels set them, with the count of tide periods at a change (R252); a hail pulse or gap is none. -/
def Pont.track (x : Pont) (p : Nat) (age : Nat) : Pont :=
  { x with outs := Vector.ofFn (fun (i : Fin 8) =>
      let o := x.outs[i]
      let on : Bool := decide (0 < x.value p i)
      if on = o.swOn then o else { o with swOn := on, swAt := age }) }

/-! ### Shedding (R271, R272) -/

/-- Outputs whose priority is affected are shed at once, and leave the queue. -/
def Pont.shedNow (x : Pont) (p : Nat) : Pont :=
  let must (i : Nat) : Bool := x.mustShed (x.priority p i)
  { x with
    outs := Vector.ofFn (fun (i : Fin 8) =>
      let o := x.outs[i]
      if must i then { o with shed := true, queued := false } else o)
    queue := x.queue.filter (fun i => !must i) }

/-- Outputs no longer shed: those that are on join the queue, the others wait for the next landing (R272). -/
def Pont.unshed (x : Pont) (p : Nat) : Pont :=
  let joins (i : Nat) : Bool :=
    (vat x.outs i {}).shed && !x.mustShed (x.priority p i) && decide (x.value345 p i ≠ 0)
  let all := x.queue ++ (List.range 8).filter (fun i => joins i && !x.queue.contains i)
  { x with
    outs := Vector.ofFn (fun (i : Fin 8) =>
      let o := x.outs[i]
      if joins i then { o with shed := false, queued := true } else o)
    queue := ([1, 2, 3].map (fun q => (List.range 8).filter (fun i => all.contains i && x.priority p i == q))).flatten }

/-- At a landing: outputs no longer shed are released, and the first of the queue (R272). -/
def Pont.restoreOne (x : Pont) (p : Nat) : Pont :=
  let first := x.queue.head?
  { x with
    outs := Vector.ofFn (fun (i : Fin 8) =>
      let o := x.outs[i]
      { o with
        shed := o.shed && x.mustShed (x.priority p i)
        queued := o.queued && first != some i.val })
    queue := x.queue.drop 1 }

/-! ### What a pontoon collects for its report -/

/-- An RC event of a pontoon, counted by the helms with the report that carries it. -/
def Pont.rcIn (x : Pont) (addr lo : Nat) (amount : Int) : Pont := { x with rcInc := x.rcInc ++ [⟨⟨addr, lo⟩, amount⟩] }

/-- A bell cause that the next report raises (log entry 16, DEDUCED). -/
def Pont.bellIn (x : Pont) (k : Nat) : Pont := { x with bells := x.bells ||| oneBit k }

/-- A record that the next report brings: its class, plus 4 when no limit of one in 256 crossings holds it back. -/
def Pont.recIn (x : Pont) (code cls : Nat) (d0 d1 d2 : Word) : Pont := { x with recs := x.recs ++ [(code, cls, d0, d1, d2)] }

/-- The pontoon of an output or of a lane. -/
def pontOf (n : Nat) : Fin 4 := ⟨n / 8 % 4, Nat.mod_lt _ (by decide)⟩

/-- A change of one output's own state. -/
def Pont.modOut (x : Pont) (i : Nat) (f : OutSt → OutSt) : Pont := { x with outs := vmod x.outs i f }

end Sys2Proof.Machine
end

