-- ==== Sys2Proof/Machine/Loop.lean ====
section
/-! DEFINITION. The loop of a proportional stage (R283 to R301): the reference, dither, one step of the loop, and the
reference changes of levels 1 to 4 that act at once (R290). Duty and integrator are kept in units of 2^-16 counts. -/

namespace Sys2Proof.Machine

/-- Word +k of the PQ record of stage j of Pontoon p (R300). -/
def Pont.pqW (x : Pont) (p j k : Nat) : Word := x.pqRec.getD (10 * (2 * p + j) + k) 0

/-- PQ_EN. -/
def Pont.pqEn (x : Pont) (p j : Nat) : Bool := bitOf (x.pqW p j 0) 23

/-- PWM_DIV. -/
def Pont.pwmDiv (x : Pont) (p j : Nat) : Nat := fld (x.pqW p j 0) 22 9

/-- DMAX in duty counts (R283). -/
def dmaxOf (div : Nat) : Int := if div = 0 then 0 else ((65536 * (div - 20) / div : Nat) : Int)

/-- The calibrated current (R301). -/
def Pont.pqCal (x : Pont) (p j : Nat) (iRaw : Int) : Int :=
  ((iRaw - sc (x.pqW p j 8)) * ((x.pqW p j 9).toNat : Int)).tdiv (2 ^ 22)

/-- The on-time of a duty, kept in units of 2^-16 counts, in modulator periods, halves rounded up (R283). -/
def onTimeOf (duty : Int) (div : Nat) : Nat := min (div - 20) ((duty * div + 2 ^ 31).fdiv (2 ^ 32)).toNat

/-- The two switches k modulator periods after a period began: the high-side switch for the on-time, then the recirculation
switch; neither while both are open (R283). -/
def PqSt.switches (q : PqSt) (k : Nat) : Bool × Bool :=
  if q.bothOpen then (false, false) else (decide (k < q.onTime), decide (q.onTime ≤ k))

/-- Modulator periods of one crossing: half of its tide periods (R35, R283). -/
def Pont.modPeriods (x : Pont) : Nat := 128 * x.tide

/-- The reference of R285 and R286, never above SP_CEIL (R287); none where both switches are open, as they are in a latched stage whatever decides it (R289) (log
entry 38, DEDUCED). -/
def Pont.reference (x : Pont) (p j : Nat) : Option Int :=
  let o := vat x.outs j {}
  let q := vat x.pqs j {}
  match x.level j with
  | 1 | 3 => none
  | 2 => if q.latch then none else some 0
  | 4 => some (if x.pqEn p j then x.capped p j o.holdVal else 0)
  | _ =>
    if !x.pqEn p j then some 0
    else if q.smoothing && decide (0 < x.modPeriods) then
      some (x.capped p j (q.rOld + ((o.landed - q.rOld) * (min q.elapsed x.modPeriods : Nat)).tdiv x.modPeriods))
    else some (x.capped p j o.landed)

/-- INC of the dither phase (R288) (log entry 11, DESIGN CHOICE). -/
def Pont.ditherInc (x : Pont) (p j : Nat) : Nat :=
  (divNear ((fld (x.pqW p j 1) 23 15 * x.pwmDiv p j * 2 ^ 24 : Nat) : Int) 8192000).toNat

/-- A quarter of a sine, rising from 0 to 2^22 as k does; the rounding of the shape in ROM is open (R288; log entry 11, DESIGN
CHOICE). -/
def sineQuarter (k : Nat) : Int :=
  let y : Int := ((k * 13493037705 / 2 ^ 23 : Nat) : Int)
  let sq := y * y / 2 ^ 32
  let sum := ([1, 2, 3, 4, 5, 6] : List Int).foldl (fun (a : Int × Int) k =>
    let t := -(a.2 * sq / 2 ^ 32) / (2 * k * (2 * k + 1))
    (a.1 + t, t)) (y, y)
  divOpen sum.1 (2 ^ 10)

/-- The shape w of the dither at a phase, in units of 2^-22: triangle, sine or square, over -1 to +1 with a mean of zero (R288).
Where in its cycle a shape stands at phase 0 is open (log entry 11, DESIGN CHOICE). -/
def ditherShape (shape : Nat) (phase : BitVec 24) : Int :=
  let f := (phase + Config.ditherOrigin shape).toNat
  let quarter := f % 2 ^ 22
  let up := f / 2 ^ 22 % 2 = 0
  let sign : Int := if f < 2 ^ 23 then 1 else -1
  let k : Nat := if up then quarter else 2 ^ 22 - quarter
  match shape with
  | 0 => sign * k
  | 1 => sign * clampI 0 (2 ^ 22) (sineQuarter k)
  | _ => sign * 2 ^ 22

/-- The reference with dither, clipped (R288; log entry 10, DESIGN CHOICE and log entry 11, DESIGN CHOICE). -/
def Pont.dithered (x : Pont) (p j : Nat) (r : Int) : Int :=
  let w := x.pqW p j 1
  if fld w 23 15 = 0 || decide (r ≤ 0) then r
  else
    let wave := ditherShape (fld w 2 1) (vat x.pqs j {}).phase
    clampI 0 1200000 (r + divOpen ((fld w 14 3 * 100 : Nat) * wave) (2 ^ 22))

/-- R_ff in mΩ (R289). -/
def Pont.rff (x : Pont) (p j : Nat) : Int :=
  match (vat x.pqs j {}).coilR with
  | some r => r
  | none => ((fld (x.pqW p j 7) 23 12 + fld (x.pqW p j 7) 11 0) * 50 : Nat)

/-- The feedforward term in units of 2^-16 counts (R289; log entry 10, DESIGN CHOICE). -/
def Pont.feedforward (x : Pont) (p j : Nat) (r : Int) (v : Nat) : Int :=
  if bitOf (x.pqW p j 0) 8 && decide (8000 ≤ v) then divOpen (r * 25 * x.rff p j * 2 ^ 32) ((10 ^ 7 * v : Nat) : Int)
  else 0

/-- The stage in fast decay for this period: an entry is counted (R291). -/
def Pont.fastDecay (x : Pont) (p j : Nat) (q : PqSt) : Pont :=
  let y := { x with pqs := vset x.pqs j { q with duty := 0, onTime := 0, bothOpen := true, fdNow := true, anyFd := true } }
  if q.fdNow then y else y.rcIn (0x300 + 0x20 * (2 * p + j) + 10) 0 1

/-- The regulating part of R289: ff, KP, KI and the anti-windup rule. Whether the duty has fraction bits the spec does not say; it
keeps 16, as the integrator does (log entry 56, DESIGN CHOICE). -/
def Pont.regulate (x : Pont) (p j : Nat) (q : PqSt) (r i : Int) (v : Nat) : Pont :=
  let dmax := dmaxOf (x.pwmDiv p j) * 65536
  let e := r - i
  let base := x.feedforward p j r v + (fld (x.pqW p j 2) 23 8 : Int) * e * 16
  let u := base + q.g
  let hold := (decide (dmax ≤ u) && decide (0 < e)) || (decide (u ≤ 0) && decide (e < 0))
  let g := if hold then q.g else clampI 0 dmax (q.g + (fld (x.pqW p j 3) 23 8 : Int) * e)
  let d := clampI 0 dmax (base + g)
  { x with pqs := vset x.pqs j { q with
      g := g, duty := d, onTime := onTimeOf d (x.pwmDiv p j), bothOpen := false, fdNow := false } }

/-- One step of the loop of stage j with the current and the field voltage of the period just ended (R289) (log entry 38, DEDUCED). -/
def Pont.loopStep (x : Pont) (p j : Nat) (i : Int) (v : Nat) : Pont :=
  let q := vat x.pqs j {}
  let put (q : PqSt) : Pont := { x with pqs := vset x.pqs j q }
  match x.reference p j with
  | none =>
    put { q with
      fd := false, g := 0, duty := 0, onTime := 0, bothOpen := true, refAct := 0, fdNow := q.fdNow && decide (8000 ≤ i) }
  | some r0 =>
    let q := { q with refAct := r0 }
    if q.frozen then put q else
    let r := x.dithered p j r0
    let th := sc (x.pqW p j 6)
    if r ≤ 0 then
      if 8000 ≤ i then x.fastDecay p j q
      else put { q with g := 0, duty := 0, onTime := 0, bothOpen := true, fdNow := false }
    else
      let enter := decide (th ≠ 0) && !q.fd && decide (th < i - r)
      let q := if enter then { q with fd := true, iEntry := i } else q
      if q.fd && decide (r < i) then x.fastDecay p j q
      else
        let q := if q.fd then
            { q with fd := false, g := if bitOf (x.pqW p j 0) 8 then q.g else divOpen (q.g * r) q.iEntry }
          else q
        x.regulate p j q r i v

/-- Both switches open at once: fast decay begins, where a switch was closed or current flows (R291). -/
def Pont.openBoth (x : Pont) (p j : Nat) : Pont :=
  let q : PqSt := { vat x.pqs j {} with fd := false, g := 0 }
  if !q.bothOpen || decide (8000 ≤ q.iLast) || (vat x.outs j {}).hailPulse then x.fastDecay p j q
  else { x with pqs := vset x.pqs j q }

/-- Whether stage j has both switches open: latched, or decided by level 1 or 3 (R289). -/
def Pont.blocked (x : Pont) (j : Nat) : Bool := x.level j == 1 || x.level j == 3 || (vat x.pqs j {}).latch

/-- The periods of the stages run (R284). -/
def Pont.periodsRun (x : Pont) : Bool := x.regLocked && !x.gridDue

/-- What a change of the deciding level does to the stages at once (R286, R290, R291): a reference that changes under levels 2 and 4 runs a step
of the loop at that instant, in the period in progress; levels 1 and 3 and the latch open both switches; smoothing ends. `old`: the pontoon before the change (log entry 38, DEDUCED). -/
def Pont.react (x : Pont) (p : Nat) (old : Pont) : Pont :=
  [0, 1].foldl (fun x j =>
    let l := x.level j
    let l0 := old.level j
    let moved := l != l0 || x.blocked j != old.blocked j || (l == 4 && x.value p j != old.value p j)
    if !moved then x else
    let q := vat x.pqs j {}
    let x := { x with pqs := vset x.pqs j { q with smoothing := false } }
    if x.blocked j then (if old.blocked j then x else x.openBoth p j)
    else if (l == 2 || l == 4) && x.periodsRun && x.reference p j != old.reference p j then x.loopStep p j q.iLast q.vLast
    else x) x

/-- PQ_REF_ACT (R304): the reference at the sounding. -/
def Pont.refAct (x : Pont) (p j : Nat) : Int :=
  let q := vat x.pqs j {}
  if q.smoothing && x.level j == 5 then q.refAct else (x.reference p j).getD 0

/-- PQ_MODE (R304). -/
def Pont.pqMode (x : Pont) (p j : Nat) : Nat :=
  let q := vat x.pqs j {}
  if x.dark then 5 else if q.latch then 3 else if q.frozen then 4 else if q.fdNow then 2
  else if decide (0 < x.refAct p j) then 1 else 0

/-- The word Bn+0 (R304). -/
def Pont.pqWord (x : Pont) (p j : Nat) : Word :=
  let q := vat x.pqs j {}
  let cal := x.pqW p j 8 != 0 || x.pqW p j 9 != 0x400000#24
  wd (x.pqMode p j * 2 ^ 21 + x.level j * 2 ^ 18 + bn q.headroom.on * 2 ^ 17 + bn q.coilOpen.on * 2 ^ 16
    + bn q.rHigh.on * 2 ^ 15 + bn q.rLow.on * 2 ^ 14 + bn q.unctl.on * 2 ^ 13 + bn q.trip * 2 ^ 12
    + bn q.thermal * 2 ^ 11 + bn (cal && !x.setup.isEmpty) * 2 ^ 10 + bn (bitOf (x.pqW p j 0) 8) * 2 ^ 9
    + bn (bitOf (x.pqW p j 0) 7) * 2 ^ 8)

/-- A change of a pontoon, and what it does to its stages and switches at once. -/
def State.modField (s : State) (p : Fin 4) (f : Pont → Pont) : State :=
  s.modPont p (fun x => ((f x).react p x).track p s.tb.age)

end Sys2Proof.Machine
end

