-- ==== Sys2Proof/Machine/Inputs.lean ====
section
/-! DEFINITION. Digital inputs, counters and reflexes inside a pontoon (R221 to R239, R264 to R267), and the direct
lanes (R375 to R378). -/

namespace Sys2Proof.Machine

/-! ### Levels -/

/-- IN_EN of input i of Pontoon p. -/
def Pont.inEn (x : Pont) (p i : Nat) : Bool := bb x.inRec (8 * p + i) 23

/-- The prefiltered level of input i after INVERT (R221 stage 4). -/
def Pont.stage4 (x : Pont) (p i : Nat) : Bool := (vat x.ins i {}).raw != bb x.inRec (8 * p + i) 20

/-- The level a mirror lane shows for its input (R238, R377). -/
def Pont.mirrorLevel (x : Pont) (p l : Nat) : Bool :=
  let i := (x.lane p l).2
  (x.lane p l).1 == 1 && x.stage4 p i && x.inEn p i && !(vat x.ins i {}).wb && !x.dark

/-- The mirror pins of a pontoon's two lanes follow (R377, R378). -/
def State.refreshMirror (s : State) (p : Fin 4) : State :=
  let x := s.pont p
  let m := s.lanes
  let v := bits8 (fun k => if k / 2 = p.val then x.mirrorLevel p (k % 2) && !m.lost.getLsbD k else m.mirror.getLsbD k)
  { s with lanes := { m with mirror := v } }

/-- The level that the DL pin of a MIRROR lane drives; none at high impedance: another mode, reset, or no VDDIO (R377, R380, R474). -/
def State.mirrorPin (s : State) (m : Fin 8) : Option Bool :=
  if s.live && s.rst.vddio && bf (chBody s.inForce 0x0B) m 23 22 == 1 then some (s.lanes.mirror.getLsbD m) else none

/-! ### Reflexes (R264) -/

/-- Whether pair j is triggered by the level as it stands: enabled, its input enabled, the level RX_LEVEL (R264). -/
def Pont.rxCond (x : Pont) (p j : Nat) : Bool :=
  let w := x.rxWord p j
  let i := fld w 22 20
  bitOf w 23 && x.inEn p i && x.stage4 p i == bitOf w 19

/-- Pair j is judged by the level: a trigger holds its targets at level 4. -/
def Pont.judgeRx (x : Pont) (p j : Nat) : Pont :=
  if x.rxCond p j then
    { x with rx := vmod x.rx j (fun r => { r with
        trig := true, since := true, calm := false, hold := r.hold ||| BitVec.ofNat 8 (fld (x.rxWord p j) 17 10) }) }
  else { x with rx := vmod x.rx j (fun r => { r with trig := false }) }

/-- All four pairs judged, and the holds that begin. -/
def Pont.judgeAllRx (x : Pont) (p : Nat) : Pont := ((List.range 4).foldl (fun x j => x.judgeRx p j) x).refreshHolds p

/-- REFLEX_TRIGGER (R264, R266). -/
def execReflexTrigger (p : Fin 4) (j : Fin 4) (s : State) : Host.Outcome State Fault Refusal :=
  let x := s.pont p
  if x.running && x.rxCond p j then .next (s.modField p (fun x => (x.judgeRx p j).refreshHolds p)) else .next s

/-! ### Counters (R233 to R236) -/

/-- A count moved up or down, modulo 2^46; whether it wrapped (R235). -/
def countMove (signed up : Bool) (c : BitVec 46) : BitVec 46 × Bool :=
  let top : Nat := if signed then 2 ^ 45 - 1 else 2 ^ 46 - 1
  let low : Nat := if signed then 2 ^ 45 else 0
  if up then (c + 1, c.toNat == top) else (c - 1, c.toNat == low)

/-- One edge of input i seen by the counters: which counter it moves, and whether up, before CT_DIR. -/
def Pont.edgeOf (x : Pont) (p i : Nat) (rising : Bool) : Option (Nat × Bool) :=
  let mode (k : Nat) := bf x.inRec (32 + 4 * p + k) 23 21
  let even := i / 2 * 2
  let other := (vat x.ins (if i = even then i + 1 else even) {}).raw
  if mode even ≥ 4 then
    if i = even then
      (if mode even = 4 && !rising then none else some (even, rising != other))
    else if mode even = 6 then some (even, rising == other)
    else none
  else match mode i with
    | 1 => if rising then some (i, true) else none
    | 2 => if rising then none else some (i, true)
    | 3 => some (i, true)
    | _ => none

/-- An edge of the prefiltered level counted (R233, R235); a counter holds while its pontoon is dark (R236). -/
def Pont.countEdge (x : Pont) (p i : Nat) (rising : Bool) : Pont :=
  if !x.running || x.dark || decide (4 ≤ i) then x
  else match x.edgeOf p i rising with
    | none => x
    | some (k, up) =>
      let w := x.inRec.getD (32 + 4 * p + k) 0
      let r := countMove (fld w 23 21 ≥ 4) (up != bitOf w 20) (vat x.cts k {}).count
      let x := { x with cts := vmod x.cts k (fun c => { c with count := r.1 }) }
      if r.2 then x.rcIn (0x130 + 4 * p + k) 19 1 else x

/-! ### Inputs at a sounding (R229 to R231) -/

/-- A word of 23 bits of a count, bit 23 zero (R235). -/
def countWords (c : BitVec 46) : Word × Word := (wd (c.toNat / 2 ^ 23), wd (c.toNat % 2 ^ 23))

/-- The debounced state becomes unknown (R230). The count of equal soundings of R231 begins afresh: whether soundings latched before
count, the spec does not say (log entry 56, DESIGN CHOICE). -/
def DiSt.forget (d : DiSt) : DiSt := { d with known := false, run := 0, same := 0, state := false }

/-- One input at a sounding: the debounce, validity, and whether it rose or fell. `low`, `high`: its current below IWB,
above IWBC (R227). -/
def DiSt.sound (d : DiSt) (setup : Word) (v dark low high classS : Bool) : DiSt × Bool × Bool :=
  let en := bitOf setup 23
  let wbEn := bitOf setup 21 && classS
  let debOn := fld setup 15 8
  let debOff := fld setup 7 0
  let lo := if wbEn && low then d.wbLo + 1 else 0
  let hi := if wbEn && high then d.wbHi + 1 else 0
  let wb := if !wbEn then false else if d.wb then decide (hi < 8) else decide (8 ≤ lo)
  let d := { d with wb := wb, wbLo := min 8 lo, wbHi := min 8 hi }
  if !en || dark then (d.forget, false, false)
  else
    let same := if d.same = 0 || v != d.lastLvl then 1 else d.same + 1
    let d := { d with same := min 256 same, lastLvl := v }
    if !d.known then
      if max debOn debOff + 1 ≤ same then ({ d with known := true, state := v, run := 0 }, false, false)
      else (d, false, false)
    else if v = d.state then ({ d with run := 0 }, false, false)
    else
      let run := d.run + 1
      if (if v then debOn else debOff) + 1 ≤ run then
        ({ d with state := v, run := 0 }, v && !d.wb, !v && !d.wb)
      else ({ d with run := run }, false, false)

/-- Whether an input is valid (R230). -/
def DiSt.valid (d : DiSt) (en dark : Bool) : Bool := en && d.known && !d.wb && !dark

/-- The listeners of HAIL-CHECK orders: input and target (R239). -/
def Pont.listens (x : Pont) (di : Nat) (target : Nat) : Bool :=
  (chOrders x.setup).any (fun b => bf b 0 23 20 == 6 && bf b 1 23 16 == di && bf b 0 19 15 == target)

/-- The level that the sounding latch of input i takes (R222, R239). -/
def Pont.latchLevel (x : Pont) (p i : Nat) : Bool :=
  let d := vat x.ins i {}
  let raw := match x.slotOf, d.hailLvl with
    | some m, some l => if x.listens (8 * p + i) m then l else d.raw
    | _, _ => d.raw
  raw != bb x.inRec (8 * p + i) 20

/-- The inputs of a pontoon at a sounding. -/
def Pont.soundInputs (x : Pont) (p : Nat) (m : SoundingMeas) : Pont :=
  (List.range 8).foldl (fun x i =>
    let setup := x.inRec.getD (8 * p + i) 0
    let r := (vat x.ins i {}).sound setup (x.latchLevel p i) x.dark (m.wbLow.getLsbD i) (m.wbHigh.getLsbD i)
      (decide (4 ≤ i))
    let x := { x with ins := vset x.ins i r.1 }
    let x := if r.2.1 then x.rcIn (0x104 + p) (16 + i) 1 else x
    if r.2.2 then x.rcIn (0x104 + p) (8 + i) 1 else x) x

/-- The snapshot of counter i: words, and what follows it; the one just before a commit sets the counter to 0 shows no CT_RESTART
(R236). -/
def Pont.soundCounter (x : Pont) (p i : Nat) : Pont × List (Nat × Word) :=
  let c := vat x.cts i {}
  let k := 4 * p + i
  let mode := bf x.inRec (32 + k) 23 21
  let off := mode = 0 || x.dark
  let ws : Word × Word := if off then (noValue, noValue) else countWords c.count
  let x := if c.restart || (c.started && !off && !c.clearDue) then x.rcIn (0x130 + k) 17 1 else x
  let x := if c.gap && !off then x.rcIn (0x130 + k) 18 1 else x
  let zero := match c.zeroAt with
    | some n => decide (n ≤ x.crossing)
    | none => false
  let c := { c with
    restart := false
    started := c.started && off && !c.clearDue
    gap := x.sag.getLsbD 3 || (c.gap && off)
    zeroAt := if zero then none else c.zeroAt }
  let c := if zero then { c with count := 0 } else c
  let c := if c.clearDue then { c with count := 0, clearDue := false, restart := true } else c
  ({ x with cts := vset x.cts i c },
    [(0x110 + 2 * k, ws.1), (0x111 + 2 * k, ws.2), (0x130 + k, wd (mode * 2 ^ 21))])

/-- The reflex pairs at a sounding: the pairs triggered now, the trips that are new (R267). -/
def Pont.soundRx (x : Pont) (p : Nat) : Pont × Nat × Nat :=
  let x := x.judgeAllRx p
  let now := maskOf 4 (fun j => (vat x.rx j {}).trig)
  let trips := maskOf 4 (fun j => (vat x.rx j {}).since && !(vat x.rx j {}).atSnd)
  ({ x with rx := x.rx.map (fun r => { r with atSnd := r.trig, since := r.trig, calm := !r.trig }) }, now, trips)

/-! ### Hail slots (R255 to R258) -/

/-- HAIL_SLOT (R255, R256, R297): every running pontoon whose crossing carries a slot. The 200 µs of the slot are 1638.4 modulator
periods, through which the dither phase runs on (log entry 10, DESIGN CHOICE). -/
def Pont.hailSlot (x : Pont) (p : Nat) (v : List PinV) : Pont :=
  let k := bf x.outRec 32 23 12
  if !x.running || k = 0 || decide (32 ≤ x.crossing % k) then x else
  let owner := x.crossing % k
  let acts (i : Nat) : Bool := 8 * p + i == owner && bb x.outRec owner 10 && x.level i == 5
    && !(decide (i < 2) && (vat x.pqs i {}).fdNow)
  { x with
    slotOf := some owner
    outs := Vector.ofFn (fun (i : Fin 8) =>
      { x.outs[i] with hailActed := acts i, hailPulse := acts i, hailStart := v.getD (8 * p + i) .between })
    pqs := Vector.ofFn (fun (i : Fin 2) =>
      let q := x.pqs[i]
      { q with
        frozen := q.frozen || acts i
        touched := q.touched || acts i
        anyHail := q.anyHail || acts i
        phase := if acts i then q.phase + BitVec.ofInt 24 (divOpen ((x.ditherInc p i * 8192 : Nat) : Int) ((5 * x.pwmDiv p i : Nat) : Int))
          else q.phase
        elapsed := if acts i then q.elapsed + (divOpen 16384 10).toNat else q.elapsed })
    ins := x.ins.map (fun d => { d with hailLvl := some d.raw, hailCode := false }) }

/-- The pontoons by their numbers. -/
def State.mapPonts (s : State) (f : Nat → Pont → Pont) : State :=
  { s with ponts := Vector.ofFn (fun (p : Fin 4) => f p s.ponts[p]) }

/-- HAIL_SLOT (R255). -/
def execHailSlot (v : List PinV) (s : State) : Host.Outcome State Fault Refusal :=
  .next (s.mapPonts (fun p x => x.hailSlot p v))

/-- HAIL_PULSE_END (R256). -/
def execHailPulseEnd (q : Fin 32) (s : State) : Host.Outcome State Fault Refusal :=
  .next (s.modPont (pontOf q) (fun x => x.modOut (q.val % 8) (fun o => { o with hailPulse := false })))

/-- One output's judgement at the end of a slot of owner m (R257). -/
def Pont.hailJudge (x : Pont) (p m : Nat) (lo hi : List PinV) (i : Nat) : Pont :=
  let o := vat x.outs i {}
  let n := 8 * p + i
  let l := lo.getD n .between
  let h := hi.getD n .between
  if n = m then
    if !o.hailActed then x
    else if o.landed ≤ 0 && o.hailStart = .belowVolt then
      x.modOut i (fun o => { o with hailMissing := decide (h ≠ .aboveStk) })
    else if 0 < o.landed && o.hailStart = .aboveStk then
      x.modOut i (fun o => { o with hailMissing := decide (l ≠ .belowVolt) })
    else x
  else if 0 < x.value p i then x
  else if (o.hailStart = .belowVolt && decide (h ≠ .belowVolt)) || (o.hailStart = .aboveStk && decide (l ≠ .aboveStk)) then
    (x.modOut i (fun o => { o with hailFrom := m })).rcIn (0x210 + n) 15 1
  else x

/-- HAIL_SLOT_END at one pontoon; `acted`: whether the owner took action (R257, R258). -/
def Pont.hailSlotEnd (x : Pont) (p : Nat) (lo hi : List PinV) (acted : Bool) : Pont :=
  match x.slotOf with
  | none => x
  | some m =>
    let x := if x.dark then x else (List.range 8).foldl (fun x i => x.hailJudge p m lo hi i) x
    let heard := (List.range 8).filterMap (fun i =>
      if x.listens (8 * p + i) m then some ⟨8 * p + i, m, acted, (vat x.ins i {}).hailCode⟩ else none)
    { x with
      slotOf := none
      hails := x.hails ++ heard
      outs := x.outs.map (fun o => { o with hailPulse := false })
      pqs := x.pqs.map (fun q => { q with frozen := false })
      ins := x.ins.map (fun d => { d with hailLvl := none }) }

/-- HAIL_SLOT_END (R257, R258, R297). -/
def execHailSlotEnd (lo hi : List PinV) (s : State) : Host.Outcome State Fault Refusal :=
  let acted (m : Nat) : Bool := (vat (s.pont (pontOf m)).outs (m % 8) {}).hailActed
  .next (s.mapPonts (fun p x => x.hailSlotEnd p lo hi (match x.slotOf with | some m => acted m | none => false)))

/-! ### SAFEn and the direct lanes (R375 to R378) -/

/-- SAFEN_LOW (R375): recognised at a pontoon; every output to its safe state (log entry 38, DEDUCED). -/
def execSafenLow (p : Fin 4) (s : State) : Host.Outcome State Fault Refusal :=
  let s := { s with lanes := { s.lanes with safenNow := false } }.raiseEv s.now (.safenEdge p false)
  if (s.pont p).running then
    .next (s.modField p (fun x => { x with safenLow := true, safenHold := true }.refreshHolds p))
  else .next s

/-- A lane's bits in the pontoon it belongs to. -/
def laneBit (l : Nat) (b : Bool) (v : BitVec 2) : BitVec 2 :=
  if b then v ||| BitVec.ofNat 2 (2 ^ l) else v &&& ~~~BitVec.ofNat 2 (2 ^ l)

/-- The pontoon of a lane (R20). -/
def pontOfLane (m : Nat) : Fin 4 := ⟨m / 2 % 4, Nat.mod_lt _ (by decide)⟩

/-- The levels of its two lanes as a pontoon sees them; low without VDDIO (R377, R474). -/
def State.lanePins (s : State) (p : Fin 4) : BitVec 2 :=
  laneBit 1 (s.rst.vddio && s.lanes.level.getLsbD (2 * p.val + 1)) (laneBit 0 (s.rst.vddio && s.lanes.level.getLsbD (2 * p.val)) 0)

/-- A pin level noted. -/
def State.dlPin (s : State) (m : Nat) (level : Bool) : State :=
  { s with lanes := { s.lanes with level := bits8 (fun k => if k = m then level else s.lanes.level.getLsbD k) } }

/-- DL_DRIVE_EDGE (R377): the level replaces the manifest value of the target. -/
def execDlDriveEdge (m : Fin 8) (level : Bool) (s : State) : Host.Outcome State Fault Refusal :=
  let s := s.dlPin m level
  let p := pontOfLane m
  let x := s.pont p
  if x.running && (x.lane p (m.val % 2)).1 == 2 then
    .next (s.modField p (fun x => { x with drive := laneBit (m.val % 2) (level && s.rst.vddio) x.drive }))
  else .next s

/-- A PERMIT lane that is low at its pontoon holds its target (R377). -/
def Pont.permitDown (x : Pont) (p l : Nat) : Pont :=
  if x.running && (x.lane p l).1 == 3 then
    { x with permitLow := laneBit l true x.permitLow, permitHold := laneBit l true x.permitHold }.refreshHolds p
  else x

/-- DL_PERMIT_LOW (R377). -/
def execDlPermitLow (m : Fin 8) (s : State) : Host.Outcome State Fault Refusal :=
  let p := pontOfLane m
  .next ((s.dlPin m false).modField p (fun x => x.permitDown p (m.val % 2)))

/-- DL_LOST (R378): a MIRROR pin is driven low (log entry 36, DESIGN CHOICE). -/
def execDlLost (m : Fin 8) (s : State) : Host.Outcome State Fault Refusal :=
  let s := { s with lanes := { s.lanes with lost := s.lanes.lost ||| BitVec.ofNat 8 (2 ^ m.val) } }
  .next (s.refreshMirror (pontOfLane m))

/-- DL_CARRIER_RETURN (R378). -/
def execDlCarrierReturn (m : Fin 8) (s : State) : Host.Outcome State Fault Refusal :=
  let s := { s with lanes := { s.lanes with lost := s.lanes.lost &&& ~~~BitVec.ofNat 8 (2 ^ m.val) } }
  .next (s.refreshMirror (pontOfLane m))

/-- DL_WAKE_EDGE (R390, R393): an edge selected by the charter in force when MOORED began wakes with SUB 0x4. -/
def execDlWakeEdge (m : Fin 8) (rising : Bool) (s : State) : Host.Outcome State Fault Refusal :=
  let b := chBody s.inForce 0x04
  let sel := if rising then bf b 1 23 16 else bf b 1 15 8
  if s.rst.vddio && sel.testBit m.val then .next (s.wakeBy 4) else .next s

/-- VDDIO_LOW (R60, R377, R474): every DRIVE and PERMIT lane is sent low; the host ports' inputs are ignored. -/
def execVddioLow (s : State) : Host.Outcome State Fault Refusal :=
  let s := if s.rst.vddio then s.raiseEv s.now (.supply false) else s
  let s := { s with rst := { s.rst with vddio := false }, tb := { s.tb with syncOut := 0 } }
  let s := s.mapPonts (fun p x => (({ ((List.range 2).foldl (fun x l => x.permitDown p l) x) with drive := 0 } : Pont).react p x).track p s.tb.age)
  let cut (f : PortFE) : PortFE := { f with sel := false, done := false, sending := none, sendId := none }
  .next { s with hpa := cut s.hpa, hpb := cut s.hpb }

/-- VDDIO_RETURN (R60, R474): the pins are seen again; DRIVE lanes take their levels. -/
def execVddioReturn (s : State) : Host.Outcome State Fault Refusal :=
  let s := if s.rst.vddio then s else s.raiseEv s.now (.supply true)
  let s := { s with rst := { s.rst with vddio := true } }
  let lv := s.lanes.level
  .next (s.mapPonts (fun p x => ({ x with
    drive := (List.range 2).foldl (fun d l => laneBit l (x.running && (x.lane p l).1 == 2 && lv.getLsbD (2 * p + l)) d)
      x.drive } : Pont).track p s.tb.age))

end Sys2Proof.Machine
end

