-- ==== Sys2Proof/Machine/Outputs.lean ====
section
/-! DEFINITION. Protection and diagnostics of the outputs (R249 to R257, R279 to R281). -/

namespace Sys2Proof.Machine

/-- A flag after one judgement: it changes after 4 in succession that speak against it (R251, R294). -/
def Flag4.judge (f : Flag4) (shows : Bool) : Flag4 :=
  if shows = f.on then { f with run := 0 }
  else if 4 ≤ f.run + 1 then ⟨shows, 0⟩
  else { f with run := f.run + 1 }

/-- Whether the landed value of output i is on: the manifest's, whatever a DRIVE lane does (R248, R377). -/
def Pont.landedOn (x : Pont) (i : Nat) : Bool := decide (0 < (vat x.outs i {}).landed)

/-- Whether Qq is a switching output. -/
def isSwitch (q : Fin 32) : Bool := decide (2 ≤ q.val % 8)

/-- A change of a switching output of a running pontoon, and of its stages. -/
def State.modSwitch (s : State) (q : Fin 32) (f : OutSt → OutSt) : State :=
  s.modField (pontOf q) (fun x => if x.running && isSwitch q then x.modOut (q.val % 8) f else x)

/-- LOAD_KIND of output i (R252, R273). -/
def Pont.loadKind (x : Pont) (p i : Nat) : Nat := bf x.outRec (8 * p + i) 15 14

/-- The overcurrent blanking in µs (R252). -/
def overBlank (kind : Nat) : Nat := if kind = 2 then 100000 else 1000

/-- The blanking after the switch goes on or off, in tide periods (R252). -/
def switchBlank (kind : Nat) (on : Bool) : Nat :=
  16384 * (if on then (if kind = 2 then 100 else 2) else (if kind = 1 then 20 else 2))

/-- Whether output i is outside its blanking at the sounding of a crossing, counted in tide periods (R252). -/
def Pont.pastBlank (x : Pont) (p i : Nat) : Bool :=
  let o := vat x.outs i {}
  decide (switchBlank (x.loadKind p i) o.swOn ≤ x.sndAge - o.swAt)

/-- OVERCURRENT (R249, R252): the current is at its limit, for so many µs; longer than the blanking of the LOAD_KIND sets it
(log entry 36, DESIGN CHOICE). -/
def execOvercurrent (o : Overload) (s : State) : Host.Outcome State Fault Refusal :=
  let q := o.q
  let x := s.pont (pontOf q)
  let sets := x.landedOn (q.val % 8) && decide (overBlank (x.loadKind (pontOf q) (q.val % 8)) < o.us)
  .next (s.modSwitch q (fun o => if sets && o.prot == .normal then { o with overcurrent := true } else o))

/-- The Q_DIAG word of an output as the pontoon knows it: HAIL_FOREIGN and TSD_COUNT are counted by the helms (R279). -/
def OutSt.diag (o : OutSt) (switch : Bool) : Word :=
  let hail := bn o.hailMissing * 2 ^ 16 + o.hailFrom * 2 ^ 10
  if switch then
    wd (bn o.overcurrent * 2 ^ 23 + bn (o.prot = .cooling) * 2 ^ 22 + bn (o.prot = .latched) * 2 ^ 21
      + bn o.openOn.on * 2 ^ 20 + bn o.openOff.on * 2 ^ 19 + bn o.stuck.on * 2 ^ 18 + bn o.reverse * 2 ^ 17 + hail
      + o.retry * 2 ^ 6)
  else wd hail

/-- A word of Qq whose flags `news` rise from `old`: the bell and OUT_FAULT with the next report (R281, R305). `always`: those always
recorded. -/
def Pont.outFault (x : Pont) (q : Nat) (old now : Word) (news always : Nat) : Pont :=
  let fresh := now &&& ~~~old &&& wd news
  if fresh = 0 then x
  else (x.bellIn bellOutput).recIn 0x080 (if fresh &&& wd always = 0 then clsFault else clsFault + 4) (subj (0x20 + q))
    now 0

/-- First window word of stage j of Pontoon p (R304). -/
def pqBase (p j : Nat) : Nat := 0x300 + 0x20 * (2 * p + j)

/-- A stage enters the PQ latch: both switches open, TRIP counted; the flag that goes to 1 rings and is always recorded, with the
word Bn+0 (R295, R305). -/
def Pont.enterLatch (x : Pont) (p j : Nat) (thermal : Bool) : Pont :=
  let q := vat x.pqs j {}
  let x := { x with pqs := vset x.pqs j (if thermal then { q with latch := true, thermal := true, hot := true }
    else { q with latch := true, trip := true }) }
  let x := if thermal then x else x.rcIn (pqBase p j + 10) 20 1
  x.outFault (8 * p + j) (if thermal then wd (bn q.thermal * 2 ^ 11) else wd (bn q.trip * 2 ^ 12)) (x.pqWord p j)
    (if thermal then 0x000800 else 0x001000) 0x001800

/-- THERMAL_SHUTDOWN (R249, R295): a switching output cools, TSD_COUNT counts; a PQn enters the PQ latch (log entry 36, DESIGN CHOICE). -/
def execThermalShutdown (q : Fin 32) (s : State) : Host.Outcome State Fault Refusal :=
  let p := pontOf q
  let i := q.val % 8
  let x := s.pont p
  if !x.running then .next s
  else if isSwitch q then
    if (vat x.outs i {}).prot == .normal && (x.landedOn i || x.switchOn p i) then
      .next (s.modField p (fun x => (x.modOut i (fun o => { o with prot := .cooling })).rcIn (0x210 + q.val) 2 1))
    else .next s
  else .next (s.modField p (fun x => x.enterLatch p i true))

/-- The junction of a switching output has cooled: a retry, or LATCHED_OFF when none is left, whose record the next report brings even if
no snapshot comes to show the flag (R249, R281). -/
def Pont.cooled (x : Pont) (q : Fin 32) : Pont :=
  let i := q.val % 8
  let o := vat x.outs i {}
  if o.prot ≠ .cooling then x
  else if 0 < o.retry then x.modOut i (fun o => { o with prot := .normal, retry := o.retry - 1 })
  else
    let o' := { o with prot := .latched }
    (x.modOut i (fun _ => o')).recIn 0x080 (clsFault + 4) (subj (0x20 + q.val)) (o'.diag true) 0

/-- THERMAL_COOLED (R249, R281, R295): a retry, or LATCHED_OFF when none is left; a PQn's junction has cooled. -/
def execThermalCooled (q : Fin 32) (s : State) : Host.Outcome State Fault Refusal :=
  let i := q.val % 8
  if isSwitch q then .next (s.modField (pontOf q) (fun x => if x.running then x.cooled q else x))
  else .next (s.modPont (pontOf q) (fun x => { x with pqs := vmod x.pqs i (fun w => { w with hot := false }) }))

/-- RETRY_RELOAD (R249): on for 1.0 s without a thermal shutdown. -/
def execRetryReload (q : Fin 32) (s : State) : Host.Outcome State Fault Refusal :=
  let p := pontOf q
  let r := (s.pont p).retries p (q.val % 8)
  .next (s.modSwitch q (fun o => if o.prot == .normal then { o with retry := r } else o))

/-- REVERSE_BLOCK (R250). -/
def execReverseBlock (q : Fin 32) (s : State) : Host.Outcome State Fault Refusal :=
  .next (s.modSwitch q (fun o => { o with reverse := true }))

/-- REVERSE_RELEASE (R250): the block ends by itself. -/
def execReverseRelease (q : Fin 32) (s : State) : Host.Outcome State Fault Refusal :=
  .next (s.modSwitch q (fun o => { o with reverse := false }))

/-! ### At a sounding -/

/-- The load flags of a switching output at a sounding (R251). `setup`: its OUT_SETUP word. -/
def OutSt.soundFlags (o : OutSt) (setup : Word) (on dark openOn openOff stuck judged limiting : Bool) : OutSt :=
  let go := judged && !dark
  let flag (en : Bool) (f : Flag4) (when_ shows : Bool) : Flag4 :=
    if !en then {} else if go && when_ then f.judge shows else f
  { o with
    overcurrent := o.overcurrent && limiting && on && !dark
    openOn := flag (bitOf setup 13) o.openOn on openOn
    openOff := flag (bitOf setup 12) o.openOff (!on && !stuck) openOff
    stuck := flag (bitOf setup 11) o.stuck (!on) stuck }

/-- A switching output at a sounding: its flags, its words Q_DIAG and Q_CURRENT. -/
def Pont.soundSwitch (x : Pont) (p i : Nat) (m : SoundingMeas) : Pont × List (Nat × Word) :=
  let q := 8 * p + i
  let o := (vat x.outs i {}).soundFlags (x.outRec.getD q 0) (x.switchOn p i) x.dark (m.openOn.getLsbD i)
    (m.openOff.getLsbD i) (m.stuck.getLsbD i) (m.judged.getLsbD i && x.pastBlank p i) (m.limiting.getLsbD i)
  ({ x with outs := vset x.outs i o }, [(0x210 + q, o.diag true), (0x230 + q, if x.dark then noValue else ofSc (m.current.getD i 0))])

end Sys2Proof.Machine
end

