-- ==== Sys2Proof/Machine/Prop.lean ====
section
/-! DEFINITION. Proportional stages: the PWM period (R283, R289, R296), the trip (R295), what a sounding latches
(R292 to R296, R304, R305), and what a landing and a new charter do to a stage (R286, R295, R299). -/

namespace Sys2Proof.Machine

/-- The stage of PQn: its pontoon. -/
def pontOfPq (n : Fin 8) : Fin 4 := ⟨n.val / 2 % 4, Nat.mod_lt _ (by decide)⟩

/-- The means of the period just ended enter those of the crossing; a period touched by a hail slot is left out, and with the first period of
a grid none has ended (R284, R296). Which duty counts
for a period in which a step at once changed it the spec does not say: the one applied last (log entry 56, DESIGN CHOICE). -/
def PqSt.account (q : PqSt) (dmax i : Int) (v : Nat) : PqSt :=
  if q.touched || q.gridNew then { q with touched := false, gridNew := false, iLast := i, vLast := v }
  else { q with
    iLast := i
    vLast := v
    iMax := if q.n = 0 then i else max q.iMax i
    iMin := if q.n = 0 then i else min q.iMin i
    n := q.n + 1
    iSum := q.iSum + i
    dSum := q.dSum + q.duty
    vSum := q.vSum + v
    nMax := if decide (dmax * 65536 ≤ q.duty) && decide (0 < q.duty) then q.nMax + 1 else q.nMax
    anyFd := q.anyFd || q.fdNow }

/-- One PWM period of stage j: the period just ended is accounted, the loop runs, dither phase and grid go on. A step in the middle of
a period (R290) so uses the phase of the period to come, which the spec does not say (log entry 56, DESIGN CHOICE). -/
def Pont.pwmPeriod (x : Pont) (p j : Nat) (iRaw : Int) (v : Nat) : Pont :=
  let i := x.pqCal p j iRaw
  let x := { x with pqs := vmod x.pqs j (fun q => q.account (dmaxOf (x.pwmDiv p j)) i v) }
  let x := x.loopStep p j i v
  { x with pqs := vmod x.pqs j (fun q => { q with
    phase := q.phase + BitVec.ofNat 24 (x.ditherInc p j)
    elapsed := q.elapsed + x.pwmDiv p j }) }

/-- PWM_PERIOD (R284, R289): the stages run from the first sounding after the modulator clock regenerator has
locked; a stage frozen by its hail slot has its periods suspended (R297) (log entry 36, DESIGN CHOICE). -/
def execPwmPeriod (n : Fin 8) (iRaw : Int) (vf : Nat) (s : State) : Host.Outcome State Fault Refusal :=
  let p := pontOfPq n
  let x := s.pont p
  if x.running && x.periodsRun && !(vat x.pqs (n.val % 2) {}).frozen then
    .next (s.modPont p (fun x => x.pwmPeriod p (n.val % 2) iRaw vf))
  else .next s

/-- PQ_TRIP (R295): both switches open, the PQ latch, its cause. -/
def execPqTrip (n : Fin 8) (thermal : Bool) (s : State) : Host.Outcome State Fault Refusal :=
  let p := pontOfPq n
  let j := n.val % 2
  if !(s.pont p).running then .next s
  else .next (s.modField p (fun x => x.enterLatch p j thermal))

/-! ### At a sounding -/

/-- PQ_I_MEAN (R296; log entry 10, DESIGN CHOICE). -/
def PqSt.iMean (q : PqSt) (dark : Bool) : Option Int := if dark || q.n = 0 then none else some (divOpen q.iSum q.n)

/-- The mean duty in counts (R296; log entry 10, DESIGN CHOICE). -/
def PqSt.dMean (q : PqSt) : Int := if q.n = 0 then 0 else divOpen q.dSum ((q.n * 65536 : Nat) : Int)

/-- PQ_COIL_R in mΩ (R293; log entry 10, DESIGN CHOICE). -/
def PqSt.coil (q : PqSt) (n : Nat) (dark : Bool) : Option Int :=
  match q.iMean dark with
  | some im =>
    if 20000 ≤ im && !q.anyFd && !q.anyHail && q.nMax = 0 then
      some (divOpen ((q.vSum : Int) * q.dSum * 400000) ((2 ^ 32 * q.n : Nat) * q.iSum) - Config.switchRes n q.dMean)
    else none
  | none => none

/-- The flags of R292 and R294 after a sounding that judges. -/
def PqSt.judge (q : PqSt) (w7 : Word) (ref : Int) (coil im : Option Int) (dark : Bool) : PqSt :=
  match im with
  | none => q
  | some i =>
    let openF := if decide (20000 ≤ ref) then q.coilOpen.judge (decide (q.nMax = q.n) && decide (i < 8000)) else q.coilOpen
    { q with
      coilOpen := openF
      rHigh := match coil with
        | some r => q.rHigh.judge (decide (((fld w7 11 0 * 100 : Nat) : Int) < r))
        | none => q.rHigh
      rLow := match coil with
        | some r => q.rLow.judge (decide (r < ((fld w7 23 12 * 100 : Nat) : Int)))
        | none => q.rLow
      unctl := if dark then q.unctl
        else q.unctl.judge (decide (ref + 40000 < i) && decide (q.dSum = 0) && !q.anyFd)
      headroom := if ref = 0 || q.anyFd || openF.on then q.headroom
        else q.headroom.judge (decide (q.n ≤ 2 * q.nMax) && decide (i < ref - 10000)) }

/-- A stage at a sounding: flags, words, and the sums of the next crossing begun (R296, R304, R305). -/
def Pont.soundPq (x : Pont) (p j : Nat) : Pont × List (Nat × Word) :=
  let q0 := vat x.pqs j {}
  let n := 2 * p + j
  let b := pqBase p j
  let im := q0.iMean x.dark
  let coil := q0.coil n x.dark
  let ref := x.refAct p j
  let q := q0.judge (x.pqW p j 7) ref coil im x.dark
  let x := { x with pqs := vset x.pqs j q }
  let x := if q.headroom.on && !q0.headroom.on then x.rcIn (b + 10) 16 1 else x
  let w := x.pqWord p j
  let o := vat x.outs j {}
  let d := o.diag false
  let ext (v : Int) : Word := if im.isNone then noValue else ofSc v
  let words := [(b, w), (b + 2, ofSc o.landed), (b + 3, ofSc ref), (b + 4, ofScO im), (b + 5, ext q.iMax),
    (b + 6, ext q.iMin),
    (b + 7, wd ((if q.n = 0 then 0 else (divOpen ((q.nMax * 100 : Nat) : Int) q.n).toNat) * 65536
      + (min 65535 q.dMean.toNat))),
    (b + 8, match coil with | some r => ofSc r | none => noValue), (b + 9, wd (q.g.toNat / 65536 % 65536)),
    (0x210 + 8 * p + j, d), (0x230 + 8 * p + j, ofScO im)]
  let fresh : PqSt := { q with n := 0, iSum := 0, iMax := 0, iMin := 0, dSum := 0, nMax := 0, vSum := 0, anyFd := q.fdNow,
                               anyHail := q.touched, coilR := coil }
  ({ x with pqs := vset x.pqs j fresh }, words)

/-! ### The regenerator and the grid -/

/-- The periods begin at the first sounding after the regenerator has locked, or afresh at a landing (R284): the
modulator periods between the landing before and the first period of each stage. -/
def Pont.startGrid (x : Pont) (p : Nat) (sinceLanding : Nat) : Pont :=
  { x with pqs := Vector.ofFn (fun (j : Fin 2) =>
      { x.pqs[j] with gridNew := true, elapsed := sinceLanding
          + (if j.val = 1 && x.pwmDiv p 0 == x.pwmDiv p 1 then x.pwmDiv p 0 / 2 else 0) }) }

/-! ### At a landing -/

/-- The time that the stages count from a landing begins at this one, the Quay's count of tide periods being `age` (R286). -/
def Pont.endCrossing (x : Pont) (age : Nat) : Pont :=
  { x with
    pqs := x.pqs.map (fun q => { q with elapsed := q.elapsed - (age - x.landAge) / 2 })
    landAge := age }

/-- A stage at a landing: the new landed setpoint `v`, smoothing (R286). `five`: level 5 decided it before and after. -/
def Pont.landPq (x : Pont) (p j : Nat) (old : Int) (five : Bool) : Pont :=
  let new := (vat x.outs j {}).landed
  { x with pqs := vmod x.pqs j (fun q => { q with
      rOld := old
      smoothing := bitOf (x.pqW p j 0) 7 && five && decide (new ≠ old) }) }

/-- The PQ latch released at a landing at which the landed setpoint is 0 and no level-4 cause holds the output; a thermal
latch not while the junction is hot (R295). -/
def Pont.releasePq (x : Pont) (p j : Nat) : Pont :=
  let q := vat x.pqs j {}
  if q.latch && (vat x.outs j {}).landed == 0 && !x.otherCause p j && !(q.thermal && q.hot) then
    { x with pqs := vset x.pqs j { q with latch := false, trip := false, thermal := false } }
  else x

/-- A charter that takes effect: the dither phase, the grid, and PQ_EN (R284, R288, R299). `old`: before it; `since`: modulator periods
since the last landing. -/
def Pont.newPq (x : Pont) (p : Nat) (old : Pont) (since : Nat) : Pont :=
  let x := { x with pqs := Vector.ofFn (fun (j : Fin 2) =>
    let q := x.pqs[j]
    let redith := x.pwmDiv p j != old.pwmDiv p j || fld (x.pqW p j 1) 23 15 != fld (old.pqW p j 1) 23 15
      || fld (x.pqW p j 1) 2 1 != fld (old.pqW p j 1) 2 1
    { q with phase := if redith then 0 else q.phase, g := if x.pqEn p j && !old.pqEn p j then 0 else q.g }) }
  if x.pwmDiv p 0 != old.pwmDiv p 0 || x.pwmDiv p 1 != old.pwmDiv p 1 then x.startGrid p since else x

end Sys2Proof.Machine
end

