-- ==== Sys2Proof/Machine/Decim.lean ====
section
/-! DEFINITION. The filter block of an analog input (R334 to R337) and its detectors (R344 to R347). -/

namespace Sys2Proof.Machine

/-- log2 of the CIC decimation R of a preset (R334). -/
def presetLog (preset : Nat) : Nat := 5 + 2 * preset

/-- Decimation D of a preset in modulator periods (R334). -/
def presetD (preset : Nat) : Nat := 2 ^ (7 + 2 * preset)

/-- A vector of four of 62 bits added up stage by stage: the integrators (R336 stage 2). -/
def integrate (v : Vector (BitVec 62) 4) (x : BitVec 62) : Vector (BitVec 62) 4 :=
  let a := v[0] + x
  let b := v[1] + a
  let c := v[2] + b
  #v[a, b, c, v[3] + c]

/-- The combs: the output and the values kept (R336 stage 2). -/
def combStage (v : Vector (BitVec 62) 4) (x : BitVec 62) : BitVec 62 × Vector (BitVec 62) 4 :=
  let a := x - v[0]
  let b := a - v[1]
  let c := b - v[2]
  (c - v[3], #v[x, a, b, c])

/-- Scaling so that R^4 becomes 2^28, in 30 bits (R336 stage 3). -/
def cicScale (preset : Nat) (v : BitVec 62) : Int :=
  let l := 4 * presetLog preset
  (BitVec.ofInt 30 (if l ≤ 28 then v.toInt * 2 ^ (28 - l) else v.toInt.fdiv (2 ^ (l - 28)))).toInt

/-- Rounding to nearest, halves towards plus infinity (R336). -/
def roundShift (v : Int) (n : Nat) : Int := if n = 0 then v else (v + 2 ^ (n - 1)).fdiv (2 ^ n)

/-- FIR1: seven taps, linear phase, half-band, so that every second tap from the middle one is zero (R336). -/
def fir1Tap (k : Nat) : Int :=
  match k with
  | 3 => (Config.fir1 0).toInt
  | 2 | 4 => (Config.fir1 1).toInt
  | 0 | 6 => (Config.fir1 3).toInt
  | _ => 0

/-- FIR2: 24 taps, linear phase, a set for each preset (R336). -/
def fir2Tap (preset k : Nat) : Int := (Config.fir2 preset (min k (23 - k))).toInt

/-- A sum of products of coefficients and the latest inputs, latest first, in an accumulator of 60 bits (R336) (log entry 37, DEDUCED). -/
def firSum (coef : Nat → Int) (xs : List Int) : Int :=
  ((xs.zipIdx).foldl (fun (a : BitVec 60) e => a + BitVec.ofInt 60 (coef e.2 * e.1)) 0).toInt

/-- A stage's output in its width (R336). -/
def toBits (n : Nat) (v : Int) : Int := (BitVec.ofInt n v).toInt

/-- A CIC output through FIR1 and FIR2 (R336 stages 4 and 5) (log entry 37, DEDUCED). -/
def Decim.fir (d : Decim) (preset : Nat) (v : Int) : Decim :=
  let f1 := (v :: d.f1).take 7
  let d := { d with f1 := f1, f1odd := !d.f1odd }
  if d.f1odd then d else
  let y := toBits 30 (roundShift (firSum fir1Tap f1) (Config.firShift 1))
  let f2 := (y :: d.f2).take 24
  let d := { d with f2 := f2, f2odd := !d.f2odd }
  if d.f2odd then d
  else { d with out := toBits 32 (roundShift (firSum (fir2Tap preset) f2) (Config.firShift 2)) }

/-- One modulator bit (R336 stages 1 to 5). -/
def Decim.bit (d : Decim) (preset : Nat) (b : Bool) : Decim :=
  let x := d.delay.getD 1 0
  let d := { d with delay := [if b then 1 else -1, d.delay.getD 0 0], integ := integrate d.integ (BitVec.ofInt 62 x) }
  if d.left + 1 < 2 ^ presetLog preset then { d with left := d.left + 1 }
  else
    let r := combStage d.comb d.integ[3]
    { d with left := 0, comb := r.2 }.fir preset (cicScale preset r.1)

/-- The modulator bits up to an output instant. -/
def Decim.bits (d : Decim) (preset : Nat) (bs : List Bool) : Decim := bs.foldl (fun d b => d.bit preset b) d

/-! ### Detectors -/

/-- The largest integer whose square does not exceed x, by fuel of bits. -/
def isqrtUp : Nat → Nat → Nat → Nat
  | 0, r, _ => r
  | k + 1, r, x => isqrtUp k (if (r + 2 ^ k) * (r + 2 ^ k) ≤ x then r + 2 ^ k else r) x

/-- isqrt of R346; its argument is below 2^64. -/
def isqrt (x : Nat) : Nat := isqrtUp 32 0 x

/-- PEAK cleared (R344). -/
def AiSt.clearPeak (a : AiSt) : AiSt := { a with curMax := none, curMin := none, recs := [] }

/-- RMS cleared (R344) (log entry 37, DEDUCED). -/
def AiSt.clearRms (a : AiSt) : AiSt := { a with acc := 0, fill := 0, skipped := false, rms := none, rmsPartial := false }

/-- ENVELOPE cleared (R344). -/
def AiSt.clearEnv (a : AiSt) : AiSt := { a with env := none }

/-- Every detector cleared (R344). -/
def AiSt.clearAll (a : AiSt) : AiSt := a.clearPeak.clearRms.clearEnv

/-- The clearings due at the first sample after a landing (R344). -/
def AiSt.clearDueNow (a : AiSt) : AiSt :=
  let a := if a.clearDue || a.peakClear then a.clearPeak else a
  let a := if a.clearDue || a.rmsClear then a.clearRms else a
  let a := if a.clearDue || a.envClear then a.clearEnv else a
  { a with clearDue := false, peakClear := false, rmsClear := false, envClear := false }

/-- RMS at an output sample (R346) (log entry 37, DEDUCED). -/
def AiSt.runRms (a : AiSt) (rmsLen : Nat) (s : Int) (valid : Bool) : AiSt :=
  if valid then
    let acc := (a.acc + (s * s).toNat / 1024) % 2 ^ 48
    let fill := a.fill + 1
    if rmsLen + 1 ≤ fill then
      { a with
        rms := some (isqrt (acc / (rmsLen + 1) * 1024))
        rmsPartial := a.skipped
        rmsSeq := (a.rmsSeq + 1) % 16
        acc := 0
        fill := 0
        skipped := false }
    else { a with acc := acc, fill := fill }
  else if 0 < a.fill then { a with skipped := true }
  else a

/-- ENVELOPE at a VALID sample (R347). -/
def AiSt.runEnv (a : AiSt) (att rel : Nat) (s : Int) : AiSt :=
  let x := s.natAbs * 65536
  { a with env := some (match a.env with
    | none => x
    | some e => if e < x then e + (x - e) / 2 ^ att else (((e : Int) + ((x : Int) - e).fdiv (2 ^ rel : Nat)).toNat)) }

/-- PEAK at a VALID sample (R345). -/
def AiSt.runPeak (a : AiSt) (s : Int) : AiSt :=
  { a with
    curMax := some (match a.curMax with | some m => max m s | none => s)
    curMin := some (match a.curMin with | some m => min m s | none => s) }

/-- The detectors at an output sample, by the words +2n and +2n+1 of the filter record. -/
def AiSt.detect (a : AiSt) (w0 w1 : Word) (s : Int) (valid dark : Bool) : AiSt :=
  let a := if dark then a.clearAll else a.clearDueNow
  let a := a.runRms (fld w1 23 8) s valid
  if valid then (a.runPeak s).runEnv (fld w0 19 16) (fld w0 15 12) s else a

/-- PEAK_MAX over the closed records (R345). -/
def AiSt.peakMax (a : AiSt) : Option Int :=
  a.recs.foldl (fun m r => match m with
    | some x => some (max x r.2.1)
    | none => some r.2.1) none

/-- PEAK_MIN over the closed records (R345). -/
def AiSt.peakMin (a : AiSt) : Option Int :=
  a.recs.foldl (fun m r => match m with
    | some x => some (min x r.2.2)
    | none => some r.2.2) none

end Sys2Proof.Machine
end

