-- ==== Sys2Proof/Machine/Wake.lean ====
section
/-! DEFINITION. The wake buffer of a pontoon (R352 to R356). -/

namespace Sys2Proof.Machine

/-- WAKE_STATE (R356). -/
def WakeState.code : WakeState → Nat
  | .idle => 0
  | .filling => 1
  | .waiting => 2
  | .capturing => 3
  | .complete => 4
  | .aborted => 5

/-- Whether a capture is in progress (R352). -/
def WakeSt.busy (w : WakeSt) : Bool := w.st == .filling || w.st == .waiting || w.st == .capturing

/-- A capture in progress ends ABORTED; what it held is not kept. -/
def WakeSt.abortBy (w : WakeSt) (why : BitVec 3) : WakeSt :=
  if w.busy then { w with st := .aborted, abort := why, part := [], hit := false, edge := false } else w

/-- Arming or disarming at a landing (R352, R353): the samples before it and the records of earlier triggers stay. -/
def WakeSt.arm (w : WakeSt) (chans : BitVec 4) (trig : Byte) (level : Int) (pre total : Nat) : WakeSt :=
  if trig = 0xFF#8 then { trig := 0xFF, prevS := w.prevS, trigRecs := w.trigRecs }
  else { st := if pre = 0 then .waiting else .filling, chans := chans, trig := trig, level := level, pre := pre,
         total := total, prevS := w.prevS, trigRecs := w.trigRecs }

/-- Whether a sample of channel i is the trigger (R353). -/
def WakeSt.analogTrig (w : WakeSt) (i : Nat) (s : Option Int) : Bool :=
  match s, (w.prevS.getD i none) with
  | some v, some u =>
    (w.trig.toNat == 0x10 + i && decide (w.level ≤ v) && decide (u < w.level))
    || (w.trig.toNat == 0x20 + i && decide (v < w.level) && decide (w.level ≤ u))
  | _, _ => false

/-- The samples of one instant are complete: the buffer and its state (R352). -/
def WakeSt.instant (w : WakeSt) (ws : List Word) (at_ : Stamp) (fine : Nat) : WakeSt :=
  match w.st with
  | .filling =>
    let b := w.buf ++ ws
    { w with buf := b, st := if w.pre ≤ b.length then .waiting else .filling, hit := false, edge := false }
  | .waiting =>
    if w.trig = 0#8 || w.hit || w.edge then
      let w := { w with at_ := at_, fine := fine, trigRecs := w.trigRecs ++ [(at_, fine)], hit := false, edge := false }
      if w.pre = w.total then { w with st := .complete }
      else
        let b := w.buf ++ ws
        { w with buf := b, st := if w.total ≤ b.length then .complete else .capturing }
    else { w with buf := (w.buf ++ ws).drop (w.buf.length + ws.length - w.pre) }
  | .capturing =>
    let b := w.buf ++ ws
    { w with buf := b, st := if w.total ≤ b.length then .complete else .capturing }
  | _ => w

/-- A sample of channel i enters: `s` when it is VALID (R354). Of selected channels whose output instants differ the spec does not say what an
instant is: a set is complete when each has given a sample, and stands at the instant of the last one (R353; log entry 57, DESIGN CHOICE). -/
def WakeSt.sample (w : WakeSt) (i : Nat) (s : Option Int) (at_ : Stamp) (fine : Nat) : WakeSt :=
  if !w.busy then { w with prevS := w.prevS.set i s } else
  let hit := w.st == .waiting && w.analogTrig i s
  let w := { w with hit := w.hit || hit, prevS := w.prevS.set i s }
  if !w.chans.getLsbD i then w else
  let part := w.part ++ [(i, ofScO s)]
  let all := (List.range 4).filter (fun k => w.chans.getLsbD k)
  if all.all (fun k => part.any (fun e => e.1 == k)) then
    { w with part := [] }.instant (all.map (fun k => (assocGet part k).getD noValue)) at_ fine
  else { w with part := part }

/-- A change of the stage-4 level of input k of the pontoon (R353). -/
def WakeSt.digital (w : WakeSt) (k : Nat) (on : Bool) : WakeSt :=
  if w.st == .waiting && w.trig.toNat == (if on then 0x30 else 0x38) + k then { w with edge := true } else w

/-- The words W0 to W3 (R356). -/
def WakeSt.words (w : WakeSt) : List Word :=
  [wd (w.st.code * 2 ^ 21 + w.chans.toNat * 2 ^ 17 + w.trig.toNat * 2 ^ 9 + w.abort.toNat * 64),
   wd (w.at_.crossing / 2 ^ 24), wd w.at_.crossing, wd (w.at_.stroke * 65536 + w.fine * 64)]

end Sys2Proof.Machine
end

