-- ==== Sys2Proof/Machine/Analog.lean ====
section
/-! DEFINITION. Analog inputs, references, excitation and snapshots of a pontoon (R306 to R326, R338 to R342, R351). -/

namespace Sys2Proof.Machine

/-! ### Setups -/

/-- Word +4n+k of the analog record for input i of Pontoon p (R327). -/
def Pont.aiW (x : Pont) (p i k : Nat) : Word := x.aiRec.getD (4 * (4 * p + i) + k) 0

/-- AI_EN. -/
def Pont.aiEn (x : Pont) (p i : Nat) : Bool := bitOf (x.aiW p i 0) 23

/-- RANGE. -/
def Pont.aiRange (x : Pont) (p i : Nat) : Nat := fld (x.aiW p i 0) 22 20

/-- The first of the two group words (R328). -/
def Pont.grpW (x : Pont) (p : Nat) : Word := x.aiRec.getD (64 + 2 * p) 0

/-- REF_SEL. -/
def Pont.refSel (x : Pont) (p : Nat) : Nat := fld (x.grpW p) 23 22

/-- EXC_ON: the excitation is driven (R309). -/
def Pont.excOn (x : Pont) (p : Nat) : Bool := bitOf (x.grpW p) 21 && !x.dark

/-- The filter word +2n+k (R348). -/
def Pont.filW (x : Pont) (p i k : Nat) : Word := x.filRec.getD (2 * (4 * p + i) + k) 0

/-- PRESET in force (R348). -/
def Pont.presetOf (x : Pont) (p i : Nat) : Nat := min 5 (fld (x.filW p i 0) 23 21)

/-- Rated input of a range in sc (R306). -/
def ratedOf (range : Nat) : Int × Int :=
  match range with
  | 1 => (-20000, 1020000)
  | 2 => (-10000, 1025000)
  | 3 => (-25000, 1062500)
  | _ => (-1020000, 1020000)

/-- Measured limits of a range in sc (R306). -/
def measuredOf (range : Nat) : Int × Int :=
  match range with
  | 1 => (-100000, 1200000)
  | 2 => (-50000, 1250000)
  | 3 => (-250000, 1312500)
  | _ => (-1200000, 1200000)

/-- A current range (R306). -/
def isCurrent (range : Nat) : Bool := range == 2 || range == 3

/-- The user correction (R314 step 3). -/
def aiCorrect (off gain : Word) (raw : Int) : Int := ((raw - sc off) * (gain.toNat : Int)).tdiv (2 ^ 22)

/-- First window word of input i of Pontoon p (R331, R351). -/
def aiBase (p i : Nat) : Nat := 0x400 + 0x10 * (4 * p + i)

/-- The group word Gi (R332). -/
def grpAddr (p i : Nat) : Nat := aiBase p i + 15

/-- Whether the check converter is judged wrong (R323). -/
def GrpSt.ckFault (g : GrpSt) : Bool := g.judge == .ckrefOut || g.judge == .split

/-- Whether channels that use IREF are marked (R321, R322). -/
def GrpSt.irefBad (g : GrpSt) : Bool := g.judge == .judging || g.judge == .irefOut || g.judge == .split

/-- Whether a channel carries REF_UNSETTLED (R310, R313, R321, R322). -/
def Pont.unsettled (x : Pont) (p i : Nat) : Bool :=
  let cur := isCurrent (x.aiRange p i)
  (!cur && x.grp.uns) || ((cur || x.refSel p == 0) && x.grp.irefBad)

/-- What a range makes of a voltage at the balls, in sc per 10 µV as a fraction, and its zero point in sc (R9, R306); a current range
has the shunt of 100 Ω. -/
def rangeScale (range : Nat) : Int × Int × Int :=
  match range with
  | 2 => (5, 1, 0)
  | 3 => (25, 4, 250000)
  | 4 => (200, 1, 0)
  | _ => (1, 1, 0)

/-- V_NOM of the group reference in units of 10 µV (R310). -/
def Pont.vNom (x : Pont) (p : Nat) : Nat :=
  match x.refSel p with
  | 0 => 250000
  | 1 => fld (x.grpW p) 15 0 * 10
  | 2 => 500000
  | _ => 2400000

/-- V_NOM of the reference that a channel uses: current ranges use the internal reference (R310). -/
def Pont.vNomOf (x : Pont) (p i : Nat) : Int :=
  if isCurrent (x.aiRange p i) then 250000 else x.vNom p

/-- Whether a channel reads as a ratio to its reference (R310). -/
def Pont.ratiometric (x : Pont) (p i : Nat) : Bool := !isCurrent (x.aiRange p i) && decide (2 ≤ x.refSel p)

/-- s = (V_in / V_ref) × V_NOM / LSB, from the ratio as a fraction (R311; log entry 10, DESIGN CHOICE). -/
def Pont.scaled (x : Pont) (p i : Nat) (num den : Int) : Int :=
  let k := rangeScale (x.aiRange p i)
  divOpen (num * x.vNomOf p i * k.1) (den * k.2.1) - k.2.2

/-- By what the reference of a channel is divided before its converter takes it: VFp by 10 under SUPPLY (R310). -/
def Pont.refDiv (x : Pont) (p i : Nat) : Int := if !isCurrent (x.aiRange p i) && x.refSel p == 3 then 10 else 1

/-- A check conversion in sc: against the group reference of the same frame where the channel reads as a ratio, otherwise against
the bandgap (R318). -/
def Pont.ckScaled (x : Pont) (p i : Nat) (c : CkConv) : Int :=
  if x.ratiometric p i then x.scaled p i c.v c.vref
  else
    let k := rangeScale (x.aiRange p i)
    divOpen (c.v * k.1) (10000 * k.2.1) - k.2.2

/-- ROTATION (R328). -/
def Pont.rotation (x : Pont) (p : Nat) : Word := x.aiRec.getD (65 + 2 * p) 0

/-- The slots of a rotation that hold an item (R318). -/
def slotsOf (rot : Word) (item : Nat) : List Nat := (List.range 8).filter (fun k => fld rot (23 - 3 * k) (21 - 3 * k) == item)

/-- A change of an analog input. -/
def Pont.modAi (x : Pont) (i : Nat) (f : AiSt → AiSt) : Pont := { x with ais := vmod x.ais i f }

/-- A marking starts (R340). -/
def Pont.markSettle (x : Pont) (p i : Nat) : Pont :=
  (x.modAi i (fun a => { a with settle := 14 })).rcIn (aiBase p i + 8) 20 1

/-- REF_UNSETTLED set for a channel starts a marking at once (R340). `old`: the pontoon before. -/
def Pont.markUns (x : Pont) (p : Nat) (old : Pont) : Pont :=
  (List.range 4).foldl (fun y i =>
    if x.aiEn p i && x.unsettled p i && !(old.unsettled p i && old.aiEn p i) then y.markSettle p i else y) x

/-! ### A sample -/

/-- The plausibility judgement of one sample (R320): the flag, its run, and whether it was set just now. -/
def AiSt.plausible (a : AiSt) (bad : Bool) (count : Nat) : AiSt × Bool :=
  if bad = a.plaus then ({ a with plRun := 0 }, false)
  else if count ≤ a.plRun + 1 then ({ a with plaus := bad, plRun := 0 }, bad)
  else ({ a with plRun := a.plRun + 1 }, false)

/-- The instant of a sample, from its distance to the last sounding (R356). -/
def Pont.instantOf (x : Pont) (pos : Int) : Stamp × Nat :=
  let st := x.tide
  let n := pos.toNat
  if st = 0 then (⟨x.crossing, 0⟩, 0) else
  let s := 128 * st
  let r := n % s
  let stroke := 2 * r / st
  (⟨x.crossing + n / s, stroke⟩, (2 * r - stroke * st) / 2)

/-- The judged status of a sample and what it reports: the plausibility flag of R320. -/
def Pont.judgeSample (x : Pont) (p i : Nat) (d : Int) (judged : Bool) : Pont :=
  if !judged then x else
  let w := x.aiW p i 0
  let tol := x.aiW p i 3
  let r := (vat x.ais i {}).plausible (decide (sc tol < d.natAbs)) (fld w 15 8)
  let x := x.modAi i (fun _ => { r.1 with chkDiff := some d, cmpMade := true })
  let x := x.rcIn (aiBase p i + 14) 0 d.natAbs
  if r.2 then ((x.modAi i (fun a => { a with plausNew := true })).rcIn (aiBase p i + 13) 8 1).bellIn bellAnalog else x

/-- A sample outside the rated input (R306, R331, R333). -/
def Pont.overRange (x : Pont) (p i : Nat) (s : Int) : Pont :=
  let lim := ratedOf (x.aiRange p i)
  let a := vat x.ais i {}
  let isOut := decide (s < lim.1) || decide (lim.2 < s)
  let new := isOut && !a.isOut && !a.orNew
  let x := x.modAi i (fun a => { a with
    isOut := isOut
    orHigh := a.orHigh || decide (lim.2 < s)
    orLow := a.orLow || decide (s < lim.1)
    orNew := a.orNew || new })
  if new then ((x.rcIn (aiBase p i + 13) 4 1).bellIn bellAnalog).recIn 0x0A1 clsWarn (subj (0x80 + 4 * p + i)) (ofSc s) 0
  else x

/-- The conversions in the matched filter's span, latest first, and its output, for the channel's slot (R319) (log entry 37,
DEDUCED). -/
def Pont.matched (x : Pont) (p i : Nat) (cks : List CkConv) : List (Int × Bool) × Int :=
  let a := vat x.ais i {}
  let new := cks.map (fun c => (x.ckScaled p i c, c.sat))
  let span := (new.reverse ++ a.conv).take (14 * presetD a.preset / 64)
  (span, Config.matchedFilter a.preset ((slotsOf (x.rotation p) i).headD 0) (span.map (·.1)))

/-- Whether an output instant is the one whose sample goes with a snapshot: its instant less the group delay of 7 periods is
nearest to the slot, the earlier of two equally near (R325). -/
def nearest (pos at_ : Int) (d : Nat) : Bool := decide (2 * (at_ + 7 * d - pos) ≤ d)

/-- The result of a snapshot with the primary sample that goes with it: `raw`, `s` and its VALID; `none` where no sample exists
(R168, R325). -/
def Pont.snapResult (x : Pont) (p : Nat) (w : SnapWait) (prim : Option (Int × Int × Bool)) : SnapRes :=
  let i := w.ch
  let far : Bool := match prim with
    | some (raw, _, _) => decide (sc (x.aiW p i 3) * (fld (x.grpW p) 20 17 : Int) < (raw - w.conv).natAbs)
    | none => Config.noPrimaryFar
  { ch := i
    primary := ofScO (prim.map (fun t => t.2.1))
    check := ofSc (aiCorrect (x.aiW p i 1) (x.aiW p i 2) w.conv)
    flags := BitVec.ofNat 8 (bn far + bn (!((prim.map (fun t => t.2.2)).getD false)) * 2 + bn w.sat * 4) }

/-- Snapshots of channel i that take this output sample (R325). -/
def Pont.takeSnaps (x : Pont) (p i : Nat) (pos : Int) (d : Nat) (prim : Option (Int × Int × Bool)) : Pont :=
  let mine (w : SnapWait) : Bool := w.ch == i && nearest pos w.at_ d
  { x with grp := { x.grp with
      waits := x.grp.waits.filter (fun w => !mine w)
      results := x.grp.results ++ (x.grp.waits.filter mine).map (fun w => x.snapResult p w prim) } }

/-- One output sample of channel i (R311, R314, R320, R325, R338 to R342, R344, R354). An instant while the pontoon is dark or the shunt is
open counts in N_SAMPLES and INVALID_COUNT, as a sample not VALID (log entry 57, DESIGN CHOICE: R342 lets no sample exist then, R351
counts samples VALID or not). -/
def Pont.aiSample (x : Pont) (p i : Nat) (bits : List Bool) (cks : List CkConv) : Pont :=
  let n := 4 * p + i
  let range := x.aiRange p i
  let a := vat x.ais i {}
  let dec := a.dec.bits a.preset bits
  let pos := a.pos + presetD a.preset
  let raw := clampI (-8388607) 8388607 (x.scaled p i (Config.factoryTrim (8 * n + range) dec.out) (2 ^ 28 * x.refDiv p i))
  let lim := measuredOf range
  let s := clampI lim.1 lim.2 (aiCorrect (x.aiW p i 1) (x.aiW p i 2) raw)
  let ck := x.matched p i cks
  let uns := x.unsettled p i
  let settle := if uns then 15 else a.settle
  let none_ := x.dark || a.shunt
  let v0 := !none_ && settle == 0 && !uns
  let x := x.modAi i (fun a => { a with
    dec := dec
    pos := pos
    conv := ck.1
    unsS := uns
    settleS := settle
    settle := if uns then 14 else a.settle - 1
    pause := a.pause - 1
    plaus := a.plaus && !x.grp.ckFault })
  let x := if none_ then x else x.overRange p i s
  let x := x.judgeSample p i (raw - ck.2) (v0 && !ck.1.any (·.2) && a.pause = 0 && !x.grp.ckFault)
  let plaus := (vat x.ais i {}).plaus
  let valid := v0 && !(plaus && bitOf (x.aiW p i 0) 19)
  let x := x.modAi i (fun a => { a with
    plausS := plaus
    valid := valid
    sample := if none_ then none else some s
    nRec := min 4095 (a.nRec + 1) }.detect (x.filW p i 0) (x.filW p i 1) s valid x.dark)
  let x := if valid then x else x.rcIn (aiBase p i + 8) 0 1
  let x := x.takeSnaps p i pos (presetD a.preset) (if none_ then none else some (raw, s, valid))
  let t := x.instantOf pos
  { x with wake := x.wake.sample i (if valid then some s else none) t.1 t.2 }

/-- The pontoon of an analog input. -/
def pontOfAi (n : Fin 16) : Fin 4 := ⟨n.val / 4 % 4, Nat.mod_lt _ (by decide)⟩

/-- Conversions of the check converter, from their voltages and whether each saturated (R318). -/
def ckConvs (vs : List (Int × Int)) (sats : List Bool) : List CkConv :=
  vs.zipIdx.map (fun e => ⟨e.1.1, e.1.2, sats.getD e.2 false⟩)

/-- ANALOG_SAMPLE (R314): the next output instant of an enabled channel of a running pontoon whose modulator clock
regenerator has locked (log entry 36, DESIGN CHOICE). -/
def execAnalogSample (n : Fin 16) (bits : List Bool) (cks : List (Int × Int)) (sats : List Bool) (s : State) :
    Host.Outcome State Fault Refusal :=
  let p := pontOfAi n
  let x := s.pont p
  if x.running && x.regLocked && x.aiEn p (n.val % 4) then
    .next (s.modPont p (fun x => x.aiSample p (n.val % 4) bits (ckConvs cks sats)))
  else .next s

/-! ### Shunts and excitation -/

/-- SHUNT_TRIP (R308). -/
def execShuntTrip (n : Fin 16) (s : State) : Host.Outcome State Fault Refusal :=
  let p := pontOfAi n
  let i := n.val % 4
  let x := s.pont p
  if x.running && x.aiEn p i && isCurrent (x.aiRange p i) && !(vat x.ais i {}).shunt then
    .next (s.modPont p (fun x =>
      (((x.modAi i (fun a => { a with shunt := true, sample := none, valid := false })).rcIn (aiBase p i + 13) 0 1).bellIn
        bellAnalog).recIn 0x0A2 (clsFault + 4) (subj (0x80 + n.val)) 0 0))
  else .next s

/-- SHUNT_RECLOSE (R308, R340). -/
def execShuntReclose (n : Fin 16) (s : State) : Host.Outcome State Fault Refusal :=
  let p := pontOfAi n
  let i := n.val % 4
  if (s.pont p).running && (vat (s.pont p).ais i {}).shunt then
    .next (s.modPont p (fun x => (x.modAi i (fun a => { a with shunt := false })).markSettle p i))
  else .next s

/-- EXC_LIMIT (R309): an entry to the limit; its record is written with the current of the next sounding. -/
def execExcLimit (p : Fin 4) (s : State) : Host.Outcome State Fault Refusal :=
  let x := s.pont p
  if x.excOn p then
    .next (s.modPont p (fun x =>
      ({ x with grp := { x.grp with excLim := true, excNew := true } }.rcIn (grpAddr p 2) 16 1).bellIn bellAnalog))
  else .next s

/-! ### References (R312, R313, R321) -/

/-- A change of the group reference: REF_UNSETTLED and the minimum settling in windows (R312, R313). -/
def GrpSt.change (g : GrpSt) (minWins : Nat) : GrpSt :=
  { g with uns := true, changed := true, wins := 0, minWins := minWins, stable := 0 }

/-- The minimum settling of a group in windows of 1 ms (R312). `excWas`: the excitation was on already. -/
def Pont.minSettle (x : Pont) (p : Nat) (excWas : Bool) : Nat :=
  match x.refSel p with
  | 1 => 2
  | 2 => if excWas then 1 else 5
  | _ => 1

/-- One window of the group reference (R312, R313) (log entry 37, DEDUCED). -/
def Pont.refWatch (x : Pont) (p : Nat) (v : Nat) : Pont :=
  let g := x.grp
  let nom := x.vNom p
  let supply := x.refSel p == 3
  let near := supply || decide (((v : Int) - nom).natAbs * 200 ≤ nom)
  let still := match g.lastVref with
    | some l => decide (((v : Int) - l).natAbs * 10000 < l)
    | none => false
  let put (g : GrpSt) : Pont := { x with grp := { g with lastVref := some v, vref := v } }
  if g.uns then
    let stable := if g.minWins ≤ g.wins && still && near then g.stable + 1 else 0
    if 2 ≤ stable then put { g with uns := false, changed := false, stable := 0, wins := 0 }
    else put { g with stable := stable, wins := min (g.wins + 1) 100 }
  else if near then put g
  else ((((put { g with uns := true, changed := false, wins := 0, minWins := 0, stable := 0 }).rcIn (grpAddr p 0) 8 1).bellIn
      bellAnalog).recIn 0x0A3 (clsFault + 4) (subj (0x10 + p)) (wd v) 0)

/-- VREF_MEAS (R332): no value while dark, and before the check converter has measured the reference. -/
def Pont.vrefMeas (x : Pont) : Word := if x.dark || x.grp.lastVref.isNone then noValue else wd x.grp.vref

/-- A window in which the reference is not judged: only the time of its settling passes (R312, R313). -/
def Pont.refWait (x : Pont) : Pont :=
  if x.grp.uns then { x with grp := { x.grp with stable := 0, wins := min (x.grp.wins + 1) 100 } } else x

/-- The sum of two ratios of numbers. -/
def ratSum (a b : Nat × Nat) : Nat × Nat := (a.1 * b.2 + b.1 * a.2, a.2 * b.2)

/-- The mean of the ratios held; denominator 0 when there is none. -/
def meanRatio (l : List (Nat × Nat)) : Nat × Nat :=
  match l with
  | [] => (0, 0)
  | _ => let t := l.foldl ratSum (0, 1); (t.1, t.2 * l.length)

/-- Whether a/A differs from 1 by at most `k` tenths of a percent. -/
def within (k : Nat) (a b : Nat × Nat) : Bool :=
  let l := a.1 * b.2
  let r := b.1 * a.2
  decide (((l : Int) - r).natAbs * 1000 ≤ k * r)

/-- The judgement of one window (R321) (log entry 37, DEDUCED). -/
def Pont.refJudgeStep (x : Pont) (p : Nat) (a sm : Nat × Nat) : Pont :=
  let g := x.grp
  let bigA := meanRatio g.aWin
  let bigS := meanRatio g.sWin
  let known := !g.aWin.isEmpty
  let dev := if known then clampI (-127) 127
      (divOpen ((((a.1 * bigA.2 : Nat) : Int) - (bigA.1 * a.2 : Nat)) * 10000) ((bigA.1 * a.2 : Nat) : Int)) else 0
  let put (g : GrpSt) : Pont := { x with grp := { g with irefDev := dev } }
  let rec_ (x : Pont) (code cls : Nat) : Pont :=
    x.recIn code cls (subj (0x10 + p)) (wd (BitVec.ofInt 8 dev).toNat) 0
  match g.judge with
  | .agree =>
    let far := known && !within 3 a bigA
    if far && decide (2 ≤ g.run + 1) then
      (put { g with judge := .judging, run := 0, jruns := 0 }).bellIn bellAnalog
    else
      let keep := within 1 a (1, 1)
      put { g with
        run := if far then g.run + 1 else 0
        aWin := if keep then (a :: g.aWin).take 16 else g.aWin
        sWin := if keep then (sm :: g.sWin).take 16 else g.sWin }
  | .judging =>
    let sOk := within 1 sm bigS
    let qOk := within 1 (sm.1 * a.2, sm.2 * a.1) (bigS.1 * bigA.2, bigS.2 * bigA.1)
    if within 1 a bigA then rec_ (put { g with judge := .agree, run := 0 }) 0x0A6 (clsWarn + 4)
    else if sOk && !qOk then rec_ (put { g with judge := .irefOut }) 0x0A4 (clsFault + 4)
    else if qOk && !sOk then
      rec_ { (put { g with judge := .ckrefOut }) with ais := x.ais.map (fun c => { c with plaus := false }) } 0x0A4
        (clsFault + 4)
    else if g.jruns < 2 then put { g with jruns := g.jruns + 1 }
    else rec_ { (put { g with judge := .split }) with ais := x.ais.map (fun c => { c with plaus := false }) } 0x0A5
        (clsFault + 4)
  | _ => put g

/-- REF_WINDOW (R312, R313, R321): the end of a 1 ms window; while dark, and with an empty store, the group is not judged (R49, R332)
(log entry 37, DEDUCED). -/
def execRefWindow (p : Fin 4) (w : RefMeas) (s : State) : Host.Outcome State Fault Refusal :=
  let x := s.pont p
  let lit : Pont := { x with grp := { x.grp with litWins := min (x.grp.litWins + 1) 100 } }
  if !x.running then .next s
  else if x.dark then .next (s.modPont p (fun _ => x.refWait))
  else if x.setup.isEmpty then .next (s.modPont p (fun _ => lit.refWait))
  else .next (s.modPont p (fun _ => ((lit.refWatch p w.vref).refJudgeStep p (w.iref, w.ckref) (w.smref, w.ckref)).markUns p x))

/-- REF_STUCK (R312, R333): still unsettled 50 ms after a change. -/
def execRefStuck (p : Fin 4) (s : State) : Host.Outcome State Fault Refusal :=
  let x := s.pont p
  if x.running && x.grp.uns && x.grp.changed then
    .next (s.modPont p (fun x => (x.bellIn bellAnalog).recIn 0x0A3 (clsFault + 4) (subj (0x10 + p.val)) x.vrefMeas 0))
  else .next s

/-! ### Snapshots (R325) -/

/-- SNAPSHOT_CONVERSION (R318, R325): the oldest snapshot that the manifests have asked for, from the sounding after its landing on,
in the first free slot of the rotation that no other has taken; a frame lasts 64 modulator periods, a slot 8. -/
def execSnapshotConversion (p : Fin 4) (v vref : Int) (low high : Bool) (s : State) :
    Host.Outcome State Fault Refusal :=
  let c : CkConv := ⟨v, vref, low || high⟩
  let x := s.pont p
  let free := slotsOf (x.rotation p) 7
  match x.grp.snaps with
  | [] => .next s
  | (i, from_) :: rest =>
    if !x.running || free.isEmpty || decide (x.crossing < from_) then .next s else
    let k := x.grp.slotsUsed
    let w : SnapWait := ⟨i, x.ckScaled p i c, c.sat, ((64 * (k / free.length) + 8 * free.getD (k % free.length) 0 : Nat) : Int)⟩
    .next (s.modPont p (fun x => { x with grp := { x.grp with
      snaps := rest, waits := x.grp.waits ++ [w], slotsUsed := k + 1 } }))

/-- At a sounding: the slots of a new crossing; the snapshots that wait, in its count; those of a channel with no samples to come
end without one (R325). -/
def Pont.soundSnaps (x : Pont) (p : Nat) : Pont :=
  let off (w : SnapWait) : Bool := !x.aiEn p w.ch
  { x with grp := { x.grp with
      slotsUsed := 0
      waits := (x.grp.waits.filter (fun w => !off w)).map (fun w => { w with at_ := w.at_ - x.soundGap })
      results := x.grp.results ++ (x.grp.waits.filter off).map (fun w => x.snapResult p w none) } }

/-! ### At a sounding -/

/-- A decimator reset at this sounding (R339, R340, R344, R352). -/
def Pont.resetDecim (x : Pont) (p i : Nat) : Pont :=
  let pre := x.presetOf p i
  let x := x.modAi i (fun a => { a.clearAll with
    dec := {}, conv := [], preset := pre, pos := 0, sample := none, valid := false, resetDue := false })
  let x := (x.markSettle p i).rcIn (aiBase p i + 8) 16 1
  if x.wake.chans.getLsbD i then { x with wake := x.wake.abortBy 2 } else x

/-- LATEST as shown (R342). -/
def AiSt.latest (a : AiSt) (en dark : Bool) : Word := if en && !dark then ofScO a.sample else noValue

/-- Where the last output instant of a channel lies at a sounding `gap` periods on: the instants lie every D periods from the last
reset (R338), and those of a channel that gives no samples pass as well (R351). -/
def AiSt.posAfter (a : AiSt) (en : Bool) (gap : Int) : Int :=
  let pos := a.pos - gap
  if en || decide (0 ≤ pos) then pos else -(((-pos).toNat % presetD a.preset : Nat) : Int)

/-- The record of input i closed at a sounding: its words (R331, R351) and what standing orders read (R84, R85). `sat`: its check conversions
saturated in the crossing. -/
def Pont.soundAi (x : Pont) (p i : Nat) (sat : Bool) : Pont × List (Nat × Word) × AiRep :=
  let en := x.aiEn p i
  let b := aiBase p i
  let a0 := vat x.ais i {}
  let a := { a0 with
    pos := a0.posAfter en x.soundGap
    recs := ((match a0.curMax, a0.curMin with | some u, some v => [(x.crossing, u, v)] | _, _ => []) ++ a0.recs).filter
      (fun e => decide (x.crossing < e.1 + fld (x.filW p i 0) 11 4)) }
  let a := if x.dark then a.clearAll else a
  let dark := x.dark
  let lat := a.latest en dark
  let none_ := lat == noValue
  let val := a.valid && !none_
  let status := wd (bn val * 2 ^ 23 + bn (a.settleS ≠ 0) * 2 ^ 22 + bn (a.isOut && !none_) * 2 ^ 21 + bn a.plaus * 2 ^ 20
    + bn a.unsS * 2 ^ 19 + a.settleS * 2 ^ 15 + a.preset * 2 ^ 12 + a.nRec)
  let per (v : Bool) (k : Nat) : Nat := bn (v && !dark) * 2 ^ k
  let env := a.env.map (fun e => ((e / 65536 : Nat) : Int))
  let rms := a.rms.map (fun r => (r : Int))
  let words := [(b, lat), (b + 1, status), (b + 2, ofScO a.peakMax), (b + 3, ofScO a.peakMin), (b + 4, ofScO rms),
    (b + 5, ofScO env), (b + 6, wd (a.rmsSeq * 2 ^ 20 + bn a.rmsPartial * 2 ^ 19 + a.fill)),
    (b + 7, if none_ then noValue else wd (-a.pos).toNat),
    (b + 11, (x.wake.words).getD i 0),
    (b + 12, if dark then noValue else ofScO a.chkDiff),
    (b + 13, wd (bn a.plaus * 2 ^ 23 + per sat 22 + per a.cmpMade 21 + per a.orHigh 20 + per a.orLow 19
      + bn a.shunt * 2 ^ 18 + x.aiRange p i * 2 ^ 15))]
  let rep : AiRep := { latest := lat, valid := val, peak := ofScO a.peakMax, rms := ofScO rms, env := ofScO env,
                       uns := x.unsettled p i }
  let x := if a.plausNew then x.recIn 0x0A0 clsFault (subj (0x80 + 4 * p + i)) (ofScO a.chkDiff) (x.aiW p i 3) else x
  let x := x.modAi i (fun _ => { a with
    plausNew := false, nRec := 0, curMax := none, curMin := none, chkDiff := none, cmpMade := false, orHigh := false,
    orLow := false, orNew := false })
  (x, words, rep)

/-- The four group words at a sounding (R332); SNAP_OUT is the helms'. -/
def Pont.groupWords (x : Pont) (p : Nat) (m : SoundingMeas) : List (Nat × Word) :=
  let g := x.grp
  let irefOk := !(g.judge == .irefOut || g.judge == .split)
  let code := match g.judge with
    | .agree => 0
    | .judging => 1
    | .irefOut => 2
    | .ckrefOut => 3
    | .split => 4
  [(grpAddr p 0, wd (x.refSel p * 2 ^ 22 + bn g.uns * 2 ^ 21 + code * 2 ^ 18 + bn irefOk * 2 ^ 17 + bn (!g.ckFault) * 2 ^ 16
      + (BitVec.ofInt 8 g.irefDev).toNat)),
   (grpAddr p 1, x.vrefMeas),
   (grpAddr p 2, wd (bn (x.excOn p) * 2 ^ 23 + bn (g.excLim && x.excOn p) * 2 ^ 22
      + (if x.excOn p then min 65535 m.excI else 0))),
   (grpAddr p 3, wd (bn g.ckFault * 2 ^ 23))]

/-- The excitation at a sounding: the limit flag follows the measurement, a new limiting is recorded (R309, R333). -/
def Pont.soundExc (x : Pont) (p : Nat) (m : SoundingMeas) : Pont :=
  let x := if x.grp.excNew then
      x.recIn 0x0A7 (clsWarn + 4) (subj (0x10 + p)) (wd (if x.excOn p then min 65535 m.excI else 0)) 0 else x
  { x with grp := { x.grp with excNew := false, excLim := x.grp.excLim && m.excLimiting && x.excOn p } }

/-! ### A charter that takes effect -/

/-- What a new charter does to the analog group (R312, R313, R315, R339, R344, R352). `old`: the pontoon before it. A store loaded
after a restart is no change of a reference or a range: the settling runs from the start of the logic, for SUPPLY from the release of DARK, and for
EXCITATION, which it switches on, from the load (R313; log entry 37, DEDUCED). -/
def Pont.newAnalog (x : Pont) (p : Nat) (old : Pont) : Pont :=
  let first := old.setup.isEmpty
  let refCh := !first && (x.refSel p != old.refSel p || bitOf (x.grpW p) 21 != bitOf (old.grpW p) 21
    || fld (x.grpW p) 15 0 != fld (old.grpW p) 15 0)
  let least := x.minSettle p (old.excOn p)
  let x := if refCh then { x with grp := x.grp.change least }
    else if first then
      { x with grp := { x.grp with
        minWins := least
        wins := match x.refSel p with
          | 2 => 0
          | 3 => x.grp.litWins
          | _ => x.grp.wins } }
    else x
  let x := (List.range 4).foldl (fun x i =>
    let rangeCh := x.aiRange p i != old.aiRange p i
    let enCh := x.aiEn p i != old.aiEn p i
    let preCh := x.presetOf p i != old.presetOf p i
    let w0 := x.filW p i 0
    let v0 := old.filW p i 0
    let x := x.modAi i (fun a => { a with
      clearDue := a.clearDue || rangeCh || enCh
      peakClear := a.peakClear || fld w0 11 4 != fld v0 11 4
      rmsClear := a.rmsClear || x.filW p i 1 != old.filW p i 1
      envClear := a.envClear || fld w0 19 12 != fld v0 19 12
      resetDue := a.resetDue || preCh || (x.aiEn p i && !old.aiEn p i)
      pause := if slotsOf (x.rotation p) i != slotsOf (old.rotation p) i then 14 else a.pause
      sample := if x.aiEn p i then a.sample else none
      valid := a.valid && x.aiEn p i
      shunt := a.shunt && isCurrent (x.aiRange p i) })
    let x := if !first && (rangeCh || enCh) && x.aiEn p i then x.markSettle p i else x
    if (rangeCh || enCh || preCh) && x.wake.chans.getLsbD i then { x with wake := x.wake.abortBy 1 } else x) x
  let x := x.markUns p old
  if refCh then { x with wake := x.wake.abortBy 1 } else x

end Sys2Proof.Machine
end

