-- ==== Sys2Proof/Machine/Frames.lean ====
section
/-! DEFINITION. Gangway frames (R367 to R373): the check of a frame at its receiver, the ports of a pontoon, and what the
payload of a manifest holds in this model (R187; log entry 8, DESIGN CHOICE). -/

namespace Sys2Proof.Machine

/-- GF_TYPE (R368). -/
def frTyp (f : RxFrame) : Nat := fld f.gf 23 20

/-- GF_SEQ (R368). -/
def frSeq (f : RxFrame) : Byte := BitVec.ofNat 8 (fld f.gf 12 5)

/-- The number of a helm in the gangway code (R370). -/
def helmBit : HelmId → Nat
  | .a => 0
  | .b => 1

/-- The code of a helm in MH_SENDER, MH_VIEW and HOLDER fields (R187, R217). -/
def helmCode : HelmId → Nat
  | .a => 1
  | .b => 2

/-- The code of a helm, or none (R217). -/
def helmCodeO : Option HelmId → Nat
  | some h => helmCode h
  | none => 0

/-- The helm of a code; none for a reserved one (R187). -/
def helmOfCode (c : Nat) : Option HelmId :=
  match c with
  | 1 => some .a
  | 2 => some .b
  | _ => none

/-- The CRC of a frame (R370): seven fold bytes, then GF and the payload. `up`: from pontoon to helm. -/
def frameCrc (crossing : Nat) (up : Bool) (h : HelmId) (p : Nat) (f : RxFrame) : Word :=
  crc24 (bytesOfNat 6 crossing ++ [BitVec.ofNat 8 (8 * bn up + 4 * helmBit h + p)] ++ bytesOfWords (f.gf :: f.payload))

/-- The most payload words a type allows (R369). -/
def maxPayload (t : Nat) : Nat :=
  match t with
  | 1 => 56
  | 2 => 40
  | 7 => 2
  | _ => 64

/-- Whether a frame of type t passes the checks of R372 at its receiver. -/
def frPasses (f : RxFrame) (t crossing : Nat) (up : Bool) (h : HelmId) (p : Nat) : Bool :=
  frTyp f == t && fld f.gf 19 13 == f.payload.length && decide (f.payload.length ≤ maxPayload t)
  && (t != 7 || f.payload.length == 2) && f.crc == frameCrc crossing up h p f

/-! ### The gangway ports of a pontoon -/

/-- The port of a pontoon for a helm. -/
def Pont.gw (x : Pont) (h : HelmId) : GwPort :=
  match h with
  | .a => x.gwA
  | .b => x.gwB

/-- A change of a port of a pontoon. -/
def Pont.modGw (x : Pont) (h : HelmId) (f : GwPort → GwPort) : Pont :=
  match h with
  | .a => { x with gwA := f x.gwA }
  | .b => { x with gwB := f x.gwB }

/-- Where CRC_ERR of the gangway of a helm is counted (R381) (log entry 39, DEDUCED). -/
def crcErrKey (p : Nat) (h : HelmId) : RcKey := ⟨0x506 + 0x10 * p, match h with | .a => 12 | .b => 0⟩

/-- GW_DOWN is set (R373, R383). -/
def Pont.setGwDown (x : Pont) (p : Nat) (h : HelmId) : Pont :=
  let was := (x.gw h).up
  let x := x.modGw h (fun g => { g with up := false, beats := 0, discards := 0 })
  if was then ((x.rcIn (0x505 + 0x10 * p) 0 1).bellIn bellField).recIn 0x0C5 (clsFault + 4) (subj (0x10 + p))
    (wd (helmCode h)) 0
  else x

/-- A frame that arrives: whether it passes, and what the port counts (R372, R373) (log entry 39, DEDUCED). -/
def Pont.rxFrame (x : Pont) (p : Nat) (h : HelmId) (f : RxFrame) (t crossing : Nat) : Bool × Pont :=
  let g := x.gw h
  let key := crcErrKey p h
  if frPasses f t crossing false h p then
    let gap := g.seq.any (fun q => frSeq f != q + 1)
    let x := x.modGw h (fun g => { g with seq := some (frSeq f), discards := 0, up := g.up || decide (64 ≤ g.beats) })
    (true, if gap then x.rcIn key.addr key.lo 1 else x)
  else
    let n := g.discards + 1
    let x := (x.modGw h (fun g => { g with discards := n })).rcIn key.addr key.lo 1
    (false, if 4 ≤ n then x.setGwDown p h else x)

/-! ### Manifests (R187; the payload's layout is this model's, log entry 8, DESIGN CHOICE) -/

/-- MH_VIEW of a manifest. -/
def manView (m : List Word) : Option HelmId := helmOfCode (fld (m.getD 0 0) 21 20)

/-- MH_PROVING of a manifest. -/
def manProving (m : List Word) : Bool := bitOf (m.getD 0 0) 19

/-- A manifest is present: sender and view are legal, the sender is the helm of the gangway, and MH_LEN is its length
(R187) (log entry 8, DESIGN CHOICE; log entry 39, DEDUCED). -/
def manOk (m : List Word) (h : HelmId) : Bool :=
  helmOfCode (fld (m.getD 0 0) 23 22) == some h && (manView m).isSome
  && fld (m.getD 0 0) 17 12 + 1 == m.length && decide (2 ≤ m.length)

/-- The level-5 value a manifest gives output i (word 1: bit i; words 2 and 3: the setpoints of the PQ stages) (log entry 8, DESIGN CHOICE). -/
def manValue (m : List Word) (i : Nat) : Int :=
  if i < 2 then sc (m.getD (2 + i) 0) else if bitOf (m.getD 1 0) i then 1 else 0

/-- A request as words: 1 snapshot, 2 CT_ZERO, 3 wake buffer, 4 decimator reset (log entry 8, DESIGN CHOICE). -/
def ManReq.words : ManReq → List Word
  | .snap n => [wd (1 * 2 ^ 20 + n)]
  | .ctZero i => [wd (2 * 2 ^ 20 + i)]
  | .wake c t l p n => [wd (3 * 2 ^ 20 + c.toNat * 2 ^ 16 + t.toNat * 256), BitVec.ofInt 24 l, wd p, wd n]
  | .decim => [wd (4 * 2 ^ 20)]

/-- The requests of a manifest, by fuel (log entry 8, DESIGN CHOICE). -/
def manReqs : Nat → List Word → List ManReq
  | 0, _ => []
  | _ + 1, [] => []
  | n + 1, w :: tl =>
    match fld w 23 20 with
    | 1 => .snap (fld w 3 0) :: manReqs n tl
    | 2 => .ctZero (fld w 1 0) :: manReqs n tl
    | 3 => .wake (BitVec.ofNat 4 (fld w 19 16)) (BitVec.ofNat 8 (fld w 15 8)) (sc (tl.getD 0 0)) (tl.getD 1 0).toNat
        (tl.getD 2 0).toNat :: manReqs n (tl.drop 3)
    | 4 => .decim :: manReqs n tl
    | _ => manReqs n tl

/-- A manifest of a pontoon: header, values and requests (log entry 8, DESIGN CHOICE). -/
def manBuild (sender view : HelmId) (proving arb : Bool) (sw : Nat) (pq0 pq1 : Int) (reqs : List ManReq) : List Word :=
  let body := [wd sw, ofSc pq0, ofSc pq1] ++ (reqs.map ManReq.words).flatten
  wd (helmCode sender * 2 ^ 22 + helmCode view * 2 ^ 20 + bn proving * 2 ^ 19 + bn arb * 2 ^ 18 + body.length * 2 ^ 12)
    :: body

end Sys2Proof.Machine
end

