-- ==== Sys2Proof/Machine/Pontoon.lean ====
section
/-! DEFINITION. A pontoon's crossing (R43 to R55, R187 to R192, R260 to R272, R359 to R363, R373): beats, the sounding and
its report, the comparison, the landing, silence, supply sag, stop and restart. -/

namespace Sys2Proof.Machine

/-! ### Beats (R43, R44) -/

/-- The helm whose gangway a pontoon follows: the holder's, or the other's when those beats are missing (R43); GW_DOWN set for discarded
frames leaves the beats. Which it follows while it
knows no holder the spec does not say: Helm A's (log entry 56, DESIGN CHOICE). -/
def Pont.follows (x : Pont) : HelmId :=
  let h := x.holder.getD .a
  if !(x.gw h).alive && (x.gw (otherHelm h)).alive then otherHelm h else h

/-- A beat symbol at a pontoon: the port, the regenerator, and on the gangway it follows the marks and the crossing. A beat interval that
another gangway's beat has counted is not counted again (R43). -/
def Pont.beat (x : Pont) (h : HelmId) : Pont :=
  match (x.gw h).slip with
  | [] => x
  | m :: rest =>
    let x := x.modGw h (fun g => { g with slip := rest, alive := true, beats := min 64 (g.beats + 1) })
    if x.follows ≠ h || decide (m.no ≤ x.lastBeat) then x else
    let x := { x with regBeats := min 64 (x.regBeats + 1), lastBeat := m.no }
    match m.mark with
    | .plain => x
    | .sounding => { x with mark := .sounding, crossing := x.crossing + 1 }
    | .landing => { x with mark := .landing }

/-- A pontoon with all its state lost (R363); the levels at its terminals and the samples that show them are the field's: what the prefilter
holds as the logic starts again the spec does not say (log entry 57, DESIGN CHOICE); the beat slips are the helms'. -/
def Pont.lost (x : Pont) : Pont :=
  { ins := x.ins.map (fun d => { raw := d.raw, cmp := d.cmp, cmpRun := d.cmpRun })
    gwA := { slip := x.gwA.slip }
    gwB := { slip := x.gwB.slip } }

/-- A pontoon as its logic starts (R363): DARK, an empty store, every reference unsettled, counters from 0. -/
def Pont.started (x : Pont) (p : Nat) : Pont :=
  let x := { x.lost with
    running := true
    configuring := true
    startDark := true
    sag := 0b1000
    silence := true
    safenLow := true
    cts := Vector.replicate 4 { started := true, gap := true }
    grp := { minWins := 1 } }
  (((x.shedNow p).rcIn (0x505 + 0x10 * p) 8 1).bellIn bellField).recIn 0x0C6 (clsFault + 4) (subj (0x10 + p)) 0 0

/-- BEAT (R43, R391): a pontoon stopped for MOORED restarts with the first beats after the wake, from a helm that has completed
start-up. That its VFp is at or above VSTART the model takes from its not having stopped (R363; log entry 55, DESIGN CHOICE). -/
def execBeat (p : Fin 4) (h : HelmId) (s : State) : Host.Outcome State Fault Refusal :=
  let x := s.pont p
  if x.running then .next (s.modPont p (fun x => x.beat h))
  else if x.mooredStop && s.tb.tides && s.mode != .moored && (s.helm h).svc.inService && !(x.gw h).slip.isEmpty then
    .next (s.modPont p (fun y => (y.started p).beat h))
  else .next (s.modPont p (fun x => x.modGw h (fun g => { g with slip := g.slip.drop 1 })))

/-- REGENERATOR_LOCK (R43, R284, R339): the 64th beat; the grid and the decimators begin at the next sounding. -/
def execRegeneratorLock (p : Fin 4) (s : State) : Host.Outcome State Fault Refusal :=
  let x := s.pont p
  if x.running && x.regBeats = 64 && !x.regLocked then
    .next (s.modPont p (fun x => { x with regLocked := true, gridDue := true, decimDue := true }))
  else .next s

/-! ### The sounding (R52, R53) -/

/-- DI words of a pontoon (R243). -/
def Pont.diWords (x : Pont) (p : Nat) (m : SoundingMeas) : List (Nat × Word) :=
  let valid (i : Nat) : Bool := (vat x.ins i {}).valid (x.inEn p i) x.dark
  let on (i : Nat) : Bool := (vat x.ins i {}).state && valid i
  let wb (i : Nat) : Bool := (vat x.ins i {}).wb && !x.dark
  [(0x100 + p, wd (maskOf 8 on * 2 ^ 16 + maskOf 8 valid * 256 + maskOf 8 wb)),
   (0x104 + p, wd (if x.dark then 0 else m.fold.toNat * 16))]

/-- The output words of a pontoon (R278): Q_HOST and Q_FORCED are the helms'. -/
def Pont.outWords (x : Pont) (p : Nat) : List (Nat × Word) :=
  let on (i : Nat) : Bool := if i < 2 then decide (0 < x.refAct p i) else x.switchOn p i
  let o (i : Nat) : OutSt := vat x.outs i {}
  [(0x200 + p, wd (maskOf 8 on * 2 ^ 16 + maskOf 8 (fun i => decide (0 < (o i).landed)) * 256)),
   (0x204 + p, wd (maskOf 8 (fun i => (o i).held) * 2 ^ 16 + maskOf 8 (fun i => (o i).shed || (o i).queued) * 256)),
   (0x20C + p, wd (maskOf 4 (fun j => (vat x.rx j {}).trig) * 2 ^ 20
      + maskOf 4 (fun j => bitOf (x.rxWord p j) 18 && !(vat x.rx j {}).trig && (vat x.rx j {}).hold != 0) * 2 ^ 16))]

/-- The block Fp of a pontoon (R381); IN_SERVICE is the helms'. -/
def Pont.fieldWords (x : Pont) (p : Nat) (m : SoundingMeas) : List (Nat × Word) :=
  let f := 0x500 + 0x10 * p
  [(f, wd (x.vfState * 2 ^ 21 + bn (x.sag.getLsbD 0) * 2 ^ 20 + bn x.vfOver * 2 ^ 19 + bn x.gwA.up * 2 ^ 18
      + bn x.gwB.up * 2 ^ 17 + bn m.skew * 2 ^ 16 + bn x.safenLow * 2 ^ 15 + bn x.silence * 2 ^ 14
      + bn x.configuring * 2 ^ 13 + x.queue.length % 16 * 2 ^ 8)),
   (f + 1, ofSc m.vf), (f + 4, wd (min 65535 m.ivf * 256)), (f + 7, wd (m.tjDie.toNat * 4096 + m.tjHot.toNat))]

/-- SAFEn and the lanes as a sounding finds them (R262, R375, R377). -/
def Pont.soundLines (x : Pont) (p : Nat) (m : SoundingMeas) (vddio : Bool) : Pont :=
  let lv (l : Nat) : Bool := m.dl.getLsbD (2 * p + l) && vddio
  let x := { x with safenLow := !m.safen, safenHold := x.safenHold || !m.safen }
  let x := (List.range 2).foldl (fun x l =>
    match (x.lane p l).1 with
    | 2 => { x with drive := laneBit l (lv l) x.drive, permitLow := laneBit l false x.permitLow }
    | 3 => { x with permitLow := laneBit l (!lv l) x.permitLow,
                    permitHold := if lv l then x.permitHold else laneBit l true x.permitHold }
    | _ => { x with permitLow := laneBit l false x.permitLow }) x
  x.refreshHolds p

/-- Folds the parts of a sounding over the indices of a list, gathering their words. -/
def soundFold (x : Pont) (l : List Nat) (f : Pont → Nat → Pont × List (Nat × Word)) : Pont × List (Nat × Word) :=
  l.foldl (fun a i => let r := f a.1 i; (r.1, a.2 ++ r.2)) (x, [])

/-- The analog inputs at a sounding: their words and what standing orders read. -/
def Pont.soundAis (x : Pont) (p : Nat) (m : SoundingMeas) : Pont × List (Nat × Word) × List AiRep :=
  (List.range 4).foldl (fun a i => let r := a.1.soundAi p i (m.ckSat.getLsbD i); (r.1, a.2.1 ++ r.2.1, a.2.2 ++ [r.2.2])) (x, [], [])

/-- The resets of decimators due at this sounding, the first grid of the PWM periods (R284, R339). -/
def Pont.soundResets (x : Pont) (p : Nat) (all : Bool) : Pont :=
  let due (i : Nat) : Bool := x.regLocked && (all || x.decimDue || (vat x.ais i {}).resetDue)
  let x := (List.range 4).foldl (fun x i => if due i then x.resetDecim p i else x) x
  let x := if x.gridDue then x.startGrid p ((x.sndAge - x.landAge) / 2) else x
  { x with decimDue := x.decimDue && !x.regLocked, gridDue := false }

/-- A new crossing at a pontoon: how long its strokes are, and how far back its last sounding lies (R35, R351). -/
def Pont.newCrossing (x : Pont) (t : Timebase) : Pont :=
  { x with tide := t.strokeTide, soundGap := (t.ageSnd - x.sndAge) / 2, sndAge := t.ageSnd }

/-- What the report last built has that no helm has taken: its RC events, bell causes, records and triggers come with the next report, which
first shows the helms what they are about (R281, R333, R383; for RC events log entry 57, DESIGN CHOICE). While no passage runs, nothing is
kept: `carry`. -/
def Pont.untold (x : Pont) (carry : Bool) : Option Report := if carry && !x.told then x.report else none

/-- The report of a sounding with what the last one has left untold. -/
def Report.after (r : Report) (old : Option Report) : Report :=
  match old with
  | some o => { r with rc := o.rc ++ r.rc, bells := o.bells ||| r.bells, recs := o.recs ++ r.recs, wakeTrig := o.wakeTrig ++ r.wakeTrig }
  | none => r

/-- One sounding of a pontoon: everything latched, the report built (R52, R498). `all`: every decimator of the device is
reset at this sounding (R79, R339) (log entry 38, DEDUCED); `carry`: passages run. -/
def Pont.sound (x : Pont) (p : Nat) (m : SoundingMeas) (vddio all carry : Bool) : Pont :=
  let x := { x with mark := .plain }
  let x := x.soundLines p m vddio
  let x := x.soundInputs p m
  let cw := soundFold x (List.range 4) (fun x i => x.soundCounter p i)
  let r := cw.1.soundRx p
  let x := r.1
  let sw := soundFold x [2, 3, 4, 5, 6, 7] (fun x i => x.soundSwitch p i m)
  let pw := soundFold sw.1 [0, 1] (fun x j => x.soundPq p j)
  let x := (pw.1.soundExc p m).soundSnaps p
  let aw := x.soundAis p m
  let gw := aw.1.groupWords p m
  let x := (aw.1.rcIn (0x502 + 0x10 * p) 0 m.vf).rcIn (0x503 + 0x10 * p) 0 m.vf
  let trips := (List.range 4).filter (fun j => r.2.2.testBit j)
  let x := if trips.isEmpty then x else x.rcIn (0x20C + p) 8 trips.length
  let rep : Report :=
    { crossing := x.crossing
      configuring := x.configuring
      verdict := x.verdict
      holder := x.holder
      fromH := x.fromH
      hadMan := x.hadMan
      words := x.diWords p m ++ cw.2 ++ x.outWords p ++ sw.2 ++ pw.2 ++ aw.2.1 ++ gw ++ x.fieldWords p m
      rc := x.rcInc
      diOn := bits8 (fun i => (vat x.ins i {}).state && (vat x.ins i {}).valid (x.inEn p i) x.dark)
      diValid := bits8 (fun i => (vat x.ins i {}).valid (x.inEn p i) x.dark)
      diEn := bits8 (fun i => x.inEn p i)
      ai := aw.2.2
      landed := x.outs.toList.map (·.landed)
      held := (List.range 8).map (fun i => if (vat x.outs i {}).held then (vat x.outs i {}).holdVal else x.value345 p i)
      rxNow := BitVec.ofNat 4 r.2.1
      rxTrip := BitVec.ofNat 4 r.2.2
      ckFault := x.grp.ckFault
      wake := x.wake.st
      wakeTotal := x.wake.total
      wakeTrig := x.wake.trigRecs
      snaps := x.grp.results
      hails := x.hails
      gwA := x.gwA.up
      gwB := x.gwB.up
      dark := x.dark
      vfState := x.vfState
      bells := x.bells
      recs := x.recs ++ x.recsV.map (fun e => (e.1, e.2, subj (0x10 + p), ofSc m.vf, 0)) }
  let x := { x with
    report := some (rep.after (x.untold carry))
    told := false
    rcInc := []
    bells := 0
    recs := []
    recsV := []
    hails := []
    grp := { x.grp with results := [] }
    wake := { x.wake with trigRecs := [] } }
  x.soundResets p all

/-- The rising edges of SAFEn since the sounding before, those not told yet: stamped events at their strokes (R60; log entry 38, DEDUCED). -/
def State.safenRises (s : State) (p : Fin 4) (l : List (Nat × Nat)) : State :=
  l.foldl (fun s e =>
    let t : Stamp := ⟨e.1, e.2⟩
    if s.now.lt t || s.lanes.riseAt.any (fun u => !u.lt t) then s
    else { s with lanes := { s.lanes with riseAt := some t } }.raiseEv t (.safenEdge p true)) s

/-- A level of SAFEn that differs from the one last seen, no edge having been told, is found at this instant (log entry 38, DEDUCED). -/
def State.safenFound (s : State) (p : Fin 4) (was was' : Option Stamp) (old new : Bool) : State :=
  if new = old || (new && was != was') then s
  else { s with lanes := { s.lanes with riseAt := if new then some s.now else s.lanes.riseAt } }.raiseEv s.now (.safenEdge p new)

/-- SOUNDING (R44, R52; an edge of SAFEn that it finds is a stamped event, R60): on the marked beat of the gangway it follows, with a valid crossing number (log entry 38, DEDUCED). -/
def execSounding (p : Fin 4) (m : SoundingMeas) (s : State) : Host.Outcome State Fault Refusal :=
  let x := s.pont p
  let here (k : Nat) : Bool := k / 2 = p.val
  let was := s.lanes.safenNow
  let s := if s.lanes.sndAt = s.tb.crossing then s else { s with lanes := { s.lanes with
    sndAt := s.tb.crossing
    prevSnd := s.lanes.atSnd
    prevSafen := s.lanes.safenPin } }
  let s := { s with lanes := { s.lanes with
    level := bits8 (fun k => if here k then m.dl.getLsbD k else s.lanes.level.getLsbD k)
    atSnd := bits8 (fun k => if here k then m.dl.getLsbD k && s.rst.vddio else s.lanes.atSnd.getLsbD k)
    safenPin := m.safen
    safenNow := m.safen } }
  let told := s.lanes.riseAt
  let s := s.safenRises p m.rises
  let s := s.safenFound p told s.lanes.riseAt was m.safen
  if x.running && x.marked && x.mark = .sounding then
    let s := s.modField p (fun x => (x.newCrossing s.tb).sound p m s.rst.vddio (s.tb.decimAt = some x.crossing) s.landingsRun)
    .next (s.refreshMirror p)
  else .next s

/-! ### The comparison (R187 to R190) -/

/-- The manifest a port holds for a crossing. -/
def GwPort.manFor (g : GwPort) (n : Nat) : Option (List Word) := (g.mans.find? (fun e => e.1 = n)).map (·.2)

/-- The outline of R189 at stroke 232: the verdict, the holder found, the manifest to land, whether the holder's manifest
was held. -/
def compareMans (ma mb : Option (List Word)) : Verdict × Option HelmId × Option (List Word) × Bool :=
  match ma, mb with
  | some a, some b =>
    match manView a with
    | none => (.late, none, none, false)
    | some v =>
      if manView a ≠ manView b then (.viewSplit, none, none, true)
      else
        let h := match v with | .a => a | .b => b
        let o := match v with | .a => b | .b => a
        if h.tail = o.tail then (.agreed, some v, some h, true)
        else if manProving o then (.provingMismatch, some v, some h, true)
        else (.mismatch, some v, none, true)
  | some a, none =>
    if manView a = some .a then (.shadowMissing, some .a, some a, true) else (.late, none, none, false)
  | none, some b =>
    if manView b = some .b then (.shadowMissing, some .b, some b, true) else (.late, none, none, false)
  | none, none => (.late, none, none, false)

/-- MANIFEST_COMPARE (R30, R51, R189), at stroke 232: manifests of any other crossing are discarded. -/
def execManifestCompare (p : Fin 4) (s : State) : Host.Outcome State Fault Refusal :=
  let x := s.pont p
  if !(x.running && x.marked) || s.tb.stroke < 232 || 240 ≤ s.tb.stroke then .next s else
  let r := compareMans (x.gwA.manFor x.crossing) (x.gwB.manFor x.crossing)
  .next (s.modPont p (fun x => { x with
    verdict := r.1
    chosenBy := r.2.1
    chosen := r.2.2.1
    hadMan := r.2.2.2
    gwA := { x.gwA with mans := [] }
    gwB := { x.gwB with mans := [] } }))

/-! ### Setups that take effect (R277, R299, R315, R363) -/

/-- The lanes of a pontoon as its setups have them and their pins stand: a lane that becomes DRIVE or PERMIT acts on its level at once
(R377). -/
def Pont.takeLanes (x : Pont) (p : Nat) (pins : BitVec 2) : Pont :=
  (List.range 2).foldl (fun x l =>
    let kind := (x.lane p l).1
    let low := kind == 3 && !pins.getLsbD l
    { x with
      drive := laneBit l (kind == 2 && pins.getLsbD l) x.drive
      permitLow := laneBit l (low || (kind == 3 && x.permitLow.getLsbD l)) x.permitLow
      permitHold := laneBit l (low || (kind == 3 && x.permitHold.getLsbD l)) x.permitHold }) x

/-- A charter's setups in force at a pontoon: what they change, and nothing else. `pins`: the levels of its lanes; `since`: modulator
periods since its last landing. -/
def Pont.takeSetup (x : Pont) (p : Nat) (ch : List Word) (pins : BitVec 2) (since : Nat) : Pont :=
  let old := x
  let fresh := x.setup.isEmpty
  let x := { x with setup := ch, nextSetup := none, loaded := true, configuring := false }
  let x := { x with
    outs := Vector.ofFn (fun (i : Fin 8) =>
      let o := x.outs[i]
      let r := x.retries p i
      { o with retry := if fresh then r else min o.retry r })
    ins := Vector.ofFn (fun (i : Fin 8) =>
      let d := x.ins[i]
      let w := x.inRec.getD (8 * p + i) 0
      let v := old.inRec.getD (8 * p + i) 0
      let d := if bitOf w 21 = bitOf v 21 then d else { d with wb := false, wbLo := 0, wbHi := 0 }
      if w = v then d else d.forget)
    cts := Vector.ofFn (fun (i : Fin 4) =>
      let ch (k : Nat) : Bool := x.inRec.getD (32 + 4 * p + k) 0 != old.inRec.getD (32 + 4 * p + k) 0
      let c := x.cts[i]
      { c with clearDue := c.clearDue || (!fresh && (ch (i.val / 2 * 2) || ch (i.val / 2 * 2 + 1))) })
    rx := Vector.ofFn (fun (j : Fin 4) => if x.rxWord p j = old.rxWord p j then x.rx[j] else {}) }
  let x := ((x.takeLanes p pins).newAnalog p old).newPq p old since
  ((x.judgeAllRx p).shedNow p).unshed p

/-! ### The landing (R55, R260 to R272) -/

/-- The releases of a landing: SAFEn and PERMIT lanes that were high since the sounding, reflexes that were calm at it
(R262, R265). -/
def Pont.releaseHolds (x : Pont) (p : Nat) : Pont :=
  let rearm := x.rearmSet
  let freed (i : Nat) : Bool :=
    (x.safenHold && !x.safenLow) || (List.range 2).any (fun l => x.permitHold.getLsbD l && !x.permitLow.getLsbD l
      && (x.lane p l).2 == i)
  let x := { x with outs := Vector.ofFn (fun (i : Fin 8) =>
    let o := x.outs[i]
    { o with rearm := o.rearm || (rearm && freed i) }) }
  let x := { x with safenHold := x.safenHold && x.safenLow, permitHold := x.permitHold &&& x.permitLow }
  let x := { x with rx := Vector.ofFn (fun (j : Fin 4) =>
    let r := x.rx[j]
    if r.trig || !r.calm then r
    else if !bitOf (x.rxWord p j) 18 then { r with hold := 0 } else r) }
  let off (i : Nat) : Bool := (vat x.outs i {}).landed == 0 && !x.otherCause p i
  { x with
    rx := Vector.ofFn (fun (j : Fin 4) =>
      let r := x.rx[j]
      if r.trig || !r.calm then r else { r with hold := bits8 (fun i => r.hold.getLsbD i && !off i) })
    outs := Vector.ofFn (fun (i : Fin 8) => let o := x.outs[i]; { o with rearm := o.rearm && !off i }) }

/-- The protection of a switching output at a landing (R249, R263). -/
def Pont.landProt (x : Pont) (p : Nat) : Pont :=
  { x with outs := Vector.ofFn (fun (i : Fin 8) =>
    let o := x.outs[i]
    if i.val < 2 || x.landedOn i then o
    else { o with prot := .normal, retry := x.retries p i, overcurrent := false }) }

/-- The manifest's values and requests at a landing (R55, R236, R324, R339, R352) (log entry 38, DEDUCED); with
an armed wake buffer nothing of the capture before is sent any more (R352, R355). -/
def Pont.landMan (x : Pont) (m : List Word) : Pont :=
  let x := { x with
    prevMan := m
    outs := Vector.ofFn (fun (i : Fin 8) => { x.outs[i] with landed := manValue m i }) }
  (manReqs 64 (m.drop 4)).foldl (fun x r =>
    match r with
    | .snap n => { x with grp := { x.grp with snaps := x.grp.snaps ++ [(n, x.crossing + 1)] } }
    | .ctZero i => { x with cts := vmod x.cts i (fun c => { c with zeroAt := some (x.crossing + 1) }) }
    | .wake c t l a b =>
      let w := x.wake.arm c t l a b
      { x with wake := if x.dark then w.abortBy 3 else w, gwA := { x.gwA with read := [] }, gwB := { x.gwB with read := [] } }
    | .decim => { x with decimDue := true }) x

/-- A landing at a pontoon. `pins`: the levels of its lanes. -/
def Pont.land (x : Pont) (p : Nat) (pins : BitVec 2) : Pont :=
  let old := x
  let x := { x with mark := .plain }
  let x := match x.nextSetup with
    | some (n, ch) => if n ≤ x.crossing then x.takeSetup p ch pins 0 else x
    | none => x
  let bar := old.configuring || x.orderDue
  let x := { x with order := x.order || x.orderDue, orderDue := false }
  let x := match bar, x.chosen with
    | false, some m =>
      { (x.landMan m) with order := false, silence := false, fromH := x.chosenBy, holder := x.chosenBy }
    | _, _ =>
      { x with
        fromH := none
        holder := if x.verdict = Verdict.mismatch then x.chosenBy else x.holder
        verdict := if bar || x.silence || x.order then .safe else x.verdict }
  let x := { x with chosen := none, chosenBy := none }
  let x := (x.releaseHolds p).landProt p
  let x := (x.releasePq p 0).releasePq p 1
  let x := (x.restoreOne p).refreshHolds p
  let five (j : Nat) : Bool := old.level j == 5 && x.level j == 5
  (x.landPq p 0 (vat old.outs 0 {}).landed (five 0)).landPq p 1 (vat old.outs 1 {}).landed (five 1)

/-- LANDING (R44, R55): on the marked landing beat, with a valid crossing number; a stop order then turns every output off and stops the
logic (R389). -/
def execLanding (p : Fin 4) (s : State) : Host.Outcome State Fault Refusal :=
  let x := s.pont p
  if x.running && x.marked && x.mark = .landing then
    if x.stopDue then .next ((s.modPont p (fun x => { x.lost with mooredStop := true })).refreshMirror p)
    else .next ((s.modField p (fun x => (x.endCrossing s.tb.ageLand).land p (s.lanePins p))).refreshMirror p)
  else .next s

/-! ### Silence and gangways down (R44, R45, R373) -/

/-- GANGWAY_SILENCE (R45): safe states; soundings and landings wait for a new crossing number (R44) (log entry 36, DESIGN CHOICE). -/
def execGangwaySilence (p : Fin 4) (s : State) : Host.Outcome State Fault Refusal :=
  if (s.pont p).running then
    .next (s.modField p (fun x => { x with
      silence := true
      marked := false
      mark := .plain
      gwA := { x.gwA with alive := false, beats := 0, mans := [] }
      gwB := { x.gwB with alive := false, beats := 0, mans := [] } }.refreshHolds p))
  else .next s

/-- The beats of a gangway are missing (R43, R373); with those of both missing soundings and landings wait for a crossing number and the
next marked beats (R44). -/
def Pont.beatsMissing (x : Pont) (p : Nat) (h : HelmId) : Pont :=
  let x := (x.setGwDown p h).modGw h (fun g => { g with alive := false })
  if x.gwA.alive || x.gwB.alive then x else { x with marked := false, mark := .plain }

/-- GW_DOWN (R43, R44, R373, R383): the beats of a gangway are missing; GW_DOWN for discarded frames comes with the fourth of them (log
entry 36, DESIGN CHOICE). -/
def execGwDown (p : Fin 4) (h : HelmId) (s : State) : Host.Outcome State Fault Refusal :=
  if (s.pont p).running then .next (s.modPont p (fun x => x.beatsMissing p h)) else .next s

/-! ### Frames at a pontoon -/

/-- A REPORT or MANIFEST frame on a gangway goes to the check units too (R456). -/
def State.snoopGw (s : State) (up : Bool) (h : HelmId) (p : Nat) (f : RxFrame) : State :=
  if frTyp f ≠ (if up then 1 else 2) then s else
  s.snoop ⟨BitVec.ofNat 8 (0x10 + 8 * bn up + 4 * helmBit h + p), s.tb.crossing,
    [BitVec.ofNat 8 (8 * bn up + 4 * helmBit h + p)], bytesOfNat 6 s.tb.crossing, bytesOfWords (f.gf :: f.payload)⟩

/-- MANIFEST (R30, R187, R369): into the manifest slip of the gangway, depth 2; from stroke 232 on it comes too late for its landing
(R23, R51). -/
def execManifest (p : Fin 4) (h : HelmId) (f : RxFrame) (s : State) : Host.Outcome State Fault Refusal :=
  let s := s.snoopGw false h p f
  if !(s.pont p).running then .next s else
  let r := (s.pont p).rxFrame p h f 2 (s.pont p).crossing
  if !r.1 || !manOk f.payload h || 232 ≤ s.tb.stroke then .next (s.modPont p (fun _ => r.2))
  else if 2 ≤ (r.2.gw h).mans.length then .next (s.modPont p (fun _ => r.2.rcIn 0x021 8 1))
  else .next (s.modPont p (fun _ => r.2.modGw h (fun g => { g with mans := g.mans ++ [(r.2.crossing, f.payload)] })))

/-- CONFIG (R363, R465, R467): the frame that completes a reload puts the charter in force at the helm that sent it into
force at the pontoon, at once in an empty store, at the next landing where the pontoon kept running (log entry 7, DESIGN CHOICE); with
the regenerator locked already, the PWM grid of an empty store starts at that instant (R284; log entry 57, DESIGN CHOICE). -/
def execConfig (p : Fin 4) (h : HelmId) (f : RxFrame) (last : Bool) (s : State) : Host.Outcome State Fault Refusal :=
  if !(s.pont p).running then .next s else
  let r := (s.pont p).rxFrame p h f 3 (s.pont p).crossing
  let ch := (s.helm h).hs.charter
  if !(r.1 && last) || ch.isEmpty then .next (s.modPont p (fun _ => r.2))
  else if r.2.setup.isEmpty then .next ((s.modField p (fun _ => r.2.takeSetup p ch (s.lanePins p) ((s.tb.age - r.2.landAge) / 2))).refreshMirror p)
  else .next (s.modPont p (fun _ => { r.2 with nextSetup := some (0, ch), configuring := false }))

/-- The samples of a wake read are to be sent on both gangways (R355). -/
def Pont.readout (x : Pont) (q : OutReq) : Pont :=
  if x.wake.st ≠ .complete then x
  else
    let ws := (((x.wake.buf.drop q.off).take q.count).zipIdx q.off).map (fun e => (e.2, e.1))
    let add (g : GwPort) : GwPort := { g with read := g.read ++ ws.filter (fun e => !g.read.contains e) }
    { x with gwA := add x.gwA, gwB := add x.gwB }

/-- ORDER (R70, R355, R389): a safe-state order acts at the next landing, and so does a stop order, which stops the pontoon's
logic until wake; a readout order has the samples of the oldest wake read that the helm has outstanding sent on both gangways, through BULK
frames, from a capture that is COMPLETE; those that are already to be sent are not sent twice (log entry 7, DESIGN CHOICE). -/
def execOrder (p : Fin 4) (h : HelmId) (f : RxFrame) (o : OrderKind) (s : State) : Host.Outcome State Fault Refusal :=
  if !(s.pont p).running then .next s else
  let r := (s.pont p).rxFrame p h f 4 (s.pont p).crossing
  if !r.1 then .next (s.modPont p (fun _ => r.2)) else
  match o with
  | .safeState => .next (s.modPont p (fun _ => { r.2 with orderDue := true }))
  | .stop => .next (s.modPont p (fun _ => { r.2 with stopDue := true }))
  | .readout =>
    match (s.helm h).hs.wakeReads[p].head? with
    | none => .next (s.modPont p (fun _ => r.2))
    | some q => .next (s.modPont p (fun _ => r.2.readout q))

/-- The crossing number a SET_CROSSING frame carries (R369) (log entry 7, DESIGN CHOICE). -/
def setCrossingNo (f : RxFrame) : Nat := (f.payload.getD 0 0).toNat * 2 ^ 24 + (f.payload.getD 1 0).toNat

/-- SET_CROSSING (R371): its CRC folds the number it carries (log entry 7, DESIGN CHOICE); where soundings and landings waited for it, they
resume at the next marked beats (R44). -/
def execSetCrossing (p : Fin 4) (h : HelmId) (f : RxFrame) (s : State) : Host.Outcome State Fault Refusal :=
  if !(s.pont p).running then .next s else
  let r := (s.pont p).rxFrame p h f 7 (setCrossingNo f)
  if r.1 then .next (s.modPont p (fun _ => { r.2 with
    crossing := setCrossingNo f, marked := true, mark := if r.2.marked then r.2.mark else .plain }))
  else .next (s.modPont p (fun _ => r.2))

/-! ### Frames at a helm -/

/-- The checks of a frame at a helm: type, length, CRC with the crossing at the helm (R370, R372); a discarded frame and a
gap are counted in the field of its gangway (log entry 39, DEDUCED). -/
def State.rxAtHelm (s : State) (h : HelmId) (p : Fin 4) (f : RxFrame) (t : Nat) : Bool × State :=
  let key := crcErrKey p h
  if frPasses f t s.tb.crossing true h p then
    let gap := ((s.helm h).seqIn[p]).any (fun q => frSeq f != q + 1)
    let s := s.modHelm h (fun x => { x with seqIn := x.seqIn.set p (some (frSeq f)) })
    (true, if gap then s.rcAdd key.addr key.lo 1 else s)
  else (false, s.rcAdd key.addr key.lo 1)

/-- ECHO (R211, R369): at the pontoon a frame that passes is to be returned; at the helm the loopback is good when the frame that comes
back passes and has the payload that the pontoon returned (log entry 7, DESIGN CHOICE). -/
def execEcho (p : Fin 4) (h : HelmId) (f : EchoFrame) (s : State) : Host.Outcome State Fault Refusal :=
  if f.up then
    if !(s.helm h).svc.inService then .next s else
    let r := s.rxAtHelm h p f.frame 6
    let good : Bool := r.1 && ((s.pont p).gw h).echo == some f.frame.payload
    .next ((r.2.modPont p (fun x => x.modGw h (fun g => { g with echo := none }))).modHelm h (fun x => { x with
      echoOk := x.echoOk.set p good }))
  else if !(s.pont p).running then .next s
  else
    let r := (s.pont p).rxFrame p h f.frame 6 (s.pont p).crossing
    .next (s.modPont p (fun _ => if r.1 then r.2.modGw h (fun g => { g with echo := some f.frame.payload }) else r.2))

/-- REPORT (R27, R31, R53): into the report slip, depth 2; the payload is the report built at the sounding (log entry 7, DESIGN CHOICE). -/
def execReport (h : HelmId) (p : Fin 4) (f : RxFrame) (s : State) : Host.Outcome State Fault Refusal :=
  let s := s.snoopGw true h p f
  if !(s.helm h).svc.inService then .next s else
  let r := s.rxAtHelm h p f 1
  match r.1, (s.pont p).report with
  | true, some rep =>
    if rep.crossing ≠ s.tb.crossing then .next r.2
    else if 2 ≤ ((r.2.helm h).repSlips[p]).length then .next (r.2.rcAdd 0x021 12 1)
    else .next (r.2.modHelm h (fun x => { x with repSlips := x.repSlips.set p (x.repSlips[p] ++ [rep]) }))
  | _, _ => .next r.2

/-- BULK (R27, R355): a frame brings the next words that the pontoon has to send, as many as it has payload, into the bulk slip of 64;
the pontoon sends none while the slip has no room for it (log entry 7, DESIGN CHOICE). -/
def execBulk (h : HelmId) (p : Fin 4) (f : RxFrame) (s : State) : Host.Outcome State Fault Refusal :=
  if !(s.helm h).svc.inService then .next s else
  if 64 < (s.helm h).bulkSlip[p].length + f.payload.length then .next s else
  let r := s.rxAtHelm h p f 5
  let ws := ((s.pont p).gw h).read.take f.payload.length
  let s := r.2.modPont p (fun x => x.modGw h (fun g => { g with read := g.read.drop f.payload.length }))
  if r.1 then .next (s.modHelm h (fun x => { x with bulkSlip := x.bulkSlip.set p (x.bulkSlip[p] ++ ws) })) else .next s

/-! ### The field supply (R358 to R363) -/

/-- The counters of a pontoon that goes dark may miss counts (R236). -/
def Pont.markGaps (x : Pont) : Pont := { x with cts := x.cts.map (fun c => { c with gap := true }) }

/-- A sag condition asserted (R344, R359 to R361, R383). -/
def Pont.sagOn (x : Pont) (p : Nat) (c : Sag) : Pont :=
  let x := { x with sag := x.sag ||| BitVec.ofNat 4 (2 ^ (Sag.ix c)) }
  let note (lo code cls : Nat) : Pont :=
    let y := (x.rcIn (0x505 + 0x10 * p) lo 1).bellIn bellField
    { y with recsV := y.recsV ++ [(code, cls)] }
  let x := match c with
    | .warn => note 20 0x0C0 clsWarn
    | .shed3 => note 16 0x0C1 (clsWarn + 4)
    | .shed2 => note 16 0x0C1 (clsWarn + 4)
    | .dark =>
      let y := note 12 0x0C2 (clsFault + 4)
      ({ y with wake := x.wake.abortBy 3, ins := y.ins.map DiSt.forget, ais := y.ais.map AiSt.clearAll }).markGaps
  x.shedNow p

/-- SAG_ASSERT (R359) (log entry 36, DESIGN CHOICE). -/
def execSagAssert (p : Fin 4) (c : Sag) (s : State) : Host.Outcome State Fault Refusal :=
  let x := s.pont p
  if x.running && !x.sag.getLsbD (Sag.ix c) then .next ((s.modField p (fun x => x.sagOn p c)).refreshMirror p) else .next s

/-- A sag condition released (R360, R362, R313). -/
def Pont.sagOff (x : Pont) (p : Nat) (c : Sag) : Pont :=
  let x := { x with sag := x.sag &&& ~~~BitVec.ofNat 4 (2 ^ (Sag.ix c)) }
  let x := match c with
    | .dark =>
      let x := if x.startDark then { x with startDark := false }
        else { x with recsV := x.recsV ++ [(0x0C4, clsInfo + 4)] }
      let x := { x with grp := { x.grp with litWins := 0 } }
      match x.refSel p with
      | 2 => { x with grp := x.grp.change 5 }.markUns p x
      | 3 => { x with grp := x.grp.change 1 }.markUns p x
      | _ => x
    | _ => x
  x.unshed p

/-- SAG_RELEASE (R359) (log entry 36, DESIGN CHOICE). -/
def execSagRelease (p : Fin 4) (c : Sag) (s : State) : Host.Outcome State Fault Refusal :=
  let x := s.pont p
  if x.running && x.sag.getLsbD (Sag.ix c) then .next ((s.modField p (fun x => x.sagOff p c)).refreshMirror p) else .next s

/-- VF_OVER_SET (R359, R383). -/
def execVfOverSet (p : Fin 4) (s : State) : Host.Outcome State Fault Refusal :=
  let x := s.pont p
  if x.running && !x.vfOver then
    .next (s.modPont p (fun x =>
      let y := ({ x with vfOver := true }.rcIn (0x505 + 0x10 * p) 4 1).bellIn bellField
      { y with recsV := y.recsV ++ [(0x0C3, clsWarn)] }))
  else .next s

/-- VF_OVER_CLEAR (R359). -/
def execVfOverClear (p : Fin 4) (s : State) : Host.Outcome State Fault Refusal :=
  .next (s.modPont p (fun x => { x with vfOver := false }))

/-- LOGIC_STOP (R363): all state of the pontoon is lost. -/
def execLogicStop (p : Fin 4) (s : State) : Host.Outcome State Fault Refusal :=
  .next ((s.modPont p Pont.lost).refreshMirror p)

/-- PONTOON_RESTART (R363). -/
def execPontoonRestart (p : Fin 4) (s : State) : Host.Outcome State Fault Refusal :=
  if (s.pont p).running then .next s
  else .next ((s.modPont p (fun x => x.started p)).refreshMirror p)

end Sys2Proof.Machine
end

