-- ==== Sys2Proof/Machine/Levels.lean ====
section
/-! DEFINITION. A change of a prefiltered input level: reflexes, mirror lanes, hail listeners and digital wake triggers
take it at once (R232, R237 to R239, R258, R264, R353). -/

namespace Sys2Proof.Machine

/-- The level at input i as the pontoon's users of stage 4 take it. -/
def Pont.setLevel (x : Pont) (p i : Nat) (level : Bool) : Pont :=
  let code (d : DiSt) : Bool := match d.hailLvl with
    | some l => d.hailCode || decide (level ≠ l)
    | none => d.hailCode
  let x := { x with ins := vmod x.ins i (fun d => { d with raw := level, hailCode := code d }) }
  if !x.running then x
  else { x with wake := x.wake.digital i (x.stage4 p i) }.judgeAllRx p

/-- A new prefiltered level at input i: the counters count its edge (R221, R233), and stage 4 takes it. -/
def Pont.newLevel (x : Pont) (p i : Nat) (level : Bool) : Pont :=
  if level = (vat x.ins i {}).raw then x else (x.setLevel p i level).countEdge p i level

/-- A and B of a quadrature counter change in one sample: the counter stays, QUAD_ERR counts (R234). `k`: the even input. -/
def Pont.quadErr (x : Pont) (p k : Nat) (a b : Bool) : Pont :=
  let y := (x.setLevel p k a).setLevel p (k + 1) b
  if x.running && !x.dark then y.rcIn (0x130 + 4 * p + k) 8 1 else y

/-- PREFILTER_N of a PREFILTER code; a reserved code passes no check at a commit (R228). -/
def prefilterN (code : Nat) : Nat :=
  match code with
  | 0 => 1
  | 1 => 2
  | 2 => 20
  | 3 => 205
  | _ => 1024

/-- One sample of the comparator (R221 stages 2 and 3, R228): the level that the prefilter accepts with it, if any. -/
def DiSt.sample (d : DiSt) (n : Nat) (level : Bool) : DiSt × Option Bool :=
  let run := if level = d.cmp then d.cmpRun + 1 else 1
  ({ d with cmp := level, cmpRun := min 1024 run }, if level ≠ d.raw && decide (n ≤ run) then some level else none)

/-- Whether inputs k and k + 1 are A and B of a quadrature counter (R233). -/
def Pont.quadPair (x : Pont) (p k : Nat) : Bool := decide (k < 4) && decide (4 ≤ bf x.inRec (32 + 4 * p + k) 23 21)

/-- One instant's comparator samples at inputs k and k + 1, each through its prefilter: the levels accepted are new ones, and both at
once are no edges of a quadrature counter (R221, R228, R234). -/
def Pont.samplePair (x : Pont) (p k : Nat) (v : Bool × Bool) : Pont :=
  let n (i : Nat) : Nat := prefilterN (bf x.inRec (8 * p + i) 19 17)
  let a := (vat x.ins k {}).sample (n k) v.1
  let b := (vat x.ins (k + 1) {}).sample (n (k + 1)) v.2
  let x := { x with ins := vset (vset x.ins k a.1) (k + 1) b.1 }
  match a.2, b.2 with
  | some la, some lb => if x.quadPair p k then x.quadErr p k la lb else (x.newLevel p k la).newLevel p (k + 1) lb
  | some la, none => x.newLevel p k la
  | none, some lb => x.newLevel p (k + 1) lb
  | none, none => x

/-- Samples of the pair that input i belongs to, oldest first. -/
def State.samplesIn (s : State) (p : Fin 4) (i : Nat) (l : List (Bool × Bool)) : State :=
  (s.modField p (fun x => l.foldl (fun x v => x.samplePair p (i / 2 * 2) v) x)).refreshMirror p

/-- COUNTER_EDGE (R221, R228, R233 to R236): the samples with which the prefiltered level of a class L input changes, and with it the pair's
counters. -/
def execCounterEdge (p : Fin 4) (i : Fin 4) (sa sb : List Bool) (s : State) : Host.Outcome State Fault Refusal :=
  .next (s.samplesIn p i (sa.zip sb))

/-- INPUT_LEVEL_CHANGE (R221, R228, R238): the samples with which the prefiltered level of a digital input changes, and with it its
mirror lane and what else takes it. -/
def execInputLevelChange (p : Fin 4) (i : Fin 8) (samples : List (Bool × Bool)) (s : State) : Host.Outcome State Fault Refusal :=
  .next (s.samplesIn p i samples)

end Sys2Proof.Machine
end

