-- ==== Sys2Proof/Machine/Flags.lean ====
section
/-! DEFINITION. The status codes and status words that replies and the window show (R102, R120, R125, R137, R186, R190). -/

namespace Sys2Proof.Machine

/-! ### Codes -/

/-- HSTATE of a service state (R186). -/
def Svc.code : Svc → Nat
  | .holding => 0
  | .proving | .standby => 1
  | .fenced => 2
  | .halted => 3
  | .debug => 4
  | .starting | .joining => 6

/-- HELM_A_STATE, HELM_B_STATE (R120). -/
def Helm.stateCode (x : Helm) : Nat := if x.silent then 5 else x.svc.code

/-- MODE_CODE (R120). -/
def Mode.code : Mode → Nat
  | .moored => 0
  | .berthed => 1
  | .slipway => 2
  | .underway => 3
  | .singleHanded => 4
  | .anchored => 5
  | .unreported => 15

/-- The code of a role (R102, R125). -/
def roleCode : Option Role → Nat
  | none => 0
  | some .operator => 1
  | some .installer => 2
  | some .maker => 3

/-- The code of a port, or none (R124). -/
def portCodeO : Option Port → Nat
  | none => 0
  | some p => portCode p

/-- The landing verdicts' codes (R190). -/
def Verdict.code : Verdict → Nat
  | .none => 0
  | .agreed => 1
  | .shadowMissing => 2
  | .provingMismatch => 3
  | .mismatch => 4
  | .viewSplit => 5
  | .late => 6
  | .safe => 7

/-- OUT_AUTH of a charter (R121). -/
def chOutAuth (ch : List Word) : Nat := bf (chBody ch 0x03) 0 23 22

/-- UL1_EN of a charter (R121). -/
def chUl1 (ch : List Word) : Bool := bb (chBody ch 0x03) 0 21

/-- The role state of a port. -/
def HelmState.role (hs : HelmState) : Port → RoleSt
  | .hpa => hs.roleA
  | .hpb => hs.roleB

/-- The pending charter: none from its landing on, though a command applied at that landing still finds it (R408 to R410). -/
def HelmState.pending (hs : HelmState) : Option Pending := hs.pend.filter (fun p => !p.done)

/-- The window address of PORT_STATUS (R125). -/
def portStatusAddr : Port → Nat
  | .hpa => 0x02D
  | .hpb => 0x02E

/-- PORT_STATUS of a port whose session is open or not, its RC fields apart (R125). -/
def HelmState.portWord (hs : HelmState) (opened : Bool) (p : Port) : Word :=
  wd (bn opened * 2 ^ 23 + roleCode (hs.role p).held * 2 ^ 21 + bn (decide (hs.auth = some p)) * 2 ^ 20)

/-- PORT_STATUS of a port as it stands now. -/
def State.portStatus (s : State) (hs : HelmState) (p : Port) : Word := hs.portWord (s.port p).opened p

/-- The first SESSION OPEN word (R120). -/
def State.sessionWord (s : State) : Word :=
  wd (helmCodeO s.holder * 2 ^ 22 + s.helmA.stateCode * 2 ^ 19 + s.helmB.stateCode * 2 ^ 16 + s.mode.code * 2 ^ 12
    + s.rst.addr.getD 0 * 2 ^ 8)

/-- The reply status codes (R115, R137, R399). -/
def Status.code : Status → Byte
  | .ok => 0x00
  | .acceptedPending => 0x01
  | .crcBad => 0x10
  | .aliveSkip => 0x11
  | .frameCut => 0x12
  | .lenOver => 0x13
  | .badOpcode => 0x14
  | .roleDenied => 0x15
  | .modeDenied => 0x16
  | .busy => 0x17
  | .addrOverrun => 0x18
  | .undefinedAddr => 0x19
  | .sessionRequired => 0x1A
  | .budgetOver => 0x1B
  | .headerBad => 0x1C
  | .replyGone => 0x1D
  | .noAuthority => 0x1E
  | .paramBad => 0x1F
  | .recordInvalid => 0x20
  | .authFailed => 0x21
  | .noHelm => 0x22
  | .converterBusy => 0x23
  | .draftOwned => 0x24
  | .notReady => 0x25
  | .noStandby => 0x26
  | .authLocked => 0x27

/-- The statuses that carry reply data (R135). -/
def Status.carries : Status → Bool
  | .ok | .addrOverrun | .undefinedAddr | .budgetOver | .recordInvalid => true
  | _ => false

end Sys2Proof.Machine
end

