-- ==== Sys2Proof/Machine/Window.lean ====
section
/-! DEFINITION. The register window (R177 to R181): which words it has, their values after reset, the snapshot that a
passage builds of the landing before it (R142, R254, R326), and the classic mirror (R101, R102). -/

namespace Sys2Proof.Machine

/-! ### Which words there are -/

/-- Whether an address of the window is defined (R177, R178, R217, R243, R278, R304, R351, R381, R382, R432, R458). -/
def winDefined (a : Nat) : Bool :=
  a < 0x00A || (0x010 ≤ a && a < 0x014) || (0x018 ≤ a && a < 0x01D) || (0x020 ≤ a && a < 0x032)
  || (0x100 ≤ a && a < 0x108) || (0x110 ≤ a && a < 0x140)
  || (0x200 ≤ a && a < 0x250 && a != 0x20B)
  || (0x300 ≤ a && a < 0x400 && a % 32 < 11)
  || (0x400 ≤ a && a < 0x500 && a % 16 != 9 && a % 16 != 10)
  || (0x500 ≤ a && a < 0x540 && a % 16 < 8) || (0x540 ≤ a && a < 0x545)
  || (0x600 ≤ a && a < 0x60C) || (0x700 ≤ a && a < 0x709)
  || (0x780 ≤ a && a < 0x800 && a % 32 < 12)

/-- The defined addresses. -/
def winAddrs : List Nat := (List.range 0x800).filter winDefined

/-- The words of identity, which never change (R178) (log entry 5, DESIGN CHOICE). -/
def idWord (a : Nat) : Word :=
  match a with
  | 0x000 => 0x0648E1
  | 0x001 => 0x100107
  | 0x002 => 0x010000
  | 0x003 => wd (Config.serial.toNat / 2 ^ 24)
  | 0x004 => wd Config.serial.toNat
  | _ => 0

/-- A word as it reads after reset, before the first landing (log entry 17, DESIGN CHOICE). -/
def resetWord (a : Nat) : Word :=
  if a < 0x005 then idWord a
  else if a = 0x010 then 0xFF0000
  else if a = 0x012 || a = 0x013 then 0xC00000
  else if a = 0x018 then 0x100001
  else if a = 0x020 then 0x0E0000
  else if a = 0x030 then 0x800000
  else if a = 0x031 then 0xFFFE00
  else if 0x110 ≤ a && a < 0x130 then noValue
  else if 0x230 ≤ a && a < 0x250 then noValue
  else if 0x300 ≤ a && a < 0x400 then
    match a % 32 with
    | 0 => 0x100000
    | 4 | 5 | 6 | 8 => noValue
    | _ => 0
  else if 0x400 ≤ a && a < 0x500 then
    match a % 16 with
    | 0 | 2 | 3 | 4 | 5 | 7 | 12 => noValue
    | 1 => 0x003000
    | 15 => if a / 16 % 4 = 0 then 0x230000 else if a / 16 % 4 = 1 then noValue else 0
    | _ => 0
  else if 0x500 ≤ a && a < 0x540 then
    match a % 16 with
    | 0 => 0xA00000
    | 1 | 2 | 3 => noValue
    | 7 => 0x800800
    | _ => 0
  else if a = 0x542 then 0x800800
  else if a = 0x543 then 0x800000
  else if 0x780 ≤ a && a % 32 = 0 then 0x002000
  else 0

/-- A word with the RC fields counted for it (R14): an absent count is 0, an absent extreme is the word as it stands. -/
def mergeRc (rc : List (RcKey × Int)) (a : Nat) (w : Word) : Word :=
  rc.foldl (fun w e =>
    if e.1.addr ≠ a then w
    else if rcKind e.1 = .smallest || (rcKind e.1 = .largest && e.1.lo = 0) then ofSc e.2
    else w + BitVec.ofInt 24 (e.2 * 2 ^ e.1.lo)) w

/-! ### What the helms themselves show -/

/-- Late passages in the 256 crossings up to n (R71). -/
def HelmState.lateRecent (hs : HelmState) (n : Nat) : Nat := (hs.late.filter (fun c => n < c + 256 && c ≤ n)).length

/-- TRANSIENTS: both-pass outcomes in the 2^20 crossings up to n (R217). -/
def Redund.recent (r : Redund) (n : Nat) : Nat := (r.transients.filter (fun c => n < c + 2 ^ 20 && c ≤ n)).length

/-- PRIMARY_ACT. -/
def HelmState.primary (hs : HelmState) : Option HelmId := chPrimary hs.charter

/-- Charter state: the word 0x000008 (R178). -/
def State.charterState (s : State) (hs : HelmState) : Word :=
  let dirty := match hs.draft with
    | some d => d.words != hs.charter
    | none => false
  wd (hs.chSource.toNat * 2 ^ 21 + hs.copyOk.toNat * 2 ^ 18 + portCodeO (hs.draft.map (·.owner)) * 2 ^ 16
    + bn dirty * 2 ^ 15 + bn hs.pending.isSome * 2 ^ 14 + portCodeO hs.stageOwner * 2 ^ 12 + s.stageState * 2 ^ 10)

/-- The words 0x000600 to 0x00060B (R217, R220), RC fields apart. -/
def State.helmWord (s : State) (hs : HelmState) (a : Nat) : Word :=
  let r := hs.red
  match a with
  | 0x600 => wd (helmCodeO r.view * 2 ^ 22 + helmCodeO hs.primary * 2 ^ 20 + bn r.arb.isSome * 2 ^ 19
      + bn (r.svcA == .proving) * 2 ^ 18 + bn (r.svcB == .proving) * 2 ^ 17
      + bn (r.retOn && r.retLeft = 0 && (r.retHold || r.arb.isSome)) * 2 ^ 16
      + s.quay.outA.toNat * 2 ^ 12 + s.quay.outB.toNat * 2 ^ 8 + r.outcome.toNat * 16
      + min 15 (r.recent (s.tb.crossing - 1)))
  | 0x601 => wd (r.retLeft * 256)
  | 0x602 => wd (r.proveLeft * 256)
  | 0x604 => wd r.lastDisagree
  | 0x605 => wd r.lastHandover
  | 0x606 => wd (s.quay.sigA.toNat / 2 ^ 24)
  | 0x607 => wd s.quay.sigA.toNat
  | 0x608 => wd (s.quay.sigB.toNat / 2 ^ 24)
  | 0x609 => wd s.quay.sigB.toNat
  | 0x60A => wd ((List.range 4).foldl (fun acc p =>
      match vat hs.reps p none with
      | some q => acc + (helmCodeO q.fromH * 16 + q.verdict.code) * 2 ^ (6 * p)
      | none => acc) 0)
  | 0x60B => wd (bn s.quay.bistA * 2 ^ 11 + bn s.quay.bistB * 2 ^ 10)
  | _ => 0

/-- A health word as it reads: its fields as last written, HSTATE and DEBUG as the helm's state is (R180, R186). -/
def Helm.healthWord (x : Helm) : Word :=
  (x.health &&& 0x1FDFFF) + wd (x.stateCode * 2 ^ 21 + bn (x.svc == .debug) * 2 ^ 13)

/-- A bit of each standing order in a word of 24 (R89). -/
def orderBits (hs : HelmState) (k : Nat) (f : OrdSt → Bool) : Word :=
  wd (maskOf 24 (fun j => f (vat hs.orders (24 * k + j) {})))

/-- Whether a helm ran the passage of crossing n; one that halts runs none (R69). -/
def Helm.ran (x : Helm) (n : Nat) : Bool := x.passNo == some n || x.lastNo == some n

/-- The length of the passage of crossing n of the helm that holds the helm; 255 when it did not finish (R64, R69). -/
def State.lengthOf (s : State) (hs : HelmState) (n : Nat) : Nat :=
  match hs.red.view with
  | some v => if (s.helm v).ran n then min 255 (Config.passageLength (helmCode v) n) else 255
  | none => 255

/-- The words 0x000005 to 0x000031 as the helms show them after landing n - 1 (R178, R34, R42, R64, R65, R71, R80, R89,
R124, R125, R126), RC fields apart. -/
def State.lowWord (s : State) (hs : HelmState) (n a : Nat) : Word :=
  let m := hs.modes
  let r := s.rst
  match a with
  | 0x005 => s.helmA.fw
  | 0x006 => s.helmB.fw
  | 0x007 => chGen hs.charter
  | 0x008 => s.charterState hs
  | 0x009 => match hs.pending with
    | some p => wd p.at_
    | none => 0
  | 0x010 => wd (m.mode.code * 2 ^ 20 + m.prev.code * 2 ^ 16 + m.cause.toNat * 256 + bn m.ack * 128 + bn m.shHelm * 64
      + m.shPont.toNat * 4)
  | 0x011 => wd m.since
  | 0x012 => s.quay.healthA
  | 0x013 => s.quay.healthB
  | 0x018 => r.causeWord
  | 0x019 => wd (r.atC / 2 ^ 24)
  | 0x01A => wd r.atC
  | 0x01B => wd (r.atS * 2 ^ 16 + r.atT % 65536)
  | 0x01C => wd (r.prev.toNat * 2 ^ 12)
  | 0x020 => s.quay.tide
  | 0x022 => wd ((n - 1) / 2 ^ 24)
  | 0x023 => wd (n - 1)
  | 0x024 => wd (s.lengthOf hs (n - 1) * 2 ^ 16 + estStrokes hs.charter)
  | 0x025 => wd (min 15 (hs.lateRecent (n - 1)) * 16)
  | 0x026 => s.quay.sync
  | 0x027 => orderBits hs 0 (·.result)
  | 0x028 => orderBits hs 1 (·.result)
  | 0x029 => orderBits hs 2 (·.result)
  | 0x02A => orderBits hs 0 (·.acted)
  | 0x02B => orderBits hs 1 (·.acted)
  | 0x02C => orderBits hs 2 (·.acted)
  | 0x02D => hs.portWord s.quay.openA .hpa
  | 0x02E => hs.portWord s.quay.openB .hpb
  | 0x02F => wd (chOutAuth hs.charter * 2 ^ 22 + portCodeO hs.auth * 2 ^ 20)
  | 0x030 => s.bell.cause
  | 0x031 => s.bell.mask
  | _ => idWord a

/-- HL_STATE (R278). -/
def HlState.code : HlState → Nat
  | .watching => 0
  | .expired => 1
  | .lost => 2

/-- What a report says of a word; its value after reset where there is none (log entry 17, DESIGN CHOICE). -/
def repWord (reps : Vector (Option Report) 4) (p a : Nat) : Word :=
  match vat reps p none with
  | some r => (assocGet r.words a).getD (resetWord a)
  | none => resetWord a

/-- Q_DIAG_n before a report: RETRY_LEFT as loaded (R273, R279). -/
def diagLoaded (ch : List Word) (q : Nat) : Word := if isPq q then 0 else wd (bf (chBody ch 0x07) q 19 16 * 2 ^ 6)

/-- The check units' words (R458). -/
def CheckUnit.word (u : CheckUnit) (k : Nat) : Word :=
  let v (x : BitVec 32) : Word := if k % 2 = 1 then wd (x.toNat / 2 ^ 24) else wd x.toNat
  match k with
  | 0 => wd (u.source.toNat * 2 ^ 16 + u.width * 256 + u.flags.toNat % 32)
  | 1 | 2 => v u.poly
  | 3 | 4 => v u.init
  | 5 | 6 => v u.xorout
  | 7 | 8 => v u.resReg
  | 9 => wd u.resBytes
  | 10 => wd (bn u.overrun * 2 ^ 23)
  | _ => wd u.restartAt

/-- The lanes and the SAFEn pin as the soundings of crossing n - 1 found them (R382) (log entry 26, DEDUCED). -/
def Lanes.shown (l : Lanes) (n : Nat) : BitVec 8 × Bool :=
  if l.sndAt = n then (l.prevSnd, l.prevSafen) else (l.atSnd, l.safenPin)

/-- A word of the snapshot of landing n - 1, RC fields and the words 0x208 and 0x209 apart. Inputs show the sounding of
n - 1, outputs the sounding of n (R254, R326) (log entry 17, DESIGN CHOICE). -/
def State.baseWord (s : State) (hs : HelmState) (n a : Nat) : Word :=
  if a < 0x100 then s.lowWord hs n a
  else if a < 0x110 then repWord hs.prevReps (a % 4) a
  else if a < 0x130 then repWord hs.prevReps ((a - 0x110) / 8) a
  else if a < 0x200 then repWord hs.prevReps ((a - 0x130) / 4) a
  else if a < 0x204 then
    repWord hs.reps (a - 0x200) a + wd (maskOf 8 (fun i => decide (0 < vat hs.img (8 * (a - 0x200) + i) 0)))
  else if a < 0x208 then
    repWord hs.reps (a - 0x204) a + wd (maskOf 8 (fun i => (vat hs.forced (8 * (a - 0x204) + i) none).isSome))
  else if a = 0x20A then wd (hs.hl.code * 2 ^ 22 + min 65535 hs.hlCount)
  else if a < 0x20C then 0
  else if a < 0x210 then repWord hs.reps (a - 0x20C) a
  else if a < 0x230 then
    match vat hs.reps ((a - 0x210) / 8) none with
    | some _ => repWord hs.reps ((a - 0x210) / 8) a
    | none => diagLoaded hs.charter (a - 0x210)
  else if a < 0x300 then repWord hs.reps ((a - 0x230) / 8) a
  else if a < 0x400 then
    let k := (a - 0x300) / 32
    if a % 32 = 1 then ofSc (vat hs.img (qOfPq k) 0) else repWord hs.reps (k / 2) a
  else if a < 0x500 then
    let p := (a - 0x400) / 64
    let w := repWord hs.prevReps p a
    if a = grpAddr p 3 then w + wd (min 2 (vat hs.snaps p []).length * 2 ^ 21) else w
  else if a < 0x540 then
    let p := (a - 0x500) / 16
    let w := repWord hs.prevReps p a
    if a % 16 = 0 then w + wd (bn (hs.prevSvc.getLsbD p) * 2 ^ 12) else w
  else if a < 0x600 then
    let q (i : Nat) : Nat := (Config.measured i (n - 1)).toNat
    match a with
    | 0x540 => wd (q 0 * 4096 + q 1)
    | 0x541 => wd (q 2 * 4096)
    | 0x542 => wd (q 3 * 4096 + q 4)
    | 0x543 => wd (q 5 * 4096)
    | _ => wd ((s.lanes.shown n).1.toNat * 2 ^ 16 + s.quay.lost.toNat * 256 + bn (s.lanes.shown n).2 * 128)
  else if a < 0x700 then s.helmWord hs a
  else if a < 0x780 then (s.tollWord a).getD 0
  else (vat s.cus ((a - 0x780) / 32) {}).word (a % 32)

/-! ### The snapshot -/

/-- A word of a snapshot. -/
def Window.word (w : Window) (a : Nat) : Word := (assocGet w.snap a).getD (resetWord a)

/-- Whether Qn reports a diagnostic fault, from the words of a snapshot (R279, R305). -/
def faultOf (word : Nat → Word) (q : Nat) : Bool :=
  if isPq q then anyBits (word (0x210 + q)) 0x018000 || anyBits (word (0x300 + 0x20 * pqOf q)) 0x03F800
  else anyBits (word (0x210 + q)) 0xFF8000

/-- The snapshot of landing n - 1, built in passage n from a helm's state (R142) (log entry 35, DEDUCED). -/
def State.buildWindow (s : State) (hs : HelmState) (n : Nat) : State :=
  let word (a : Nat) : Word := mergeRc s.win.rc a (s.baseWord hs n a)
  let full (a : Nat) : Word :=
    if a = 0x208 then wd (maskOf 24 (faultOf word))
    else if a = 0x209 then wd (maskOf 8 (fun k => faultOf word (24 + k)))
    else word a
  { s with win := { s.win with
    snap := winAddrs.map (fun a => (a, full a))
    landing := some (n - 1)
    diEn := BitVec.ofNat 32 (maskOf 32 (fun i => bb (chBody hs.charter 0x06) i 23))
    aiEn := BitVec.ofNat 16 (maskOf 16 (fun i => bb (chBody hs.charter 0x09) (4 * i) 23))
    base := s.win.rc
    since := [] } }

/-- The words whose value after reset is "as loaded", before the first landing (R178, R217, R279). -/
def State.showLoaded (s : State) (hs : HelmState) (n : Nat) : State :=
  { s with win := { s.win with
    snap := [0x005, 0x006, 0x007, 0x008].map (fun a => (a, s.lowWord hs n a))
      ++ (List.range 32).map (fun q => (0x210 + q, diagLoaded hs.charter q)) ++ [(0x600, wd (helmCodeO hs.primary * 2 ^ 20))] } }

/-! ### Reading (R141) -/

/-- Words of the snapshot from an address on, and the status. -/
def Window.read (w : Window) (addr count : Nat) : Status × List Word :=
  let as := (List.range count).map (addr + ·)
  (if as.any (fun a => 0x7FF < a) then .addrOverrun
   else if as.any (fun a => !winDefined a) then .undefinedAddr else .ok,
   as.map (fun a => if winDefined a then w.word a else noValue))

/-- The reading of an RC range is held until its reply is sent in full or gone (R147). -/
def Window.tag (w : Window) (id addr count : Nat) : Window :=
  if w.tags.any (fun t => t.id = id) then w
  else { w with tags := w.tags ++ [{
    id := id
    addr := addr
    count := count
    base := w.base.filter (fun e => addr ≤ e.1.addr && e.1.addr < addr + count)
    since := w.since }] }

/-! ### The classic mirror (R102) -/

/-- Bits 15:0 or 31:16 of a mask over 32 channels. -/
def halfMask (k : Nat) (f : Nat → Bool) : Nat := maskOf 16 (fun i => f (16 * k + i))

/-- A classic register as of the last landing mirrored; none at a reserved address (log entry 35, DEDUCED). -/
def State.classic (s : State) (p : Port) (a : Nat) : Option Nat :=
  let w (x : Nat) : Word := s.win.word x
  let grp (base k : Nat) (hi lo : Nat) : Nat := fld (w (base + 2 * k)) hi lo + fld (w (base + 2 * k + 1)) hi lo * 256
  let ps := w (portStatusAddr p)
  if a = 0x00 then some 0x0648
  else if a = 0x01 then
    some (fld (w 0x010) 23 20 * 4096 + fld (w 0x600) 23 22 * 1024 + fld ps 23 23 * 512 + fld ps 22 21 * 128
      + fld ps 20 20 * 64)
  else if a = 0x02 then
    let aiBad := (List.range 16).any (fun n =>
      s.win.aiEn.getLsbD n && (!bitOf (w (0x400 + 16 * n + 1)) 23 || bitOf (w (0x400 + 16 * n + 13)) 23))
    let inBad := (List.range 32).any (fun n =>
      s.win.diEn.getLsbD n && !bitOf (w (0x100 + n / 8)) (8 + n % 8))
    let vf (q : Nat) : Nat := fld (w (0x500 + 16 * q)) 23 21
    some (bn (s.win.landing.isSome && (w 0x030) &&& (w 0x031) != 0) * 2 ^ 15 + bn (fld (w 0x025) 7 4 != 0) * 2 ^ 14
      + bn ((w 0x208) != 0 || (w 0x209) != 0) * 2 ^ 13 + bn inBad * 2 ^ 12 + bn aiBad * 2 ^ 11
      + bn ((List.range 4).any (fun q => bitOf (w (0x500 + 16 * q)) 20)) * 2 ^ 10
      + maskOf 4 (fun q => vf q == 4) * 16 + maskOf 4 (fun q => fld (w (0x204 + q)) 15 8 != 0))
  else if a = 0x03 then some (fld (w 0x023) 15 0)
  else if a < 0x06 then some (grp 0x100 (a - 0x04) 23 16)
  else if a < 0x08 then some (grp 0x100 (a - 0x06) 15 8)
  else if a < 0x0A then some (grp 0x200 (a - 0x08) 7 0)
  else if a < 0x0C then some (grp 0x200 (a - 0x0A) 15 8)
  else if a < 0x0E then some (halfMask (a - 0x0C) (faultOf w))
  else if a < 0x10 then none
  else if a < 0x20 then
    let lo := w (0x111 + 2 * (a - 0x10))
    some (if lo = noValue then 0 else fld lo 15 0)
  else if a < 0x30 then
    let b := 0x400 + 16 * (a - 0x20)
    if bitOf (w (b + 1)) 23 && w b != noValue then
      some (if fld (w b) 23 8 = 0x8000 then 0x8001 else fld (w b) 23 8)
    else some 0x8000
  else if a < 0x38 then some (fld (w (0x300 + 0x20 * (a - 0x30) + 2)) 23 8)
  else none

end Sys2Proof.Machine
end

