-- ==== Sys2Proof/Machine/Operands.lean ====
section
/-! DEFINITION. The operands of the host commands: what a frame's opcode and parameters spell (R138 to R172), which
values are out of range (R132, row 3), the reply limits (row 4), and the role, modes and class of each command
(R133, R136, R138). -/

namespace Sys2Proof.Machine

/-- A command with its operands, as a helm checks and applies it. -/
inductive Cmd where
  | status
  | readWindow (addr count : Nat)
  | writeWindow (addr : Nat) (ws : List Word)
  | ul1Write (half : Nat) (value : Nat)
  | setOutputs (flags : Nat) (mask value : BitVec 32)
  | setProp (es : List PropEntry)
  | pulse (ch dur : Nat)
  | setMode (target : Byte)
  | roleChallenge (role : Byte)
  | roleResponse (resp : List Byte)
  | roleDrop
  | charterRead (src : Byte) (off count : Nat)
  | charterWrite (off : Nat) (ws : List Word)
  | charterDiscard
  | charterCommit (gen atW : Word) (crc : BitVec 32)
  | tollConfig (roster : Byte) (closed opn : Word) (ms : Nat) (pol : Byte)
  | blackboxRead (area : Byte) (start count : Nat)
  | hostMark (d0 d1 d2 : Word)
  | markClear
  | checkConfig (unit : Nat) (source : Byte) (width : Nat) (flags : Byte) (poly init xorout : BitVec 32)
  | checkRead (unit : Nat) (flags : Byte)
  | analogSnapshot (ch : Nat)
  | wakeArm (p : Nat) (chans trig : Byte) (level : Word) (pre total : Nat)
  | wakeRead (p off count : Nat)
  | syncIssue
  | stageData (off : Nat) (ws : List Word)
  | stageFinish (len : Nat) (crc : BitVec 32) (version : Word)
  | fwSwap (h : Byte)
  | handover (h : Byte)
  | returnHold (v : Byte)
  | selftest (h kind : Byte)
  | debug (h open_ : Byte)
  deriving DecidableEq, Repr

/-! ### From the frame -/

/-- The number in bytes k to k + n - 1. -/
def pn (b : List Byte) (k n : Nat) : Nat := natOfBytes ((b.drop k).take n)

/-- The word in bytes k to k + 2. -/
def pw (b : List Byte) (k : Nat) : Word := wd (pn b k 3)

/-- Byte k. -/
def pb (b : List Byte) (k : Nat) : Byte := b.getD k 0

/-- The entries of SET_PROP (R150). -/
def propEntries : List Byte → List PropEntry
  | c :: x :: y :: z :: rest => ⟨c, wd (natOfBytes [x, y, z])⟩ :: propEntries rest
  | _ => []

/-- The command when a LEN is one that it allows. -/
def when_ (ok : Bool) (c : Cmd) : Option (Option Cmd) := some (if ok then some c else none)

/-- What an opcode and its parameters spell: nothing for an opcode that is not in the table, `some none` for a LEN that
the command does not allow (R132 rows 2 and 3, R138). -/
def parseCmd (op : Byte) (b : List Byte) : Option (Option Cmd) :=
  let n := b.length
  match op.toNat with
  | 0x01 => when_ (n == 0) .status
  | 0x03 => when_ (n == 3) (.readWindow (pn b 0 2) (pn b 2 1))
  | 0x04 => when_ (5 ≤ n && n ≤ 191 && n % 3 == 2) (.writeWindow (pn b 0 2) (wordsOfBytes (b.drop 2)))
  | 0x10 => when_ (n == 9) (.setOutputs (pn b 0 1) (BitVec.ofNat 32 (pn b 1 4)) (BitVec.ofNat 32 (pn b 5 4)))
  | 0x11 => when_ (4 ≤ n && n ≤ 32 && n % 4 == 0) (.setProp (propEntries b))
  | 0x12 => when_ (n == 3) (.pulse (pn b 0 1) (pn b 1 2))
  | 0x20 => when_ (n == 1) (.setMode (pb b 0))
  | 0x21 => when_ (n == 1) (.roleChallenge (pb b 0))
  | 0x22 => when_ (n == 32) (.roleResponse b)
  | 0x23 => when_ (n == 0) .roleDrop
  | 0x30 => when_ (n == 5) (.charterRead (pb b 0) (pn b 1 3) (pn b 4 1))
  | 0x31 => when_ (3 ≤ n && n % 3 == 0) (if n == 3 && pn b 0 3 == 0xFFFFFF then .charterDiscard
      else .charterWrite (pn b 0 3) (wordsOfBytes (b.drop 3)))
  | 0x32 => when_ (n == 10) (.charterCommit (pw b 0) (pw b 3) (BitVec.ofNat 32 (pn b 6 4)))
  | 0x41 => when_ (n == 10) (.tollConfig (pb b 0) (pw b 1) (pw b 4) (pn b 7 2) (pb b 9))
  | 0x50 => when_ (n == 4) (.blackboxRead (pb b 0) (pn b 1 2) (pn b 3 1))
  | 0x51 => when_ ((n == 10 && pb b 0 == 0) || (n == 1 && pb b 0 == 1))
      (if n == 1 then .markClear else .hostMark (pw b 1) (pw b 4) (pw b 7))
  | 0x60 => when_ (n == 16) (.checkConfig (pn b 0 1) (pb b 1) (pn b 2 1) (pb b 3) (BitVec.ofNat 32 (pn b 4 4))
      (BitVec.ofNat 32 (pn b 8 4)) (BitVec.ofNat 32 (pn b 12 4)))
  | 0x61 => when_ (n == 2) (.checkRead (pn b 0 1) (pb b 1))
  | 0x70 => when_ (n == 1) (.analogSnapshot (pn b 0 1))
  | 0x71 => when_ (n == 10) (.wakeArm (pn b 0 1) (pb b 1) (pb b 2) (pw b 3) (pn b 6 2) (pn b 8 2))
  | 0x72 => when_ (n == 5) (.wakeRead (pn b 0 1) (pn b 1 2) (pn b 3 2))
  | 0x78 => when_ (n == 0) .syncIssue
  | 0x80 => when_ ((6 ≤ n && n % 3 == 0) || (n == 13 && pn b 0 3 == 0xFFFFFF))
      (if n == 13 then .stageFinish (pn b 3 3) (BitVec.ofNat 32 (pn b 6 4)) (pw b 10)
       else .stageData (pn b 0 3) (wordsOfBytes (b.drop 3)))
  | 0x81 => when_ (n == 1) (.fwSwap (pb b 0))
  | 0x90 => when_ (n == 1) (.handover (pb b 0))
  | 0x91 => when_ (n == 1) (.returnHold (pb b 0))
  | 0xA0 => when_ (n == 2) (.selftest (pb b 0) (pb b 1))
  | 0xF0 => when_ (n == 2) (.debug (pb b 0) (pb b 1))
  | _ => none

/-! ### Values out of range -/

/-- The channels that are PQ stages (R4). -/
def pqMask : BitVec 32 := 0x03030303

/-- A helm of a helm code. -/
def helmOf (h : Byte) : Option HelmId := helmOfCode h.toNat

/-- An entry of SET_PROP out of range (R134, R150). -/
def propBad (e : PropEntry) : Bool :=
  anyBits (e.ch.setWidth 24) 0x38 || fld (e.ch.setWidth 24) 7 6 == 3 || outside 0 1200000 (sc e.sp)

/-- A trigger that R169 lists. -/
def trigOk (t : Nat) : Bool :=
  t == 0 || (0x10 ≤ t && t < 0x14) || (0x20 ≤ t && t < 0x24) || (0x30 ≤ t && t < 0x40) || t == 0xFF

/-- A source that R166 lists. -/
def cuSourceOk (x : Nat) : Bool := x < 3 || (0x10 ≤ x && x < 0x22) || x == 0x30

/-- A parameter out of range, or a reserved value (R132 row 3) (log entry 41, DEDUCED). -/
def Cmd.paramBad : Cmd → Bool
  | .setOutputs flags mask _ => 2 < flags || mask &&& pqMask != 0
  | .ul1Write half _ => 1 < half
  | .setProp es => es.isEmpty || 8 < es.length || es.any propBad
  | .pulse ch dur => 31 < ch || isPq ch || dur == 0 || 65535 < dur
  | .setMode t => !(t.toNat < 4 || t.toNat == 5)
  | .roleChallenge r => r.toNat == 0 || 3 < r.toNat
  | .roleResponse b => b.length != 32
  | .charterRead src _ _ => !(src.toNat < 2 || (0x11 ≤ src.toNat && src.toNat < 0x14))
  | .charterWrite off ws => ws.isEmpty || 8192 < off + ws.length
  | .tollConfig roster closed opn ms pol =>
    roster == 0 || outside 33 2129920 closed.toNat || outside 33 2129920 opn.toNat || ms == 0 || 1000 < ms
    || 1 < pol.toNat
  | .blackboxRead area start count => 1 < area.toNat
    || (start != 0xFFFF && (if area.toNat = 0 then ringSlots else 256) ≤ start) || count == 0 || 113 < count
  | .checkConfig unit source width flags poly init xorout =>
    3 < unit || !cuSourceOk source.toNat || width == 0 || 32 < width || 31 < flags.toNat
    || poly.toNat / 2 ^ width != 0 || init.toNat / 2 ^ width != 0 || xorout.toNat / 2 ^ width != 0
  | .checkRead unit _ => 3 < unit
  | .analogSnapshot ch => 15 < ch
  | .wakeArm p chans trig level pre total =>
    3 < p || 15 < chans.toNat || !trigOk trig.toNat || (chans == 0 && trig != 0xFF) || level == noValue
    || total < pre || total == 0 || 16384 < total
  | .wakeRead p off count => 3 < p || 16383 < off || count == 0 || 1024 < count
  | .stageData off ws => ws.isEmpty || 43690 < off + ws.length
  | .stageFinish len _ _ => len == 0 || 43690 < len
  | .fwSwap h | .handover h => (helmOf h).isNone
  | .returnHold v => 1 < v.toNat
  | .selftest h kind => h.toNat == 0 || 3 < h.toNat || kind.toNat == 0 || 2 < kind.toNat
  | .debug h o => h.toNat == 0 || 3 < h.toNat || 1 < o.toNat
  | .writeWindow _ ws => ws.isEmpty
  | .status | .readWindow _ _ | .roleDrop | .charterDiscard | .charterCommit _ _ _ | .hostMark _ _ _ | .markClear
  | .syncIssue => false

/-- The requested reply does not fit the generation's limit (R132 row 4, R140, R157, R163, R170) (log entry 41, DEDUCED). -/
def Cmd.lenOver (c : Cmd) (g : Gen) : Bool :=
  let lim (ul2 ul3 : Nat) : Nat := if g = .ul3 then ul3 else ul2
  match c with
  | .readWindow _ n => lim 64 255 < n
  | .charterRead _ _ n => lim 64 255 < n
  | .blackboxRead _ _ n => lim 7 113 < n
  | .wakeRead _ _ n => lim 64 1024 < n
  | _ => false

/-! ### Role, mode, class -/

/-- The lowest role that may perform a command in any mode, 0 for none (R133, R138, R152); of output commands only forcing needs
INSTALLER, and SLIPWAY. -/
def Cmd.role : Cmd → Nat
  | .status | .readWindow _ _ | .roleChallenge _ | .roleResponse _ | .roleDrop | .checkRead _ _ | .wakeRead _ _ _ => 0
  | .writeWindow _ _ | .ul1Write _ _ | .pulse _ _ | .blackboxRead _ _ _ | .hostMark _ _ _
  | .checkConfig _ _ _ _ _ _ _ | .analogSnapshot _ | .wakeArm _ _ _ _ _ _ | .syncIssue => 1
  | .setOutputs flags _ _ => if flags = 1 then 2 else 1
  | .setProp es => if es.any (fun e => fld (e.ch.setWidth 24) 7 6 == 2) then 2 else 1
  | .setMode t => if t = 2 then 2 else 1
  | .charterRead _ _ _ | .charterWrite _ _ | .charterDiscard | .charterCommit _ _ _ | .handover _ | .returnHold _
  | .selftest _ _ => 2
  | .tollConfig _ _ _ _ _ | .markClear | .stageData _ _ | .stageFinish _ _ _ | .fwSwap _ | .debug _ _ => 3

/-- Whether the mode allows a command to a role (R132 row 6, R138); the transitions of SET_MODE are judged apart. -/
def Cmd.modeOk (c : Cmd) (m : Mode) (role : Nat) : Bool :=
  let b := m = .berthed
  let sl := m = .slipway
  let run := m.running
  match c with
  | .setOutputs flags _ _ => decide (flags ≠ 1) || sl
  | .setProp es => !es.any (fun e => fld (e.ch.setWidth 24) 7 6 == 2) || sl
  | .charterWrite _ _ | .charterDiscard | .charterCommit _ _ _ => role = 3 || sl
  | .tollConfig _ _ _ _ _ => b || sl
  | .markClear => b
  | .fwSwap _ | .handover _ => b || sl || run
  | .selftest _ kind => kind = 1 || b || sl
  | .debug h _ => if h = 3 then b else b || sl || run
  | _ => true

/-- An output command (R122). -/
def Cmd.isOutput : Cmd → Bool
  | .setOutputs _ _ _ | .setProp _ | .pulse _ _ | .ul1Write _ _ => true
  | _ => false

/-- A command of class Read (R136). -/
def Cmd.isRead : Cmd → Bool
  | .status | .readWindow _ _ | .blackboxRead _ _ _ | .checkRead _ _ | .wakeRead _ _ _ => true
  | _ => false

/-- The class Read by its opcode, which the front end applies (R116). -/
def opIsRead (op : Byte) : Bool := [0x01, 0x03, 0x50, 0x61, 0x72].contains op.toNat

end Sys2Proof.Machine
end

