-- ==== Sys2Proof/Machine/FrontEnd.lean ====
section
/-! DEFINITION. The host-port front ends of the Quay (R90 to R120, R129 to R131): framing, checks, the alive counter, the
reply of the next frame, the fetch buffer, sessions, check-ins, and the command slips (R24, R27, R28). -/

namespace Sys2Proof.Machine

/-! ### Bytes on the line -/

/-- The fold byte: the device address (R95). -/
def State.fold (s : State) : List Byte := [BitVec.ofNat 8 (s.rst.addr.getD 0)]

/-- Bytes with their CRC-16 after them (R104). -/
def State.withCrc16 (s : State) (bs : List Byte) : List Byte := bs ++ bytesOfNat 2 (crc16 (s.fold ++ bs)).toNat

/-- A reply in UL2 format (R105). -/
def State.ul2Bytes (s : State) (r : Reply) : List Byte :=
  s.withCrc16 ([r.status.code, r.alive] ++ bytesOfWord r.eff ++ [BitVec.ofNat 8 r.data.length] ++ r.data)

/-- The data phase of a fetch (R109). -/
def State.ul3Bytes (s : State) (r : Reply) : List Byte :=
  let n := r.data.length
  s.withCrc16 ([r.status.code, r.alive] ++ bytesOfWord r.eff
    ++ (if n < 255 then [BitVec.ofNat 8 n] else 0xFF :: bytesOfNat 2 n) ++ r.data)

/-- A UL1 reply to the frame whose first byte is given (R100). -/
def State.ul1Bytes (s : State) (b0 : Byte) (err : Bool) (result : Nat) : List Byte :=
  let hd := BitVec.ofNat 8 (128 * bn err + b0.toNat % 128) :: bytesOfNat 2 result
  hd ++ [crc8 (s.fold ++ hd)]

/-- A UL1 reply with ERR and a status (R100). -/
def State.ul1Err (s : State) (b0 : Byte) (st : Status) : List Byte := s.ul1Bytes b0 true (st.code.toNat * 256)

/-! ### What bytes make a frame (R94, R99, R103, R106 to R109, R111) -/

/-- What the bytes of a select period are so far: no frame yet, a frame that ended with the byte that shows a format
fault, or a whole frame. -/
inductive Framed where
  | unfinished
  | bad (st : Status)
  | ul1 (f : List Byte)
  | packet (g : Gen) (alive op : Byte) (prm : List Byte) (good : Bool) (bytes : List Byte)
  | fetch (alive req : Byte) (good : Bool)
  deriving DecidableEq, Repr

/-- Whether a UL3 header is that of a fetch frame (R106). -/
def isFetch (b : Byte) : Bool := 0xC0 ≤ b.toNat && b.getLsbD 5

/-- The address bytes of a UL3 request header (R106). -/
def addrBytes (b : Byte) : Nat :=
  match b.toNat / 2 % 4 with
  | 0 => 0
  | 1 => 2
  | 2 => 3
  | _ => 4

/-- A packet of UL2 (no address bytes) or a UL3 request: ALIVE, OPCODE and LEN in bytes 1 to 3. -/
def State.packetOf (s : State) (g : Gen) (aw : Nat) (f : List Byte) : Framed :=
  if f.length < 4 then .unfinished else
  let len := pn f 3 1
  if 192 < len + aw then .bad .lenOver
  else if f.length < 6 + aw + len then .unfinished
  else
    let f := f.take (6 + aw + len)
    .packet g (pb f 1) (pb f 2) ((f.drop 4).take (aw + len)) (crc16 (s.fold ++ f) == 0) f

/-- The front end accepts UL1 frames: UL1_EN, 1 until a charter is in force (R101, R121). -/
def State.ul1On (s : State) : Bool := s.inForce.isEmpty || chUl1 s.inForce

/-- What the bytes of a select period are. -/
def State.framed (s : State) (f : List Byte) : Framed :=
  match f with
  | [] => .unfinished
  | b :: _ =>
    if b.toNat < 0x80 then
      if !s.ul1On then .bad .headerBad else if f.length < 4 then .unfinished else .ul1 (f.take 4)
    else if b.toNat = 0x96 then s.packetOf .ul2 0 f
    else if b.toNat < 0xC0 then .bad .headerBad
    else if isFetch b then
      if b.getLsbD 2 then .bad .headerBad
      else if f.length < 5 then .unfinished
      else .fetch (pb f 1) (pb f 2) (crc16 (s.fold ++ f.take 5) == 0)
    else if b.getLsbD 0 then .bad .headerBad
    else s.packetOf .ul3 (addrBytes b) f

/-- The generation that the first byte selects, UL1 known after its first bit and UL3 after the second; UL2 where it selects none
or is not known (R94, R96). `part`: the bits of a byte cut off. -/
def genOf (f : List Byte) (part : List Bool) : Gen :=
  match f with
  | [] => match part with
    | false :: _ => .ul1
    | true :: true :: _ => .ul3
    | _ => .ul2
  | b :: _ => if b.toNat < 0x80 then .ul1 else if b.toNat < 0xC0 then .ul2 else .ul3

/-! ### The front end's own answers -/

/-- L of a frame stamped now; in MOORED no crossing runs and the crossing held stands (R56, R129) (log entry 21, DEDUCED). -/
def State.effL (s : State) : Nat := if s.mode = .moored then s.tb.crossing else s.now.landing

/-- The RC field of PORT_STATUS that counts a rejection (R125). -/
def rejectLo : Status → Option Nat
  | .crcBad => some 16
  | .aliveSkip => some 12
  | .frameCut => some 8
  | .headerBad | .lenOver => some 4
  | _ => none

/-- A rejection is counted; a refusal BUSY in SLIP_EVENTS (R34, R125). -/
def State.countReject (s : State) (p : Port) (st : Status) : State :=
  match rejectLo st with
  | some lo => s.rcAdd (portStatusAddr p) lo 1
  | none => if st = .busy then s.rcAdd 0x021 (match p with | .hpa => 20 | .hpb => 16) 1 else s

/-- The reply slip of a helm for a port. -/
def Helm.slip (x : Helm) : Port → List (Nat × Reply)
  | .hpa => x.slipA
  | .hpb => x.slipB

/-- The reply slip changed. -/
def Helm.setSlip (x : Helm) (p : Port) (l : List (Nat × Reply)) : Helm :=
  match p with
  | .hpa => { x with slipA := l }
  | .hpb => { x with slipB := l }

/-- The replies that wait in data SRAM for a port's reply slip (R27). -/
def Helm.waiting (x : Helm) : Port → List (Nat × Reply)
  | .hpa => x.waitA
  | .hpb => x.waitB

/-- The replies that wait changed. -/
def Helm.setWaiting (x : Helm) (p : Port) (l : List (Nat × Reply)) : Helm :=
  match p with
  | .hpa => { x with waitA := l }
  | .hpb => { x with waitB := l }

/-- A helm offers the replies that wait to its reply slip of 2 (R27); its background work (R51). -/
def Helm.offerReplies (x : Helm) (p : Port) : Helm :=
  let n := 2 - (x.slip p).length
  (x.setSlip p (x.slip p ++ (x.waiting p).take n)).setWaiting p ((x.waiting p).drop n)

/-- The frames whose replies a port still waits for. -/
def PortFE.wants (f : PortFE) : List Nat :=
  (match f.due with | some (.helm id _ _) => [id] | _ => [])
  ++ (match f.fetch with | .pending _ id _ => [id] | _ => [])

/-- Replies that no one waits for any more are drained (R29) (log entry 19, DEDUCED). -/
def State.drainReplies (s : State) (p : Port) : State :=
  let keep (x : Helm) : Helm := x.setSlip p ((x.slip p).filter (fun e => (s.port p).wants.contains e.1))
  { s with helmA := keep s.helmA, helmB := keep s.helmB }

/-- The reply to a frame that the holder's reply slip has (R29, R116). -/
def State.helmReply (s : State) (p : Port) (id : Nat) : Option Reply :=
  match s.holder with
  | some h => assocGet ((s.helm h).slip p) id
  | none => none

/-- A port is heard in this crossing (R123): once per crossing to the helms. -/
def State.heardNow (s : State) (p : Port) : State :=
  if (s.port p).heardAt = some s.tb.crossing then s
  else (s.modPort p (fun f => { f with heardAt := some s.tb.crossing })).raiseEv s.now (.heard p)

/-- The front end's own reply to a UL2 frame in the next reply slot, or to a UL3 request in the fetch buffer (R112). The buffer names
the request by the reply's ALIVE_ECHO: under which value a rejected request is named the spec does not say (R110; log entry 48,
DESIGN CHOICE). -/
def State.feReply (s : State) (p : Port) (g : Gen) (r : Reply) : State :=
  let s' := s.modPort p (fun f =>
    match g with
    | .ul3 => { f with fetch := .ready r.alive r }
    | _ => { f with due := some (.raw (s.ul2Bytes r) none) })
  s'.drainReplies p

/-- A UL1 reply in the next reply slot. -/
def State.ul1Reply (s : State) (p : Port) (bs : List Byte) : State :=
  (s.modPort p (fun f => { f with due := some (.raw bs none) })).drainReplies p

/-- The alive value expected next. -/
def State.setAlive (s : State) (p : Port) (a : Byte) : State := s.modPort p (fun f => { f with alive := a })

/-- A frame that the front end rejects: counted, answered, and the alive rule of R113 (R112). -/
def State.rejectFrame (s : State) (p : Port) (g : Gen) (st : Status) (echo next : Byte) : State :=
  ((s.countReject p st).feReply p g ⟨st, echo, wd s.tb.crossing, [], none⟩).setAlive p next

/-! ### Accepted frames (R129) -/

/-- EFF_CROSSING of a command by its class: Read carries L - 1, Sample L + 1 unless refused, every other L (R116,
R136) (log entry 21, DEDUCED). -/
def effOfOp (op : Byte) (L : Nat) (refused : Bool) : Word :=
  if opIsRead op then wd (L - 1) else if op = 0x70 && !refused then wd (L + 1) else wd L

/-- A frame enters the command slips that lead to a helm in service (R28), and the check units that snoop the port (R456). -/
def State.enter (s : State) (p : Port) (g : Gen) (alive op : Byte) (prm bytes : List Byte) : State :=
  let e : Entered := { tag := ⟨p, alive, g⟩, op := op, prm := prm, at_ := s.now, id := s.nextId }
  let s := s.modPort p (fun f => { f with
    slipA := if s.helmA.svc.inService then f.slipA ++ [e] else f.slipA
    slipB := if s.helmB.svc.inService then f.slipB ++ [e] else f.slipB })
  { s with nextId := s.nextId + 1 }.snoop
    ⟨match p with | .hpa => 1 | .hpb => 2, s.now.landing, s.fold, bytesOfNat 6 s.tb.crossing, bytes⟩

/-- Every command slip of the port that leads to a helm in service has room for a frame (R28): depth 2 (R27). -/
def State.slipRoom (s : State) (p : Port) : Bool :=
  (!s.helmA.svc.inService || decide ((s.port p).slipA.length < 2))
  && (!s.helmB.svc.inService || decide ((s.port p).slipB.length < 2))

/-- No helm receives commands (R129) (log entry 21, DEDUCED). -/
def State.noHelm (s : State) : Bool := !s.helmA.svc.inService && !s.helmB.svc.inService

/-- SESSION_RESET accepted: slips flushed, fetch buffer emptied, the session open, the SESSION OPEN reply, the stamped event
(R118 to R120, R173) (log entry 4, DESIGN CHOICE; log entry 19, DEDUCED). -/
def State.sessionIn (s : State) (p : Port) (alive : Byte) : State :=
  let st := mergeRc s.win.rc (portStatusAddr p) (s.portStatus (match s.holder with | some h => (s.helm h).hs | none => {}) p)
  let r : Reply := ⟨.ok, alive, wd s.effL, bytesOfWords [s.sessionWord, st], none⟩
  let s := s.modPort p (fun f => { f with
    opened := true, alive := alive + 1, slipA := [], slipB := [], fetch := .empty })
  ((s.feReply p .ul2 r).heardNow p).raiseEv s.now (.sessionReset p s.nextId)

/-- A check-in: stamped with the mooring tick into the toll slip of 8, or BUSY (R25, R129, R161) (log entry 19, DEDUCED). -/
def State.tollIn (s : State) (p : Port) (g : Gen) (alive : Byte) (prm : List Byte) : State :=
  let st : Status :=
    if prm.length ≠ 3 then .paramBad else if 8 ≤ (s.port p).toll.length then .busy else .ok
  let s := if st = .ok then
      s.modPort p (fun f => { f with toll := f.toll ++ [⟨wd (natOfBytes prm), p, s.rst.tick, s.now⟩] })
    else s
  let eff := if st = .ok then wd s.tb.crossing else wd s.effL
  ((s.feReply p g ⟨st, alive, eff, [], none⟩).setAlive p (alive + 1)).heardNow p

/-- A frame that passed the checks of R111, answered by the first row of R129 that matches (log entry 19, DEDUCED). Until the
first landing ends start-up no check-in arrives (R425): TOLL is answered NO_HELM, as R464 has it of start-up (log entry 55, DESIGN
CHOICE). -/
def State.acceptFrame (s : State) (p : Port) (g : Gen) (alive op : Byte) (prm bytes : List Byte) : State :=
  let L := s.effL
  let own (st : Status) (eff : Word) : State :=
    ((s.feReply p g ⟨st, alive, eff, [], none⟩).setAlive p (alive + 1)).heardNow p
  if op = 0x02 && !prm.isEmpty then own .badOpcode (wd L)
  else if s.mode = .moored then
    if op = 0x20 && prm = [0x01] then
      (own .ok (wd L)).wakeBy (match p with | .hpa => 1 | .hpb => 2)
    else own .modeDenied (wd L)
  else if op = 0x40 then (if s.rst.landed then s.tollIn p g alive prm else own .noHelm (wd L))
  else if s.noHelm then own .noHelm (effOfOp op L true)
  else
    let id := s.nextId
    let s := (s.enter p g alive op prm bytes).modPort p (fun f =>
      match g with
      | .ul3 => { f with fetch := .pending alive id (effOfOp op L false) }
      | _ => { f with due := some (.helm id alive (effOfOp op L false)) })
    ((s.drainReplies p).setAlive p (alive + 1)).heardNow p

/-- The checks of R111 from the CRC on (log entry 19, DEDUCED). A UL3 request with opcode 0x02 and LEN 0 goes on to the helm, which
answers BAD_OPCODE: R119 speaks of UL2 only (R129; log entry 48, DESIGN CHOICE). -/
def State.packetIn (s : State) (p : Port) (g : Gen) (alive op : Byte) (prm bytes : List Byte) (good : Bool) : State :=
  let x := (s.port p).alive
  if !good then s.rejectFrame p g .crcBad x (x + 1)
  else if g = .ul2 && op = 0x02 && prm.isEmpty then s.sessionIn p alive
  else if !(s.port p).opened then s.rejectFrame p g .sessionRequired x x
  else if alive ≠ x then s.rejectFrame p g .aliveSkip alive (alive + 1)
  else if !s.slipRoom p then s.rejectFrame p g .busy x (alive + 1)
  else s.acceptFrame p g alive op prm bytes

/-! ### UL1 (R101) -/

/-- A whole UL1 frame (R99 to R102); in a closed session any write is answered SESSION_REQUIRED (R118). Whether the answers of R129 bind
UL1 frames the spec does not say: MODE_DENIED in MOORED, and with no helm NO_HELM to a write of CL_Q, while reads come from the mirror
(log entry 56, DESIGN CHOICE). -/
def State.ul1In (s : State) (p : Port) (f : List Byte) : State :=
  let b0 := pb f 0
  let a := b0.toNat % 64
  let err (st : Status) : State := s.ul1Reply p (s.ul1Err b0 st)
  let val := pn f 1 2
  if crc8 (s.fold ++ f.take 3) ≠ pb f 3 then (err .crcBad).rcAdd (portStatusAddr p) 16 1
  else if b0.getLsbD 6 && !(s.port p).opened then err .sessionRequired
  else if s.mode = .moored then (err .modeDenied).heardNow p
  else
    match s.classic p a with
    | none => (err .undefinedAddr).heardNow p
    | some v =>
      if !b0.getLsbD 6 then (s.ul1Reply p (s.ul1Bytes b0 false v)).heardNow p
      else if a ≠ 0x08 && a ≠ 0x09 then (s.ul1Reply p (s.ul1Bytes b0 false val)).heardNow p
      else if (match s.holder with | some h => ((s.helm h).hs.role p).held | none => none).isNone then
        (err .roleDenied).heardNow p
      else if s.noHelm then (err .noHelm).heardNow p
      else if !s.slipRoom p then ((err .busy).countReject p .busy).heardNow p
      else
        ((s.enter p .ul1 0 0x10 [BitVec.ofNat 8 (a - 8), pb f 1, pb f 2] f).ul1Reply p
          (s.ul1Bytes b0 false val)).heardNow p

/-! ### UL3 fetch (R109, R110) -/

/-- The data phase of a fetch: from the fetch buffer, which stays as it is (log entry 19, DEDUCED). EFF_CROSSING of REPLY_GONE the spec
does not state there: the current crossing (log entry 56, DESIGN CHOICE). -/
def State.fetchIn (s : State) (p : Port) (alive req : Byte) (good : Bool) : State :=
  let x := (s.port p).alive
  let send (s : State) (r : Reply) : State := s.modPort p (fun f => { f with sending := some (s.ul3Bytes r), sendId := none })
  let rej (st : Status) (echo next : Byte) : State :=
    send ((s.countReject p st).setAlive p next) ⟨st, echo, wd s.tb.crossing, [], none⟩
  if !good then rej .crcBad x (x + 1)
  else if !(s.port p).opened then rej .sessionRequired x x
  else if alive ≠ x then rej .aliveSkip alive (alive + 1)
  else
    let s := (s.setAlive p (alive + 1)).heardNow p
    match (s.port p).fetch with
    | .ready a r => if a = req then send s r else send s ⟨.replyGone, req, wd s.tb.crossing, [], none⟩
    | .pending a id eff =>
      if a ≠ req then send s ⟨.replyGone, req, wd s.tb.crossing, [], none⟩
      else
        match s.helmReply p id with
        | some r => send ((s.modPort p (fun f => { f with fetch := .ready a r })).drainReplies p) r
        | none => send s ⟨.acceptedPending, req, eff, [], none⟩
    | .empty => send s ⟨.replyGone, req, wd s.tb.crossing, [], none⟩

/-! ### Select periods (R92, R96 to R98, R114) -/

/-- SELx falls: the reply due is chosen, and its first byte driven (R92, R96, R116). -/
def State.selDown (s : State) (p : Port) : State :=
  let r : Option (List Byte × Option Nat) :=
    match (s.port p).due with
    | some (.raw bs c) => some (bs, c)
    | some (.helm id alive eff) =>
      match s.helmReply p id with
      | some r => some (s.ul2Bytes r, r.clr)
      | none => some (s.ul2Bytes ⟨.acceptedPending, alive, eff, [], none⟩, none)
    | none => none
  s.modPort p (fun f => { f with
    sel := true, done := false, clocked := 0, head := [], lanes := 0, dummies := 0, sending := r.map (·.1), sendId := (r.map (·.2)).getD none })

/-- During the header of a UL3 frame the first byte of the reply due is driven; all of the reply goes with the next UL1 or UL2
frame (R97). -/
def State.keepDue (s : State) (p : Port) : State :=
  s.modPort p (fun f => { f with
    due := match f.sending with
      | some bs => some (.raw bs f.sendId)
      | none => f.due
    head := [(f.sending.getD []).headD 0xFF]
    sending := none
    sendId := none })

/-- A frame that ends with the byte that shows a format fault (R111 to R113). -/
def State.badFrame (s : State) (p : Port) (f : List Byte) (st : Status) : State :=
  let x := (s.port p).alive
  let next := if st = .lenOver then x + 1 else x
  match genOf f [] with
  | .ul1 => (s.ul1Reply p (s.ul1Err (pb f 0) st)).countReject p st
  | .ul2 => s.rejectFrame p .ul2 st x next
  | .ul3 =>
    let s := s.keepDue p
    if isFetch (pb f 0) then s.countReject p st else s.rejectFrame p .ul3 st x next

/-- Bytes clocked in a select period: with the last byte of a reply that returns RC fields the clear event is stamped (R147). -/
def State.clockOut (s : State) (p : Port) (n : Nat) : State :=
  let c := (s.port p).clocked + n
  let s := s.modPort p (fun f => { f with clocked := c })
  match (s.port p).sending, (s.port p).sendId with
  | some bs, some id =>
    if bs.length ≤ c then (s.modPort p (fun f => { f with sendId := none })).raiseEv s.now (.rcClear id) else s
  | _, _ => s

/-- The bytes that a frame has clocked so far in its select period (R147). -/
def State.clockTo (s : State) (p : Port) (n : Nat) : State := s.clockOut p (n - (s.port p).clocked)

/-- The bytes received in a select period: only the clock counts until they make a frame; of bytes after a frame only the clock counts
(R92, R93). A frame without a select period before it starts one (log entry 19, DEDUCED). -/
def State.bytesIn (s : State) (p : Port) (f : List Byte) : State :=
  if !s.portOn then s else
  let s := if (s.port p).sel then s else s.selDown p
  if (s.port p).done then s.clockOut p f.length else
  let fin (s : State) : State := (s.modPort p (fun x => { x with done := true })).clockTo p f.length
  match s.framed f with
  | .unfinished => if genOf f [] = .ul3 then s else s.clockTo p f.length
  | .bad st => fin (s.badFrame p f st)
  | .ul1 f => fin (s.ul1In p f)
  | .packet .ul3 alive op prm good bytes => fin ((s.keepDue p).packetIn p .ul3 alive op prm bytes good)
  | .packet g alive op prm good bytes => fin (s.packetIn p g alive op prm bytes good)
  | .fetch alive req good =>
    let b := (pb f 0).toNat
    fin (((s.keepDue p).modPort p (fun x => { x with lanes := b / 8 % 4, dummies := 4 * (b % 4 + 1) })).fetchIn p alive req good)

/-- A reply still being sent is cut and counted; one sent in full gives the clear event of R147 (R98, R114) (log entry 22, DEDUCED). -/
def State.endReply (s : State) (p : Port) (clocked : Nat) : State :=
  let f := s.port p
  match f.sending with
  | none => s
  | some bs =>
    if clocked < bs.length then s.rcAdd (portStatusAddr p) 0 1
    else match f.sendId with
      | some id => s.raiseEv s.now (.rcClear id)
      | none => s

/-- A first byte of which only these bits came; of the others the spec states no echo (R100; log entry 48, DESIGN CHOICE). -/
def cutByte (part : List Bool) : Byte :=
  BitVec.ofNat 8 (maskOf 8 (fun k => match part[7 - k]? with
    | some b => b
    | none => Config.cutEcho.getLsbD k))

/-- SELx rises before the end of a frame: FRAME_CUT (R111 to R114). A UL3 frame cut before its DIR bit is taken for a request (log entry 22, DEDUCED). -/
def State.cutFrame (s : State) (p : Port) (got : List Byte) (part : List Bool) : State :=
  let x := (s.port p).alive
  let next := if 2 ≤ got.length then x + 1 else x
  let first : Byte := match got with
    | b :: _ => b
    | [] => cutByte part
  match genOf got part with
  | .ul1 => (s.ul1Reply p (s.ul1Err first .frameCut)).countReject p .frameCut
  | .ul2 => s.rejectFrame p .ul2 .frameCut x next
  | .ul3 =>
    if isFetch first && (!got.isEmpty || decide (3 ≤ part.length)) then (s.countReject p .frameCut).setAlive p next
    else s.rejectFrame p .ul3 .frameCut x next

/-- A byte of a data phase on the lanes, clock by clock, IO0 in bit 0: one lane, on SDOx which is IO1; two; or four (R106, R107). -/
def onLanes (lanes : Nat) (b : Byte) : List (BitVec 4) :=
  let bit (k : Nat) : Nat := bn (b.getLsbD k)
  match lanes with
  | 0 => (List.range 8).map (fun k => BitVec.ofNat 4 (2 * bit (7 - k)))
  | 1 => (List.range 4).map (fun k => BitVec.ofNat 4 (2 * bit (7 - 2 * k) + bit (6 - 2 * k)))
  | _ => [BitVec.ofNat 4 (b.toNat / 16), BitVec.ofNat 4 (b.toNat % 16)]

/-- SELx rises (R114). `clocked`: whole bytes of the reply clocked out, in a fetch those of its data phase (log entry 22, DEDUCED). -/
def State.selUp (s : State) (p : Port) (edges : Bool) (clocked : Nat) (got : List Byte) (part : List Bool) : State :=
  if !(s.portOn && (s.port p).sel) then s else
  let data (f : PortFE) : List Byte :=
    ((f.sending.getD []).take clocked) ++ List.replicate (clocked - (f.sending.getD []).length) 0xFF
  let fin (s : State) : State := s.modPort p (fun f => { f with
    sel := false
    done := false
    driven := if !edges then [] else if f.head.isEmpty then data f
      else f.head ++ (if f.dummies = 0 then [] else data f)
    io := if edges && decide (f.dummies ≠ 0) then (data f).flatMap (onLanes f.lanes) else []
    sending := none
    sendId := none })
  if !edges then fin s else
  let s := s.bytesIn p got
  if (s.port p).done then fin (s.endReply p clocked)
  else
    let s := if genOf got part = .ul3 then s.keepDue p else s.endReply p clocked
    fin (s.cutFrame p got part)

/-! ### The commands of the front ends -/

/-- UL1_READ (R101). -/
def execUl1Read (p : Port) (f : List Byte) (s : State) : Host.Outcome State Fault Refusal := .next (s.bytesIn p f)

/-- UL1_WRITE (R101). -/
def execUl1Write (p : Port) (f : List Byte) (s : State) : Host.Outcome State Fault Refusal := .next (s.bytesIn p f)

/-- UL2_FRAME (R103, R111 to R113). -/
def execUl2Frame (p : Port) (f : List Byte) (s : State) : Host.Outcome State Fault Refusal := .next (s.bytesIn p f)

/-- UL3_REQUEST (R108). -/
def execUl3Request (p : Port) (f : List Byte) (s : State) : Host.Outcome State Fault Refusal := .next (s.bytesIn p f)

/-- UL3_FETCH (R109, R110). -/
def execUl3Fetch (p : Port) (f : List Byte) (s : State) : Host.Outcome State Fault Refusal := .next (s.bytesIn p f)

/-- SEL_FALL (R92, R96). -/
def execSelFall (p : Port) (s : State) : Host.Outcome State Fault Refusal :=
  if s.portOn && !(s.port p).sel then .next (s.selDown p) else .next s

/-- SEL_RELEASE (R114) (log entry 22, DEDUCED). -/
def execSelRelease (p : Port) (edges : Bool) (clocked : Nat) (got : RxTail) (s : State) :
    Host.Outcome State Fault Refusal :=
  .next (s.selUp p edges clocked got.bytes got.part)

/-- SESSION_RESET (R118 to R120): the frame with this alive value is accepted (log entry 19, DEDUCED). -/
def execSessionReset (p : Port) (alive : Byte) (s : State) : Host.Outcome State Fault Refusal :=
  if s.portOn then .next (s.sessionIn p alive) else .next s

/-- TOLL (R161): a TOLL frame of an open session that passed the checks of R111; in MOORED it is denied (R129) (log entry 19, DEDUCED). -/
def execToll (p : Port) (alive : Byte) (prm : List Byte) (s : State) : Host.Outcome State Fault Refusal :=
  if s.portOn && (s.port p).opened then .next (s.acceptFrame p .ul2 alive 0x40 prm []) else .next s

end Sys2Proof.Machine
end

