-- ==== Sys2Proof/Machine/HelmOps.lean ====
section
/-! DEFINITION. What a helm does in a passage, shared by commands and events: its records, bell causes and RC events, modes
(R384 to R388), roles (R394 to R398), output authority (R122), host loss (R270), and the holder (R201). Every helm in
service changes its own helm state; what lies outside the helm states is done by the helm that holds the helm. -/

namespace Sys2Proof.Machine

/-! ### The helm state and its surroundings -/

/-- The helm state of a helm. -/
def State.hsOf (s : State) (h : HelmId) : HelmState := (s.helm h).hs

/-- The helm state of a helm changed. -/
def State.modHs (s : State) (h : HelmId) (f : HelmState → HelmState) : State :=
  s.modHelm h (fun x => { x with hs := f x.hs })

/-- Whether the helm holds the helm in its own view. -/
def State.lead (s : State) (h : HelmId) : Bool := (s.helm h).hs.red.view = some h

/-- Whether a helm makes the changes that lie outside the helm states: the one that holds the helm; in its place the other
helm, when it has stopped before running the passage of the crossing (R185, R202). -/
def State.acts (s : State) (h : HelmId) : Bool :=
  s.lead h || (match (s.helm h).hs.red.view with
    | some g => decide (g ≠ h) && !(s.helm g).svc.computes && decide ((s.helm g).passNo ≠ some s.tb.crossing)
    | none => false)

/-- A change outside the helm states. -/
def State.byLead (s : State) (h : HelmId) (f : State → State) : State := if s.acts h then f s else s

/-- A record that both helms compute, stamped n:240 (R412, R438, R439). -/
def State.note (s : State) (h : HelmId) (n cls code : Nat) (d0 d1 d2 : Word) : State :=
  s.sharedRec h ⟨n, 240⟩ cls code d0 d1 d2

/-- A bell cause that a helm raises, set at the landing of its passage when that is kept (R68, R128). -/
def State.chime (s : State) (h : HelmId) (bit : Nat) : State := s.byLead h (fun s => s.ringDue bit)

/-- An RC event of a passage, counted when the passage is kept (R67, R147). -/
def HelmState.rc (hs : HelmState) (addr lo : Nat) (amount : Int) : HelmState :=
  { hs with rcOps := hs.rcOps ++ [.inc ⟨⟨addr, lo⟩, amount⟩] }

/-- The role state of a port changed. -/
def HelmState.modRole (hs : HelmState) (p : Port) (f : RoleSt → RoleSt) : HelmState :=
  match p with
  | .hpa => { hs with roleA := f hs.roleA }
  | .hpb => { hs with roleB := f hs.roleB }

/-- The code of the role a port holds. -/
def HelmState.roleNo (hs : HelmState) (p : Port) : Nat := roleCode (hs.role p).held

/-- The held replies of a port. -/
def HelmState.held (hs : HelmState) : Port → List HeldReply
  | .hpa => hs.heldA
  | .hpb => hs.heldB

/-- The held replies of a port changed. -/
def HelmState.setHeld (hs : HelmState) (p : Port) (l : List HeldReply) : HelmState :=
  match p with
  | .hpa => { hs with heldA := l }
  | .hpb => { hs with heldB := l }

/-- STROKE_TIDE of the charter in force. -/
def HelmState.strokeTide (hs : HelmState) : Nat := chStrokeTide hs.charter

/-- The record of a privileged act of a port (R412, R413). -/
def State.act (s : State) (h : HelmId) (n : Nat) (p : Port) (cls code detail : Nat) (data : Word) : State :=
  let hs := s.hsOf h
  s.note h n cls code (wd (hs.roleNo p * 2 ^ 22 + portCode p * 2 ^ 20 + detail % 2 ^ 20)) (hs.role p).fp data

/-! ### Modes -/

/-- A mode is entered (R386): forces end outside SLIPWAY, and BERTHED and ANCHORED end host loss (R269). -/
def HelmState.enterMode (hs : HelmState) (m : Mode) (cause : Byte) (d0 fp : Word) : HelmState :=
  let hs := { hs with modes := { hs.modes with mode := m, want := cause, wantD0 := d0, wantFp := fp } }
  let hs := if m = .slipway then hs else { hs with forced := Vector.replicate 32 none }
  if m = .berthed || m = .anchored then { hs with hl := .watching, hlCount := 0 } else hs

/-- The mode of landing n begins to be settled, from that of the landing before (R387). -/
def ModeSt.openAt (m : ModeSt) (n : Nat) : ModeSt :=
  if m.baseAt = some n then m
  else { m with baseAt := some n, old := m.mode, oldPrev := m.prev, oldCause := m.cause, oldSince := m.since, oldSh := m.shHelm
                want := 0, wantD0 := 0, wantFp := 0, shWhy := 8 }

/-- That beginning, at a helm. -/
def State.openMode (s : State) (h : HelmId) (n : Nat) : State := s.modHs h (fun hs => { hs with modes := hs.modes.openAt n })

/-- A fault cause (R386, R387): ANCHORED is entered, whatever a SET_MODE of the passage made of the mode; in ANCHORED, or once a fault cause
has entered it, only a MODE_CHANGE record is written; and MOORED is left by a wake alone. -/
def State.anchor (s : State) (h : HelmId) (n : Nat) (cause : Byte) : State :=
  let m := (s.hsOf h).modes
  if m.old = .moored then s
  else if m.mode = .anchored && (m.old == .anchored || m.want != 1) then
    s.note h n clsFault 0x04E (wd (5 * 2 ^ 16 + 5 * 2 ^ 12 + cause.toNat)) 0 0
  else s.modHs h (fun hs => hs.enterMode .anchored cause 0 0)

/-- Whether every HAIL-CHECK order with ACTION 0b10 has its result bit at 1. -/
def HelmState.hailsOk (hs : HelmState) : Bool :=
  let os := chOrders hs.charter
  (List.range os.length).all (fun k =>
    let b := os.getD k []
    bf b 0 23 20 != 6 || bf b 1 11 10 != 2 || (vat hs.orders k {}).result)

/-- The conditions of ACK_READY and of the acknowledgement (R388), the health word and TIDE_UNRESOLVED as at the landing before (R72;
log entry 29, DEDUCED). -/
def State.ackReady (s : State) (h : HelmId) (n : Nat) : Bool :=
  let hs := s.hsOf h
  !isFallback hs.charter
  && (match hs.red.view with
      | some v =>
        let w := match v with | .a => s.quay.healthA | .b => s.quay.healthB
        bitOf w 20 && bitOf w 19 && bitOf w 16 && decide (hs.red.doubleFail ≠ some v)
      | none => false)
  && hs.red.arb.isNone && hs.lateRecent (n - 1) == 0 && !bitOf s.quay.tide 23 && hs.hailsOk

/-- Whether a helm is attached to debug, as the helms have decided. -/
def Redund.anyDebug (r : Redund) : Bool := r.svcA == .debug || r.svcB == .debug

/-- MOORED_EN (R393). -/
def chMooredEn (ch : List Word) : Bool := bb (chBody ch 0x04) 0 23

/-- What SET_MODE of a target does (R386): refused, nothing, or the mode entered. -/
def State.modeMove (s : State) (h : HelmId) (n target : Nat) : Option (Option Mode) :=
  let hs := s.hsOf h
  match hs.modes.mode, target with
  | .berthed, 0 => if chMooredEn hs.charter && hs.pending.isNone && !hs.red.anyDebug then some (some .moored) else none
  | .berthed, 1 => some none
  | .berthed, 2 => some (some .slipway)
  | .berthed, 3 => if isFallback hs.charter then none else some (some .underway)
  | .slipway, 2 => some none
  | .underway, 3 | .singleHanded, 3 => some none
  | .slipway, 1 | .underway, 1 | .singleHanded, 1 => some (some .berthed)
  | .berthed, 5 | .slipway, 5 | .underway, 5 | .singleHanded, 5 => some (some .anchored)
  | .anchored, 5 => some none
  | .anchored, 1 => if s.ackReady h n then some (some .berthed) else none
  | .moored, 0 => some none
  | _, _ => none

/-- SH_HELM: in the running mode a helm is outside STANDBY and HOLDING (R198, R210). -/
def Redund.single (r : Redund) : Bool :=
  let out (v : Svc) : Bool := v != .standby && v != .holding
  out r.svcA || out r.svcB

/-- SH_PONTOON: the pontoons out of service or dark (R364). -/
def HelmState.shPonts (hs : HelmState) : BitVec 4 :=
  BitVec.ofNat 4 (maskOf 4 (fun p => !hs.inSvc.getLsbD p ||
    (match vat hs.reps p none with
     | some r => r.dark
     | none => match vat hs.prevReps p none with
       | some r => r.dark
       | none => false)))

/-- Whether a record is that of a mode change at landing n. -/
def Rec.isChange (r : Rec) (n : Nat) : Bool :=
  r.code == 0x04E && r.at_ == ⟨n, 240⟩ && fld r.d0 19 16 != fld r.d0 15 12

/-- A mode change that the same landing was to have is taken back: at most one is recorded, with its bell cause (R387). -/
def State.dropChange (s : State) (h : HelmId) (n : Nat) : State :=
  let rest (l : List Rec) : List Rec := l.filter (fun r => !r.isChange n)
  if ((s.helm h).shared ++ (s.helm h).held).any (fun r => r.isChange n) then
    (s.modHelm h (fun x => { x with shared := rest x.shared, held := rest x.held })).byLead h (fun s =>
      { s with bell := { s.bell with due := s.bell.due &&& ~~~oneBit bellMode } })
  else s

/-- The mode of landing n is settled from that of the landing before (R387): SH_HELM and SH_PONTOON, and the mode change, if there is
one; settled again in the same crossing, it stays one change (log entry 29, DEDUCED). -/
def State.settleMode (s : State) (h : HelmId) (n : Nat) : State :=
  let hs := s.hsOf h
  let m := hs.modes
  let run := m.mode.running
  let shH := run && hs.red.single
  let shP : BitVec 4 := if run then hs.shPonts else 0
  let new : Mode := if !run then m.mode else if shH || shP != 0 then .singleHanded else .underway
  let keep : ModeSt := { m with shHelm := shH, shPont := shP, ack := s.ackReady h n, mode := new }
  let s := s.dropChange h n
  if new = m.old then
    s.modHs h (fun hs => { hs with modes := { keep with prev := m.oldPrev, cause := m.oldCause, since := m.oldSince } })
  else
    let cause : Byte := if m.old.running && new.running then (if shH != m.oldSh then m.shWhy else 9) else m.want
    let d0 : Word := if m.old.running && new.running then 0 else m.wantD0
    let fp : Word := if m.old.running && new.running then 0 else m.wantFp
    let s := s.modHs h (fun hs => { hs with modes := { keep with prev := m.old, cause := cause, since := n } })
    let s := s.note h n (if new = .anchored then clsFault else clsAct) 0x04E
      (d0 + wd (new.code * 2 ^ 16 + m.old.code * 2 ^ 12 + cause.toNat)) fp 0
    let loud (x : Mode) : Bool := x == .singleHanded || x == .anchored
    if loud new || loud m.old then s.chime h bellMode else s

/-! ### Roles -/

/-- The number of crossings in a number of seconds, rounded up (R398). -/
def HelmState.crossings (hs : HelmState) (sec : Nat) : Nat := crossingsIn hs.strokeTide (sec * 1000000)

/-- The key of a role (R395) (log entry 5, DESIGN CHOICE). -/
def roleKey (ch : List Word) (r : Role) : Option (List Byte) :=
  match r with
  | .maker => some ((chKey ch 3).getD ((List.range 32).map Config.factoryKey))
  | _ => chKey ch (roleCode (some r))

/-- The fingerprint of a key (R397). -/
def keyFp (k : List Byte) : Word := wd (natOfBytes ((sha256 k).take 3))

/-- The message M that a response signs (R396) (log entry 5, DESIGN CHOICE). -/
def roleMsg (c : Chal) (p : Port) : List Byte :=
  c.bytes ++ bytesOfNat 6 Config.serial.toNat ++ [BitVec.ofNat 8 (roleCode (some c.role)), BitVec.ofNat 8 (portCode p)]
    ++ bytesOfWord c.at_

/-- The role held or challenged on a port ends, with its cause (R398). -/
def State.endRole (s : State) (h : HelmId) (n : Nat) (p : Port) (cause : Nat) : State :=
  let r := (s.hsOf h).role p
  if r.held.isNone && r.chal.isNone then s
  else
    (s.act h n p clsAct 0x042 cause 0).modHs h (fun hs =>
      hs.modRole p (fun r => { r with held := none, fp := 0, chal := none }))

/-- A response that is not right (R398): the third in succession locks the port (log entry 25, DEDUCED). -/
def State.roleFail (s : State) (h : HelmId) (n : Nat) (p : Port) : State :=
  let r := (s.hsOf h).role p
  let s := s.act h n p clsAct 0x041 (roleCode (r.chal.map (·.role))) (wd (r.fails + 1))
  s.modHs h (fun hs => hs.modRole p (fun r => { r with
    chal := none
    fails := r.fails + 1
    lockedUntil := if 3 ≤ r.fails + 1 && r.lockedUntil.isNone then some (n + hs.crossings 10) else r.lockedUntil }))

/-- The challenge life has elapsed (R398). -/
def State.chalExpiry (s : State) (h : HelmId) (n : Nat) (p : Port) : State :=
  match ((s.hsOf h).role p).chal with
  | some c => if c.expires ≤ n then s.modHs h (fun hs => hs.modRole p (fun r => { r with chal := none })) else s
  | none => s

/-- The lockout ends (R398). -/
def State.lockEnd (s : State) (h : HelmId) (n : Nat) (p : Port) : State :=
  match ((s.hsOf h).role p).lockedUntil with
  | some u =>
    if u ≤ n then s.modHs h (fun hs => hs.modRole p (fun r => { r with lockedUntil := none, fails := 0 })) else s
  | none => s

/-- The idle limit with the port not heard (R393, R398): crossing n - 2 is the last one judged (R268). -/
def State.roleIdle (s : State) (h : HelmId) (n : Nat) (p : Port) : State :=
  let hs := s.hsOf h
  let lim := bf (chBody hs.charter 0x04) 0 15 0
  if lim ≠ 0 && decide (hs.crossings lim ≤ (n - 2) - (hs.role p).lastHeard) then s.endRole h n p 3 else s

/-! ### Output authority (R122) and host loss (R270) -/

/-- Whether OUT_AUTH lets a port hold authority (R121, R122). -/
def mayHold (ch : List Word) (p : Port) : Bool :=
  match chOutAuth ch with
  | 0 => decide (p = .hpa)
  | 1 => decide (p = .hpb)
  | _ => true

/-- An output command from a port is applied: the authority it then has, or nothing when it is dropped, as it is when OUT_AUTH now shuts its
port out (R122). Under HPA only or HPB
only the port holds authority from its first output command on (log entry 47, DESIGN CHOICE). A command of the former holder is
dropped when it is stamped before the landing of the takeover; with the stamp of the takeover itself it takes authority back, as R122 has
it of HPB (log entry 54, DEDUCED). -/
def State.authorise (s : State) (h : HelmId) (n : Nat) (p : Port) (at_ : Stamp) : Option State :=
  let hs := s.hsOf h
  if !mayHold hs.charter p then none
  else if chOutAuth hs.charter ≠ 2 then some (s.modHs h (fun hs => { hs with auth := some p }))
  else
    let late : Bool := match hs.takeover with
      | some (f, n0, st) => decide (f = p) && hs.hl == .watching && at_.lt ⟨n0, 240⟩ && at_ != st
      | none => false
    if late then none
    else if hs.auth = some p then some s
    else
      let s := s.modHs h (fun hs => { (hs.rc 0x02F 16 1) with
        auth := some p
        takeover := hs.auth.map (fun f => (f, n, at_)) })
      some ((s.note h n clsWarn 0x02B (subj (portSubj p)) 0 0).chime h bellAuth)

/-- A dropped output command is counted (R124). -/
def State.dropOutput (s : State) (h : HelmId) (p : Port) : State :=
  s.modHs h (fun hs => hs.rc 0x02F (match p with | .hpa => 8 | .hpb => 0) 1)

/-- A setpoint held to SP_CEIL of the charter in force, which no setpoint that can reach a loop exceeds; other outputs have no ceiling
(R287). -/
def HelmState.capped (hs : HelmState) (q : Nat) (v : Int) : Int := if isPq q then min v (chCeil hs.charter (pqOf q)) else v

/-- The output command applied ends host loss: every output it does not name keeps its landed value, below SP_CEIL (R270, R287). Of HL_COUNT the spec says
nothing there; it begins again at 0 (log entry 56, DESIGN CHOICE). -/
def State.hostResume (s : State) (h : HelmId) (n : Nat) (p : Port) (named : BitVec 32) : State :=
  if (s.hsOf h).hl = .watching then s
  else
    (s.modHs h (fun hs => { hs with
      hl := .watching
      hlCount := 0
      img := Vector.ofFn (fun (q : Fin 32) => if named.getLsbD q then hs.img[q] else hs.capped q hs.landed[q]) })).note h n clsInfo
      0x083 (subj (portSubj p)) 0 0

/-! ### The holder (R201) and service states (R186) -/

/-- PRIMARY enters STANDBY while the other helm holds: RETURN_LEFT is set (R203). -/
def Redund.startReturn (r : Redund) (ch : List Word) : Redund :=
  { r with retLeft := bf (chBody ch 0x05) 0 15 0, retOn := true }

/-- The holder changes at landing n (R201, R204, R217, R219) (log entry 30, DEDUCED); a former holder that enters STANDBY has its image
proven (R471). -/
def State.changeView (s : State) (h : HelmId) (n : Nat) (g : HelmId) (ret : Bool) : State :=
  let hs := s.hsOf h
  let old := hs.red.view
  if old = some g then s else
  let o := otherHelm g
  let r := { hs.red.setSvc g .holding with view := some g, lastHandover := n, proveLeft := 0 }
  let r := if r.svc o = .holding then r.setSvc o .standby else r
  let r := if chPrimary hs.charter = some g then { r with retLeft := 0, retOn := false }
    else if chPrimary hs.charter = some o && r.svc o = .standby then r.startReturn hs.charter else r
  let s := if hs.red.svc o = .holding then s.byLead h (fun s => s.modHelm o (fun x => { x with swapped := false })) else s
  let s := s.modHs h (fun hs => { (hs.rc 0x603 0 1) with red := r })
  let d2 : Word := match old with
    | some v => wd (helmSubj v)
    | none => 0
  (s.note h n clsInfo (if ret then 0x028 else 0x027) (subj (helmSubj g)) (wd (s.helm g).outCause.toNat) d2).chime h bellHelm

/-- A resynchronisation under way is aborted (R208): the joiner asks again 16 crossings later. -/
def State.abortResync (s : State) (g : HelmId) (n : Nat) : State :=
  let x := s.helm g
  if x.svc = .joining && x.resync.r.isSome then
    (s.modHelm g (fun x => { x with resync := { retryAt := n + 16 } })).rcAdd 0x60B 12 1
  else s

/-- A helm leaves service by decision at landing n, with its cause; when it held the helm, the helm that stands by or proves itself
takes it, and a resynchronisation is aborted (R186, R198, R199, R201, R208). -/
def State.leave (s : State) (h : HelmId) (n : Nat) (g : HelmId) (to_ : Svc) (cause : BitVec 4) : State :=
  let o := otherHelm g
  let held := (s.hsOf h).red.view = some g
  let d2 : Word := if held then wd (helmSubj g) else 0
  let s := if held && ((s.hsOf h).red.svc o).computes then s.changeView h n o false else s
  let s := if held then s.abortResync o n else s
  let s := s.modHs h (fun hs =>
    let r := hs.red.setSvc g to_
    { hs with red := if chPrimary hs.charter = some g then { r with retLeft := 0, retOn := false } else r })
  let s := s.modHelm g (fun x => { x with
    outCause := cause
    testing := decide (cause ≠ 4 && cause ≠ 8 && cause ≠ 9)
    joinable := decide (cause ≠ 4)
    bistTries := 0
    loaded := false
    resync := {} })
  let s := match to_ with
    | .halted => s.note h n clsFault 0x023 (subj (helmSubj g)) (wd cause.toNat) d2
    | .fenced => s.note h n clsFault 0x024 (subj (helmSubj g)) (wd cause.toNat) d2
    | _ => s
  s.chime h bellHelm

/-- A test passage is asked for in the helms named, with its outcome to come (R195 to R197). -/
def State.openTest (s : State) (key : TestKey) (a b : Bool) : State :=
  let due (g : HelmId) (named : Bool) (s : State) : State :=
    if named && (s.helm g).svc.computes && !(s.helm g).tests.contains key then
      s.modHelm g (fun x => { x with tests := x.tests ++ [key] }) else s
  let s := due .b b (due .a a s)
  if s.outcomes.any (fun t => t.key = key) then
    { s with outcomes := s.outcomes.map (fun t => if t.key = key then { t with nameA := t.nameA || a, nameB := t.nameB || b } else t) }
  else { s with outcomes := s.outcomes ++ [⟨key, a, b, .none, .none⟩] }

/-- Whether an instant lies in the two background windows of a test passage that names the helm (R195). -/
def State.testWindow (s : State) (h : HelmId) : Bool :=
  let t := s.now
  (208 ≤ t.stroke || t.stroke < 32)
    && s.outcomes.any (fun o => o.names h && !t.lt ⟨o.key.1 - 2, 208⟩ && t.lt ⟨o.key.1, 32⟩)

/-- The command slips that lead to a helm are flushed (R28). -/
def State.flushSlips (s : State) (g : HelmId) : State :=
  let f (x : PortFE) : PortFE := match g with
    | .a => { x with slipA := [] }
    | .b => { x with slipB := [] }
  { s with hpa := f s.hpa, hpb := f s.hpb }

/-- A helm takes up a service state. -/
def State.takeSvc (s : State) (g : HelmId) (v : Svc) : State :=
  let s := s.modHelm g (fun x => { x with svc := v, resync := if v = .joining then x.resync else {} })
  if v.inService then s else s.flushSlips g

/-- The service states that a helm has decided come about (R186): its own; and, by the holder, a fence or a halt of the
other. `all`: any leaving of the other helm, which may first send its manifest (R186, R215, R470). -/
def State.settleSvc (s : State) (h : HelmId) (all : Bool) : State :=
  let r := (s.hsOf h).red
  let o := otherHelm h
  let s := if (s.helm h).svc.inService then s.takeSvc h (r.svc h) else s
  let out := r.svc o
  if r.view = some h && (s.helm o).svc.inService && !out.inService && (all || out == .fenced || out == .halted)
  then s.takeSvc o out else s

/-- Whether any other helm is in service as decided. -/
def Redund.otherIn (r : Redund) (g : HelmId) : Bool := (r.svc (otherHelm g)).inService

/-! ### Commands at their point of application -/

/-- The application of a command: the helm that applies it, the landing, L of its stamp, and its frame. -/
structure Ctx where
  h : HelmId
  n : Nat
  L : Nat
  tag : Tag
  id : Nat
  at_ : Stamp
  moved : Moved := {}
  deriving DecidableEq, Repr

/-- What a command answers: the status, the data, the landing it names, or that the reply comes later. -/
structure Ans where
  status : Status
  data : List Byte := []
  eff : Option Nat := none
  later : Bool := false
  clr : Option Nat := none
  deriving DecidableEq, Repr

/-- EFF_CROSSING by the class of the command (R136). -/
def Cmd.eff (c : Cmd) (L : Nat) (a : Ans) : Word :=
  match a.eff with
  | some e => wd e
  | none =>
    if c.isRead then wd (L - 1)
    else match c with
      | .analogSnapshot _ => if a.status = .ok then wd (L + 1) else wd L
      | _ => wd L

/-- The reply to a command. -/
def Ans.reply (a : Ans) (c : Cmd) (k : Ctx) : Reply :=
  ⟨a.status, k.tag.alive, c.eff k.L a, if a.status.carries then a.data else [], a.clr⟩

/-- A reply is complete: held for its UL2 frame, and waiting until the helm's background work offers it to the reply slip; a reply that was
given in a discarded passage is not repeated, and UL1 has none (R29, R51, R68, R100, R117). -/
def State.deliver (s : State) (h : HelmId) (tag : Tag) (id : Nat) (silent : Bool) (r : Reply) : State :=
  if silent || tag.gen = .ul1 then s else
  let s := if tag.gen = .ul2 then
      s.modHs h (fun hs => hs.setHeld tag.port ((hs.held tag.port).map (fun e =>
        if e.id = id then { e with reply := some r } else e)))
    else s
  s.modHelm h (fun x => x.setWaiting tag.port (x.waiting tag.port ++ [(id, r)]))

end Sys2Proof.Machine
end

