-- ==== Sys2Proof/Machine/HelmCmd.lean ====
section
/-! DEFINITION. The host commands at their point of application (R132 to R172): the checks in their order, and what each
command does and answers. -/

namespace Sys2Proof.Machine

/-! ### Answers -/

/-- A status and nothing else. -/
def Ans.st (x : Status) : Ans := { status := x }

/-- OK with no data. -/
def Ans.ok : Ans := { status := .ok }

/-! ### Window commands (R139 to R147) -/

/-- STATUS (R139). -/
def State.statusWords (s : State) (p : Port) : List Word :=
  let w (a : Nat) : Word := s.win.word a
  [wd (fld (w 0x600) 23 22 * 2 ^ 22 + fld (w 0x012) 23 21 * 2 ^ 19 + fld (w 0x013) 23 21 * 2 ^ 16 + fld (w 0x010) 23 20 * 2 ^ 12
    + s.rst.addr.getD 0 * 2 ^ 8), w 0x030, w (portStatusAddr p)]

/-- READ_WINDOW (R141, R147): the RC fields a UL2 reply returns are cleared once it is sent in full. -/
def State.readWin (s : State) (k : Ctx) (addr count : Nat) : State × Ans :=
  let r := s.win.read addr count
  let ul2 := k.tag.gen = .ul2 && !k.moved.silent
  (s.byLead k.h (fun s => if ul2 then { s with win := s.win.tag k.id addr count } else s),
   { status := r.1, data := bytesOfWords r.2, clr := if ul2 then some k.id else none })

/-- One word written at a defined address, by the access codes of its fields (R14, R144). -/
def State.writeWord (s : State) (h : HelmId) (a : Nat) (v : Word) : State :=
  let t := s.tb
  if a = 0x020 then
    s.byLead h (fun s => { s with tb := { t with w1c := t.w1c ||| BitVec.ofNat 4 (bn (bitOf v 21)) } })
  else if a = 0x026 then
    s.byLead h (fun s => { s with tb := { t with
      w1c := t.w1c ||| BitVec.ofNat 4 (bn (bitOf v 20) * 2 + bn (bitOf v 19) * 4 + bn (bitOf v 18) * 8) } })
  else if a = 0x030 then s.byLead h (fun s => { s with bell := { s.bell with cleared := s.bell.cleared ||| v } })
  else if a = 0x031 then s.byLead h (fun s => { s with bell := { s.bell with maskTo := some (v &&& 0xFFFE00) } })
  else if 0x130 ≤ a && a < 0x140 && bitOf v 20 then
    let i := a - 0x130
    s.modHs h (fun hs => { hs with reqs := vmod hs.reqs (i / 4) (fun l =>
      if l.contains (.ctZero (i % 4)) then l else l ++ [.ctZero (i % 4)]) })
  else s

/-- Words written from an address on. -/
def State.writeWords (s : State) (h : HelmId) (addr : Nat) : List Word → State
  | [] => s
  | v :: vs => (s.writeWord h addr v).writeWords h (addr + 1) vs

/-- WRITE_WINDOW (R144): all of its words or none. -/
def State.writeWin (s : State) (h : HelmId) (addr : Nat) (ws : List Word) : State × Ans :=
  let as := (List.range ws.length).map (addr + ·)
  if as.any (fun a => 0x7FF < a) then (s, Ans.st .addrOverrun)
  else if as.any (fun a => !winDefined a) then (s, Ans.st .undefinedAddr)
  else (s.writeWords h addr ws, Ans.ok)

/-! ### Output commands (R148 to R151) -/

/-- An output command: authority, its effect on the helm state, host loss; dropped without authority (R122, R270). -/
def State.outputCmd (s : State) (k : Ctx) (named : BitVec 32) (data : List Byte) (f : State → State) : State × Ans :=
  match s.authorise k.h k.n k.tag.port k.at_ with
  | some s => ((f s).hostResume k.h k.n k.tag.port named, { status := .ok, data := data })
  | none => (s.dropOutput k.h k.tag.port, { status := if Config.droppedOk then .ok else .noAuthority, data := data })

/-- Outputs set in the host image; a pulse on one of them ends (R149, R151). -/
def HelmState.setImg (hs : HelmState) (mask value : BitVec 32) : HelmState :=
  { hs with
    img := Vector.ofFn (fun (q : Fin 32) =>
      if mask.getLsbD q then (if value.getLsbD q then 1 else 0) else hs.img[q])
    pulses := Vector.ofFn (fun (q : Fin 32) => if mask.getLsbD q then none else hs.pulses[q]) }

/-- Outputs forced or released (R149) (log entry 25, DEDUCED). -/
def HelmState.setForce (hs : HelmState) (mask value : BitVec 32) (on : Bool) : HelmState :=
  { hs with forced := Vector.ofFn (fun (q : Fin 32) =>
      if mask.getLsbD q then (if on then some (if value.getLsbD q then 1 else 0) else none) else hs.forced[q]) }

/-- SET_OUTPUTS (R148, R149). -/
def State.setOutputs (s : State) (k : Ctx) (flags : Nat) (mask value : BitVec 32) : State × Ans :=
  s.outputCmd k mask [] (fun s =>
    if flags = 0 then s.modHs k.h (fun hs => hs.setImg mask value)
    else (s.act k.h k.n k.tag.port clsAct 0x047 (mask.toNat / 2 ^ 24 * 2 ^ 12 + flags) (wd mask.toNat)).modHs k.h
      (fun hs => hs.setForce mask value (flags = 1)))

/-- One entry of SET_PROP (R150). -/
def State.propEntry (s : State) (k : Ctx) (e : PropEntry) : State :=
  let n := e.ch.toNat % 8
  let q := qOfPq n
  let v := min (sc e.sp) (chCeil (s.hsOf k.h).charter n)
  match e.ch.toNat / 64 with
  | 0 => s.modHs k.h (fun hs => { hs with img := vset hs.img q v })
  | f =>
    (s.act k.h k.n k.tag.port clsAct 0x048 e.ch.toNat e.sp).modHs k.h (fun hs =>
      { hs with forced := vset hs.forced q (if f = 2 then some v else none) })

/-- CLAMPED of SET_PROP: a RELEASE entry's SETPOINT acts on nothing. -/
def clampedBy (ch : List Word) (es : List PropEntry) : Byte :=
  BitVec.ofNat 8 (maskOf 8 (fun n => es.any (fun e =>
    e.ch.toNat % 8 == n && e.ch.toNat / 64 != 1 && decide (chCeil ch n < sc e.sp))))

/-- SET_PROP (R150). -/
def State.setProp (s : State) (k : Ctx) (es : List PropEntry) : State × Ans :=
  let named := BitVec.ofNat 32 (maskOf 32 (fun q => es.any (fun e => qOfPq (e.ch.toNat % 8) == q)))
  s.outputCmd k named [clampedBy (s.hsOf k.h).charter es] (fun s => es.foldl (fun s e => s.propEntry k e) s)

/-- PULSE_OUTPUT (R151). -/
def State.pulse (s : State) (k : Ctx) (ch dur : Nat) : State × Ans :=
  s.outputCmd k (BitVec.ofNat 32 (2 ^ ch)) [] (fun s => s.modHs k.h (fun hs => { hs with
    img := vset hs.img ch 1
    pulses := vset hs.pulses ch (some (k.L + dur)) }))

/-- A UL1 write to CL_Q_0_15 or CL_Q_16_31: 16 outputs, the bits of PQ channels masked out (R101). -/
def State.ul1Out (s : State) (k : Ctx) (half value : Nat) : State × Ans :=
  let mask : BitVec 32 := BitVec.ofNat 32 (0xFFFF * 2 ^ (16 * half)) &&& ~~~pqMask
  s.outputCmd k mask [] (fun s => s.modHs k.h (fun hs => hs.setImg mask (BitVec.ofNat 32 (value * 2 ^ (16 * half)))))

/-! ### Mode and roles (R152 to R154, R386, R395 to R399) -/

/-- SET_MODE: the transition, judged before (R152, R386); entry to MOORED ends every role session (R389). -/
def State.setMode (s : State) (k : Ctx) (t : Byte) : State × Ans :=
  match s.modeMove k.h k.n t.toNat with
  | none => (s, Ans.st .modeDenied)
  | some none => (s, Ans.ok)
  | some (some m) =>
    let hs := s.hsOf k.h
    let d0 := wd (hs.roleNo k.tag.port * 2 ^ 22 + portCode k.tag.port * 2 ^ 20)
    let fp := (hs.role k.tag.port).fp
    let s := if m = .moored then (s.endRole k.h k.n .hpa 5).endRole k.h k.n .hpb 5 else s
    (s.modHs k.h (fun hs => hs.enterMode m 1 d0 fp), Ans.ok)

/-- The role of a code. -/
def roleOf (b : Byte) : Role :=
  match b.toNat with
  | 1 => .operator
  | 2 => .installer
  | _ => .maker

/-- ROLE_CHALLENGE (R154, R395, R398): a locked port is turned away whatever role it names. CHAL_AT is the EFF_CROSSING of the one reply
sent, that of the landing before it moved (R68, R396). -/
def State.challenge (s : State) (k : Ctx) (role : Byte) : State × Ans :=
  let hs := s.hsOf k.h
  if (hs.role k.tag.port).lockedUntil.isSome then (s, Ans.st .authLocked)
  else if (roleKey hs.charter (roleOf role)).isNone then (s, Ans.st .roleDenied)
  else
    let bs := (List.range 32).map (Config.noise k.id)
    (s.modHs k.h (fun hs => hs.modRole k.tag.port (fun r => { r with
        chal := some ⟨roleOf role, bs, wd (if k.moved.again then k.at_.landing else k.L), k.n + hs.crossings 30⟩ })),
     { status := .ok, data := bs })

/-- ROLE_RESPONSE (R396 to R398). -/
def State.response (s : State) (k : Ctx) (resp : List Byte) : State × Ans :=
  let p := k.tag.port
  let hs := s.hsOf k.h
  match (hs.role p).chal with
  | none => (s.roleFail k.h k.n p, Ans.st .authFailed)
  | some c =>
    match roleKey hs.charter c.role with
    | none => (s.roleFail k.h k.n p, Ans.st .authFailed)
    | some key =>
      if hmac256 key (roleMsg c p) = resp then
        let s := s.modHs k.h (fun hs => hs.modRole p (fun r => { r with
          held := some c.role, fp := keyFp key, chal := none, fails := 0, lastHeard := k.at_.crossing }))
        (s.act k.h k.n p clsAct 0x040 (roleCode (some c.role)) c.at_, { status := .ok, data := bytesOfWord (keyFp key) })
      else (s.roleFail k.h k.n p, Ans.st .authFailed)

/-! ### The charter (R155 to R160, R408) -/

/-- Indices lying in any of these ranges (first, count). -/
def inRanges (rs : List (Nat × Nat)) (k : Nat) : Bool := rs.any (fun r => r.1 ≤ k && k < r.1 + r.2)

/-- The body words of role-key records read 0, of one that the end cuts off too (R157). `stored`: a stored copy, whose later headers of role-key records
count too where its walk breaks. -/
def maskKeys (ch : List Word) (stored : Bool) : List Word :=
  let w := chWalk ch
  let walked := (recsOf w.recs 0x11).map (fun r => (r.off + 1, r.body.length))
  let cut : List (Nat × Nat) := match w.broken with
    | some b => match ch[b]? with
      | some hd => if fld hd 23 16 = 0x11 then [(b + 1, fld hd 15 0)] else []
      | none => []
    | none => []
  let later : List (Nat × Nat) := match stored, w.broken with
    | true, some b => (ch.zipIdx.filter (fun e => b ≤ e.2 && e.1 == 0x11000C)).map (fun e => (e.2 + 1, 12))
    | _, _ => []
  ch.zipIdx.map (fun e => if inRanges (walked ++ cut ++ later) e.2 then 0 else e.1)

/-- The words of a charter up to and with its end record. -/
def chTrim (ch : List Word) : List Word :=
  match (chWalk ch).recs.getLast? with
  | some r => if r.typ = 0xFF then ch.take (r.off + 1) else ch
  | none => ch

/-- The charter draft belongs to the other port (R155). -/
def HelmState.foreignDraft (hs : HelmState) (p : Port) : Bool :=
  match hs.draft with
  | some d => decide (d.owner ≠ p)
  | none => false

/-- Words of a list from an offset on, no value past its end. -/
def wordsAt (ws : List Word) (off count : Nat) : List Word := (List.range count).map (fun j => ws.getD (off + j) noValue)

/-- CHARTER_READ (R157). Words of a stored copy pass the general port of its bank and its check units (R456). -/
def State.charterRead (s : State) (k : Ctx) (src : Byte) (off count : Nat) : State × Ans :=
  let hs := s.hsOf k.h
  let ans (ws : List Word) : Ans :=
    { status := if 0 < count && decide (ws.length < off + count) then .addrOverrun else .ok, data := bytesOfWords (wordsAt ws off count) }
  match src.toNat with
  | 0x00 => (s, ans (maskKeys hs.charter false))
  | 0x01 =>
    match hs.draft with
    | none => (s, Ans.st .notReady)
    | some d => if d.owner = k.tag.port then (s, ans (maskKeys d.words false)) else (s, Ans.st .draftOwned)
  | n =>
    let c := n - 0x11
    let ws := s.copyWords c
    let s := s.byLead k.h (fun s =>
      s.askRead k.h ⟨(copyRegion c).1, (copyRegion c).2 + 4 + off, (ws.drop off).take count, k.n + 1⟩)
    (s, ans (maskKeys ws true))

/-- The draft with words written from an offset on; a word between its end and the offset is free (R156; log entry 2, DESIGN CHOICE). -/
def overlay (id : Nat) (base : List Word) (off : Nat) (ws : List Word) : List Word :=
  (List.range (max base.length (off + ws.length))).map (fun j =>
    if off ≤ j && j < off + ws.length then ws.getD (j - off) 0 else base.getD j (Config.draftGap id j))

/-- CHARTER_WRITE (R155, R156, R408). -/
def State.charterWrite (s : State) (k : Ctx) (off : Nat) (ws : List Word) : State × Ans :=
  let hs := s.hsOf k.h
  if hs.pend.isSome then (s, Ans.st .busy)
  else if hs.foreignDraft k.tag.port then (s, Ans.st .draftOwned)
  else
    let base := match hs.draft with
      | some d => d.words
      | none => hs.charter
    ((s.modHs k.h (fun hs => { hs with draft := some ⟨k.tag.port, overlay k.id base off ws⟩ })).act k.h k.n k.tag.port clsAct
      0x043 ws.length (wd off), Ans.ok)

/-- CHARTER_WRITE that discards the draft (R156) (log entry 25, DEDUCED). -/
def State.charterDiscard (s : State) (k : Ctx) : State × Ans :=
  let hs := s.hsOf k.h
  if hs.pend.isSome then (s, Ans.st .busy)
  else if hs.foreignDraft k.tag.port then (s, Ans.st .draftOwned)
  else ((s.modHs k.h (fun hs => { hs with draft := none })).act k.h k.n k.tag.port clsAct 0x043 0 0xFFFFFF, Ans.ok)

/-- The generation after a generation (R158). -/
def nextGen (g : Word) : Word := if g + 1 = 0 then 1 else g + 1

/-- The landing that AT names, counted from L + D; none when it is out of reach (R159). -/
def atLanding (earliest : Nat) (atW : Word) : Option Nat :=
  if atW = 0 then some earliest
  else
    let d := (atW.toNat + 2 ^ 24 - earliest % 2 ^ 24) % 2 ^ 24
    if d ≤ 65535 then some (earliest + d) else none

/-- CHARTER_COMMIT (R158 to R160, R407, R408, R496) (log entry 25, DEDUCED). With no draft the spec states no status; the answer is
PARAM_BAD (R155; log entry 49, DESIGN CHOICE). -/
def State.charterCommit (s : State) (k : Ctx) (gen atW : Word) (crc : BitVec 32) : State × Ans :=
  let p := k.tag.port
  let hs := s.hsOf k.h
  if hs.pend.isSome then (s, Ans.st .busy)
  else match hs.draft with
  | none => (s, Ans.st .paramBad)
  | some d =>
    if d.owner ≠ p then (s, Ans.st .draftOwned)
    else
      let ws := chTrim d.words
      match atLanding (k.L + commitDelay hs.charter) atW with
      | none => (s, Ans.st .paramBad)
      | some at_ =>
        if gen ≠ nextGen (chGen hs.charter) || chGen ws ≠ gen || chCrc ws ≠ crc then (s, Ans.st .paramBad)
        else match judgeDraft d.words hs.charter (decide ((hs.role p).held = some .maker)) with
        | some (off, why) =>
          (s, { status := .recordInvalid, data := bytesOfNat 3 off ++ [BitVec.ofNat 8 why] })
        | none =>
          if budgetOver ws then (s, { status := .budgetOver, data := [BitVec.ofNat 8 (estStrokes ws)] })
          else
            let s := s.modHs k.h (fun hs => { hs with
              draft := none
              pend := some { words := ws, gen := gen, at_ := at_, ok := 0, port := p, role := (hs.role p).held, fp := (hs.role p).fp } })
            (s.act k.h k.n p clsAct 0x044 ws.length (wd at_), { status := .ok, eff := some at_ })

/-! ### Toll keeper, black box, check units (R162 to R167) -/

/-- MOOR_S of the latest settings; TOLL_CONFIG has none (R162, R430; log entry 55, DESIGN CHOICE). -/
def Toll.moorNow (t : Toll) : Nat :=
  match t.due, t.pend with
  | some d, _ => d.set.moorS
  | none, some (c, _) => c.moorS
  | none, none => t.cur.moorS

/-- TOLL_CONFIG (R162, R430). -/
def State.tollConfig (s : State) (k : Ctx) (c : TkSet) : State × Ans :=
  ((s.byLead k.h (fun s => { s with toll := { s.toll with
    due := some ⟨{ c with moorS := s.toll.moorNow }, true, true⟩ } })).act k.h k.n
    k.tag.port clsAct 0x04C c.roster.toNat (wd c.closed), Ans.ok)

/-- BLACKBOX_READ (R163, R164): as the rings stand once every record stamped up to (L - 1):240 is committed (log entry 41, DEDUCED). -/
def State.blackboxRead (s : State) (k : Ctx) (area : Byte) (start count : Nat) : State × Ans :=
  let ff := area.toNat = 1
  let v := s.commitUpTo ⟨k.L - 1, 240⟩
  let first := if start ≠ 0xFFFF then start else if ff then 0 else v.oldestSlot
  let lim := if k.tag.gen = .ul3 then 3070 else 190
  let r := v.bbGather ff count first lim []
  let s := s.byLead k.h (fun s => s.readSlots v k.h ff (slotsRead ff first r.1 count) (k.n + 1))
  let split := (List.range (r.2.length / 9)).any (fun i => bitOf (r.2.getD (9 * i) 0) 23)
  (if split then s.chime k.h bellBlackbox else s,
   { status := .ok, data := bytesOfNat 2 r.1 ++ bytesOfWords r.2 })

/-- BLACKBOX_MARK with ACTION 0x00 (R165). -/
def State.hostMark (s : State) (k : Ctx) (d0 d1 d2 : Word) : State × Ans :=
  (s.note k.h k.n clsAct 0x051 d0 d1 d2, Ans.ok)

/-- BLACKBOX_MARK with ACTION 0x01: the clearing of the first-fault area is requested (R165, R443). -/
def State.markClear (s : State) (k : Ctx) : State × Ans :=
  let hs := s.hsOf k.h
  let p := k.tag.port
  let r : Rec := ⟨⟨k.n, 240⟩, helmSource k.h, clsAct, 0x04D, wd (hs.roleNo p * 2 ^ 22 + portCode p * 2 ^ 20),
    (hs.role p).fp, 0⟩
  (s.byLead k.h (fun s => { s with com := { s.com with ffDue := s.com.ffDue ++ [r] } }), Ans.ok)

/-- A restart of a check unit at landing L is noted (R457) (log entry 33, DEDUCED). -/
def State.dueAtCu (s : State) (k : Ctx) (unit : Nat) (cfg : Option CheckUnit) : State :=
  s.byLead k.h (fun s => { s with cuOps := s.cuOps ++ [⟨unit, k.L, cfg⟩] })

/-- CHECK_CONFIG (R166, R457) (log entry 33, DEDUCED). -/
def State.checkConfig (s : State) (k : Ctx) (unit : Nat) (c : CheckUnit) : State × Ans :=
  (s.dueAtCu k unit (some c), Ans.ok)

/-- CHECK_READ (R167, R457): the result of landing L - 1; the restart comes with landing L (log entry 33, DEDUCED). FLAGS 7:1 have no
meaning in the spec and are ignored (log entry 49, DESIGN CHOICE). -/
def State.checkRead (s : State) (k : Ctx) (unit : Nat) (flags : Byte) : State × Ans :=
  let u := (vat s.cus unit {}).foldUpTo (k.L - 1)
  (if flags.getLsbD 0 then s.dueAtCu k unit none else s,
   { status := .ok
     data := bytesOfNat 4 (u.result u.reg).toNat ++ bytesOfNat 3 u.bytes
       ++ [BitVec.ofNat 8 (bn u.overrun + 2 * bn (u.flags.getLsbD 0))] })

/-! ### Analog, wake buffer, SYNC (R168 to R170, R324, R354, R355) -/

/-- The charter in force at a landing: a pending one from AT on, once its copies are confirmed (R409). -/
def HelmState.charterAt (hs : HelmState) (n : Nat) : List Word :=
  match hs.pend with
  | some p => if p.at_ ≤ n && p.ok = 7 then p.words else hs.charter
  | none => hs.charter

/-- Whether the rotation of a pontoon has a free slot (R318, R324). -/
def freeSlot (ch : List Word) (p : Nat) : Bool :=
  let w := (chBody ch 0x09).getD (65 + 2 * p) 0
  (List.range 8).any (fun k => fld w (23 - 3 * k) (21 - 3 * k) == 7)

/-- ANALOG_SNAPSHOT (R168, R324). In a passage that took no report of the pontoon the spec is silent: the request is dropped (log
entry 49, DESIGN CHOICE). -/
def State.snapshot (s : State) (k : Ctx) (ch : Nat) : State × Ans :=
  let p := ch / 4
  let hs := s.hsOf k.h
  let unfit := match vat hs.reps p none with
    | some r => r.ckFault || ((r.ai[ch % 4]?).map (·.uns)).getD true
    | none => true
  if !freeSlot (hs.charterAt (k.L + 1)) p || 2 ≤ (vat hs.snaps p []).length || unfit then
    (s.modHs k.h (fun hs => hs.rc (grpAddr p 3) 8 1), Ans.st .converterBusy)
  else
    (s.modHs k.h (fun hs => { hs with
      reqs := vmod hs.reqs p (fun l => l ++ [.snap (ch % 4)])
      snaps := vmod hs.snaps p (fun l => l ++ [⟨k.id, k.tag, ch, 0, 0, 0, wd (k.L + 1), 0⟩]) }), { status := .ok, later := true })

/-- What R354 turns WAKE_ARM away for, against the charter in force. -/
def wakeBad (ch : List Word) (p : Nat) (chans trig : Byte) (pre total : Nat) : Bool :=
  let ai := chBody ch 0x09
  let fil := chBody ch 0x0A
  let sel := (List.range 4).filter (fun i => chans.getLsbD i)
  let preset (i : Nat) : Nat := bf fil (2 * (4 * p + i)) 23 21
  let n := sel.length
  let t := trig.toNat
  pre % n != 0 || total % n != 0
  || sel.any (fun i => preset i != preset (sel.headD 0) || !bb ai (4 * (4 * p + i)) 23)
  || (((0x10 ≤ t && t < 0x14) || (0x20 ≤ t && t < 0x24)) && !chans.getLsbD (t % 16))
  || (0x30 ≤ t && t < 0x40 && !bb (chBody ch 0x06) (8 * p + t % 8) 23)

/-- WAKE_ARM (R169, R352, R354). -/
def State.wakeArm (s : State) (k : Ctx) (p : Nat) (chans trig : Byte) (level : Word) (pre total : Nat) : State × Ans :=
  if trig ≠ 0xFF && wakeBad (s.hsOf k.h).charter p chans trig pre total then (s, Ans.st .paramBad)
  else
    (s.modHs k.h (fun hs => { hs with
      reqs := vmod hs.reqs p (fun l =>
        l.filter (fun r => match r with | .wake _ _ _ _ _ => false | _ => true)
          ++ [.wake (chans.setWidth 4) trig (sc level) pre total]) }), Ans.ok)

/-- WAKE_READ (R170, R355). -/
def State.wakeRead (s : State) (k : Ctx) (p off count : Nat) : State × Ans :=
  let hs := s.hsOf k.h
  let complete := match vat hs.reps p none with
    | some r => r.wake == .complete
    | none => false
  let total := ((vat hs.reps p none).map (·.wakeTotal)).getD 0
  let per := 16 * hs.strokeTide
  if !complete then (s, Ans.st .notReady)
  else if 4 ≤ (vat hs.wakeReads p []).length then (s, Ans.st .busy)
  else
    let at_ := max k.L (vat hs.wakeNext p 0) + 1 + (if per = 0 then count else (count + per - 1) / per)
    (s.modHs k.h (fun hs => { hs with
      wakeNext := vset hs.wakeNext p at_
      wakeReads := vmod hs.wakeReads p (fun l => l ++ [⟨k.id, k.tag, p, off, count, at_, wd (k.L - 1), total⟩]) }),
     { status := .ok, later := true })

/-- SYNC_ISSUE (R79, R170). -/
def State.syncIssue (s : State) (k : Ctx) : State × Ans :=
  (s.byLead k.h (fun s => { s with tb := { s.tb with
    decimDue := some (k.L + 1)
    markDue := if s.syncRole = 1 then some (k.L + 1) else s.tb.markDue } }), Ans.ok)

/-! ### Firmware (R171, R468 to R470) -/

/-- The staging area, when the port may use it; otherwise the refusal (R171, R469) (log entry 25, DEDUCED). An area found partly
written at start-up has no owner, and the spec does not say who may write it: the first port that does takes it
(log entry 46, DESIGN CHOICE). -/
def HelmState.staging (hs : HelmState) (p : Port) : Except Status Nat :=
  match stagingSlot hs.imgTab with
  | none => .error .busy
  | some k => if slotState hs.imgTab k = 1 && decide (hs.stageOwner ≠ some p) && hs.stageOwner.isSome
      then .error .draftOwned else .ok k

/-- The image table of a helm, written to both banks at the landing (R68, R468). -/
def State.setTable (s : State) (h : HelmId) (t : List Word) : State :=
  (s.modHs h (fun hs => { hs with imgTab := t })).byLead h (fun s => s.queueNvm true true imgBase (imgTableWords t))

/-- FIRMWARE_STAGE, Data (R171). -/
def State.stageData (s : State) (k : Ctx) (off : Nat) (ws : List Word) : State × Ans :=
  let hs := s.hsOf k.h
  match hs.staging k.tag.port with
  | .error e => (s, Ans.st e)
  | .ok i =>
    let s := s.byLead k.h (fun s => s.queueNvm true true (imgSlotBase i + off) ws)
    let s := if slotState hs.imgTab i = 1 then s
      else s.setTable k.h (imgSlotSet hs.imgTab i [wd (1 * 2 ^ 22), 0, 0, 0, 0])
    (s.modHs k.h (fun hs => { hs with
      stageOwner := some k.tag.port, staged := hs.staged ++ [(imgSlotBase i + off, ws)] }), Ans.ok)

/-- FIRMWARE_STAGE, Finish (R171): STAGE_STATE 0b10 when the CRC is good, 0b11 when it is not; the words read for it pass the general port
(R456). It stands for itself: with no Data before it, in an area empty or complete, it takes the words that the slot holds, and gives its
port the area (log entry 57, DESIGN CHOICE). -/
def State.stageFinish (s : State) (k : Ctx) (len : Nat) (crc : BitVec 32) (version : Word) : State × Ans :=
  let hs := s.hsOf k.h
  match hs.staging k.tag.port with
  | .error e => (s, Ans.st e)
  | .ok i =>
    let img := (List.range len).map (fun j => s.stagedRead hs (imgSlotBase i + j))
    let s := s.byLead k.h (fun s => s.askRead k.h ⟨false, imgSlotBase i, img, k.n + 1⟩)
    let st := if crcWords img = crc then 2 else 3
    let fmt := (Config.imageFormat version).toNat
    let ws := [wd (st * 2 ^ 22 + fmt), wd len, wd (crc.toNat / 65536), wd (crc.toNat % 65536), version]
    let s := (s.setTable k.h (imgSlotSet hs.imgTab i ws)).modHs k.h (fun hs => { hs with stageOwner := some k.tag.port })
    (s.act k.h k.n k.tag.port clsAct 0x049 st version, Ans.ok)

/-- SLOT_FORMAT of the image of a slot; code ROM counts as 0 (R470). -/
def bootFormat (t : List Word) (b : Nat) : Nat := if b < 2 then fld (t.getD (1 + 5 * b) 0) 15 0 else 0

/-- BOOT_h returned to PREV_h, which stays (R471). -/
def backBoot (t : List Word) (h : HelmId) : List Word :=
  let w := t.getD 0 0
  let n := match h with
    | .a => fld w 19 18 * 2 ^ 22 + fld w 21 0
    | .b => fld w 23 22 * 2 ^ 22 + fld w 17 16 * 2 ^ 20 + fld w 19 0
  wd n :: t.drop 1

/-- BOOT_h and PREV_h set (R468, R470). -/
def setBoot (t : List Word) (h : HelmId) (b : Nat) : List Word :=
  let w := t.getD 0 0
  let o := bootOf t h
  let n := match h with
    | .a => b * 2 ^ 22 + fld w 21 20 * 2 ^ 20 + o * 2 ^ 18 + fld w 17 16 * 2 ^ 16
    | .b => fld w 23 22 * 2 ^ 22 + b * 2 ^ 20 + fld w 19 18 * 2 ^ 18 + o * 2 ^ 16
  wd n :: t.drop 1

/-- FIRMWARE_SWAP (R172, R469, R470) (log entry 25, DEDUCED). -/
def State.fwSwap (s : State) (k : Ctx) (g : HelmId) : State × Ans :=
  let hs := s.hsOf k.h
  let t := hs.imgTab
  let o := otherHelm g
  let target := if bootOf t .a = bootOf t .b then (stagingSlot t).getD 3 else bootOf t o
  if hs.red.view = some g then (s, Ans.st .paramBad)
  else if target < 2 && slotState t target ≠ 2 then (s, Ans.st .notReady)
  else if hs.red.svc g ≠ .standby then (s, Ans.st .noStandby)
  else if bootFormat t target ≠ bootFormat t (s.helm o).boot.toNat then (s, Ans.st .paramBad)
  else
    let s := (s.setTable k.h (setBoot t g target)).leave k.h k.n g .starting 9
    let s := s.modHelm g (fun x => { x with swapped := true })
    (s.act k.h k.n k.tag.port clsAct 0x04A (helmCode g) (if target < 2 then t.getD (5 + 5 * target) 0 else 0),
     { status := .ok, eff := some k.L })

/-! ### Helms (R172, R197, R201, R205, R215) -/

/-- The record HELM_ACT of an opcode with its parameters. -/
def State.helmAct (s : State) (k : Ctx) (op prm eff : Nat) : State :=
  s.act k.h k.n k.tag.port clsAct 0x04B (op * 2 ^ 12 + prm % 2 ^ 12) (wd eff)

/-- HELM_HANDOVER (R172, R201, R205) (log entry 25, DEDUCED). -/
def State.handover (s : State) (k : Ctx) (g : HelmId) : State × Ans :=
  let hs := s.hsOf k.h
  let ans : Ans := { status := .ok, eff := some k.L }
  if hs.red.view = some g then (s, ans)
  else if hs.red.svc g ≠ .standby || hs.red.arb.isSome then (s, Ans.st .noStandby)
  else ((s.helmAct k 0x90 (helmCode g) k.L).changeView k.h k.n g false, ans)

/-- HELM_RETURN_HOLD (R172, R203). -/
def State.returnHold (s : State) (k : Ctx) (on : Bool) : State × Ans :=
  ((s.modHs k.h (fun hs => { hs with red := { hs.red with retHold := on } })).helmAct k 0x91 (bn on) k.L, Ans.ok)

/-- SELFTEST_REQUEST, test passage (R197): in the next two background windows of each helm named. -/
def State.testRequest (s : State) (k : Ctx) (code : Nat) : State × Ans :=
  let names (g : HelmId) : Bool := code = 3 || code = helmCode g
  let s := s.byLead k.h (fun s => s.openTest (k.L + 2, true) (names .a) (names .b))
  (s.helmAct k 0xA0 (code * 256 + 1) k.L, Ans.ok)

/-- SELFTEST_REQUEST, full self-test (R172, R186, R199, R212). -/
def State.fullRequest (s : State) (k : Ctx) (code : Nat) : State × Ans :=
  let hs := s.hsOf k.h
  match helmOfCode code with
  | none => (s, Ans.st .paramBad)
  | some g =>
    if hs.red.view = some g then (s, Ans.st .paramBad)
    else match hs.red.svc g with
    | .standby =>
      let s := (s.leave k.h k.n g .starting 0xA).modHelm g (fun x => { x with testing := true, joinable := true })
      (s.helmAct k 0xA0 (code * 256 + 2) k.L, Ans.ok)
    | v =>
      if v = .fenced || v = .halted || (v = .starting && (s.helm g).bistFail) then
        let s := s.modHelm g (fun x => { x with testing := true, joinable := true, bistTries := 0 })
        (s.helmAct k 0xA0 (code * 256 + 2) k.L, Ans.ok)
      else (s, Ans.st .noStandby)

/-- The attachment of one helm to debug (R186, R215). -/
def State.attach (s : State) (k : Ctx) (g : HelmId) : State :=
  let s := s.leave k.h k.n g .debug 8
  s.act k.h k.n k.tag.port clsAct 0x04F (helmCode g) 0

/-- DEBUG_ENABLE open (R172, R215): on the holder it first acts as HELM_HANDOVER (R205). Both helms at once is allowed in BERTHED only, by check 6 (log entry 25, DEDUCED). -/
def State.debugOpen (s : State) (k : Ctx) (code : Nat) : State × Ans :=
  let hs := s.hsOf k.h
  match helmOfCode code with
  | some g =>
    if hs.red.view = some g && (decide (hs.red.svc (otherHelm g) ≠ .standby) || hs.red.arb.isSome) then (s, Ans.st .noStandby)
    else match hs.red.svc g with
    | .proving | .standby | .holding => (s.attach k g, Ans.ok)
    | .debug => (s, Ans.ok)
    | _ => (s, Ans.st .noStandby)
  | none =>
    match hs.red.view with
    | none => (s, Ans.st .noStandby)
    | some v =>
      if hs.red.svc (otherHelm v) ≠ .standby || hs.red.arb.isSome then (s, Ans.st .noStandby)
      else ((s.attach k (otherHelm v)).attach k v, Ans.ok)

/-- The closing of an attachment: HALTED, then the full self-test (R186, R216). -/
def State.detach (s : State) (h : HelmId) (g : HelmId) : State :=
  if (s.hsOf h).red.svc g = .debug then
    (s.modHs h (fun hs => { hs with red := hs.red.setSvc g .halted })).modHelm g (fun x => { x with
      svc := .halted, testing := true, joinable := true, bistTries := 0, outCause := 8 }) |>.chime h bellHelm
  else s

/-- DEBUG_ENABLE close (R216). -/
def State.debugClose (s : State) (k : Ctx) (code : Nat) : State × Ans :=
  let close (g : HelmId) (s : State) : State :=
    if (code = 3 || code = helmCode g) && (s.hsOf k.h).red.svc g = .debug then
      (s.act k.h k.n k.tag.port clsAct 0x050 (helmCode g) 0).detach k.h g
    else s
  (close .b (close .a s), Ans.ok)

/-! ### All commands -/

/-- Whether a command is SET_MODE, whose transitions are judged apart (R386). -/
def Cmd.isSetMode : Cmd → Bool
  | .setMode _ => true
  | _ => false

/-- The checks of R132 from the parameters on, in their order; the particular checks of a command follow with it. In MOORED nothing but a
SET_MODE is judged further (R386, R389). An output command that passed its check in a discarded passage is not judged anew (R122). -/
def State.checkCmd (s : State) (k : Ctx) (c : Cmd) : Option Status :=
  let hs := s.hsOf k.h
  let role := hs.roleNo k.tag.port
  if c.paramBad then some .paramBad
  else if c.lenOver k.tag.gen then some .lenOver
  else if role < c.role then some .roleDenied
  else if (hs.modes.mode = .moored && !c.isSetMode) || !c.modeOk hs.modes.mode role then some .modeDenied
  else if c.isOutput && !k.moved.passed && !mayHold hs.charter k.tag.port then some .noAuthority
  else none

/-- What a command does, once the checks have passed. -/
def State.doCmd (s : State) (k : Ctx) (c : Cmd) : State × Ans :=
  match c with
  | .status => (s, { status := .ok, data := bytesOfWords (s.statusWords k.tag.port) })
  | .readWindow a n => s.readWin k a n
  | .writeWindow a ws => s.writeWin k.h a ws
  | .ul1Write half v => s.ul1Out k half v
  | .setOutputs f m v => s.setOutputs k f m v
  | .setProp es => s.setProp k es
  | .pulse ch d => s.pulse k ch d
  | .setMode t => s.setMode k t
  | .roleChallenge r => s.challenge k r
  | .roleResponse b => s.response k b
  | .roleDrop => (s.endRole k.h k.n k.tag.port 1, Ans.ok)
  | .charterRead x o n => s.charterRead k x o n
  | .charterWrite o ws => s.charterWrite k o ws
  | .charterDiscard => s.charterDiscard k
  | .charterCommit g a c => s.charterCommit k g a c
  | .tollConfig r c o ms pol =>
    s.tollConfig k { roster := r, closed := c.toNat, opened := o.toNat, pulse := ms, pol := pol = 1 }
  | .blackboxRead a st n => s.blackboxRead k a st n
  | .hostMark a b c => s.hostMark k a b c
  | .markClear => s.markClear k
  | .checkConfig u src w f p i x =>
    s.checkConfig k u { source := src, width := w, flags := f, poly := p, init := i, xorout := x }
  | .checkRead u f => s.checkRead k u f
  | .analogSnapshot ch => s.snapshot k ch
  | .wakeArm p c t l a b => s.wakeArm k p c t l a b
  | .wakeRead p o n => s.wakeRead k p o n
  | .syncIssue => s.syncIssue k
  | .stageData o ws => s.stageData k o ws
  | .stageFinish l c v => s.stageFinish k l c v
  | .fwSwap h => match helmOf h with
    | some g => s.fwSwap k g
    | none => (s, Ans.st .paramBad)
  | .handover h => match helmOf h with
    | some g => s.handover k g
    | none => (s, Ans.st .paramBad)
  | .returnHold v => s.returnHold k (v = 1)
  | .selftest h kind => if kind = 1 then s.testRequest k h.toNat else s.fullRequest k h.toNat
  | .debug h o => if o = 1 then s.debugOpen k h.toNat else s.debugClose k h.toNat

/-- A command at its point of application: checked, applied, answered (R132). A command that fails a check changes
nothing. -/
def State.runCmd (s : State) (k : Ctx) (c : Cmd) : State × Ans :=
  match s.checkCmd k c with
  | some st => (s, Ans.st st)
  | none => s.doCmd k c

/-- A command applied at a helm, its reply delivered unless it comes later. -/
def State.applyCmd (s : State) (k : Ctx) (c : Cmd) : State :=
  let r := s.runCmd k c
  if r.2.later then r.1 else r.1.deliver k.h k.tag k.id k.moved.silent (r.2.reply c k)

end Sys2Proof.Machine
end

