-- ==== Sys2Proof/Machine/HostCmd.lean ====
section
/-! DEFINITION. The frames that a helm holds for its passages (R27, R56), the replies it keeps, and collections (R117, R131). -/

namespace Sys2Proof.Machine

/-- The command slip of a port that leads to a helm. -/
def PortFE.slip (f : PortFE) : HelmId → List Entered
  | .a => f.slipA
  | .b => f.slipB

/-- The waiting frame of a tag (log entry 23, DESIGN CHOICE). -/
def State.waiting (s : State) (h : HelmId) (t : Tag) : Option Entered :=
  ((s.hsOf h).cmds ++ (s.port t.port).slip h).find? (fun e => e.tag = t)

/-- A waiting frame is taken (log entry 23, DESIGN CHOICE). -/
def State.claim (s : State) (h : HelmId) (p : Port) (id : Nat) : State :=
  let rest (l : List Entered) : List Entered := l.filter (fun e => e.id ≠ id)
  (s.modHs h (fun hs => { hs with cmds := rest hs.cmds })).modPort p (fun f =>
    match h with
    | .a => { f with slipA := rest f.slipA }
    | .b => { f with slipB := rest f.slipB })

/-- The last 8 of the held replies of a port (R117) (log entry 20, DEDUCED). -/
def lastEight (l : List HeldReply) : List HeldReply := l.drop (l.length - 8)

/-- The port of a frame or of a HEARD event is heard in its crossing (R268) (log entry 20, DEDUCED). -/
def HelmState.hear (hs : HelmState) (p : Port) (c : Nat) : HelmState :=
  if hs.heard.contains (p, c) then hs else { hs with heard := hs.heard ++ [(p, c)] }

/-- A frame that a port entered makes the port heard (R268); a UL2 frame is among the port's last 8, its reply not yet
complete (R117) (log entry 20, DEDUCED). -/
def HelmState.hold (hs : HelmState) (e : Entered) : HelmState :=
  let hs := hs.hear e.tag.port e.at_.crossing
  if e.tag.gen ≠ .ul2 || (hs.held e.tag.port).any (fun x => x.id = e.id) then hs
  else hs.setHeld e.tag.port
    (lastEight (hs.held e.tag.port ++ [⟨e.id, e.tag.alive, effOfOp e.op e.at_.landing false, none⟩]))

/-! ### Collections (R117, R131) -/

/-- The answer to a collection of frame k: what the held reply says, with the collection's own alive value (log entry 20, DEDUCED; log
entry 21, DEDUCED). ACCEPTED_PENDING carries the EFF_CROSSING of frame k, as R116 has it of an answer that is still to come (log entry 56,
DESIGN CHOICE). -/
def HelmState.collect (hs : HelmState) (p : Port) (own k : Byte) (at_ : Stamp) (id : Nat) : Reply :=
  match ((hs.held p).filter (fun e => e.id ≠ id)).reverse.find? (fun e => e.alive = k) with
  | some e =>
    match e.reply with
    | some r => { r with alive := own }
    | none => ⟨.acceptedPending, own, e.eff, [], none⟩
  | none => ⟨.replyGone, own, wd (at_.landing - 1), [], none⟩

/-- Whether a frame is a collection (R131). -/
def Entered.isCollection (e : Entered) : Bool := e.tag.gen = .ul2 && e.op = 0x01 && e.prm.length = 1

/-- A collection answered at one helm (log entry 21, DEDUCED). -/
def State.answerCollection (s : State) (h : HelmId) (e : Entered) : State :=
  let s := (s.claim h e.tag.port e.id).modHs h (fun hs => hs.hold e)
  s.deliver h e.tag e.id false ((s.hsOf h).collect e.tag.port e.tag.alive (pb e.prm 0) e.at_ e.id)

/-- Every waiting collection of a helm answered: its background work (R51, R131); in the windows of a test passage replies wait
(R195). -/
def State.background (s : State) (h : HelmId) : State :=
  if s.testWindow h then s
  else ((s.hsOf h).cmds.filter Entered.isCollection).foldl (fun s e => s.answerCollection h e) s

end Sys2Proof.Machine
end

