-- ==== Sys2Proof/Machine/Landing.lean ====
section
/-! DEFINITION. Strokes (R35, R51): stroke 0 with the SYNC pin of a LEAD (R76), stroke 32 with the reports (R31), stroke 240
with the landing at the Quay (R67, R68, R72, R128), and the edge that a FOLLOW takes up (R77 to R79). -/

namespace Sys2Proof.Machine

/-! ### Stroke 32 -/

/-- The report of pontoon p that a helm's slip holds for crossing n. -/
def Helm.slipReport (x : Helm) (n p : Nat) : Option Report := (vat x.repSlips p []).find? (fun r => r.crossing = n)

/-- Stroke 32 at a helm in service: the reports of the crossing are taken, and the report slips are empty (R31, R51, R207). -/
def Helm.takeSlips (x : Helm) (n : Nat) : Helm :=
  if x.svc.inService then
    { x with reports := Vector.ofFn (fun (p : Fin 4) => x.slipReport n p), repSlips := Vector.replicate 4 [] }
  else x

/-- Whether the active helm's manifest lands under a verdict; under SAFE it counts when the pontoon held it (R30, R189,
R498). -/
def Verdict.landedActive (v : Verdict) (hadMan : Bool) : Bool :=
  match v with
  | .agreed | .shadowMissing | .provingMismatch => true
  | .safe => hadMan
  | _ => false

/-- The verdict a pontoon gives of the landing about to come, once its manifests are compared (R190, R498). -/
def Pont.coming (x : Pont) : Verdict :=
  let bar := x.configuring || x.orderDue
  if !bar && x.chosen.isSome then x.verdict
  else if bar || x.silence || x.order then .safe else x.verdict

/-! ### Stroke 240: the landing at the Quay -/

/-- Whether a helm's passage of crossing n is the one after MOORED was entered, which sends stop orders and no manifest, and which nothing
discards (R389). -/
def HelmState.stops (hs : HelmState) (n : Nat) : Bool := hs.modes.mode == .moored && decide (hs.modes.since < n)

/-- Whether the passage of crossing n is kept (R67, R193): a pontoon in service lands the active helm's manifest, and none
disagrees. A crossing whose passage the leading helm did not run discards nothing (log entry 43, DEDUCED). -/
def State.keeps (s : State) (n : Nat) : Bool :=
  match s.leader with
  | none => true
  | some h =>
    let x := s.helm h
    let svc := (List.range 4).filter (fun p => x.hs.inSvc.getLsbD p)
    let v (p : Nat) : Verdict := (vat s.ponts p {}).coming
    decide (x.passNo ≠ some n) || x.hs.stops n
    || (svc.any (fun p => (v p).landedActive (vat s.ponts p {}).hadMan)
        && !svc.any (fun p => v p == .mismatch || v p == .viewSplit))

/-- What the commands and events of the passage asked of the Quay, the banks and the pontoons takes effect at the landing that
keeps it (R68, R146; log entry 43, DEDUCED): flags that a write clears, unless they were set since the landing before. -/
def Timebase.land (t : Timebase) (refclk kept : Bool) : Timebase :=
  let flag (b : Bool) (k : Nat) : Bool := b && (!t.w1c.getLsbD k || t.fresh.getLsbD k)
  let t := { t with refLocked := t.refLocked && refclk }
  if !kept then { t with fresh := 0 }
  else { t with
    refLost := flag t.refLost 0
    syncLost := flag t.syncLost 1
    syncMismatch := flag t.syncMismatch 2
    markSeen := flag t.markSeen 3
    w1c := 0
    fresh := 0
    markAt := t.markDue.or t.markAt
    decimAt := t.decimDue.or t.decimAt
    markDue := none
    decimDue := none }

/-- Words written to a bank at a landing. -/
def NvmDue.write (d : NvmDue) (s : State) : State :=
  { s with
    nvmA := if d.toA then s.nvmA.writes d.addr d.words else s.nvmA
    nvmB := if d.toB then s.nvmB.writes d.addr d.words else s.nvmB }

/-- The effects outside the helm states that the passage of crossing n asked for, made at its landing (R68, R409). -/
def State.landEffects (s : State) (n : Nat) : State :=
  let s := (s.nvmDue.foldl (fun s d => d.write s) s).modAllHs (fun hs => { hs with staged := [] })
  { s with
    nvmDue := []
    setups := none
    ponts := match s.setups with
      | some ch => s.ponts.map (fun x => if x.running && x.loaded then { x with nextSetup := some (n, ch) } else x)
      | none => s.ponts
    com := { s.com with ffClear := s.com.ffClear ++ s.com.ffDue, ffDue := [] } }

/-- Those of a discarded passage are dropped, and come with the passage that is kept (R68; log entry 43, DEDUCED). -/
def State.dropEffects (s : State) (n : Nat) : State :=
  { s.dropTest (n + 2, true) with
    nvmDue := []
    setups := none
    com := { s.com with ffDue := [] }
    bell := s.bell.drop
    toll := { s.toll with due := none }
    tb := { s.tb with w1c := 0, markDue := none, decimDue := none }
    cuOps := s.cuOps.filter (fun o => n < o.at_) }

/-- What the snapshot of this landing shows of the Quay and of the helms' own logic (R72; log entry 43, DEDUCED). SIG_A and SIG_B are
what each helm computed last, with the painter up or down (R196, R217; log entry 57, DESIGN CHOICE). -/
def State.quayNow (s : State) : QuaySnap :=
  { tide := s.tideStatus, sync := s.syncStatus, openA := s.hpa.opened, openB := s.hpb.opened
    healthA := s.helmA.healthWord, healthB := s.helmB.healthWord, outA := s.helmA.outCause, outB := s.helmB.outCause
    sigA := s.helmA.sig, sigB := s.helmB.sig, bistA := s.helmA.bistFail, bistB := s.helmB.bistFail, lost := s.lanes.lost }

/-- The records of a landing wait until the next passage judges it; where none comes they are handed on at once, as after the passage that
sends the stop orders (R68, R389, R438). -/
def Helm.landRecs (x : Helm) (h : HelmId) (n : Nat) : Helm :=
  if x.hs.stops n || !x.svc.computes then { x.handing h (x.held ++ x.sure ++ x.shared) with held := [], sure := [], shared := [] }
  else { x with held := x.held ++ x.shared, shared := [] }

/-- Both helms' records at the landing of crossing n. -/
def State.landRecords (s : State) (n : Nat) : State :=
  { s with helmA := s.helmA.landRecs .a n, helmB := s.helmB.landRecs .b n }

/-- The closing instruction of a debug port acts at a landing while no helm is in service (R216, R219; log entry 51, DESIGN
CHOICE). -/
def State.closeAttached (s : State) (h : HelmId) : State :=
  if !(s.helm h).closing then s
  else
    let s := (s.setDecided h .halted).modHelm h (fun x => { x with
      closing := false, svc := .halted, testing := true, joinable := true, bistTries := 0 })
    let s := s.quayRec ⟨s.now, 0xA, clsAct, 0x050, wd (helmCode h), 0, 0⟩
    { s with bell := { s.bell with raised := s.bell.raised ||| oneBit bellHelm } }

/-- Stroke 240: the landing at the Quay. The effects of the passage, if it is kept, which otherwise wait until the helms judge it; the bell, the holder and the mode that the
helms report, the counts, the toll keeper's settings and snapshot, the check units' results, what the snapshot shows. -/
def State.atLanding (s : State) (n : Nat) : State :=
  let s := ((s.closeAttached .a).closeAttached .b).serveReads
  let kept := s.keeps n
  let leader := s.leader
  let s := (if kept then (s.landEffects n).restartCus n else s).landRecords n
  let s := { s with
    keptAt := if kept then some n else s.keptAt
    tb := { s.tb.land (bb s.timingRec 1 20) kept with mark := .landing, ageLand := s.tb.age }
    rst := { s.rst with landed := s.rst.landed || leader.isSome }
    holder := if s.helmA.svc.inService || s.helmB.svc.inService then (if kept then leader.or s.holder else s.holder) else none
    mode := match kept, leader with
      | true, some h => (s.helm h).hs.modes.mode
      | _, _ => s.mode
    bell := if kept then s.bell.land else s.bell.landRaised
    toll := if kept then s.toll.land else s.toll
    tollSnap := { s.toll with left := s.toll.ticksLeft s.rst.tick, wdp := s.toll.wdpAt s.rst.tick }
    win := s.win.land
    cus := s.cus.map (fun (u : CheckUnit) => u.land n) }
  { s with quay := s.quayNow }

/-- The level that the device drives on SYNC; none at high impedance, as it is in reset, without VDD or VDDIO, and where it is no LEAD
(R76, R380, R474). -/
def State.syncPin (s : State) : Option Bool :=
  if s.live && s.rst.vddio && s.syncRole = 1 then some (decide (s.tb.syncOut ≠ 0)) else none

/-- Whether a port drives SDOx, or in a data phase the IO lanes: while it is selected; at high impedance otherwise, in reset, and without
VDD or VDDIO (R92, R380, R474). -/
def State.sdoDriven (s : State) (p : Port) : Bool := s.portOn && (s.port p).sel

/-- Whether TDO can drive: at high impedance in reset and without VDD or VDDIO (R380, R474). -/
def State.tdoEnabled (s : State) : Bool := s.live && s.rst.vddio

/-- The pulse that a LEAD drives at stroke 0: 4 µs when marked, otherwise 1 µs (R76). -/
def State.leadPulse (s : State) (n : Nat) : Nat :=
  if s.syncRole = 1 && s.rst.vddio then (if s.tb.markAt = some n then 4000 else 1000) else 0

/-- Whether the pulse still stands k strokes after stroke 0, a tide period lasting 1/16.384 µs (R76). -/
def Timebase.pulseOn (t : Timebase) (k : Nat) : Bool := decide (k * t.strokeTide * 1000000 < t.syncOut * 16384)

/-- What the Quay does at a stroke just begun: tokens, the marks of sounding and landing, the SYNC pin of a LEAD, the reports
taken at stroke 32, and the landing at stroke 240. -/
def State.atStroke (s : State) : State :=
  let t := s.now
  let s := { s with helmA := s.helmA.pushStroke t, helmB := s.helmB.pushStroke t }
  if t.stroke = 0 then
    let st := chStrokeTide s.inForce
    let marked : Bool := s.syncRole = 1 && s.tb.markAt = some t.crossing
    { s with tb := { s.tb with
        mark := .sounding
        ageSnd := s.tb.age
        strokeTide := if st = 0 then s.tb.strokeTide else st
        syncOut := s.leadPulse t.crossing
        markSeen := s.tb.markSeen || marked
        fresh := if marked then s.tb.fresh ||| 8 else s.tb.fresh
        markAt := if s.tb.markAt = some t.crossing then none else s.tb.markAt } }
  else
    let s := { s with tb := { s.tb with syncOut := if s.tb.pulseOn t.stroke then s.tb.syncOut else 0 } }
    if t.stroke = 32 then
      { s with helmA := s.helmA.takeSlips t.crossing, helmB := s.helmB.takeSlips t.crossing }
    else if t.stroke = 240 then s.atLanding t.crossing
    else s

/-- The crossing counter advances by one stroke (R35, R77, R462) (log entry 32, DEDUCED). -/
def State.advanceStroke (s : State) : State :=
  if !s.tb.counting then { s with tb := { s.tb with counting := true, stroke := 0 } }.atStroke
  else
    let s := { s with tb := { s.tb with age := s.tb.age + s.tb.strokeTide } }
    if s.tb.stroke < 255 then { s with tb := { s.tb with stroke := s.tb.stroke + 1 } }.atStroke
    else { s with tb := { s.tb with stroke := 0, crossing := s.tb.crossing + 1 } }.atStroke

/-- Whether the counter holds in MOORED: it holds the number of landing L + 1, the one after the landing that entered the mode
(R389). -/
def State.moorHeld (s : State) : Bool :=
  s.mode == .moored && (match s.leader with
    | some h => decide ((s.helm h).hs.modes.since < s.tb.crossing)
    | none => true)

/-- A stroke of time for which the counter does not advance: the clock of the pontoons runs on, on the selected tide or, with the tides
stopped or dead, at the frequency that the regenerators hold (R35, R36, R43, R338; log entry 32, DEDUCED). -/
def State.heldStroke (s : State) : State := { s with tb := { s.tb with age := s.tb.age + s.tb.strokeTide } }

/-- STROKE (R35, R36): the counter runs on the selected tide once start-up has given the helm to a helm; while a FOLLOW steps,
stroke 255 is held until the edge (R77), and in MOORED it is held until the tides stop (R389); without a running tide a STROKE is time gone
by (log entry 32, DEDUCED). -/
def execStroke (s : State) : Host.Outcome State Fault Refusal :=
  if s.tb.tides && s.tb.ts != .dead && s.live && s.rst.started && s.rst.firstGiven && !((s.tb.stepping || s.moorHeld) && s.tb.counting && s.tb.stroke = 255) then
    .next s.advanceStroke
  else .next s.heldStroke

/-! ### SYNC at a FOLLOW -/

/-- The crossing whose sounding an edge belongs to: the nearest stroke 0 (R79; log entry 32, DEDUCED). -/
def State.edgeCrossing (s : State) : Nat := if s.tb.stroke < 128 then s.tb.crossing else s.tb.crossing + 1

/-- The decimators reset at the sounding of a crossing, in the pontoons that have taken it already (R79, R339; log entry 32, DEDUCED). -/
def State.resetSounded (s : State) (c : Nat) : State :=
  s.mapPonts (fun p x =>
    match x.report with
    | some r => if x.running && r.crossing = c && x.crossing = c then x.soundResets p true else x
    | none => x)

/-- A marked pulse received at a FOLLOW (R79, R80): MARK_SEEN, and with SYNC_DECIM the decimators are reset at its sounding. -/
def State.markedEdge (s : State) (width : Nat) : State :=
  if width < 2500 then s
  else
    let s := { s with tb := { s.tb with markSeen := true, fresh := s.tb.fresh ||| 8 } }
    if bb s.timingRec 1 21 then { s with tb := { s.tb with decimAt := some s.edgeCrossing } }.resetSounded s.edgeCrossing else s

/-- SYNC_MISMATCH (R78): set, and the bell when it was 0. -/
def State.syncMismatch (s : State) : State :=
  let s' := { s with tb := { s.tb with syncMismatch := true, fresh := s.tb.fresh ||| 4 } }
  if s.tb.syncMismatch then s' else s'.quayCause bellSync

/-- SYNC_EDGE (R77, R78, R79) at a FOLLOW. The spec says "first": a FOLLOW steps at most once after a reset, and steers from
then on; an edge that it steers to while the device runs counts as the step (log entry 53, DESIGN CHOICE). -/
def execSyncEdge (phase : Int) (width : Nat) (periodOff : Nat) (s : State) : Host.Outcome State Fault Refusal :=
  if !(s.live && s.tb.counting && s.rst.vddio && s.syncRole = 2) then .next s
  else if 2000 < periodOff then .next s.syncMismatch
  else
    let s := s.markedEdge width
    if !s.tb.stepped && !s.mode.running then
      if s.tb.stepping && s.tb.stroke = 255 then
        let s := { s with tb := { s.tb with stepping := false, stepped := true, phaseErr := 0, inLock := 0
                                            decimAt := some (s.tb.crossing + 1) } }
        .next s.advanceStroke
      else .next { s with tb := { s.tb with stepping := true, phaseErr := clampI (-32767) 32767 phase } }
    else .next { s with tb := { s.tb.steer phase with stepped := true, stepping := false } }

end Sys2Proof.Machine
end

