-- ==== Sys2Proof/Machine/Orders.lean ====
section
/-! DEFINITION. The standing orders in a passage (R81 to R89). -/

namespace Sys2Proof.Machine

/-- The report of a pontoon taken in this passage; none when it is stale (R31). -/
def HelmState.rep (hs : HelmState) (p : Nat) : Option Report := vat hs.reps p none

/-- A source as a truth value (R83, R84): none when it is not valid. -/
def HelmState.srcBool (hs : HelmState) (m : Vector Int 32) (c : Nat) : Option Bool :=
  if c < 0x20 then
    match hs.rep (c / 8) with
    | some r => if r.diValid.getLsbD (c % 8) then some (r.diOn.getLsbD (c % 8)) else none
    | none => none
  else if c < 0x40 then some (decide (0 < vat m (c - 0x20) 0))
  else if c < 0x80 then some (vat hs.orders (c - 0x40) {}).result
  else if c = 0xFF then some true
  else none

/-- An analog source as a value: 0 latest sample, 1 peak maximum, 2 RMS, 3 envelope; none when it is not valid (R84, R85). -/
def HelmState.srcVal (hs : HelmState) (n field : Nat) : Option Int :=
  match hs.rep (n / 4) with
  | none => none
  | some r =>
    match r.ai[n % 4]? with
    | none => none
    | some a =>
      let w := match field with
        | 0 => a.latest
        | 1 => a.peak
        | 2 => a.rms
        | _ => a.env
      if a.valid && a.latest != noValue && w != noValue then some (sc w) else none

/-- A term of an INTERLOCK from a digital source. -/
def term (v : Option Bool) (inv : Bool) : Bool :=
  match v with
  | some b => b != inv
  | none => false

/-- The cap of a LIMIT (R86). -/
def limitCap (b : List Word) (a : Option Int) : Int :=
  let hi := bs b 4
  let lo := bs b 5
  match a with
  | none => lo
  | some v =>
    if v ≤ bs b 2 then hi else if bs b 3 ≤ v then lo
    else hi - ((hi - lo) * (v - bs b 2)).tdiv (bs b 3 - bs b 2)

/-- The on value of a target: ON_VALUE for a PQn. -/
def onValue (t : Nat) (v : Int) : Int := if isPq t then v else 1

/-- What an order makes of its target: the new value, and the order's new state. -/
structure OrdOut where
  value : Int
  st : OrdSt
  anchor : Bool := false
  deriving DecidableEq, Repr

/-- INTERLOCK (R86). -/
def HelmState.interlock (hs : HelmState) (m : Vector Int 32) (b : List Word) (o : OrdSt) (T : Int) : OrdOut :=
  let c := bf b 1 23 16
  let inv := bb b 1 15
  let a : Bool × Bool :=
    if srcAi c then
      match hs.srcVal (c - 0x80) 0 with
      | none => (false, false)
      | some v =>
        let on : Bool := decide (bs b 2 ≤ v) || (o.hyst && decide (bs b 2 - bs b 3 ≤ v))
        (on != inv, on)
    else (term (hs.srcBool m c) inv, false)
  let tb := term (hs.srcBool m (bf b 1 14 7)) (bb b 1 6)
  let ok := match bf b 1 5 4 with
    | 0 => a.1
    | 1 => a.1 && tb
    | _ => a.1 || tb
  ⟨if ok then T else 0, { o with hyst := a.2, result := ok }, false⟩

/-- RAMP (R86). -/
def ramp (b : List Word) (o : OrdSt) (T L : Int) : OrdOut :=
  let up := bs b 1
  let dn := bs b 2
  let v := if L ≤ T then (if up = 0 then T else L + min (T - L) up) else (if dn = 0 then T else L - min (L - T) dn)
  ⟨v, { o with result := decide (v ≠ T) }, false⟩

/-- TIMER (R86, R88): the present state and the landing of its last change come from the landed values. -/
def timer (n : Nat) (b : List Word) (o : OrdSt) (T L : Int) : OrdOut :=
  let on : Bool := decide (0 < L)
  let o := if o.fresh then { o with fresh := false, lastOn := on }
    else if on != o.lastOn then { o with lastOn := on, changedAt := some (n - 1) } else o
  let least := if on then (b.getD 1 0).toNat else (b.getD 2 0).toNat
  let near := match o.changedAt with
    | some c => decide (n - c < least)
    | none => false
  let hold := on != decide (0 < T) && near
  ⟨if hold then L else T, { o with result := hold }, false⟩

/-- FOLLOW (R86): the source as it was in passage n - DELAY; not valid where none is known (R88; log entry 40, DEDUCED). -/
def HelmState.follow (hs : HelmState) (n : Nat) (m : Vector Int 32) (b : List Word) (o : OrdSt) (t : Nat) : OrdOut :=
  let line := ((n, hs.srcBool m (bf b 1 23 16)) :: o.delay.filter (fun e => e.1 ≠ n)).take 256
  let v := term ((assocGet line (n - bf b 1 14 7)).getD none) (bb b 1 15)
  ⟨if v then onValue t (bs b 2) else 0, { o with delay := line, result := v }, false⟩

/-- HAIL-CHECK (R86, R258): slots in which the target took no action neither count nor break the count (log entry 40, DEDUCED). -/
def HelmState.hailCheck (hs : HelmState) (b : List Word) (o : OrdSt) (t : Nat) (T : Int) : OrdOut :=
  let src := bf b 1 23 16
  let seen : List HailHeard := match hs.rep (src / 8) with
    | some r => r.hails.filter (fun x => x.input = src && x.owner = t && x.acted)
    | none => []
  let o := seen.foldl (fun o x =>
    if x.code then { o with misses := 0, failed := false } else { o with misses := o.misses + 1 }) o
  let bad := o.failed || decide (bf b 1 15 12 ≤ o.misses)
  let act := bf b 1 11 10
  ⟨if bad && act = 1 then 0 else T, { o with failed := bad, result := !bad }, bad && !o.failed && act = 2⟩

/-- One standing order on the manifest as it stands (R81, R86). -/
def HelmState.order (hs : HelmState) (n : Nat) (m : Vector Int 32) (b : List Word) (o : OrdSt) : OrdOut :=
  let t := bf b 0 19 15
  let T := vat m t 0
  let L := vat hs.landed t 0
  match bf b 0 23 20 with
  | 1 => hs.interlock m b o T
  | 2 => ramp b o T L
  | 3 =>
    let v := min T (limitCap b (hs.srcVal (bf b 1 23 16 - 0x80) (bf b 1 15 14)))
    ⟨v, { o with result := decide (v ≠ T) }, false⟩
  | 4 => timer n b o T L
  | 5 => hs.follow n m b o t
  | 6 => hs.hailCheck b o t T
  | _ => ⟨T, { o with result := false }, false⟩

/-- The manifest in the making, the helm state, and whether an order that rings acts anew. -/
structure OrdRun where
  m : Vector Int 32
  hs : HelmState
  ring : Bool := false
  deriving DecidableEq, Repr

/-- Order k evaluated; a value above SP_CEIL, which RAMP and TIMER can take over from before a commit, comes down to it (R81, R82, R86, R89,
R287). -/
def OrdRun.eval (x : OrdRun) (n k : Nat) (b : List Word) : OrdRun :=
  let t := bf b 0 19 15
  let o := vat x.hs.orders k {}
  let r := x.hs.order n x.m b o
  let v := x.hs.capped t r.value
  let acted := decide (v ≠ vat x.m t 0)
  { m := vset x.m t v
    hs := { x.hs with
      orders := vset x.hs.orders k { r.st with acted := acted }
      anchorDue := if r.anchor && x.hs.anchorDue.isNone then some (n + 1, 7) else x.hs.anchorDue }
    ring := x.ring || (acted && !o.acted && bb b 0 14) }

/-- Every standing order, in index order (R81). -/
def OrdRun.all (x : OrdRun) (n : Nat) : OrdRun :=
  let os := chOrders x.hs.charter
  os.zipIdx.foldl (fun x e => x.eval n e.2 e.1) x

/-- The orders' states at a charter commit (R88): kept where content and index are unchanged (log entry 40, DEDUCED). -/
def carryOrders (old new : List Word) (st : Vector OrdSt 64) : Vector OrdSt 64 :=
  let a := chOrders old
  let b := chOrders new
  Vector.ofFn (fun (k : Fin 64) =>
    match b[k.val]? with
    | none => {}
    | some w => if a[k.val]? = some w then st[k] else {})

/-- The HAIL-CHECK at which order k stands with ACTION due (R86): ACTION acts on the manifest of this landing (log entry 29, DEDUCED). -/
def HelmState.hailAction (hs : HelmState) (k : Nat) : Bool :=
  let b := (chOrders hs.charter).getD k []
  let o := vat hs.orders k {}
  bf b 0 23 20 == 6 && decide (bf b 1 15 12 ≤ o.misses) && !o.failed

end Sys2Proof.Machine
end

