-- ==== Sys2Proof/Machine/Reports.lean ====
section
/-! DEFINITION. The start of a passage (R61): slips drained, reports taken (R31, R364), the passage before discarded when
the verdicts say so (R67, R68, R193, R498), the snapshot of the landing before built with the RC fields, records and bell
causes that the reports bring (R142, R147, R281, R333, R383), and the verdicts judged (R66 to R71, R194, R203, R210). -/

namespace Sys2Proof.Machine

/-! ### Slips -/

/-- A helm drains its command slips into its data SRAM (R56, R61). -/
def State.drainSlips (s : State) (h : HelmId) : State :=
  let es : List Entered := s.hpa.slip h ++ s.hpb.slip h
  (s.flushSlips h).modHs h (fun hs => es.foldl HelmState.hold { hs with cmds := hs.cmds ++ es })

/-- The port that a HEARD event names. -/
def EvAt.heardBy (e : EvAt) : Option Port :=
  match e.ev with
  | .heard p => some p
  | _ => none

/-- HEARD events are noted as they come, whatever their landing (R268). -/
def HelmState.drainHeard (hs : HelmState) (n : Nat) : HelmState :=
  let a := hs.evs.filterMap (fun e => e.heardBy.map (fun p => (p, e.at_.crossing)))
  { hs with
    heard := (hs.heard ++ a).filter (fun e => n < e.2 + 4)
    evs := hs.evs.filter (fun e => e.heardBy.isNone) }

/-! ### Reports (R31, R53, R364) -/

/-- The report of pontoon p for crossing n that a helm took at stroke 32 (R31, R51). -/
def Helm.reportFor (x : Helm) (n p : Nat) : Option Report := (vat x.reports p none).filter (fun r => r.crossing = n)

/-- The helm state with the reports of crossing n taken (R61, R364) (log entry 18, DEDUCED). -/
def HelmState.withReports (hs : HelmState) (n : Nat) (got : Vector (Option Report) 4) : HelmState :=
  let taken := Vector.ofFn (fun (p : Fin 4) => if got[p].isSome then some n else hs.taken[p])
  { hs with
    prevReps := hs.reps
    reps := got
    taken := taken
    prevSvc := hs.inSvc
    inSvc := BitVec.ofNat 4 (maskOf 4 (fun p => vat taken p none == some n || vat taken p none == some (n - 1))) }

/-- Reports are taken; one missing at either helm is counted once (R31, R34), and rings INPUT when the inputs turn stale (R31, R126) (log entry 30, DEDUCED). -/
def State.takeReports (s : State) (h : HelmId) (n : Nat) : State :=
  let got := Vector.ofFn (fun (p : Fin 4) => (s.helm h).reportFor n p)
  let missing (p : Nat) : Bool := (vat got p none).isNone
  let stale := (List.range 4).any (fun p => missing p && vat (s.hsOf h).taken p none == some (n - 1))
  let lost := ((List.range 4).filter missing).length
  let s := s.modHelm h (fun x => { x with
    gwOk := decide (lost = 0)
    hs := x.hs.withReports n got })
  let o := s.helm (otherHelm h)
  let fresh := ((List.range 4).filter (fun p =>
    missing p && !(o.passNo == some n && (vat o.hs.reps p none).isNone))).length
  let s := if fresh = 0 then s else s.rcAdd 0x021 12 fresh
  if stale then s.byLead h (fun s => s.ring bellInput) else s

/-- What landed at landing n - 1: as the reports say; what the helm sent where there is none. -/
def HelmState.takeLanded (hs : HelmState) : HelmState :=
  { hs with landed := Vector.ofFn (fun (q : Fin 32) =>
      match vat hs.reps (q.val / 8) none with
      | some r => r.landed.getD (q.val % 8) 0
      | none => hs.man[q]) }

/-! ### Keep or discard (R61, R66 to R68, R193) -/

/-- The reports of the pontoons in service (log entry 18, DEDUCED). -/
def HelmState.svcReps (hs : HelmState) : List Report :=
  (List.range 4).filterMap (fun p => if hs.inSvc.getLsbD p then vat hs.reps p none else none)

/-- The pontoons in service that report a verdict, as a mask. -/
def HelmState.verdictMask (hs : HelmState) (v : Verdict) : Nat :=
  maskOf 4 (fun p => hs.inSvc.getLsbD p && (match vat hs.reps p none with
    | some r => r.verdict == v
    | none => false))

/-- The active helm's manifest landed in a pontoon; SAFE counts when it was held (R498). -/
def Report.landedActive (r : Report) : Bool := r.verdict.landedActive r.hadMan

/-- A disagreement at the landing before (R190). -/
def HelmState.disagreed (hs : HelmState) : Bool := hs.verdictMask .mismatch != 0 || hs.verdictMask .viewSplit != 0

/-- The landing before counts as a late passage: a pontoon re-landed, and none disagreed (R66, R193). -/
def HelmState.isLate (hs : HelmState) : Bool := hs.verdictMask .late != 0 && !hs.disagreed

/-- Whether the passage before is discarded: no pontoon in service reports that its manifest landed, or any disagrees (R61,
R67, R193) (log entry 18, DEDUCED). -/
def HelmState.discards (hs : HelmState) : Bool := hs.disagreed || !hs.svcReps.any Report.landedActive

/-- An order's state restored at a discard: what it has seen in the crossings themselves, the sources of FOLLOW, the landed values of
TIMER and the hail periods, stays (R86; log entry 40, DEDUCED). -/
def OrdSt.restored (o cur : OrdSt) : OrdSt :=
  { o with
    delay := cur.delay
    misses := cur.misses
    failed := o.failed && cur.failed
    fresh := cur.fresh
    lastOn := cur.lastOn
    changedAt := cur.changedAt }

/-- The state of an order after a discard: as `OrdSt.restored` has it where both charters have the same order in that place, otherwise as
saved (R86). -/
def HelmState.ordersBack (saved cur : HelmState) : Vector OrdSt 64 :=
  let a := chOrders saved.charter
  let b := chOrders cur.charter
  Vector.ofFn (fun (k : Fin 64) =>
    if a[k.val]? = b[k.val]? then saved.orders[k].restored cur.orders[k] else saved.orders[k])

/-- Whether the reply to a frame is still to come: a snapshot or a wake read under way (R324, R355). -/
def HelmState.awaits (hs : HelmState) (id : Nat) : Bool :=
  hs.snaps.toList.any (fun l => l.any (fun r => r.id = id)) || hs.wakeReads.toList.any (fun l => l.any (fun r => r.id = id))

/-- A frame moves on from a discarded passage, which ended in the helm state `cur`. `landed`: the Quay kept its landing (R68, R122). -/
def Entered.move (e : Entered) (cur : HelmState) (landed : Bool) : Entered :=
  { e with moved := {
      again := true
      silent := e.moved.silent || !cur.awaits e.id
      passed := e.moved.passed || mayHold cur.charter e.tag.port
      landed := e.moved.landed || landed } }

/-- The helm state saved at the start of passage n - 1, with the commands and events of that passage still to be applied
(R61, R68); a wake read that it completed stays complete (log entry 15, DEDUCED). `landed`: the Quay kept its landing. -/
def Helm.restored (x : Helm) (n : Nat) (landed : Bool) : HelmState :=
  let cur := x.hs
  { x.saved with
    modes := { x.saved.modes with baseAt := some n }
    cmds := x.lastCmds.map (fun e => e.move cur landed) ++ cur.cmds
    evs := x.lastEvs.map (fun e => { e with landed := e.landed || landed }) ++ cur.evs
    heldA := cur.heldA
    heldB := cur.heldB
    heard := cur.heard
    prevReps := cur.prevReps
    reps := cur.reps
    taken := cur.taken
    inSvc := cur.inSvc
    prevSvc := cur.prevSvc
    wakeReads := Vector.ofFn (fun (p : Fin 4) => x.saved.wakeReads[p].filter (fun r => cur.wakeReads[p].any (fun q => q.id = r.id)))
    man := cur.man
    orders := x.saved.ordersBack cur }

/-- The passage before is kept, and its records are handed on, or discarded: then no record and no effect of it waits any more. Where
reports were lost and the Quay has kept the landing that the helms discard, what landed outside the helm states stays, and is not done
again (R68; log entry 18, DEDUCED; log entry 43, DEDUCED). -/
def State.keepOrDiscard (s : State) (h : HelmId) (n : Nat) : State :=
  let x := s.helm h
  let landed : Bool := decide (s.keptAt = some (n - 1))
  if x.passNo = some (n - 1) && x.hs.discards then
    (s.modHelm h (fun x => { x with hs := x.restored n landed, shared := [], held := [] })).byLead h (fun s =>
      if landed then s else s.dropEffects (n - 1))
  else s.modHelm h (fun x => x.keepHeld h)

/-- Late passages in mind, and the last landing with a disagreement (R71, R217). -/
def HelmState.noteVerdicts (hs : HelmState) (n : Nat) : HelmState :=
  let late := hs.late.filter (fun c => n ≤ c + 256)
  { hs with
    late := if hs.isLate then late ++ [n - 1] else late
    red := if hs.disagreed then { hs.red with lastDisagree := n - 1 } else hs.red }

/-! ### The first passage of a crossing: the window, records and bell causes -/

/-- Whether this is the helm whose passage shows landing n - 1 in the window: the first to run passage n. -/
def State.firstOf (s : State) (h : HelmId) (n : Nat) : Bool :=
  if s.rst.landed then decide (s.win.landing ≠ some (n - 1)) else s.lead h

/-- An RC event as a passage counts it, or the clear that a reply brings (R147) (log entry 14, DEDUCED). -/
def State.rcOp (s : State) (o : RcOp) : State :=
  match o with
  | .inc e => { s with win := s.win.count e }
  | .clear id => { s with win := s.win.clearRead id }

/-- A record about what reports say, which both helms compute (R412, R438). -/
def State.byBoth (s : State) (at_ : Stamp) (cls code : Nat) (d0 d1 d2 : Word) : State :=
  let one (g : HelmId) (s : State) : State := if (s.helm g).svc.computes then s.sureRec g at_ cls code d0 d1 d2 else s
  one .b (one .a s)

/-- A record that is written at most once for its subject in any 256 crossings (R281, R333, R383). -/
def State.limitedRec (s : State) (n cls code : Nat) (d0 d1 d2 : Word) : State :=
  let key := code * 256 + fld d0 23 16
  let held : Bool := match assocGet s.win.recAt key with
    | some c => decide (n < c + 256)
    | none => false
  if held then s
  else
    let s := { s with win := { s.win with recAt := assocSet s.win.recAt key n } }
    s.byBoth ⟨n, 240⟩ cls code d0 d1 d2

/-- A record that a report asks for; classes from 4 on are without the limit (log entry 16, DEDUCED). OUT_FAULT shows the whole
Q_DIAG word, with HAIL_FOREIGN and TSD_COUNT (R279, R281). -/
def State.reportRec (s : State) (n : Nat) (r : Nat × Nat × Word × Word × Word) : State :=
  let d0 := r.2.2.1
  let q := fld d0 23 16 - 0x20
  let d1 := if r.1 = 0x080 && !isPq q then mergeRc s.win.rc (0x210 + q) r.2.2.2.1 else r.2.2.2.1
  if 4 ≤ r.2.1 then
    { s with win := { s.win with recAt := assocSet s.win.recAt (r.1 * 256 + fld d0 23 16) n } }.byBoth ⟨n, 240⟩ (r.2.1 - 4)
      r.1 d0 d1 r.2.2.2.2
  else s.limitedRec n r.2.1 r.1 d0 d1 r.2.2.2.2

/-- The verdicts of landing n - 1 counted (R68, R71, R217). STANDBY_LATE counts once for a landing, however many pontoons report
SHADOW_MISSING, and only while both helms compute passages: the spec does not say which (log entry 45, DESIGN CHOICE). -/
def State.countVerdicts (s : State) (hs : HelmState) : State :=
  let one (v : Verdict) (addr lo : Nat) (s : State) : State :=
    if hs.verdictMask v != 0 then s.rcAdds [⟨⟨addr, lo⟩, 1⟩] else s
  let shadow : Bool := s.helmA.svc.computes && s.helmB.svc.computes
  let s := if hs.isLate then s.rcAdds [⟨⟨0x025, 8⟩, 1⟩] else s
  let s := if shadow then one .shadowMissing 0x025 0 s else s
  one .viewSplit 0x603 8 (one .mismatch 0x603 12 s)

/-- An RC event of a report belongs to the outputs, whose diagnostics the snapshot of the landing before shows (R254). -/
def RcInc.early (e : RcInc) : Bool := 0x200 ≤ e.key.addr && e.key.addr < 0x400

/-- An event that makes HAIL_FOREIGN of an output 1 (R257, R281), or QUAD_ERR of a counter nonzero (R126). -/
def State.freshRc (s : State) (n : Nat) (hs : HelmState) (e : RcInc) : State :=
  let fresh : Bool := s.win.rcNat e.key.addr e.key.lo == 0
  if fresh && 0x210 ≤ e.key.addr && e.key.addr < 0x230 && e.key.lo = 15 then
    let q := e.key.addr - 0x210
    let w : Word := if isPq q then repWord hs.reps (q / 8) (0x300 + 0x20 * pqOf q)
      else mergeRc s.win.rc e.key.addr (repWord hs.reps (q / 8) e.key.addr) + oneBit 15
    (s.ring bellOutput).limitedRec n clsFault 0x080 (subj (0x20 + q)) w 0
  else if fresh && 0x130 ≤ e.key.addr && e.key.addr < 0x140 && e.key.lo = 8 then s.ring bellInput
  else s

/-- RC events of the reports counted (log entry 14, DEDUCED). -/
def State.reportRc (s : State) (n : Nat) (hs : HelmState) (early : Bool) : State :=
  ((hs.reps.toList.filterMap id).flatMap (·.rc)).foldl (fun s e =>
    if e.early = early then (s.freshRc n hs e).rcAdds [e] else s) s

/-- DI_WB that the last report taken of a pontoon did not show rings INPUT (R497). A WB that stands through a dark period, in which DI_WB
reads 0, rings again: whether it is then a new fault the spec does not say (log entry 56, DESIGN CHOICE). -/
def State.freshWb (s : State) (p : Nat) (r : Report) : State :=
  let wb : BitVec 8 := ((assocGet r.words (0x100 + p)).getD 0).setWidth 8
  let s' := { s with win := { s.win with wbSeen := vset s.win.wbSeen p wb } }
  if wb &&& ~~~(vat s.win.wbSeen p 0) != 0 then s'.ring bellInput else s'

/-- A word of Qq whose flags `news` show for the first time: the bell and OUT_FAULT with the word `d1` (R281, R305). `always`: those
always recorded. -/
def State.faultShown (s : State) (n q : Nat) (old now : Word) (news always : Nat) (d1 : Word) : State :=
  let fresh := now &&& ~~~old &&& wd news
  if fresh = 0 then s
  else (s.reportRec n (0x080, if fresh &&& wd always = 0 then clsFault else clsFault + 4, subj (0x20 + q), d1, 0)).ring bellOutput

/-- What the words of the outputs in a report of pontoon p show that no snapshot with a report showed before (R281, R305). A latch whose
record rides in the report is not recorded twice. The pontoon's report is then told. -/
def State.outNews (s : State) (n p : Nat) (r : Report) : State :=
  let x := vat s.ponts p {}
  let word (a : Nat) : Word := (assocGet r.words a).getD 0
  let s := (List.range 8).foldl (fun s i =>
    let q := 8 * p + i
    let d := word (0x210 + q)
    let seen := (vat x.outs i {}).lastWord
    let told : Bool := r.recs.any (fun e => e.1 = 0x080 && fld e.2.2.1 23 16 = 0x20 + q)
    if i < 2 then
      let b := word (pqBase p i)
      (s.faultShown n q (vat x.pqs i {}).lastWord b (if told then 0x03E000 else 0x03F800) 0x001800 b).faultShown n q seen d 0x010000 0 b
    else
      let s := if told && bitOf d 21 && !bitOf seen 21 then s.ring bellOutput else s
      s.faultShown n q seen d (if told then 0x9F0000 else 0xBF0000) 0x200000 d) s
  { s with ponts := vmod s.ponts p (fun x => { x with
      told := true
      outs := Vector.ofFn (fun (i : Fin 8) => { x.outs[i] with lastWord := word (0x210 + 8 * p + i) })
      pqs := Vector.ofFn (fun (j : Fin 2) => { x.pqs[j] with lastWord := word (pqBase p j) }) }) }

/-- The records and bell causes of one report (R281, R333, R353, R383, R439) (log entry 16, DEDUCED). -/
def State.reportEvents (s : State) (n p : Nat) (r : Report) : State :=
  let s := s.freshWb p r
  let s := (r.recs.foldl (fun s x => s.reportRec n x) s).outNews n p r
  let s := (List.range 24).foldl (fun s k => if bitOf r.bells k then s.ring k else s) s
  let s := (List.range 4).foldl (fun s j =>
    if r.rxTrip.getLsbD j then
      (s.byBoth ⟨n, 0⟩ clsFault 0x081 (subj (0x10 + p)) (wd j)
        (wd (bf (chBody s.inForce 0x07) (34 + 4 * p + j) 17 10))).ring bellOutput
    else s) s
  r.wakeTrig.foldl (fun s t => s.byBoth t.1 clsInfo 0x0A8 (subj (0x10 + p)) (wd (t.1.stroke * 65536 + t.2 * 64)) 0) s

/-- LATE_PASSAGE, stamped (n - 1):240, and the bell cause LATE (R69, R126, R193). -/
def State.lateRecord (s : State) (n : Nat) (hs : HelmState) : State :=
  if !hs.isLate then s
  else
    (s.byBoth ⟨n - 1, 240⟩ clsWarn 0x020 (wd (hs.verdictMask .late)) (wd (s.lengthOf hs (n - 1)))
      (wd (estStrokes hs.charter))).ring bellLate

/-- The 8 input words of a snapshot reach the check units that take them, and their results stand for its landing (R456). -/
def State.snoopInputs (s : State) (n : Nat) : State :=
  let s := s.snoop ⟨0x30, n - 1, [], bytesOfNat 6 (n - 1), bytesOfWords ((List.range 8).map (fun k => s.win.word (0x100 + k)))⟩
  { s with cus := s.cus.map (fun u => if u.source = 0x30 then u.land (n - 1) else u) }

/-- What the first passage of crossing n does for both helms: RC fields of the passage before, the verdicts and the
outputs' diagnostics counted, the snapshot of landing n - 1 built, or before the first landing the words as loaded, then what the reports of sounding n bring. -/
def State.firstPassage (s : State) (h : HelmId) (n : Nat) : State :=
  let hs := s.hsOf h
  let s := hs.rcOps.foldl State.rcOp s
  let s := (s.countVerdicts hs).reportRc n hs true
  let s := if s.rst.landed then
      let s := (s.buildWindow hs n).snoopInputs n
      s.buildWindow hs n
    else s.showLoaded hs n
  let s := s.reportRc n hs false
  let s := (List.range 4).foldl (fun s p => match vat hs.reps p none with
    | some r => s.reportEvents n p r
    | none => s) s
  let s := s.lateRecord n hs
  s.toll.expPend.foldl (fun s at_ => s.raiseEv at_ .tollExpiry) { s with toll := { s.toll with expPend := [] } }

/-- The window, if this is the first passage; the RC events of the passage before are then counted for both helms (log entry 14, DEDUCED; log entry 35, DEDUCED). -/
def State.showLanding (s : State) (h : HelmId) (n : Nat) : State :=
  let s := if s.firstOf h n then s.firstPassage h n else s
  s.modHs h (fun hs => { hs with rcOps := [] })

/-! ### The verdicts judged -/

/-- The helm in PROVING, or in JOINING: the one that PROVING_MISMATCH fences, a verdict that only a manifest sent with HELM_JOIN or
later can have (R186). -/
def State.prover (s : State) (h : HelmId) : Option HelmId :=
  let r := (s.hsOf h).red
  let is (g : HelmId) : Bool := r.svc g == .proving || r.svc g == .joining
  if is .a then some .a else if is .b then some .b else none

/-- A helm is fenced for a mismatch while proving: after a swap its former image comes back (R210, R471). -/
def State.fenceProver (s : State) (h : HelmId) (n : Nat) (g : HelmId) : State :=
  let s := if (s.helm g).swapped then
      let t := backBoot (s.hsOf h).imgTab g
      ((s.modHs h (fun hs => { hs with imgTab := t })).byLead h (fun s => s.writeImgTable t)).byLead h (fun s => s.modHelm g (fun x => { x with swapped := false }))
    else s
  (s.leave h n g .fenced 3).modHs h (fun hs => hs.rc 0x603 4 1)

/-- PROVE of the charter in force (R213). -/
def HelmState.prove (hs : HelmState) : Nat := bf (chBody hs.charter 0x05) 1 23 8

/-- The record of a mode change at landing n names UNDERWAY as the mode entered (R387, R412). -/
def Rec.toUnderway (r : Rec) (n : Nat) : Rec :=
  if r.isChange n then { r with d0 := (r.d0 &&& ~~~(0x0F0000 : Word)) ||| 0x030000 } else r

/-- SH_HELM falls at the landing `at_` at which a helm enters STANDBY, and the mode is UNDERWAY from that landing on (R210,
R385; log entry 27, DEDUCED); when a mode change is recorded at that landing already, that record names UNDERWAY (R387). -/
def State.backUnderway (s : State) (h : HelmId) (at_ : Nat) : State :=
  let m := (s.hsOf h).modes
  if (s.hsOf h).red.single || !m.shHelm then s
  else
    let s := s.modHs h (fun hs => { hs with modes := { hs.modes with shHelm := false, oldSh := false } })
    if m.mode != .singleHanded || m.shPont != 0 then s
    else if m.since = at_ then
      (s.modHs h (fun hs => { hs with modes := { hs.modes with mode := .underway, old := .underway } })).modHelm h (fun x =>
        { x with recQ := x.recQ.map (fun r => r.toUnderway at_) })
    else
      let s := s.modHs h (fun hs => { hs with modes := { hs.modes with
        mode := .underway, since := at_, cause := m.shWhy, prev := .singleHanded
        old := .underway, oldSince := at_, oldCause := m.shWhy, oldPrev := .singleHanded } })
      (s.note h at_ clsAct 0x04E (wd (3 * 2 ^ 16 + 4 * 2 ^ 12 + m.shWhy.toNat)) 0 0).chime h bellMode

/-- A helm has proven itself: STANDBY at the landing `at_` (R186, R203, R210, R219; log entry 27, DEDUCED). -/
def State.proven (s : State) (h : HelmId) (at_ : Nat) (g : HelmId) : State :=
  let s := s.modHs h (fun hs =>
    let r := { hs.red.setSvc g .standby with proveLeft := 0 }
    { hs with red := if chPrimary hs.charter = some g then r.startReturn hs.charter else r })
  let s := (s.note h at_ clsInfo 0x026 (subj (helmSubj g)) 0 0).chime h bellHelm
  let s := s.byLead h (fun s => s.modHelm g (fun x => { x with swapped := false }))
  s.backUnderway h at_

/-- After both helms have failed, the one that stands by again takes the helm, and the former holder is fenced (R200). -/
def State.afterDouble (s : State) (h : HelmId) (n : Nat) : State :=
  let r := (s.hsOf h).red
  match r.doubleFail with
  | some d =>
    let g := otherHelm d
    if r.svc g = .standby && r.view = some d then (s.changeView h n g false).leave h n d .fenced 1 else s
  | none => s

/-- Whether the verdicts of landing n - 1 count in the proving count: AGREED in every pontoon in service whose report came; a
pontoon whose report is missing is left out (R210; log entry 57, DESIGN CHOICE). -/
def HelmState.allAgreed (hs : HelmState) : Bool :=
  !hs.svcReps.isEmpty && hs.svcReps.all (fun r => r.verdict == .agreed)

/-- The last agreed landing of PROVE is the landing n - 1 that passage n judges: the helm stood by from that landing on, and
its snapshot shows it (R210; log entry 27, DEDUCED). -/
def State.standsBy (s : State) (h : HelmId) (n : Nat) : State :=
  let hs := s.hsOf h
  match s.prover h with
  | some g =>
    if hs.red.svc g = .proving && hs.allAgreed && decide (hs.red.proveLeft ≤ 1) then s.proven h (n - 1) g else s
  | none => s

/-- One landing's verdicts in the proving count (R210): all AGREED counts, LATE and SAFE do nothing, anything else begins
the count afresh (log entry 15, DEDUCED; log entry 27, DEDUCED; log entry 30, DEDUCED). -/
def State.countProving (s : State) (h : HelmId) (n : Nat) : State :=
  let hs := s.hsOf h
  match s.prover h with
  | none => s
  | some g =>
    if hs.verdictMask .provingMismatch != 0 then s.fenceProver h n g
    else if hs.red.svc g ≠ .proving then s
    else if hs.verdictMask .shadowMissing != 0 || hs.disagreed then
      s.modHs h (fun hs => { hs with red := { hs.red with proveLeft := hs.prove } })
    else if !hs.allAgreed then s
    else s.modHs h (fun hs => { hs with red := { hs.red with proveLeft := hs.red.proveLeft - 1 } })

/-- RETURN_LEFT decreases in each passage (R203) (log entry 27, DEDUCED). -/
def HelmState.countReturn (hs : HelmState) : HelmState :=
  if hs.red.retOn && decide (0 < hs.red.retLeft) then { hs with red := { hs.red with retLeft := hs.red.retLeft - 1 } } else hs

/-- An arbitration opens at the first disagreement (R194 to R196) (log entry 15, DEDUCED). -/
def State.openArb (s : State) (h : HelmId) (n : Nat) : State :=
  let hs := s.hsOf h
  if !hs.disagreed || hs.red.arb.isSome then s
  else
    let mask := BitVec.ofNat 24 (hs.verdictMask .mismatch) ||| BitVec.ofNat 24 (hs.verdictMask .viewSplit)
    let s := s.modHs h (fun hs => { hs with red := { hs.red with arb := some (n - 1) } })
    let s := s.note h (n - 1) clsFault 0x021 mask (s.helmWord hs 0x60A) 0
    s.byLead h (fun s => s.openTest (n + 2, false) true true)

/-- The order a helm sends at the start of a passage (R70). -/
def State.sendOrder (s : State) (h : HelmId) (o : OrderKind) : State :=
  s.byLead h (fun s => s.modHelm h (fun x => { x with ordOut := some o }))

/-- ANCHORED by the mechanism of R70: a safe-state order and the mode. -/
def State.anchorBy (s : State) (h : HelmId) (n : Nat) (cause : Byte) : State :=
  (s.anchor h n cause).sendOrder h .safeState

/-- ANCHORED entries due at the start of the passage: the third late passage in 256 crossings (R70), and one that the
passage before found (R86) (log entry 29, DEDUCED). -/
def State.anchorsDue (s : State) (h : HelmId) (n : Nat) : State :=
  let hs := s.hsOf h
  let s := if hs.isLate && hs.lateRecent (n - 1) == 3 then s.anchorBy h n 2 else s
  match (s.hsOf h).anchorDue with
  | some (m, cause) =>
    if m ≤ n then (s.anchorBy h n cause).modHs h (fun hs => { hs with anchorDue := none }) else s
  | none => s

/-- What a passage raised before the point at which the helm state is saved moves with no discard (R61). -/
def State.ringNow (s : State) (h : HelmId) : State :=
  s.byLead h (fun s => { s with bell := { s.bell with raised := s.bell.raised ||| s.bell.due, due := 0 } })

/-! ### Snapshots (R324, R325) -/

/-- One snapshot's result: the reply of the oldest request for its channel completes (R168, R324, R325). -/
def State.snapDone (s : State) (h : HelmId) (p : Nat) (x : SnapRes) : State :=
  match (vat (s.hsOf h).snaps p []).find? (fun r => r.ch = 4 * p + x.ch) with
  | none => s
  | some r =>
    let s := s.modHs h (fun hs =>
      { (hs.rc (grpAddr p 3) 0 1) with snaps := vmod hs.snaps p (fun l => l.filter (fun y => y.id ≠ r.id)) })
    s.deliver h r.tag r.id false ⟨.ok, r.tag.alive, r.eff, bytesOfWord x.primary ++ bytesOfWord x.check ++ [x.flags], none⟩

/-- The results that the reports of a passage bring. -/
def State.snapsDone (s : State) (h : HelmId) : State :=
  (List.range 4).foldl (fun s p => match vat (s.hsOf h).reps p none with
    | some r => r.snaps.foldl (fun s x => s.snapDone h p x) s
    | none => s) s

/-- The verdicts of landing n - 1 judged, RETURN_LEFT counted, and the helm state saved (R61, R203) (log entry 15, DEDUCED; log entry 27, DEDUCED). -/
def State.judgeAndSave (s : State) (h : HelmId) (n : Nat) : State :=
  let s := ((s.countProving h n).afterDouble h n).modHs h HelmState.countReturn
  let s := (((s.openArb h n).anchorsDue h n).modHelm h Helm.nowSure).ringNow h
  s.modHelm h (fun x => { x with saved := x.hs })

/-- A report shows the gangway of a helm down, and the other up (R374). -/
def Report.downFor (r : Report) (h : HelmId) : Bool :=
  match h with
  | .a => !r.gwA && r.gwB
  | .b => !r.gwB && r.gwA

/-- A helm whose own gangway a report shows down hands HELM_FENCE for itself, once, unless it is the only one in service
(R374); the BG_FAIL record names the gangway step of R211 (log entry 30, DEDUCED). -/
def State.fenceSelf (s : State) (h : HelmId) : State :=
  let x := s.helm h
  let down := x.hs.reps.toList.any (fun r => match r with
    | some r => r.downFor h
    | none => false)
  if (x.svc == .standby || x.svc == .holding) && (s.helm (otherHelm h)).svc.inService && down
      && !x.hs.evs.any (fun e => e.ev = .helmFence h 2 5) then
    (((s.helmRec h s.now clsFault 0x029 (subj (helmSubj h)) 5 0).offerRecords h).raiseEv s.now (.helmFence h 2 5))
  else s

/-- Everything up to the saving of the helm state. -/
def State.beginPassage (s : State) (h : HelmId) (n : Nat) : State :=
  let s := (s.drainSlips h).modHs h (fun hs => hs.drainHeard n)
  let s := ((s.takeReports h n).fenceSelf h).keepOrDiscard h n
  let s := (s.openMode h n).modHs h (fun hs => (hs.takeLanded).noteVerdicts n)
  (((s.standsBy h n).showLanding h n).snapsDone h).judgeAndSave h n

end Sys2Proof.Machine
end

