-- ==== Sys2Proof/Machine/Events.lean ====
section
/-! DEFINITION. What is applied in a passage (R56 to R60, R68): a charter whose landing has come (R409, R410), the timers
of roles, the stamped events (R60, R173, R185), the commands (R58, R59, R132), and pulses (R151). -/

namespace Sys2Proof.Machine

/-! ### Order (R58, R60) -/

/-- An item put before the first one that it precedes. -/
def insertBy {α : Type} (before : α → α → Bool) (x : α) : List α → List α
  | [] => [x]
  | y :: l => if before x y then x :: y :: l else y :: insertBy before x l

/-- Items in order; equal ones keep the order they came in. -/
def sortBy {α : Type} (before : α → α → Bool) (l : List α) : List α := l.foldl (fun acc x => insertBy before x acc) []

/-- Frames in order of stamps, HPA before HPB, and within a port as received (R58) (log entry 23, DESIGN CHOICE). -/
def Entered.before (a b : Entered) : Bool :=
  a.at_.lt b.at_ || (a.at_ == b.at_ && (a.tag.port == .hpa && b.tag.port == .hpb
    || (a.tag.port == b.tag.port && decide (a.id < b.id))))

/-! ### The charter that takes effect (R409, R410) -/

/-- The toll keeper's settings in a charter (R428). -/
def chToll (ch : List Word) : TkSet :=
  let b := chBody ch 0x0C
  { roster := BitVec.ofNat 8 (bf b 0 22 15), pol := bb b 0 14, pulse := bf b 0 9 0, closed := (b.getD 1 0).toNat,
    opened := (b.getD 2 0).toNat, moorS := bf b 3 23 8 }

/-- The toll keeper is to take a charter's settings at the landing, in force from its next window; an override ends (R430). -/
def Toll.takeCharter (t : Toll) (ch : List Word) : Toll :=
  { t with due := some ⟨chToll ch, false, bb (chBody ch 0x0C) 0 23⟩ }

/-- HOLDOFF of a charter (R213). -/
def chHoldoff (ch : List Word) : Nat := bf (chBody ch 0x05) 0 15 0

/-- A key of a role held or challenged on a port changes: the session ends (R398). -/
def State.keyChange (s : State) (h : HelmId) (n : Nat) (new : List Word) (p : Port) : State :=
  let hs := s.hsOf h
  let r := hs.role p
  let changed (x : Option Role) : Bool := match x with
    | some x => roleKey hs.charter x != roleKey new x
    | none => false
  if changed r.held || changed (r.chal.map (·.role)) then s.endRole h n p 4 else s

/-- The helm state under a new charter (R88, R214, R287, R409). -/
def HelmState.takeCharter (hs : HelmState) (new : List Word) : HelmState :=
  let held (q : Nat) (v : Int) : Int := { hs with charter := new }.capped q v
  let old := hs.charter
  let red := hs.red
  let moved : Bool := chPrimary old != chPrimary new || chHoldoff old != chHoldoff new
  let authMoved : Bool := chOutAuth old != chOutAuth new
  { hs with
    charter := new
    chSource := 0b101
    copyOk := 7
    img := Vector.ofFn (fun (q : Fin 32) => held q hs.img[q])
    forced := Vector.ofFn (fun (q : Fin 32) => hs.forced[q].map (held q))
    orders := carryOrders old new hs.orders
    auth := if authMoved then none else hs.auth
    takeover := if authMoved then none else hs.takeover
    red := if moved && red.retOn && decide (0 < red.retLeft) then { red with retLeft := chHoldoff new } else red }

/-- Pontoons that run with a setup are to take the new one at the landing of this passage (R409). -/
def State.sendSetups (s : State) (ch : List Word) : State := { s with setups := some ch }

/-- The commit at AT: in force when all three copies were confirmed, abandoned otherwise (R409, R410). A CHARTER_WRITE or CHARTER_COMMIT
applied at AT still finds it, and is BUSY: AT has not passed (R408). -/
def State.commitDue (s : State) (h : HelmId) (n : Nat) : State :=
  let hs := s.hsOf h
  match hs.pend with
  | none => s
  | some p =>
    if p.done then (if p.at_ < n then s.modHs h (fun hs => { hs with pend := none }) else s)
    else if n < p.at_ then s
    else
      let d0 (detail : Nat) : Word := wd (roleCode p.role * 2 ^ 22 + portCode p.port * 2 ^ 20 + detail % 2 ^ 20)
      let s := s.modHs h (fun hs => { hs with pend := if p.at_ = n then some { p with done := true } else none })
      if p.ok = 7 then
        let s := (s.keyChange h n p.words .hpa).keyChange h n p.words .hpb
        let s := s.modHs h (fun hs => hs.takeCharter p.words)
        let s := s.byLead h (fun s =>
          ({ s with toll := s.toll.takeCharter p.words }.sendSetups p.words).abortResync (otherHelm h) n)
        s.note h n clsAct 0x045 (d0 p.words.length) p.fp p.gen
      else
        let s := s.byLead h (fun s => (List.range 3).foldl (fun s c => s.queueCopy c hs.charter) s)
        s.note h n clsFault 0x046 (d0 (7 - p.ok.toNat)) p.fp p.gen

/-! ### Timers of a port's role (R398) -/

/-- The last crossing up to n - 2 in which a port was heard. -/
def HelmState.noteHeard (hs : HelmState) (n : Nat) (p : Port) : HelmState :=
  let cs : List Nat := (hs.heard.filter (fun e => e.1 = p && e.2 + 2 ≤ n)).map (·.2)
  hs.modRole p (fun r => { r with lastHeard := cs.foldl max r.lastHeard })

/-- The timers of a port in a passage. -/
def State.portTimers (s : State) (h : HelmId) (n : Nat) (p : Port) : State :=
  (((s.modHs h (fun hs => hs.noteHeard n p)).chalExpiry h n p).lockEnd h n p).roleIdle h n p

/-! ### Stamped events -/

/-- SESSION_RESET of a port (R173, R174); what was stamped after it stays. -/
def State.sessionResetAt (s : State) (h : HelmId) (n : Nat) (p : Port) (before : Nat) : State :=
  let s := s.endRole h n p 2
  let hs := s.hsOf h
  let unfinished : Option Nat := match stagingSlot hs.imgTab with
    | some k => if slotState hs.imgTab k = 1 && decide (hs.stageOwner = some p) then some k else none
    | none => none
  let s := s.modHs h (fun hs =>
    { (hs.setHeld p ((hs.held p).filter (fun e => before ≤ e.id))) with
      cmds := hs.cmds.filter (fun e => e.tag.port ≠ p || before ≤ e.id)
      draft := hs.draft.filter (fun d => d.owner ≠ p) })
  match unfinished with
  | some k => (s.setTable h (imgSlotSet hs.imgTab k [0, 0, 0, 0, 0])).modHs h (fun hs => { hs with stageOwner := none })
  | none => s

/-- HELM_FENCE (R186, R211): the only helm in service is not fenced, and the device enters ANCHORED. TEST_OK or MEM_OK is cleared: MEM_OK
by a failed step 1 to 4, TEST_OK by any other; the spec does not say which (log entry 56, DESIGN CHOICE). -/
def State.fenceAt (s : State) (h : HelmId) (n : Nat) (g : HelmId) (cause : BitVec 4) (step_ : Nat) : State :=
  let r := (s.hsOf h).red
  if !(r.svc g).inService then s
  else if r.otherIn g then s.leave h n g .fenced cause
  else
    let mem : Bool := 1 ≤ step_ && step_ ≤ 4
    (s.modHelm g (fun x => { x with memOk := x.memOk && !mem, testOk := x.testOk && mem })).anchorBy h n 3

/-- HELM_HALT (R186). -/
def State.haltAt (s : State) (h : HelmId) (n : Nat) (g : HelmId) (cause : BitVec 4) : State :=
  if ((s.hsOf h).red.svc g).inService then s.leave h n g .halted cause else s

/-- HELM_JOIN (R186, R206, R218, R219): PROVING, its count at 0; a fence at the same landing goes first (log entry 30, DEDUCED). -/
def State.joinAt (s : State) (h : HelmId) (n : Nat) (g : HelmId) : State :=
  if (s.hsOf h).red.svc g ≠ .joining || !((s.helm g).resync.handed || (s.helm g).svc == .proving) then s
  else
    let s := s.modHs h (fun hs =>
      { (hs.rc 0x60B 16 1) with red := { hs.red.setSvc g .proving with proveLeft := hs.prove } })
    let s := s.modHelm g (fun x => { x.runImage (s.hsOf h).imgTab with outCause := 0 })
    (s.note h n clsInfo 0x025 (subj (helmSubj g)) 0 0).chime h bellHelm

/-- The both-pass outcomes within the 2^20 crossings before landing n (R198). -/
def Redund.earlier (r : Redund) (n : Nat) : Nat := (r.transients.filter (fun c => n ≤ c + 2 ^ 20)).length

/-- TRANSIENT_POLICY after a both-pass outcome (R198, R199). -/
def State.transient (s : State) (h : HelmId) (n : Nat) : State :=
  let hs := s.hsOf h
  let earlier := hs.red.earlier n
  let s := s.modHs h (fun hs => { hs with red := { hs.red with
    transients := hs.red.transients.filter (fun c => n ≤ c + 2 ^ 20) ++ [n] } })
  if earlier < 3 then s
  else match bf (chBody hs.charter 0x05) 0 21 20, chPrimary hs.charter with
    | 1, some g =>
      let o := otherHelm g
      if (hs.red.svc o).inService && (hs.red.svc g).inService then
        (s.leave h n o .fenced 4).modHs h (fun hs => { hs with modes := { hs.modes with shWhy := 4 } })
      else s
    | 2, _ => s.anchorBy h n 4
    | _, _ => s

/-- LAST_OUTCOME (R217). -/
def outcomeCode (passA passB : Bool) : BitVec 4 :=
  if passA then (if passB then 1 else 3) else (if passB then 2 else 4)

/-- TEST_OUTCOME (R196 to R200): NONE is FAIL (log entry 26, DEDUCED). -/
def State.outcomeAt (s : State) (h : HelmId) (n : Nat) (a b : TestVerdict) (requested : Bool) : State :=
  let pa : Bool := a == .pass
  let pb : Bool := b == .pass
  let r := (s.hsOf h).red
  let inA := (r.svc .a).inService
  let inB := (r.svc .b).inService
  let s := s.modHs h (fun hs => { hs with red := { hs.red with
    outcome := outcomeCode pa pb
    arb := if requested then hs.red.arb else none } })
  if inA && inB then
    match pa, pb with
    | true, true => if requested then s else s.transient h n
    | true, false => s.leave h n .b .fenced 1
    | false, true => s.leave h n .a .fenced 1
    | false, false =>
      let v := r.view.getD .a
      ((s.anchorBy h n 3).leave h n (otherHelm v) .fenced 1).modHs h (fun hs =>
        { hs with red := { hs.red with doubleFail := some v } })
  else if (inA && !pa) || (inB && !pb) then s.anchorBy h n 3
  else s

/-- What a command or event does outside the helm states is left out, since it has landed already (R68; log entry 43, DEDUCED). -/
def State.insideOnly (t s : State) (landed : Bool) : State :=
  if !landed then t
  else { t with
    tb := s.tb, toll := s.toll, bell := s.bell, com := s.com, nvmDue := s.nvmDue, setups := s.setups, cuOps := s.cuOps
    outcomes := s.outcomes, helmA := { t.helmA with tests := s.helmA.tests }, helmB := { t.helmB with tests := s.helmB.tests } }

/-- A stamped event applied (R60, R126, R185). -/
def State.applyEv (s : State) (h : HelmId) (n : Nat) (e : EvAt) : State :=
  match e.ev with
  | .sessionReset p before => s.sessionResetAt h n p before
  | .heard _ | .tideTransient | .safenEdge _ _ | .supply _ => s
  | .cause bit => s.chime h bit
  | .rcClear id => s.modHs h (fun hs => { hs with rcOps := hs.rcOps ++ [.clear id] })
  | .tollExpiry => s.chime h bellToll
  | .tideSplit => (s.chime h bellTide).anchorBy h n 5
  | .tideDiscard | .refclkLost => s.chime h bellTide
  | .helmHalt g cause => s.haltAt h n g cause
  | .helmFence g cause step_ => s.fenceAt h n g cause step_
  | .helmJoin g => s.joinAt h n g
  | .testOutcome a b req => s.outcomeAt h n a b req
  | .debugClose g =>
    if (s.hsOf h).red.svc g = .debug then (s.note h n clsAct 0x050 (wd (helmCode g)) 0 0).detach h g else s

/-- The stamped events due at landing n. -/
def HelmState.evsDue (hs : HelmState) (n : Nat) : List EvAt :=
  sortBy (fun (a b : EvAt) => a.at_.lt b.at_) (hs.evs.filter (fun e => e.at_.landing ≤ n))

/-- The stamped events due, applied in order of their stamps (R60). -/
def State.events (s : State) (h : HelmId) (n : Nat) : State :=
  let due := (s.hsOf h).evsDue n
  let s := s.modHelm h (fun x => { x with
    lastEvs := due
    hs := { x.hs with evs := x.hs.evs.filter (fun e => n < e.at_.landing) } })
  due.foldl (fun s e => (s.applyEv h n e).insideOnly s e.landed) s

/-! ### Commands -/

/-- What a frame spells (R101, R132). -/
def Entered.cmd (e : Entered) : Option (Option Cmd) :=
  if e.tag.gen = .ul1 then some (some (.ul1Write (pn e.prm 0 1) (pn e.prm 1 2))) else parseCmd e.op e.prm

/-- A refused frame's reply. -/
def Entered.refusal (e : Entered) (st : Status) : Reply :=
  ⟨st, e.tag.alive, effOfOp e.op e.at_.landing true, [], none⟩

/-- A frame at its point of application (R59, R132). -/
def State.applyFrame (s : State) (h : HelmId) (n : Nat) (e : Entered) (late : Bool) : State :=
  let no (st : Status) : State := s.deliver h e.tag e.id e.moved.silent (e.refusal st)
  if late then no .busy
  else match e.cmd with
    | none => no .badOpcode
    | some none => no .paramBad
    | some (some c) =>
      (s.applyCmd ⟨h, n, if e.moved.again then n else e.at_.landing, e.tag, e.id, e.at_, e.moved⟩ c).insideOnly s e.moved.landed

/-- The frames due at landing n, in the order of R58; collections are no commands (R131) (log entry 23, DESIGN CHOICE). -/
def HelmState.cmdsDue (hs : HelmState) (n : Nat) : List Entered :=
  sortBy Entered.before (hs.cmds.filter (fun e => e.at_.landing ≤ n && !e.isCollection))

/-- Frames applied one after the other; a and b count those of each port, moved ones too, and a moved frame past the 16th has no effect and,
its reply being given, no answer (R59; log entry 57, DESIGN CHOICE). -/
def State.applyFrames (s : State) (h : HelmId) (n : Nat) : Nat → Nat → List Entered → State
  | _, _, [] => s
  | a, b, e :: l =>
    match e.tag.port with
    | .hpa => (s.applyFrame h n e (decide (16 ≤ a))).applyFrames h n (a + 1) b l
    | .hpb => (s.applyFrame h n e (decide (16 ≤ b))).applyFrames h n a (b + 1) l

/-- The commands due at landing n (R58, R59), after those that rows of their own have applied since the passage began. -/
def State.commands (s : State) (h : HelmId) (n : Nat) : State :=
  let before (p : Port) : Nat := ((s.helm h).lastCmds.filter (fun e => e.tag.port = p)).length
  let due := (s.hsOf h).cmdsDue n
  let s := s.modHelm h (fun x => { x with
    lastCmds := x.lastCmds ++ due
    hs := { x.hs with cmds := x.hs.cmds.filter (fun e => n < e.at_.landing || e.isCollection) } })
  s.applyFrames h n (before .hpa) (before .hpb) due

/-! ### Pulses (R151) -/

/-- Whether the pulse on an output has its end at landing n or before. -/
def HelmState.pulseDue (hs : HelmState) (n : Nat) (q : Fin 32) : Bool :=
  match hs.pulses[q] with
  | some l => decide (l ≤ n)
  | none => false

/-- A pulse ends: its output turns off in the host image. -/
def HelmState.endPulse (hs : HelmState) (q : Fin 32) : HelmState :=
  { hs with img := hs.img.set q 0, pulses := hs.pulses.set q none }

/-- The pulses whose end has come end (R151). They end after the commands of the passage: a command applied at L + DURATION replaces
the pulse (log entry 49, DESIGN CHOICE). -/
def HelmState.endPulses (hs : HelmState) (n : Nat) : HelmState :=
  (List.finRange 32).foldl (fun (hs : HelmState) (q : Fin 32) => if hs.pulseDue n q then hs.endPulse q else hs) hs

end Sys2Proof.Machine
end

