-- ==== Sys2Proof/Machine/Passage.lean ====
section
/-! DEFINITION. A passage from the host image to the manifest (R61): safe states (R259 to R261), host loss (R268, R269),
the return to helm (R203), the health word (R180), replies that wait for reports (R324, R355), and the manifests (R54,
R187). -/

namespace Sys2Proof.Machine

/-! ### Safe states in the manifest (R259 to R261, R466) -/

/-- SAFE_STATE of output q (R273). -/
def chSafe (ch : List Word) (q : Nat) : Nat := bf (chBody ch 0x07) q 23 22

/-- The modes in which every manifest carries safe states (R61). -/
def Mode.safe : Mode → Bool
  | .berthed | .anchored | .moored => true
  | _ => false

/-- The safe state of output q as the helm puts it into a manifest (R259, R287). -/
def HelmState.safeValue (hs : HelmState) (q : Nat) : Int :=
  match chSafe hs.charter q with
  | 0 => 0
  | 1 => 1
  | 2 => hs.capped q (vat hs.safeHold q 0)
  | _ => bs (chBody hs.charter 0x08) (10 * pqOf q + 5)

/-- HOLD_LAST is fixed when the cause begins, and no longer when none is left (R261) (log entry 31, DEDUCED). -/
def HelmState.holdSafe (hs : HelmState) : HelmState :=
  let on := hs.modes.mode.safe || hs.hl == .lost
  { hs with safeOn := on, safeHold := if on && !hs.safeOn then hs.landed else hs.safeHold }

/-- A HOLD_LAST output at start-up takes the value that the first report of its pontoon shows (R466) (log entry 31, DEDUCED). -/
def HelmState.holdStart (hs : HelmState) : HelmState :=
  (List.finRange 32).foldl (fun (hs : HelmState) (q : Fin 32) =>
    match hs.holdImg.getLsbD q, vat hs.reps (q.val / 8) none with
    | true, some r =>
      let v := hs.capped q (r.held.getD (q.val % 8) 0)
      { hs with
        img := hs.img.set q v
        safeHold := hs.safeHold.set q v
        holdImg := hs.holdImg &&& ~~~BitVec.ofNat 32 (2 ^ q.val) }
    | _, _ => hs) hs

/-! ### Host loss (R268 to R270) -/

/-- HL_WATCH, HL_ON_TOLL and HOST_LOSS_CROSSINGS (R274). -/
def chHostLoss (ch : List Word) : Bool × Bool × Nat :=
  let b := chBody ch 0x07
  (bb b 32 10, bb b 32 9, bf b 33 23 8)

/-- The port that host loss watches; none under either with no holder (R123). -/
def HelmState.watched (hs : HelmState) : Option Port :=
  match chOutAuth hs.charter with
  | 0 => some .hpa
  | 1 => some .hpb
  | _ => hs.auth

/-- Whether crossing c is judged heard (R123, R268). -/
def HelmState.heardIn (hs : HelmState) (c : Nat) : Bool :=
  match hs.watched with
  | some p => hs.heard.contains (p, c)
  | none => hs.heard.contains (.hpa, c) || hs.heard.contains (.hpb, c)

/-- Host loss is judged in these modes (R269). -/
def Mode.watches (m : Mode) : Bool := m == .slipway || m.running

/-- LOST is entered: forces are released and pulses end (R269). -/
def State.loseHost (s : State) (h : HelmId) (n count : Nat) : State :=
  let hs := s.hsOf h
  let who : Word := match hs.watched with
    | some p => subj (portSubj p)
    | none => 0
  let s := s.modHs h (fun hs =>
    let hs := (List.finRange 32).foldl (fun (hs : HelmState) (q : Fin 32) => if hs.pulses[q].isSome then hs.endPulse q else hs) hs
    { hs with hl := .lost, hlCount := count, forced := Vector.replicate 32 none }.rc 0x20A 18 1)
  (s.note h n clsFault 0x082 who (wd count) 0).chime h bellOutput

/-- The host-loss state with a count: LOST above the limit (R269). -/
def State.countHost (s : State) (h : HelmId) (n count : Nat) (st : HlState) : State :=
  if (chHostLoss (s.hsOf h).charter).2.2 < count then s.loseHost h n count
  else s.modHs h (fun hs => { hs with hl := st, hlCount := count })

/-- The host-loss state in passage n (R269). `expiry`: a toll-keeper expiry was applied in it. -/
def State.hostLoss (s : State) (h : HelmId) (n : Nat) (expiry : Bool) : State :=
  let hs := s.hsOf h
  let rec_ := chHostLoss hs.charter
  if !hs.modes.mode.watches then s
  else match hs.hl with
    | .lost => s
    | .expired => s.countHost h n (hs.hlCount + 1) .expired
    | .watching =>
      if expiry && rec_.2.1 then s.countHost h n 1 .expired
      else if hs.heardIn (n - 2) then s.modHs h (fun hs => { hs with hlCount := 0 })
      else if rec_.1 then s.countHost h n (hs.hlCount + 1) .watching
      else s

/-! ### From the host image to the manifest (R61) -/

/-- Forced outputs in SLIPWAY replace the host image (R149). -/
def HelmState.forcedImg (hs : HelmState) : Vector Int 32 :=
  if hs.modes.mode = .slipway then Vector.ofFn (fun (q : Fin 32) => (hs.forced[q]).getD hs.img[q]) else hs.img

/-- The manifest of landing n: host image, forces, standing orders, host loss, safe states (R61, R81, R269). -/
def State.makeManifest (s : State) (h : HelmId) (n : Nat) (expiry : Bool) : State :=
  let s := s.modHs h HelmState.holdStart
  let hs := s.hsOf h
  let x := OrdRun.all ⟨hs.forcedImg, hs, false⟩ n
  let s := s.modHs h (fun _ => x.hs)
  let s := if x.ring then s.chime h bellOrder else s
  (s.hostLoss h n expiry).modHs h (fun hs =>
    let hs := hs.holdSafe
    { hs with man := if hs.safeOn then Vector.ofFn (fun (q : Fin 32) => hs.safeValue q) else x.m })

/-! ### Service (R203, R208) -/

/-- The return to helm, when its conditions hold (R203). A commit that names as PRIMARY a helm that stands by already starts no
hold-off: the return waits until that helm enters STANDBY again (R203, R214; log entry 57, DESIGN CHOICE). -/
def State.returnDue (s : State) (h : HelmId) (n : Nat) : State :=
  let hs := s.hsOf h
  let r := hs.red
  match chPrimary hs.charter with
  | some g =>
    if r.svc g = .standby && r.view ≠ some g && r.view.isSome && r.retOn && r.retLeft = 0 && !r.retHold && r.arb.isNone
    then s.changeView h n g true else s
  | none => s

/-- A change of holder aborts a resynchronisation (R208). -/
def State.viewMoved (s : State) (h : HelmId) (n : Nat) (was : Option HelmId) : State :=
  if (s.hsOf h).red.view = was then s else (s.abortResync .a n).abortResync .b n

/-! ### The health word (R180) -/

/-- The step a helm runs: the holder runs steps 2 to 4 only (R211). -/
def Helm.stepNow (x : Helm) (lead : Bool) : Nat := if lead && (x.bgStep < 2 || 4 < x.bgStep) then 2 else x.bgStep

/-- The step after it. -/
def stepAfter (lead : Bool) (k : Nat) : Nat := if lead && k = 4 then 2 else (k + 1) % 8

/-- What a helm says of itself. -/
def Helm.says (x : Helm) : Said := ⟨x.fw, x.image, chGen x.hs.charter, chCrc x.hs.charter⟩

/-- What a helm said of itself at its latest passage before the one of crossing n. -/
def Helm.saidBefore (x : Helm) (n : Nat) : Option Said :=
  match x.said with
  | some (k, w) => if k = n then x.saidOld else some w
  | none => none

/-- Whether both helms said the same of themselves, by some measure, at the passages before that of crossing n, as far as the painter
brings it (R46, R180); whichever of them runs its passage first (R72). -/
def State.saidAlike {α : Type} [DecidableEq α] (s : State) (h : HelmId) (n : Nat) (f : Said → α) : Bool :=
  match (s.helm h).saidBefore n, (s.helm (otherHelm h)).saidBefore n with
  | some a, some b => (s.helm h).painterOk && decide (f a = f b)
  | _, _ => false

/-- The health word a helm writes at its landing (R180); the matches are of what both said a passage before, as the
painter brings it (R46, R72; log entry 26, DEDUCED). A helm in JOINING writes it in the passages that it runs itself: whether it runs before
that the spec does not say (log entry 56, DESIGN CHOICE).
SEC_COUNT is the device's own (R19, log entry 2, DESIGN CHOICE). -/
def State.writeHealth (s : State) (h : HelmId) (n : Nat) : State :=
  let x := { s.helm h with secCount := Config.corrections (helmCode h) n }
  let fwSame := s.saidAlike h n (fun w => (w.fw, w.image))
  let chSame := s.saidAlike h n (fun w => (w.gen, w.crc))
  let seq := (x.healthSeq + 1) % 16
  let step := x.stepNow (s.lead h)
  let s := s.modHelm h (fun y => { y with
    healthSeq := seq
    secCount := x.secCount
    saidOld := x.saidBefore n
    said := some (n, x.says)
    health := wd (x.stateCode * 2 ^ 21 + bn x.lockOk * 2 ^ 20 + bn x.memOk * 2 ^ 19 + bn x.gwOk * 2 ^ 18 + bn x.painterOk * 2 ^ 17
      + bn x.testOk * 2 ^ 16 + bn fwSame * 2 ^ 15 + bn chSame * 2 ^ 14 + bn x.hs.red.retHold * 2 ^ 12
      + min 15 x.secCount * 256 + step % 16 * 16 + seq) })
  s.modHelm h (fun y => { y with links := y.links.say false [y.health] })

/-! ### Wake reads (R170, R355) -/

/-- The reply to a wake read whose completion landing has come: the samples of its places that the bulk slips brought, or NOT_READY when
any is lacking (R170, R355). -/
def State.wakeDone (s : State) (h : HelmId) (p : Nat) (r : OutReq) : State :=
  let want := min r.count (r.total - r.off)
  let held := vat (s.helm h).bulk p []
  let got := (List.range want).filterMap (fun j => assocGet held (r.off + j))
  let s := (s.modHs h (fun hs => { hs with wakeReads := vmod hs.wakeReads p (fun l => l.drop 1) })).modHelm h (fun x =>
    { x with bulk := vmod x.bulk p (fun l => l.filter (fun e => e.1 < r.off || decide (r.off + want ≤ e.1))) })
  let rep (st : Status) (data : List Byte) : Reply := ⟨st, r.tag.alive, r.eff, data, none⟩
  if got.length < want then s.deliver h r.tag r.id false (rep .notReady [])
  else
    s.deliver h r.tag r.id false (rep (if want < r.count then .addrOverrun else .ok)
      (bytesOfWords (got ++ List.replicate (r.count - want) noValue)))

/-- The oldest wake read of a pontoon, when its landing has come (R355). -/
def State.wakeDue (s : State) (h : HelmId) (n p : Nat) : State :=
  match (vat (s.hsOf h).wakeReads p []).head? with
  | some r => if r.doneAt ≤ n then s.wakeDone h p r else s
  | none => s

/-! ### Sending (R54, R186, R187) -/

/-- The manifest of a pontoon (R187; log entry 8, DESIGN CHOICE). -/
def HelmState.manifestOf (hs : HelmState) (h : HelmId) (p : Nat) (proving : Bool) : List Word :=
  manBuild h (hs.red.view.getD h) proving hs.red.arb.isSome
    (maskOf 8 (fun i => 2 ≤ i && decide (0 < vat hs.man (8 * p + i) 0)))
    (vat hs.man (8 * p) 0) (vat hs.man (8 * p + 1) 0) (vat hs.reqs p [])

/-- Whether a helm sends the manifest of its passage: started by stroke 208, and not put out of service by it (R54, R186,
R198). -/
def State.sends (s : State) (h : HelmId) : Bool :=
  let v := (s.hsOf h).red.svc h
  decide (s.tb.stroke ≤ 208) && v != .fenced && v != .halted

/-- The manifests of crossing n handed to the gangways, with the requests of the passage. -/
def State.sendManifests (s : State) (h : HelmId) (n : Nat) : State :=
  let hs := s.hsOf h
  let proving : Bool := hs.red.svc h == .proving || hs.red.svc h == .joining
  let out : Vector (List Word) 4 :=
    if s.sends h then Vector.ofFn (fun (p : Fin 4) => hs.manifestOf h p proving) else Vector.replicate 4 []
  s.modHelm h (fun x => { x with
    out := out
    outAt := if s.sends h then some n else none
    hs := { x.hs with reqs := Vector.replicate 4 [] } })

/-! ### The whole passage -/

/-- Strokes 208 to 255 and 0 to 31: a helm's background work (R51). -/
def Stamp.background (t : Stamp) : Bool := 208 ≤ t.stroke || t.stroke < 32

/-- Whether a toll-keeper expiry is among the events of this passage. -/
def Helm.expiryIn (x : Helm) : Bool := x.lastEvs.any (fun e => e.ev = .tollExpiry)

/-- What is applied at landing n before the commands: the charter, the timers, the stamped events (R58 to R60, R409). -/
def State.applyFirst (s : State) (h : HelmId) (n : Nat) : State :=
  (((s.commitDue h n).portTimers h n .hpa).portTimers h n .hpb).events h n

/-- The commands and the pulses (R58, R59, R151). -/
def State.applyRest (s : State) (h : HelmId) (n : Nat) : State := (s.commands h n).modHs h (fun hs => hs.endPulses n)

/-- What a passage settles after the commands: the manifest, the holder, the mode, replies and health (R61). -/
def State.finishPassage (s : State) (h : HelmId) (n : Nat) (was : Option HelmId) : State :=
  let s := s.makeManifest h n (s.helm h).expiryIn
  let s := (s.returnDue h n).viewMoved h n was
  let s := s.settleMode h n
  let s := (List.range 4).foldl (fun s p => s.wakeDue h n p) s
  let s := s.rcAdd 0x024 8 (min 255 (Config.passageLength (helmCode h) n))
  let s := (((s.sendManifests h n).settleSvc h false).writeHealth h n).handOn h
  if s.now.background then s.background h else s

/-- Whether a helm computes the passage of this crossing: in service, or joining with HELM_JOIN handed over (R186; log entry 56, DESIGN
CHOICE, for what it writes before). -/
def Helm.runs (x : Helm) : Bool := x.svc.computes || (x.svc == .joining && x.resync.handed)

/-- The passage after the one that entered MOORED at landing L: what is due at landing L + 1 is applied, MOORED admitting no command;
later frames and events never are, and every pontoon gets a stop order (R386, R389) (log entry 29, DEDUCED). -/
def State.stopPassage (s : State) (h : HelmId) (n : Nat) : State :=
  let s := (s.openMode h n).modHelm h (fun x => { x.keepHeld h with lastCmds := [] })
  let s := if n ≤ (s.hsOf h).modes.since + 1 then ((s.drainSlips h).events h n).commands h n else s
  (s.sendOrder h .stop).modHelm h (fun x => { x with
    begun := some n, passNo := some n, out := Vector.replicate 4 [], outAt := none })

/-- Frames beside the manifest: SET_CROSSING to a pontoon whose gangway from this helm has come up, or of which two consecutive reports
have been missing (R371), and CONFIG, from the helm that holds the helm, to one that reports CONFIGURING (R363). -/
def State.serveGangways (s : State) (h : HelmId) : State :=
  let hs := s.hsOf h
  let up (r : Report) : Bool := match h with | .a => r.gwA | .b => r.gwB
  let seen := (s.helm h).gwSeen
  let cross (p : Nat) : Bool := match vat hs.reps p none, vat hs.prevReps p none with
    | some r, _ => up r && !seen.getLsbD p
    | none, some _ => false
    | none, none => true
  let now (p : Nat) : Bool := match vat hs.reps p none with
    | some r => up r
    | none => seen.getLsbD p
  let cfg (p : Nat) : Bool := s.lead h && (match vat hs.reps p none with | some r => r.configuring | none => false)
  s.modHelm h (fun x => { x with
    crossOut := BitVec.ofNat 4 (maskOf 4 cross), gwSeen := BitVec.ofNat 4 (maskOf 4 now), cfgOut := BitVec.ofNat 4 (maskOf 4 cfg) })

/-- Whether the passage that entered MOORED is kept, so that the passage of crossing n only stops the pontoons (R389). -/
def State.inMoored (s : State) (h : HelmId) (n : Nat) : Bool :=
  (s.hsOf h).modes.mode == .moored && !((s.helm h).passNo == some (n - 1) && ((s.takeReports h n).hsOf h).discards)

/-- The passage of crossing n begins: up to the commands, whose order R58 gives (R61). -/
def State.startPassage (s : State) (h : HelmId) (n : Nat) : State :=
  let s := s.modHelm h (fun x => { x with viewWas := x.hs.red.view })
  let s := (s.beginPassage h n).serveGangways h
  (s.modHelm h (fun x => { x with begun := some n, lastCmds := [] })).applyFirst h n

/-- The service states decided come about, and what was sent beside the last manifest is sent no more. -/
def State.openPassage (s : State) (h : HelmId) : State :=
  (s.settleSvc h true).modHelm h (fun x => { x with ordOut := none, crossOut := 0, cfgOut := 0 })

/-- A command or event that the table names apart, in crossing n at a helm whose passage has not yet begun, begins it: its point of
application lies within the passage (R56, R58, R61). Before stroke 32 the reports that have come are taken with it (log entry 23, DESIGN
CHOICE). -/
def State.beginFor (s : State) (h : HelmId) (n : Nat) : State :=
  if !s.tb.counting || (s.helm h).begun == some n then s
  else
    let t := s.openPassage h
    let t := if s.tb.stroke < 32 then t.modHelm h (fun x => x.takeSlips n) else t
    if t.inMoored h n then s else if (t.helm h).svc.computes then t.startPassage h n else t

/-- The passage of helm h for crossing n (R61), from where it stands. -/
def State.passage (s : State) (h : HelmId) (n : Nat) : State :=
  let going : Bool := (s.helm h).begun == some n
  let s := if going then s else s.openPassage h
  if !going && s.inMoored h n then s.stopPassage h n
  else
    let s := if going then s else s.startPassage h n
    let s := (s.applyRest h n).finishPassage h n (s.helm h).viewWas
    s.modHelm h (fun x => { x with passNo := some n, lastNo := x.passNo })

/-- PASSAGE (R61): from stroke 32 on, when the helm has not yet run the passage of this crossing. -/
def execPassage (h : HelmId) (s : State) : Host.Outcome State Fault Refusal :=
  if s.live && s.tb.counting && decide (32 ≤ s.tb.stroke) && (s.helm h).runs && decide ((s.helm h).passNo ≠ some s.tb.crossing)
  then .next (s.passage h s.tb.crossing) else .next s

end Sys2Proof.Machine
end

