-- ==== Sys2Proof/Machine/HelmEv.lean ====
section
/-! DEFINITION. What happens to a helm outside its passages: stroke tokens (R27), halts (R184), background steps and test
passages (R195 to R197, R211), the full self-test (R212), the charter load (R453, R454), start-up (R464 to R466), joining
(R206 to R208), and the events of a passage that the table names apart. -/

namespace Sys2Proof.Machine

/-! ### Both helms -/

/-- A change in every helm that computes passages, within the passage of the crossing that stands. -/
def State.eachHelm (s : State) (f : HelmId → State → State) : State :=
  let one (h : HelmId) (s : State) : State :=
    let s := if (s.helm h).svc.computes then s.beginFor h s.tb.crossing else s
    if (s.helm h).svc.computes then f h (s.openMode h s.tb.crossing) else s
  one .b (one .a s)

/-- Whether another helm than g is in service. -/
def State.otherInSvc (s : State) (g : HelmId) : Bool := (s.helm (otherHelm g)).svc.inService

/-- What a passage settles, once more, after an event that the table names apart. -/
def State.settle (s : State) (h : HelmId) (n : Nat) : State := (s.settleMode h n).settleSvc h false

/-- A helm's record about itself, handed to its record port (R438). -/
def State.selfRec (s : State) (h : HelmId) (cls code : Nat) (d0 d1 d2 : Word) : State :=
  (s.helmRec h s.now cls code (subj (helmSubj h) + d0) d1 d2).offerRecords h

/-! ### Halting (R184) -/

/-- OUT_CAUSE of a halt (R184, R218). -/
def haltOut : HaltCause → BitVec 4
  | .lockstep => 5
  | .strokeMissing => 6
  | .memory => 7

/-- The halts that wait in a helm for a passage of its own. -/
def Helm.waitingHalts (x : Helm) : List (HelmId × Stamp × BitVec 4) :=
  x.hs.evs.filterMap (fun e => match e.ev with
    | .helmHalt g c => some (g, e.at_, c)
    | _ => none)

/-- A halt that no passage is left to apply: the Quay shows the cause and writes the record (R219; log entry 51, DESIGN CHOICE). -/
def State.haltShown (s : State) (g : HelmId) (at_ : Stamp) (cause : BitVec 4) (held : Bool) : State :=
  let s := (s.setDecided g .halted).modHelm g (fun x => { x with outCause := cause })
  s.quayRec ⟨at_, 0xA, clsFault, 0x023, subj (helmSubj g), wd cause.toNat, if held then wd (helmSubj g) else 0⟩

/-- A helm stops at once: its ports, its slips, and its halt line, and what it has not handed on is lost (R184, R185, R438). With no
other helm that runs passages none applies the event, nor one that waits for it: the Quay shows the cause and writes the record at once
(R219; log entry 51, DESIGN CHOICE). -/
def State.haltNow (s : State) (h : HelmId) (cause : BitVec 4) : State :=
  let was := (s.helm h).svc
  let view := (s.hsOf h).red.view
  let left := if was.computes then (s.helm h).waitingHalts.filter (fun e => e.1 = otherHelm h) else []
  let s := (s.takeSvc h .halted).modHelm h (fun x => { x.dropRecs with
    testing := true
    joinable := true
    bistTries := 0
    loaded := false
    ready := false
    lockOk := x.lockOk && decide (cause ≠ 5)
    memOk := x.memOk && decide (cause ≠ 7)
    out := Vector.replicate 4 []
    outAt := none
    ordOut := none })
  let s := if (s.helm h).resync.r.isSome then s.modHelm h (fun x => { x with resync := {} }) else s
  let s := s.abortResync (otherHelm h) s.tb.crossing
  if was.inService && (s.helm (otherHelm h)).runs then s.raiseEv s.now (.helmHalt h cause)
  else
    let s := left.foldl (fun s e => s.haltShown e.1 e.2.1 e.2.2 (decide (view = some e.1))) s
    (s.haltShown h s.now cause (was.inService && decide (view = some h))).ring bellHelm

/-- HELM_HALT (R184) (log entry 42, DESIGN CHOICE). -/
def execHelmHalt (h : HelmId) (cause : HaltCause) (s : State) : Host.Outcome State Fault Refusal :=
  if s.live && decide ((s.helm h).svc ≠ .halted) then .next (s.haltNow h (haltOut cause)) else .next s

/-- HELM_SILENT (R120, R184): no stroke token taken for 2 crossings. -/
def execHelmSilent (h : HelmId) (s : State) : Host.Outcome State Fault Refusal :=
  let x := s.helm h
  if s.live && s.tb.counting && x.svc.inService && !x.silent && decide (x.tokenAt + 2 ≤ s.tb.crossing) then
    .next ((s.modHelm h (fun x => { x with silent := true })).haltNow h 5)
  else .next s

/-! ### Strokes (R27) -/

/-- The stroke after a stroke. -/
def Stamp.nextStroke (t : Stamp) : Stamp := if t.stroke < 255 then ⟨t.crossing, t.stroke + 1⟩ else ⟨t.crossing + 1, 0⟩

/-- The helm's readout task empties the bulk slips into data SRAM, for the wake reads outstanding; other words it drops (R27, R355). -/
def Helm.readout (x : Helm) : Helm :=
  { x with
    bulk := Vector.ofFn (fun (p : Fin 4) => if x.hs.wakeReads[p].isEmpty then [] else x.bulk[p] ++ x.bulkSlip[p])
    bulkSlip := Vector.replicate 4 [] }

/-- A helm's background work on replies: collections are answered, replies that no one waits for are drained, and those that wait are
offered to the reply slips; in the windows of a test passage all of them wait (R27, R29, R51, R131, R195). -/
def State.replyTime (s : State) (h : HelmId) : State :=
  if s.testWindow h then s
  else
    let s := if (s.helm h).svc.computes then s.background h else s
    ((s.drainReplies .hpa).drainReplies .hpb).modHelm h (fun x => (x.offerReplies .hpa).offerReplies .hpb)

/-- STROKE_TOKEN (R27, R51): the oldest token is taken; a gap halts the helm; records are offered, slips drained, the reads asked of the
general ports served, and in the background window bulk words read out, collections answered, replies offered and painter words
exchanged. -/
def execStrokeToken (h : HelmId) (s : State) : Host.Outcome State Fault Refusal :=
  let x := s.helm h
  match x.strokeSlip with
  | [] => .next s
  | t :: rest =>
    if !s.live || x.svc == .halted || x.svc == .debug then .next s else
    let gap : Bool := match x.strokeReg with
      | some u => decide (t ≠ u.nextStroke)
      | none => false
    let s := s.modHelm h (fun x => { x with strokeSlip := rest, strokeReg := some t, tokenAt := t.crossing })
    if gap then .next (s.haltNow h 6)
    else
      let s := s.offerRecords h
      let s := if x.svc.inService then s.drainSlips h else s
      let s := s.serveReads
      .next (if t.background then ((s.modHelm h Helm.readout).replyTime h).painterTime h else s)

/-! ### Background self-test and test passages (R195 to R197, R211) -/

/-- The painter works or is down: one link, which each helm reports (R46). -/
def State.setPainter (s : State) (ok : Bool) : State :=
  { s with helmA := { s.helmA with painterOk := ok }, helmB := { s.helmB with painterOk := ok } }

/-- BACKGROUND_STEP (R51, R211): in the background window, but not in those of a test passage (R195). Step 7 sums up a round without a failure (log entry 30, DEDUCED). -/
def execBackgroundStep (h : HelmId) (good : Bool) (s : State) : Host.Outcome State Fault Refusal :=
  let x := s.helm h
  if !(s.live && x.svc.computes && s.now.background) || s.testWindow h then .next s else
  let k := x.stepNow (s.lead h)
  let s := s.modHelm h (fun x => { x with bgStep := stepAfter (s.lead h) k })
  if good then
    .next ((if k = 6 then s.setPainter true else s).modHelm h (fun x => { x with
      testOk := x.testOk || k == 7
      memOk := x.memOk || k == 7 }))
  else match k with
    | 4 => .next (s.haltNow h 7)
    | 6 =>
      let n := s.tb.crossing
      .next ((((s.selfRec h clsFault 0x029 0 (wd k) 0).setPainter false).abortResync .a n).abortResync .b n)
    | 7 => .next s
    | _ => .next ((s.selfRec h clsFault 0x029 0 (wd k) 0).raiseEv s.now (.helmFence h 2 k))

/-- TEST_PASSAGE (R195, R196): the signature of the oldest test passage due against the golden one, and its TEST_RESULT record. -/
def execTestPassage (h : HelmId) (sig : BitVec 48) (s : State) : Host.Outcome State Fault Refusal :=
  let x := s.helm h
  match x.tests with
  | [] => .next s
  | k :: rest =>
    if !(s.live && x.svc.computes && s.now.background) then .next s else
    let ok : Bool := decide (sig = Config.goldenSig)
    let s := s.modHelm h (fun x => { x with
      links := x.links.say true [wd (sig.toNat / 2 ^ 24), wd sig.toNat]
      tests := rest, sig := sig, testOk := ok, testRecs := if x.recQ.length < 64 then x.testRecs ++ [k] else x.testRecs })
    .next (s.selfRec h clsInfo 0x022 (if ok then 1 else 2) (wd (sig.toNat / 2 ^ 24)) (wd sig.toNat))

/-- A helm's verdict in a TEST_OUTCOME: NONE when no TEST_RESULT of it has reached the commit engine; a helm that a request does
not name passes (R196, R197; log entry 58, DESIGN CHOICE). -/
def TestRun.outcome (t : TestRun) (h : HelmId) : TestVerdict :=
  if !t.names h then .pass
  else match h with
    | .a => t.resA
    | .b => t.resB

/-- TEST_OUTCOME (R196, R197): raised at stroke 64 of its crossing; the test passage is then due no longer. -/
def execTestOutcome (s : State) : Host.Outcome State Fault Refusal :=
  match s.outcomes.find? (fun t => !(s.now.lt ⟨t.key.1, 64⟩)) with
  | none => .next s
  | some t => .next ((s.dropTest t.key).raiseEv ⟨t.key.1, 64⟩ (.testOutcome (t.outcome .a) (t.outcome .b) t.key.2))

/-! ### The full self-test (R212) -/

/-- FULL_SELFTEST_DONE (R186, R212): on a pass STARTING; on a fail BIST_FAIL. After MOORED_WAKE the test passage stands in
for the full self-test (R459). Every port is tried in loopback, so that the painter works again, and the change of HSTATE from FENCED or HALTED is recorded as HELM_JOIN (R212, R219; log
entry 51, DESIGN CHOICE). -/
def execFullSelftestDone (h : HelmId) (pass : Bool) (s : State) : Host.Outcome State Fault Refusal :=
  let x := s.helm h
  if !(s.live && x.testing && !x.svc.inService && x.svc != .debug) then .next s else
  let s := if s.rst.cause = 7 && !s.rst.firstGiven then s else s.rcAdd 0x60B 6 1
  if pass then
    let s := (s.setDecided h .starting).modAllHs (fun hs =>
      { hs with red := { hs.red with doubleFail := hs.red.doubleFail.filter (fun d => d ≠ h) } })
    let s := (s.setPainter true).modHelm h (fun x => { x with
      svc := .starting, testing := false, bistFail := false, bistTries := 0, silent := false
      lockOk := true, memOk := true, testOk := true, loaded := false, ready := false
      strokeReg := none, strokeSlip := [] })
    .next (if x.svc = .starting then s else (s.selfRec h clsInfo 0x025 0 (wd x.outCause.toNat) 0).ring bellHelm)
  else
    let s := s.selfRec h clsFault 0x02A 0 (wd x.bistTries) 0
    .next (s.modHelm h (fun x => { x with testing := false, bistFail := true }))

/-- BIST_RETRIES of the charter a helm has; the fallback's before any is loaded (R213). -/
def Helm.retries (x : Helm) : Nat :=
  bf (chBody (if x.hs.charter.isEmpty then fallbackCharter else x.hs.charter) 0x05) 0 19 18

/-- BIST_RETRY (R212). -/
def execBistRetry (h : HelmId) (s : State) : Host.Outcome State Fault Refusal :=
  let x := s.helm h
  if s.live && x.bistFail && x.joinable && !x.testing && !x.svc.inService && decide (x.bistTries < x.retries) then
    .next (s.modHelm h (fun x => { x with testing := true, bistTries := x.bistTries + 1 }))
  else .next s

/-! ### The charter load (R453, R454) -/

/-- What the vote over the three copies yields. -/
structure Vote where
  charter : List Word
  source : BitVec 3
  intact : Nat
  rewrite : Nat
  winner : Nat
  code : Option (Nat × Nat)
  deriving DecidableEq, Repr

/-- The vote (R453). -/
def State.vote (s : State) : Vote :=
  let ok (c : Nat) : Bool := s.copyOk c
  let w (c : Nat) : List Word := s.copyWords c
  let same (a b : Nat) : Bool := ok a && ok b && w a == w b
  let intact := copyMask ok
  let won (c : Nat) (src : BitVec 3) (others : Nat) : Vote := ⟨w c, src, intact, others, c + 1, some (clsWarn, 0x060)⟩
  if same 0 1 && same 1 2 then ⟨w 0, 0, intact, 0, 1, none⟩
  else if same 0 1 then won 0 1 4
  else if same 0 2 then won 0 1 2
  else if same 1 2 then won 1 1 1
  else if ok 0 && ok 1 && ok 2 then ⟨fallbackCharter, 3, intact, 0, 0, some (clsFault, 0x061)⟩
  else match (List.range 3).find? ok with
    | some c => won c 2 (7 - 2 ^ c)
    | none => ⟨fallbackCharter, 4, intact, 0, 0, some (clsFault, 0x062)⟩

/-- D2 of the record: CH_GEN of the lowest-indexed intact copy that was not loaded (R453). -/
def State.voteD2 (s : State) (v : Vote) : Word :=
  match (List.range 3).find? (fun c => v.intact.testBit c && c + 1 ≠ v.winner) with
  | some c => chGen (s.copyWords c)
  | none => 0

/-- A copy read with its header, of a length out of range the header alone (R456; log entry 33, DEDUCED). -/
def State.readCopy (s : State) (c : Nat) : State :=
  let n := s.copyLen c
  s.readWords (copyRegion c).1 (copyRegion c).2 (4 + (if n ≤ 8192 then n else 0))

/-- All three copies read. -/
def State.readCopies (s : State) : State := (List.range 3).foldl State.readCopy s

/-- A copy written, header first, and read back; of charter words that are not read back equal the spec gives no contents: they are free
(R452, R453; log entry 2, DESIGN CHOICE) (log entry 34, DEDUCED). -/
def State.putCopy (s : State) (c : Nat) (ch : List Word) (good : Bool) : State :=
  let r := copyRegion c
  let t : State := if good then s.writeCopy c ch
    else { s with free := s.free + ch.length }.modBank r.1 (fun b =>
      b.writes r.2 ((copyImage ch).take 4 ++ freeWords ch.length s.free))
  t.readCopy c

/-- A copy rewritten by the helm; whether it reads back equal no command tells (log entry 2, DESIGN CHOICE). -/
def State.rewriteCopy (s : State) (c : Nat) (ch : List Word) : State :=
  { s with free := s.free + 1 }.putCopy c ch (Config.readBack s.free)

/-- COPY_OK as the copies now stand (R453). -/
def State.copiesOk (s : State) : BitVec 3 := BitVec.ofNat 3 (copyMask s.copyOk)

/-- The rewrites and the record of a vote, made by the helm that loads (R453, R465). -/
def State.repair (s : State) (h : HelmId) : State :=
  let v := s.vote
  match v.code with
  | none => s
  | some (cls, code) =>
    let d2 := s.voteD2 v
    let d1 := if v.winner = 0 then 0 else chGen v.charter
    let s := (List.range 3).foldl (fun s c => if v.rewrite.testBit c then s.rewriteCopy c v.charter else s) s
    let s := s.modHs h (fun hs => { hs with copyOk := s.copiesOk })
    ((s.helmRec h s.now cls code (wd (v.intact * 2 ^ 21 + v.rewrite * 2 ^ 18 + v.winner * 2 ^ 16)) d1 d2).offerRecords h).ring
      bellCharter

/-- The primary named in a charter; Helm A under the fallback or with PRIMARY none (R464). -/
def firstPrimary (ch : List Word) : HelmId := if isFallback ch then .a else (chPrimary ch).getD .a

/-- CHARTER_LOAD (R422, R453, R465, R468): a helm that has passed its self-test takes the vote; the first
holder makes the rewrites and the record when it takes the helm. PRIMARY_ACT shows the charter loaded (R217). WDP begins to drive its inactive
level. -/
def execCharterLoad (h : HelmId) (s : State) : Host.Outcome State Fault Refusal :=
  let x := s.helm h
  if !(s.live && x.svc == .starting && !x.testing && !x.bistFail && !x.loaded) then .next s else
  let v := s.vote
  let t := s.imgTable
  let s := (s.readCopies.readTable.writeImgTable t).loadImage h t
  let s := s.modHelm h (fun x => { x with
    loaded := true
    hs := { x.hs with
      charter := v.charter
      chSource := v.source
      copyOk := BitVec.ofNat 3 v.intact
      imgTab := t } })
  let s := if s.win.landing.isNone then
      { s with win := { s.win with snap := assocSet s.win.snap 0x600 (wd (helmCodeO (chPrimary v.charter) * 2 ^ 20)) } }
    else s
  .next { s with toll := { s.toll with
    wdp := if s.toll.wdp = Wdp.hiz then .inactive else s.toll.wdp
    cur := if s.toll.wdp = Wdp.hiz then { s.toll.cur with pol := (chToll v.charter).pol } else s.toll.cur } }

/-- CHARTER_COPY_CHECK (R454): the helm that holds the helm reads all three copies and rewrites those that differ from the
charter in force; after CHARTER_SPLIT they stay untouched (R453). The words read pass the general ports and their check units (R456). -/
def execCharterCopyCheck (s : State) : Host.Outcome State Fault Refusal :=
  match s.leader with
  | none => .next s
  | some h =>
    let hs := s.hsOf h
    if hs.pending.isSome then .next s else
    let ch := hs.charter
    let bad (c : Nat) : Bool := decide (hs.chSource ≠ 3) && (!s.copyOk c || s.copyWords c != ch)
    let rewrite := copyMask bad
    let intact := copyMask s.copyOk
    let d2 : Word := match (List.range 3).find? (fun c => bad c && s.copyOk c) with
      | some c => chGen (s.copyWords c)
      | none => 0
    let s := (List.range 3).foldl (fun s c => if bad c then s.rewriteCopy c ch else s) s.readCopies
    let s := s.modAllHs (fun hs => { hs with copyOk := s.copiesOk })
    if rewrite = 0 then .next s
    else
      .next (((s.helmRec h ⟨s.tb.crossing, 240⟩ clsWarn 0x060 (wd (intact * 2 ^ 21 + rewrite * 2 ^ 18 + 2 ^ 15)) (chGen ch) d2).offerRecords
        h).ring bellCharter)

/-- The copies of a pending charter that a holder has done with: those confirmed, and those it has written itself (R408). -/
def Pending.writtenBy (p : Pending) (h : HelmId) : BitVec 3 := p.ok ||| (if p.writer = some h then p.wrote else 0)

/-- CHARTER_COPY_WRITE (R159, R408): the holder writes the copies of the pending charter in the order 1, 2, 3, a new holder again
those not confirmed; each helm that computes passages reads the copy back, and whether both read it equal. -/
def execCharterCopyWrite (c : Fin 3) (good : Bool) (s : State) : Host.Outcome State Fault Refusal :=
  match s.leader with
  | none => .next s
  | some h =>
    match (s.hsOf h).pending with
    | none => .next s
    | some p =>
      let wrote := p.writtenBy h
      let bit : BitVec 3 := BitVec.ofNat 3 (2 ^ c.val)
      if (List.range 3).find? (fun j => !wrote.getLsbD j) ≠ some c.val then .next s else
      let s := s.modAllHs (fun hs => { hs with
        pend := hs.pend.map (fun q => { q with
          wrote := wrote ||| bit, writer := some h, ok := if good then q.ok ||| bit else q.ok }) })
      let t := s.putCopy c p.words good
      .next (if (s.helm (otherHelm h)).svc.computes then t.readCopy c else t)

/-! ### Taking the helm (R209, R464 to R466) -/

/-- The host image at start-up: the safe state of each output, HOLD_LAST off at first (R466). -/
def startImg (ch : List Word) : Vector Int 32 :=
  Vector.ofFn (fun (q : Fin 32) => match chSafe ch q with
    | 1 => 1
    | 3 => bs (chBody ch 0x08) (10 * pqOf q + 5)
    | _ => 0)

/-- The mode words as a mode is entered at start-up. -/
def ModeSt.entered (mode old : Mode) (cause : Byte) (n : Nat) : ModeSt :=
  { mode := mode, prev := old, cause := cause, since := n, old := mode }

/-- The start-up state (R466), the other helm in the state in which it is out of service (R186); a hold of the return to helm lasts until its release or a device reset (R172) (log entry 28, DEDUCED). -/
def HelmState.startUp (hs : HelmState) (h : HelmId) (n : Nat) (modes : ModeSt) (other : Svc) : HelmState :=
  { charter := hs.charter
    chSource := hs.chSource
    copyOk := hs.copyOk
    imgTab := hs.imgTab
    img := startImg hs.charter
    holdImg := BitVec.ofNat 32 (maskOf 32 (fun q => chSafe hs.charter q == 2))
    safeOn := true
    modes := modes
    roleA := { lastHeard := n }
    roleB := { lastHeard := n }
    red := ({ view := some h, retHold := hs.red.retHold : Redund }.setSvc h .holding).setSvc (otherHelm h) other }

/-- A helm that finishes STARTING while the other is in service joins (R186). -/
def State.toJoining (s : State) (g : HelmId) : State :=
  (s.setDecided g .joining).modHelm g (fun x => { x with
    svc := .joining, ready := false, strokeReg := none, strokeSlip := [], tokenAt := s.tb.crossing
    gwSeen := 0, resync := {} })

/-- A helm takes the helm with a start-up state; it is to send SET_CROSSING and CONFIG to every pontoon before its first passage
(R465). The change of holder is recorded, with the former holder, and rings HELM (R219; log entry 51, DESIGN CHOICE). -/
def State.takeHelm (s : State) (h : HelmId) (modes : ModeSt) (former : Option HelmId) : State :=
  let hs := (s.helm h).hs.startUp h s.tb.crossing modes (s.helm (otherHelm h)).svc
  let s := s.modHelm h (fun x => { x.runImage hs.imgTab with
    svc := .holding, ready := false, outCause := 0, strokeReg := none, strokeSlip := []
    tokenAt := s.tb.crossing, begun := none, passNo := none, lastNo := none
    hs := hs, saved := hs, lastCmds := [], lastEvs := [], crossOut := 0xF, cfgOut := 0xF, gwSeen := 0 })
  let s := { s with rst := { s.rst with firstGiven := true } }
  let d2 : Word := match former with
    | some g => wd (helmSubj g)
    | none => 0
  let s := ((s.helmRec h ⟨s.tb.crossing, 240⟩ clsInfo 0x027 (subj (helmSubj h)) 0 d2).offerRecords h).ring bellHelm
  let o := otherHelm h
  if (s.helm o).svc = .starting && (s.helm o).ready then s.toJoining o else s

/-- The first holder after a reset makes the rewrites and the record of the vote, and takes the helm (R464 to R466). -/
def State.firstHolder (s : State) (h : HelmId) : State :=
  let ch := (s.helm h).hs.charter
  let s := s.repair h
  let wake : Bool := decide (s.rst.cause = 7)
  let n := s.tb.crossing
  let s := s.takeHelm h (if isFallback ch then .entered .anchored .unreported 6 n
    else .entered .berthed .unreported (if wake then 0x0A else 0) n) none
  let s := { s with toll := { s.toll with first := (s.toll.takeCharter ch).due } }
  if wake then { s with bell := { s.bell with cause := s.bell.cause ||| oneBit bellToll } } else s

/-- The helm that ran the latest passage. -/
def State.lastPassage (s : State) : HelmId := if s.helmA.passNo.getD 0 < s.helmB.passNo.getD 0 then .b else .a

/-- A helm takes the helm while no helm is in service (R209): BERTHED after both had been attached to debug, otherwise
ANCHORED with MODE_CAUSE 0x08. RC fields and BELL_CAUSE begin at their after-reset values, RESTART set (R466).
A mode other than that of the landing before is recorded as a change, and one into or out of ANCHORED rings MODE (R386, R412); in
ANCHORED the cause, the mode before and the landing of entry stay (R386) (log entry 28, DEDUCED). -/
def State.soleHolder (s : State) (h : HelmId) : State :=
  let s := { s with
    win := { s.win with rc := [], since := [], base := [], tags := [], pend := [] }
    bell := { s.bell with cause := 0x800000, raised := 0, due := 0, cleared := 0 } }
  let debug : Bool := s.helmA.outCause == (8 : BitVec 4) && s.helmB.outCause == (8 : BitVec 4)
  let red := (s.helm s.lastPassage).hs.red
  let last := (s.helm s.lastPassage).hs.modes
  let hold := red.retHold
  let old := s.mode
  let s := s.modHelm h (fun x => { x with hs := { x.hs with red := { x.hs.red with retHold := hold } } })
  let n := s.tb.crossing
  let s := s.takeHelm h (if debug then .entered .berthed old 0 n
    else if old = .anchored && last.mode = .anchored then { mode := .anchored, prev := last.prev, cause := last.cause, since := last.since, old := .anchored }
    else .entered .anchored old 8 n) red.view
  if debug && old == .berthed then s
  else
    let cls := if debug then clsAct else clsFault
    let d0 : Word := if debug then wd (0x10000 + old.code * 2 ^ 12) else wd (0x50008 + old.code * 2 ^ 12)
    let s := (s.helmRec h ⟨s.tb.crossing, 240⟩ cls 0x04E d0 0 0).offerRecords h
    if !debug || old == .anchored || old == .singleHanded then s.ring bellMode else s

/-- HELM_LOADED (R186, R209, R464): JOINING, HOLDING, or waiting for the first holder (log entry 13, DESIGN CHOICE). -/
def execHelmLoaded (h : HelmId) (s : State) : Host.Outcome State Fault Refusal :=
  let x := s.helm h
  if !(s.live && s.rst.started && x.svc == .starting && !x.testing && !x.bistFail && x.loaded) then .next s
  else if s.otherInSvc h then .next (s.toJoining h)
  else if s.rst.firstGiven then .next (s.soleHolder h)
  else if firstPrimary x.hs.charter = h || s.rst.firstLate then .next (s.firstHolder h)
  else .next (s.modHelm h (fun x => { x with ready := true }))

/-- FIRST_HOLDER_TIMEOUT (R464). -/
def execFirstHolderTimeout (s : State) : Host.Outcome State Fault Refusal :=
  if !s.live || s.rst.firstGiven || s.rst.firstLate then .next s else
  let s := { s with rst := { s.rst with firstLate := true } }
  if s.helmA.ready then .next (s.firstHolder .a)
  else if s.helmB.ready then .next (s.firstHolder .b)
  else .next s

/-! ### Joining (R206 to R208) -/

/-- JOIN_REQUEST (R206, R208): in JOINING with the painter up; after an abort 16 crossings later. -/
def execJoinRequest (h : HelmId) (s : State) : Host.Outcome State Fault Refusal :=
  let x := s.helm h
  if s.live && x.svc == .joining && x.resync.r.isNone && x.painterOk && decide (x.resync.retryAt ≤ s.tb.crossing)
    && (s.helm (otherHelm h)).svc.computes then
    .next (s.modHelm h (fun x => { x with resync := { r := some s.tb.crossing, win := s.tb.crossing } }))
  else .next s

/-- The helm whose resynchronisation is under way. -/
def State.joiner (s : State) : Option HelmId :=
  let is (g : HelmId) : Bool := (s.helm g).svc == .joining && (s.helm g).resync.r.isSome && !(s.helm g).resync.handed
  if is .a then some .a else if is .b then some .b else none

/-- The crossing whose background window an instant lies in or follows (R51). -/
def Stamp.window (t : Stamp) : Nat := if 208 ≤ t.stroke then t.crossing else t.crossing - 1

/-- RESYNC_CHUNK (R206 to R208): one image chunk and one delta in each background window after crossing r; a delta above
1 024 words aborts (log entry 30, DEDUCED). -/
def execResyncChunk (delta : Nat) (s : State) : Host.Outcome State Fault Refusal :=
  match s.joiner with
  | none => .next s
  | some h =>
    let y := (s.helm h).resync
    if !s.live || 12 ≤ y.chunks || !s.now.background || decide (s.now.window ≤ y.win) then .next s
    else if 1024 < delta then .next (s.abortResync h s.tb.crossing)
    else .next (s.modHelm h (fun x => { x with resync := { x.resync with chunks := x.resync.chunks + 1, win := s.now.window } }))

/-- A manifest with the joiner as its sender, in PROVING (R186, R187). -/
def manAs (h : HelmId) (m : List Word) : List Word :=
  match m with
  | [] => []
  | w :: tl => wd (helmCode h * 2 ^ 22 + fld w 21 20 * 2 ^ 20 + 2 ^ 19 + fld w 18 0) :: tl

/-- The joiner has the state of the holder: its helm state, what of it moves at a discard, and which frames are drained
(R207). -/
def State.copyHelm (s : State) (h g : HelmId) : State :=
  let y := s.helm g
  let s := s.modHelm h (fun x => { x with
    hs := y.hs
    saved := y.saved
    lastCmds := y.lastCmds
    lastEvs := y.lastEvs
    begun := y.begun
    viewWas := y.viewWas
    passNo := y.passNo
    out := y.out.map (manAs h)
    outAt := y.outAt
    resync := { x.resync with handed := true } })
  let f (x : PortFE) : PortFE := match h with
    | .a => { x with slipA := x.slipB }
    | .b => { x with slipB := x.slipA }
  { s with hpa := f s.hpa, hpb := f s.hpb }

/-- HELM_JOIN (R206, R207): the joiner runs its first own passage, unless the holder's state that it has already includes
it, and hands HELM_JOIN to the Quay. -/
def execHelmJoin (h : HelmId) (s : State) : Host.Outcome State Fault Refusal :=
  let y := (s.helm h).resync
  let g := otherHelm h
  let n := s.tb.crossing
  if s.live && (s.helm h).svc == .joining && y.r.isSome && y.chunks == 12 && !y.handed && (s.helm g).svc.computes
    && decide (y.r.getD 0 + 13 ≤ n) && decide (32 ≤ s.tb.stroke) then
    let s := s.copyHelm h g
    let s := if (s.helm h).passNo = some n then s else s.passage h n
    .next (s.raiseEv s.now (.helmJoin h))
  else .next s

/-- HELM_PROVEN (R186, R210): the last agreed landing of PROVE. -/
def execHelmProven (h : HelmId) (s : State) : Host.Outcome State Fault Refusal :=
  let n := s.tb.crossing
  if !s.live then .next s else
  .next (s.eachHelm (fun g s =>
    let r := (s.hsOf g).red
    if r.svc h = .proving && r.proveLeft ≤ 1 then (((s.proven g n h).afterDouble g n).viewMoved g n r.view).settle g n else s))

/-- RETURN_TO_HELM (R203). -/
def execReturnToHelm (s : State) : Host.Outcome State Fault Refusal :=
  let n := s.tb.crossing
  if !s.live then .next s else
  .next (s.eachHelm (fun g s =>
    let was := (s.hsOf g).red.view
    ((s.returnDue g n).viewMoved g n was).settle g n))

/-- DEBUG_CLOSE_INSTRUCTION (R216): at the next landing, which the Quay makes when no helm is in service. -/
def execDebugCloseInstruction (h : HelmId) (s : State) : Host.Outcome State Fault Refusal :=
  if !(s.live && (s.helm h).svc == .debug) then .next s
  else if s.otherInSvc h then .next (s.raiseEv s.now (.debugClose h))
  else .next (s.modHelm h (fun x => { x with closing := true }))

/-! ### Events of a passage that the table names apart -/

/-- PULSE_END (R151): the pulse due turns its output off in the host image. -/
def execPulseEnd (q : Fin 32) (s : State) : Host.Outcome State Fault Refusal :=
  let n := s.tb.crossing
  if !s.live then .next s else
  .next (s.eachHelm (fun g s => s.modHs g (fun hs => if hs.pulseDue n q then hs.endPulse q else hs)))

/-- CHALLENGE_EXPIRY (R398). -/
def execChallengeExpiry (p : Port) (s : State) : Host.Outcome State Fault Refusal :=
  if !s.live then .next s else .next (s.eachHelm (fun g s => s.chalExpiry g s.tb.crossing p))

/-- LOCKOUT_END (R398). -/
def execLockoutEnd (p : Port) (s : State) : Host.Outcome State Fault Refusal :=
  if !s.live then .next s else .next (s.eachHelm (fun g s => s.lockEnd g s.tb.crossing p))

/-- ROLE_IDLE_EXPIRY (R393, R398). -/
def execRoleIdleExpiry (p : Port) (s : State) : Host.Outcome State Fault Refusal :=
  if !s.live then .next s else
  .next (s.eachHelm (fun g s =>
    (s.modHs g (fun hs => (hs.drainHeard s.tb.crossing).noteHeard s.tb.crossing p)).roleIdle g s.tb.crossing p))

/-- WAKE_READ_COMPLETE (R355). -/
def execWakeReadComplete (p : Fin 4) (s : State) : Host.Outcome State Fault Refusal :=
  if !s.live then .next s else .next (s.eachHelm (fun g s => s.wakeDue g s.tb.crossing p))

/-- HOST_LOST (R269): one more crossing not heard, or one more passage in EXPIRED, passes the limit; safe states replace the
manifest. -/
def execHostLost (s : State) : Host.Outcome State Fault Refusal :=
  if !s.live then .next s else
  .next (s.eachHelm (fun g s =>
    let hs := s.hsOf g
    let r := chHostLoss hs.charter
    let counts : Bool := hs.hl == .expired || (hs.hl == .watching && r.1)
    if hs.modes.mode.watches && counts && decide (r.2.2 < hs.hlCount + 1) then
      (s.loseHost g s.tb.crossing (hs.hlCount + 1)).modHs g (fun hs =>
        let hs := hs.holdSafe
        { hs with man := Vector.ofFn (fun (q : Fin 32) => hs.safeValue q) })
    else s))

/-- One miss at a HAIL-CHECK order; the next passage takes its ACTION when MISS_LIMIT is reached (R82, R86) (log entry 40, DEDUCED). -/
def HelmState.hailMiss (hs : HelmState) (k : Nat) : HelmState :=
  let b := (chOrders hs.charter).getD k []
  let o := vat hs.orders k {}
  if bf b 0 23 20 ≠ 6 || o.failed then hs
  else { hs with orders := vset hs.orders k { o with misses := o.misses + 1 } }

/-- HAIL_CHECK_MISS (R86, R258). -/
def execHailCheckMiss (k : Fin 64) (s : State) : Host.Outcome State Fault Refusal :=
  if !s.live then .next s else
  .next (s.eachHelm (fun g s => s.modHs g (fun hs => hs.hailMiss k)))

end Sys2Proof.Machine
end

