-- ==== Sys2Proof/Machine/Reset.lean ====
section
/-! DEFINITION. The resets (R459 to R461, R479), VDD and the mooring-clock domain (R375, R446, R460), start-up (R95, R449,
R462, R463), and the entry to and the wake from MOORED (R389, R390, R418, R448). -/

namespace Sys2Proof.Machine

/-! ### Resets -/

/-- The engine commits every record already in the record slips (R461), of those of a hold-up with POWER_FAIL after them (R446) (log
entry 28, DEDUCED). -/
def State.commitSlips (s : State) : State := s.finishHoldUp

/-- A reset other than POWER_ON and VDD_LOW: the records in the slips first (R459, R461) (log entry 28, DEDUCED). -/
def State.fullReset (s : State) (cause sub : BitVec 4) : State := s.commitSlips.resetWith cause sub

/-- POWER_ON (R181, R459): the mooring-clock domain starts afresh too. Both banks, the pontoons and the pins stay (log entry 26, DEDUCED);
the count of time gone by, which the pontoons that keep running refer to, goes on (R467). -/
def execPowerOn (s : State) : Host.Outcome State Fault Refusal :=
  let s' := s.resetLogic
  .next { s' with
    rst := { vddio := s.rst.vddio, testen := s.rst.testen }
    tb := { age := s.tb.age, ageSnd := s.tb.ageSnd, ageLand := s.tb.ageLand, beatNo := s.tb.beatNo }
    toll := {}
    com := {} }

/-- RSTn closes an attachment to debug, with its record (R216; log entry 51, DESIGN CHOICE). -/
def State.detachByPin (s : State) : State :=
  let one (h : HelmId) (s : State) : State :=
    if (s.helm h).svc = .debug then s.quayRec ⟨s.now, 0xA, clsAct, 0x050, wd (helmCode h), 0, 0⟩ else s
  one .b (one .a s)

/-- RSTN_PIN (R216, R459): a recognised low pulse; with both tides dead the reset is recorded and the dies stay held (R39). -/
def execRstnPin (s : State) : Host.Outcome State Fault Refusal :=
  if s.rst.vdd && !s.rst.testen then .next (s.detachByPin.fullReset 2 0) else .next s

/-- QUAY_CHECK (R459): an invalid rail code. -/
def execQuayCheck (s : State) : Host.Outcome State Fault Refusal :=
  if s.live then .next (s.fullReset 5 0) else .next s

/-- Whether a port holds MAKER, as the helms have it (log entry 26, DEDUCED). -/
def State.makerHeld (s : State) : Bool :=
  let has (x : Helm) : Bool := x.hs.roleA.held == some .maker || x.hs.roleB.held == some .maker
  (s.helmA.svc.computes && has s.helmA) || (s.helmB.svc.computes && has s.helmB)

/-- TAP_RESET (R459): the reset instruction of the debug port, under MAKER (log entry 26, DEDUCED). -/
def execTapReset (s : State) : Host.Outcome State Fault Refusal :=
  if s.live && s.makerHeld then .next (s.fullReset 6 0) else .next s

/-- TESTEN_HIGH (R461, R479): the logic side is held in reset (log entry 28, DEDUCED). -/
def execTestenHigh (s : State) : Host.Outcome State Fault Refusal :=
  if s.rst.testen then .next s
  else
    let s := s.commitSlips.resetLogic
    .next { s with rst := { s.rst with testen := true } }

/-- TESTEN_LOW (R181, R479): restart as for RSTn, with CAUSE RSTN_PIN (log entry 28, DEDUCED). -/
def execTestenLow (s : State) : Host.Outcome State Fault Refusal :=
  if !s.rst.testen then .next s
  else
    let s := s.recordCause 2 0 0
    .next { s with rst := { s.rst with testen := false } }

/-- TIDE_RESTART (R39, R459, R461): from TIDE_DEAD a tide runs again and the device restarts. -/
def execTideRestart (x : TideId) (s : State) : Host.Outcome State Fault Refusal :=
  if s.tb.ts = .dead then
    let s := s.commitSlips
    .next { s with
      rst := { s.rst with held := false }
      tb := { s.tb with ts := .agree, aOk := true, bOk := true, selB := decide (x = TideId.b) } }
  else .next s

/-! ### Supplies -/

/-- A pontoon without carriers from the logic side: SAFEn and its lanes count as low (R375, R377, R380). -/
def Pont.noCarrier (x : Pont) (p : Nat) : Pont :=
  if !x.running then x
  else
    let x := (List.range 2).foldl (fun x l => x.permitDown p l) x
    { x with drive := 0, safenLow := true, safenHold := true }.refreshHolds p

/-- VDD_LOW (R375, R446, R459): hold-up begins, the record slips accept nothing more, a clearing of the first-fault area that has not
begun is lost (log entry 34, DEDUCED), the logic side is in reset, and no pontoon has a carrier (log entry 26, DEDUCED). -/
def execVddLow (s : State) : Host.Outcome State Fault Refusal :=
  if !s.rst.vdd then .next s
  else
    let n := s.com.slipQ.length + s.com.slipA.length + s.com.slipB.length
    let pf : Rec := ⟨s.now, 0xB, clsFault, 0x001, 0, wd n, 0⟩
    let s := { s with com := { s.com with holdUp := true, powerFail := some pf, ffClear := [] } }.resetWith 3 0
    let s := { s with rst := { s.rst with vdd := false } }
    .next (s.mapPonts (fun p x => ((x.noCarrier p).react p x).track p s.tb.age))

/-- MOORING_DOMAIN_LOST (R460): VHOLD below 2.0 V while VDD is absent; only POWER_ON is left. -/
def execMooringDomainLost (s : State) : Host.Outcome State Fault Refusal :=
  if s.rst.vdd then .next s
  else
    .next { s with
      rst := { s.rst with mooringAlive := false, wakeSub := none }
      toll := {}
      com := { s.com with slipA := [], slipB := [], slipQ := [], powerFail := none } }

/-! ### Start-up -/

/-- What an address pin reads (R478). -/
def strapValue : Strap → Nat
  | .low => 0
  | .opened => 1
  | .high => 2

/-- ADDR_LATCH (R95): 3 × ADDR1 + ADDR0, once after each reset, with VDDIO present. -/
def execAddrLatch (a1 a0 : Strap) (s : State) : Host.Outcome State Fault Refusal :=
  if s.live && s.rst.vddio && s.rst.addr.isNone then
    .next { s with rst := { s.rst with addr := some (3 * strapValue a1 + strapValue a0) } }
  else .next s

/-- The largest crossing of a record held in the ring of a bank; none when the ring is empty. -/
def Bank.lastCrossing (b : Bank) : Option Nat :=
  let slots := (b.mem.filter (fun e => e.1 < journalBase)).map (fun e => e.1 / 8)
  slots.foldl (fun (m : Option Nat) k =>
    let w := b.reads (8 * k) 8
    if copyIntact w then
      let c := (w.getD 0 0).toNat * 2 ^ 24 + (w.getD 1 0).toNat
      some (max c (m.getD 0))
    else m) none

/-- The first crossing after a reset: after POWER_ON, though another reset came before the start-up, a multiple of 2^20 above every record's
(R462). -/
def State.firstCrossing (s : State) : Nat :=
  if s.rst.powerOn then
    match s.nvmA.lastCrossing, s.nvmB.lastCrossing with
    | none, none => 0
    | a, b => (max (a.getD 0) (b.getD 0) / 2 ^ 20 + 1) * 2 ^ 20
  else s.tb.crossing + 1

/-- START (R449, R459, R462, R463): VDD is present and reset is released; an engine still in hold-up finishes (R446), the rings are
resumed, START is committed, and start-up begins (log entry 13, DESIGN CHOICE; log entry 26, DEDUCED). -/
def execStart (s : State) : Host.Outcome State Fault Refusal :=
  if s.rst.held || s.rst.testen || s.rst.started || !s.rst.mooringAlive then .next s
  else
    let s := s.commitSlips.resumeRings
    let n := s.firstCrossing
    let s := { s with
      rst := { s.rst with started := true, vdd := true, powerOn := false }
      tb := { s.tb with crossing := n, stroke := 0 } }
    .next (s.commitOwn ⟨⟨n, 0⟩, 0xA, clsInfo, 0x002, 0, s.rst.causeWord, 0⟩)

/-! ### MOORED -/

/-- Whether a helm in service has no record left that is still to enter its record slip (R448). -/
def Helm.recsOut (x : Helm) : Bool :=
  !x.svc.inService || (x.recQ.isEmpty && x.sure.isEmpty && x.held.isEmpty && x.shared.isEmpty)

/-- Whether the tides can stop: landing L + 1 is made, its passage has sent the stop orders, and the record slips are empty, with no record
left for them (R389, R448). -/
def State.moorReady (s : State) : Bool :=
  s.moorHeld && decide (240 ≤ s.tb.stroke) && (match s.leader with
    | some h => decide ((s.helm h).passNo = some s.tb.crossing)
    | none => true)
  && s.com.slipA.isEmpty && s.com.slipB.isEmpty && s.com.slipQ.isEmpty && s.helmA.recsOut && s.helmB.recsOut

/-- A helm as the tides stop: commands, events and held replies that are left are lost (R389). -/
def Helm.moor (x : Helm) : Helm :=
  let clear (hs : HelmState) : HelmState := { hs with cmds := [], evs := [], heldA := [], heldB := [] }
  { x with hs := clear x.hs, saved := clear x.saved, lastCmds := [], lastEvs := [], slipA := [], slipB := []
           waitA := [], waitB := [] }

/-- The toll-keeper expiries that no passage will apply before the wake. -/
def State.expiryLeft (s : State) : List Stamp :=
  (((s.helmA.hs.evs ++ s.helmB.hs.evs).filter (fun e => e.ev = .tollExpiry)).map (·.at_)).eraseDups

/-- The toll keeper as the tides stop (R418, R426). -/
def Toll.moor (t : Toll) (tick : Nat) : Toll :=
  match t.st with
  | .closed | .opened => { t with st := .mooring, checked := 0, moorEnd := tick + t.cur.moorS * 32768 }
  | .pulse => { t with moorAfter := true }
  | _ => t

/-- TIDES_STOP (R389, R418, R448): on entry to MOORED, once the record slips are empty. The check-ins stamped before this tick and the
window's own events up to it come first; a record of theirs is committed before the tides stop. -/
def execTidesStop (s : State) : Host.Outcome State Fault Refusal :=
  if !(s.live && s.tb.tides) then .next s else
  let s := s.tollAt s.rst.tick
  if !s.moorReady then .next s
  else
    let t := s.toll.moor s.rst.tick
    let cut (f : PortFE) : PortFE := { f with slipA := [], slipB := [] }
    .next { s with
      tb := { s.tb with counting := false, tides := false }
      toll := { t with expPend := t.expPend ++ s.expiryLeft }
      hpa := cut s.hpa
      hpb := cut s.hpb
      helmA := s.helmA.moor
      helmB := s.helmB.moor }

/-- SUB of a wake source (R390). -/
def wakeCode : WakeSrc → BitVec 4
  | .hpa => 1
  | .hpb => 2
  | .moored => 3
  | .pin => 4

/-- Whether a wake source can be met as it stands (R390): an open session, a moored interval under way, a selected edge. -/
def State.wakeMet (s : State) : WakeSrc → Bool
  | .hpa => s.portOn && s.hpa.opened
  | .hpb => s.portOn && s.hpb.opened
  | .moored => decide (s.toll.st = .mooring)
  | .pin => s.rst.vddio && decide (bf (chBody s.inForce 0x04) 1 23 8 ≠ 0)

/-- The wake (R390, R459): a reset with the first wake source as SUB, of two in one tick the lowest; the bell cause TOLL (log entry 28,
DEDUCED). -/
def State.wake (s : State) : State :=
  match s.mode, s.rst.wakeSub with
  | .moored, some sub => (s.fullReset 7 sub).ring bellToll
  | _, _ => s

/-- MOORED_WAKE (R390, R459): the device wakes by the source named, where it is met, or by one that came before it. -/
def execMooredWake (w : WakeSrc) (s : State) : Host.Outcome State Fault Refusal :=
  if s.live then .next (if s.wakeMet w then s.wakeBy (wakeCode w) else s).wake else .next s

/-- A mooring tick passes on an empty queue (R13, R25; log entry 9, DESIGN CHOICE). A wake source of a tick that is over wakes the
device (R390). -/
def State.idle (s : State) : State := if s.live then s.mooringTick.wake else s.mooringTick

end Sys2Proof.Machine
end

