-- ==== Sys2Proof/Machine/Rows.lean ====
section
/-! DEFINITION. The rows of the host commands: the command of a frame at its point of application, in every helm that
computes passages (R58, R132). A row takes the waiting frame of its tag, if there is one, and stands for it otherwise. -/

namespace Sys2Proof.Machine

/-- A command at one helm, in the passage of the crossing that stands, which it begins where it has not yet begun. A frame taken is one that
moves when the passage is discarded (R68) (log entry 23, DESIGN CHOICE). -/
def State.rowAt (s : State) (h : HelmId) (t : Tag) (c : Cmd) : State :=
  if !(s.helm h).svc.computes then s else
  let n := s.tb.crossing
  let s := s.beginFor h n
  if !(s.helm h).svc.computes then s else
  let w := s.waiting h t
  let e := w.getD ⟨t, 0, [], ⟨n, 0⟩, s.nextId, {}⟩
  let L := match w with
    | some e => e.at_.landing
    | none => n
  let s := ((s.claim h t.port e.id).modHs h (fun hs => hs.hold e)).openMode h n
  let s := if w.isSome then s.modHelm h (fun x => { x with lastCmds := x.lastCmds ++ [e] }) else s
  let s := s.applyCmd ⟨h, n, L, t, e.id, e.at_, e.moved⟩ c
  (s.settleMode h n).settleSvc h false

/-- A host command at its point of application, alike in both helms (R28, R132) (log entry 23, DESIGN CHOICE). -/
def State.hostRow (s : State) (t : Tag) (c : Cmd) : State :=
  if !s.live then s else
  let s := (s.rowAt .a t c).rowAt .b t c
  { s with nextId := s.nextId + 1 }

/-- STATUS (R139). -/
def execStatus (t : Tag) (s : State) : Host.Outcome State Fault Refusal := .next (s.hostRow t .status)

/-- READ_WINDOW (R140 to R142, R147). -/
def execReadWindow (t : Tag) (addr count : Nat) (s : State) : Host.Outcome State Fault Refusal :=
  .next (s.hostRow t (.readWindow addr count))

/-- WRITE_WINDOW (R143 to R146). -/
def execWriteWindow (t : Tag) (addr : Nat) (ws : List Word) (s : State) : Host.Outcome State Fault Refusal :=
  .next (s.hostRow t (.writeWindow addr ws))

/-- The window word of a W1C register (R42, R80, R126). -/
def w1cAddr : W1cReg → Nat
  | .bellCause => 0x030
  | .tideStatus => 0x020
  | .syncStatus => 0x026

/-- BELL_CAUSE_CLEAR (R14, R42, R80, R128). -/
def execBellCauseClear (t : Tag) (r : W1cReg) (v : Word) (s : State) : Host.Outcome State Fault Refusal :=
  .next (s.hostRow t (.writeWindow (w1cAddr r) [v]))

/-- BELL_MASK_WRITE (R126, R128). -/
def execBellMaskWrite (t : Tag) (v : Word) (s : State) : Host.Outcome State Fault Refusal :=
  .next (s.hostRow t (.writeWindow 0x031 [v]))

/-- CT_ZERO of counter k (R236). -/
def execCtZero (t : Tag) (k : Fin 16) (s : State) : Host.Outcome State Fault Refusal :=
  .next (s.hostRow t (.writeWindow (0x130 + k) [oneBit 20]))

/-- SET_OUTPUTS with FLAGS 0 (R148, R149). -/
def execSetOutputs (t : Tag) (mask value : BitVec 32) (s : State) : Host.Outcome State Fault Refusal :=
  .next (s.hostRow t (.setOutputs 0 mask value))

/-- SET_OUTPUTS with FORCE (R149). -/
def execSetOutputsForce (t : Tag) (mask value : BitVec 32) (s : State) : Host.Outcome State Fault Refusal :=
  .next (s.hostRow t (.setOutputs 1 mask value))

/-- SET_OUTPUTS with RELEASE (R149). -/
def execSetOutputsRelease (t : Tag) (mask value : BitVec 32) (s : State) : Host.Outcome State Fault Refusal :=
  .next (s.hostRow t (.setOutputs 2 mask value))

/-- SET_PROP (R150). -/
def execSetProp (t : Tag) (es : List PropEntry) (s : State) : Host.Outcome State Fault Refusal :=
  .next (s.hostRow t (.setProp es))

/-- One FORCE entry of SET_PROP (R150). -/
def execSetPropForce (t : Tag) (ch : Fin 8) (sp : Word) (s : State) : Host.Outcome State Fault Refusal :=
  .next (s.hostRow t (.setProp [⟨BitVec.ofNat 8 (128 + ch), sp⟩]))

/-- One RELEASE entry of SET_PROP (R150). -/
def execSetPropRelease (t : Tag) (ch : Fin 8) (sp : Word) (s : State) : Host.Outcome State Fault Refusal :=
  .next (s.hostRow t (.setProp [⟨BitVec.ofNat 8 (64 + ch), sp⟩]))

/-- PULSE_OUTPUT (R151). -/
def execPulseOutput (t : Tag) (ch dur : Nat) (s : State) : Host.Outcome State Fault Refusal :=
  .next (s.hostRow t (.pulse ch dur))

/-- SET_MODE (R152, R386). -/
def execSetMode (t : Tag) (target : Byte) (s : State) : Host.Outcome State Fault Refusal :=
  .next (s.hostRow t (.setMode target))

/-- ROLE_CHALLENGE (R153, R154, R398). -/
def execRoleChallenge (t : Tag) (role : Byte) (s : State) : Host.Outcome State Fault Refusal :=
  .next (s.hostRow t (.roleChallenge role))

/-- ROLE_RESPONSE (R153, R396 to R398). -/
def execRoleResponse (t : Tag) (resp : List Byte) (s : State) : Host.Outcome State Fault Refusal :=
  .next (s.hostRow t (.roleResponse resp))

/-- ROLE_DROP (R153, R398). -/
def execRoleDrop (t : Tag) (s : State) : Host.Outcome State Fault Refusal := .next (s.hostRow t .roleDrop)

/-- CHARTER_READ (R157). -/
def execCharterRead (t : Tag) (src : Byte) (off count : Nat) (s : State) : Host.Outcome State Fault Refusal :=
  .next (s.hostRow t (.charterRead src off count))

/-- CHARTER_WRITE (R155, R156). -/
def execCharterWrite (t : Tag) (off : Nat) (ws : List Word) (s : State) : Host.Outcome State Fault Refusal :=
  .next (s.hostRow t (.charterWrite off ws))

/-- CHARTER_WRITE that discards the draft (R156). -/
def execCharterDiscard (t : Tag) (s : State) : Host.Outcome State Fault Refusal := .next (s.hostRow t .charterDiscard)

/-- CHARTER_COMMIT (R158 to R160, R408). -/
def execCharterCommit (t : Tag) (gen atW : Word) (crc : BitVec 32) (s : State) : Host.Outcome State Fault Refusal :=
  .next (s.hostRow t (.charterCommit gen atW crc))

/-- TOLL_CONFIG (R162, R430). -/
def execTollConfig (t : Tag) (roster : Byte) (closed opn : Word) (pulse : Nat) (pol : Byte) (s : State) :
    Host.Outcome State Fault Refusal :=
  .next (s.hostRow t (.tollConfig roster closed opn pulse pol))

/-- BLACKBOX_READ (R163, R164). -/
def execBlackboxRead (t : Tag) (area : Byte) (start count : Nat) (s : State) : Host.Outcome State Fault Refusal :=
  .next (s.hostRow t (.blackboxRead area start count))

/-- BLACKBOX_MARK with ACTION 0x00 (R165). -/
def execHostMark (t : Tag) (d0 d1 d2 : Word) (s : State) : Host.Outcome State Fault Refusal :=
  .next (s.hostRow t (.hostMark d0 d1 d2))

/-- BLACKBOX_MARK with ACTION 0x01 (R165, R443). -/
def execBlackboxMarkClear (t : Tag) (s : State) : Host.Outcome State Fault Refusal := .next (s.hostRow t .markClear)

/-- CHECK_CONFIG (R166, R457). -/
def execCheckConfig (t : Tag) (unit : Nat) (source : Byte) (width : Nat) (flags : Byte) (poly init xorout : BitVec 32)
    (s : State) : Host.Outcome State Fault Refusal :=
  .next (s.hostRow t (.checkConfig unit source width flags poly init xorout))

/-- CHECK_READ (R167, R457). -/
def execCheckRead (t : Tag) (unit : Nat) (flags : Byte) (s : State) : Host.Outcome State Fault Refusal :=
  .next (s.hostRow t (.checkRead unit flags))

/-- ANALOG_SNAPSHOT (R168, R324). -/
def execAnalogSnapshot (t : Tag) (ch : Nat) (s : State) : Host.Outcome State Fault Refusal :=
  .next (s.hostRow t (.analogSnapshot ch))

/-- WAKE_ARM (R169, R352, R354). -/
def execWakeArm (t : Tag) (p : Nat) (chans trig : Byte) (level : Word) (pre total : Nat) (s : State) :
    Host.Outcome State Fault Refusal :=
  .next (s.hostRow t (.wakeArm p chans trig level pre total))

/-- WAKE_ARM with TRIGGER 0xFF (R169, R352). -/
def execWakeDisarm (t : Tag) (p : Nat) (s : State) : Host.Outcome State Fault Refusal :=
  .next (s.hostRow t (.wakeArm p 0 0xFF 0 0 1))

/-- WAKE_READ (R170, R355). -/
def execWakeRead (t : Tag) (p off count : Nat) (s : State) : Host.Outcome State Fault Refusal :=
  .next (s.hostRow t (.wakeRead p off count))

/-- SYNC_ISSUE (R79, R170). -/
def execSyncIssue (t : Tag) (s : State) : Host.Outcome State Fault Refusal := .next (s.hostRow t .syncIssue)

/-- FIRMWARE_STAGE, Data (R171). -/
def execFirmwareStageData (t : Tag) (off : Nat) (ws : List Word) (s : State) : Host.Outcome State Fault Refusal :=
  .next (s.hostRow t (.stageData off ws))

/-- FIRMWARE_STAGE, Finish (R171). -/
def execFirmwareStageFinish (t : Tag) (len : Nat) (crc : BitVec 32) (version : Word) (s : State) :
    Host.Outcome State Fault Refusal :=
  .next (s.hostRow t (.stageFinish len crc version))

/-- FIRMWARE_SWAP (R172, R469, R470). -/
def execFirmwareSwap (t : Tag) (h : Byte) (s : State) : Host.Outcome State Fault Refusal := .next (s.hostRow t (.fwSwap h))

/-- HELM_HANDOVER (R172, R201, R205). -/
def execHelmHandover (t : Tag) (h : Byte) (s : State) : Host.Outcome State Fault Refusal :=
  .next (s.hostRow t (.handover h))

/-- HELM_RETURN_HOLD 0x01 (R172, R203). -/
def execHelmReturnHold (t : Tag) (s : State) : Host.Outcome State Fault Refusal := .next (s.hostRow t (.returnHold 1))

/-- HELM_RETURN_HOLD 0x00 (R172, R203). -/
def execHelmReturnRelease (t : Tag) (s : State) : Host.Outcome State Fault Refusal := .next (s.hostRow t (.returnHold 0))

/-- SELFTEST_REQUEST, test passage (R172, R197). -/
def execSelftestTestPassage (t : Tag) (h : Byte) (s : State) : Host.Outcome State Fault Refusal :=
  .next (s.hostRow t (.selftest h 1))

/-- SELFTEST_REQUEST, full self-test (R172, R186, R212). -/
def execSelftestFull (t : Tag) (h : Byte) (s : State) : Host.Outcome State Fault Refusal :=
  .next (s.hostRow t (.selftest h 2))

/-- DEBUG_ENABLE open (R215). -/
def execDebugOpen (t : Tag) (h : Byte) (s : State) : Host.Outcome State Fault Refusal := .next (s.hostRow t (.debug h 1))

/-- DEBUG_ENABLE close (R216). -/
def execDebugClose (t : Tag) (h : Byte) (s : State) : Host.Outcome State Fault Refusal := .next (s.hostRow t (.debug h 0))

/-! ### Collections (R117, R131) -/

/-- COLLECTION at one helm: answered in its background window, but not in those of a test passage; until then it waits (R51, R195). -/
def State.collectAt (s : State) (h : HelmId) (t : Tag) (k : Byte) : State :=
  if !(s.helm h).svc.computes then s else
  let e := (s.waiting h t).getD ⟨t, 0x01, [k], s.now, s.nextId, {}⟩
  if s.now.background && !s.testWindow h then s.answerCollection h e
  else (s.claim h t.port e.id).modHs h (fun hs => { hs with cmds := hs.cmds ++ [e] })

/-- COLLECTION (R117, R131). -/
def execCollection (t : Tag) (k : Byte) (s : State) : Host.Outcome State Fault Refusal :=
  if s.live then
    let s := (s.collectAt .a t k).collectAt .b t k
    .next { s with nextId := s.nextId + 1 }
  else .next s

end Sys2Proof.Machine
end

