-- ==== Sys2Proof/Machine/Dispatch.lean ====
section
/-! DEFINITION. exec: one arm for each constructor of Instr, each one direct call of its meaning. -/

namespace Sys2Proof.Machine

def exec (i : Instr) (s : State) : Host.Outcome State Fault Refusal :=
  match i with
  | .ul1Read p f => Sys2Proof.Machine.execUl1Read p f s
  | .ul1Write p f => Sys2Proof.Machine.execUl1Write p f s
  | .ul2Frame p f => Sys2Proof.Machine.execUl2Frame p f s
  | .ul3Request p f => Sys2Proof.Machine.execUl3Request p f s
  | .ul3Fetch p f => Sys2Proof.Machine.execUl3Fetch p f s
  | .selRelease p edges clocked got => Sys2Proof.Machine.execSelRelease p edges clocked got s
  | .status t => Sys2Proof.Machine.execStatus t s
  | .collection t k => Sys2Proof.Machine.execCollection t k s
  | .sessionReset p alive => Sys2Proof.Machine.execSessionReset p alive s
  | .readWindow t addr count => Sys2Proof.Machine.execReadWindow t addr count s
  | .writeWindow t addr ws => Sys2Proof.Machine.execWriteWindow t addr ws s
  | .bellCauseClear t r v => Sys2Proof.Machine.execBellCauseClear t r v s
  | .bellMaskWrite t v => Sys2Proof.Machine.execBellMaskWrite t v s
  | .ctZero t k => Sys2Proof.Machine.execCtZero t k s
  | .setOutputs t mask value => Sys2Proof.Machine.execSetOutputs t mask value s
  | .setOutputsForce t mask value => Sys2Proof.Machine.execSetOutputsForce t mask value s
  | .setOutputsRelease t mask value => Sys2Proof.Machine.execSetOutputsRelease t mask value s
  | .setProp t es => Sys2Proof.Machine.execSetProp t es s
  | .setPropForce t ch sp => Sys2Proof.Machine.execSetPropForce t ch sp s
  | .setPropRelease t ch sp => Sys2Proof.Machine.execSetPropRelease t ch sp s
  | .pulseOutput t ch dur => Sys2Proof.Machine.execPulseOutput t ch dur s
  | .pulseEnd q => Sys2Proof.Machine.execPulseEnd q s
  | .setMode t target => Sys2Proof.Machine.execSetMode t target s
  | .wakeRequest p => Sys2Proof.Machine.execWakeRequest p s
  | .roleChallenge t role => Sys2Proof.Machine.execRoleChallenge t role s
  | .roleResponse t resp => Sys2Proof.Machine.execRoleResponse t resp s
  | .roleDrop t => Sys2Proof.Machine.execRoleDrop t s
  | .challengeExpiry p => Sys2Proof.Machine.execChallengeExpiry p s
  | .lockoutEnd p => Sys2Proof.Machine.execLockoutEnd p s
  | .roleIdleExpiry p => Sys2Proof.Machine.execRoleIdleExpiry p s
  | .charterRead t src off count => Sys2Proof.Machine.execCharterRead t src off count s
  | .charterWrite t off ws => Sys2Proof.Machine.execCharterWrite t off ws s
  | .charterDiscard t => Sys2Proof.Machine.execCharterDiscard t s
  | .charterCommit t gen atW crc => Sys2Proof.Machine.execCharterCommit t gen atW crc s
  | .charterCopyWrite c good => Sys2Proof.Machine.execCharterCopyWrite c good s
  | .charterCopyCheck => Sys2Proof.Machine.execCharterCopyCheck s
  | .charterLoad h => Sys2Proof.Machine.execCharterLoad h s
  | .toll p alive prm => Sys2Proof.Machine.execToll p alive prm s
  | .tollCheckIn => Sys2Proof.Machine.execTollCheckIn s
  | .tollConfig t roster closed opn pulse pol => Sys2Proof.Machine.execTollConfig t roster closed opn pulse pol s
  | .tkOpeningTick => Sys2Proof.Machine.execTkOpeningTick s
  | .tkClosingTick => Sys2Proof.Machine.execTkClosingTick s
  | .wdpPulseEnd => Sys2Proof.Machine.execWdpPulseEnd s
  | .mooredIntervalEnd => Sys2Proof.Machine.execMooredIntervalEnd s
  | .blackboxRead t area start count => Sys2Proof.Machine.execBlackboxRead t area start count s
  | .hostMark t d0 d1 d2 => Sys2Proof.Machine.execHostMark t d0 d1 d2 s
  | .blackboxMarkClear t => Sys2Proof.Machine.execBlackboxMarkClear t s
  | .firstFaultClear => Sys2Proof.Machine.execFirstFaultClear s
  | .recordCommit v => Sys2Proof.Machine.execRecordCommit v s
  | .vholdExhausted a b => Sys2Proof.Machine.execVholdExhausted a b s
  | .checkConfig t unit source width flags poly init xorout => Sys2Proof.Machine.execCheckConfig t unit source width flags poly init xorout s
  | .checkRead t unit flags => Sys2Proof.Machine.execCheckRead t unit flags s
  | .checkUnitSnoop u arrived => Sys2Proof.Machine.execCheckUnitSnoop u arrived s
  | .analogSnapshot t ch => Sys2Proof.Machine.execAnalogSnapshot t ch s
  | .snapshotConversion p v vref low high => Sys2Proof.Machine.execSnapshotConversion p v vref low high s
  | .wakeArm t p chans trig level pre total => Sys2Proof.Machine.execWakeArm t p chans trig level pre total s
  | .wakeDisarm t p => Sys2Proof.Machine.execWakeDisarm t p s
  | .wakeRead t p off count => Sys2Proof.Machine.execWakeRead t p off count s
  | .wakeReadComplete p => Sys2Proof.Machine.execWakeReadComplete p s
  | .syncIssue t => Sys2Proof.Machine.execSyncIssue t s
  | .firmwareStageData t off ws => Sys2Proof.Machine.execFirmwareStageData t off ws s
  | .firmwareStageFinish t len crc version => Sys2Proof.Machine.execFirmwareStageFinish t len crc version s
  | .firmwareSwap t h => Sys2Proof.Machine.execFirmwareSwap t h s
  | .helmHandover t h => Sys2Proof.Machine.execHelmHandover t h s
  | .helmReturnHold t => Sys2Proof.Machine.execHelmReturnHold t s
  | .helmReturnRelease t => Sys2Proof.Machine.execHelmReturnRelease t s
  | .selftestTestPassage t h => Sys2Proof.Machine.execSelftestTestPassage t h s
  | .selftestFull t h => Sys2Proof.Machine.execSelftestFull t h s
  | .debugOpen t h => Sys2Proof.Machine.execDebugOpen t h s
  | .debugClose t h => Sys2Proof.Machine.execDebugClose t h s
  | .debugCloseInstruction h => Sys2Proof.Machine.execDebugCloseInstruction h s
  | .stroke => Sys2Proof.Machine.execStroke s
  | .strokeToken h => Sys2Proof.Machine.execStrokeToken h s
  | .beatToken => Sys2Proof.Machine.execBeatToken s
  | .beat p h => Sys2Proof.Machine.execBeat p h s
  | .regeneratorLock p => Sys2Proof.Machine.execRegeneratorLock p s
  | .sounding p m => Sys2Proof.Machine.execSounding p m s
  | .passage h => Sys2Proof.Machine.execPassage h s
  | .hostLost => Sys2Proof.Machine.execHostLost s
  | .hailCheckMiss k => Sys2Proof.Machine.execHailCheckMiss k s
  | .backgroundStep h good => Sys2Proof.Machine.execBackgroundStep h good s
  | .testPassage h sig => Sys2Proof.Machine.execTestPassage h sig s
  | .testOutcome => Sys2Proof.Machine.execTestOutcome s
  | .manifestCompare p => Sys2Proof.Machine.execManifestCompare p s
  | .landing p => Sys2Proof.Machine.execLanding p s
  | .gangwaySilence p => Sys2Proof.Machine.execGangwaySilence p s
  | .gwDown p h => Sys2Proof.Machine.execGwDown p h s
  | .report h p f => Sys2Proof.Machine.execReport h p f s
  | .manifest p h f => Sys2Proof.Machine.execManifest p h f s
  | .config p h f last => Sys2Proof.Machine.execConfig p h f last s
  | .order p h f o => Sys2Proof.Machine.execOrder p h f o s
  | .bulk h p f => Sys2Proof.Machine.execBulk h p f s
  | .echo p h f => Sys2Proof.Machine.execEcho p h f s
  | .setCrossing p h f => Sys2Proof.Machine.execSetCrossing p h f s
  | .helmHalt h cause => Sys2Proof.Machine.execHelmHalt h cause s
  | .helmSilent h => Sys2Proof.Machine.execHelmSilent h s
  | .fullSelftestDone h pass => Sys2Proof.Machine.execFullSelftestDone h pass s
  | .bistRetry h => Sys2Proof.Machine.execBistRetry h s
  | .helmLoaded h => Sys2Proof.Machine.execHelmLoaded h s
  | .firstHolderTimeout => Sys2Proof.Machine.execFirstHolderTimeout s
  | .joinRequest h => Sys2Proof.Machine.execJoinRequest h s
  | .resyncChunk delta => Sys2Proof.Machine.execResyncChunk delta s
  | .helmJoin h => Sys2Proof.Machine.execHelmJoin h s
  | .helmProven h => Sys2Proof.Machine.execHelmProven h s
  | .returnToHelm => Sys2Proof.Machine.execReturnToHelm s
  | .tideCrossCheck countB => Sys2Proof.Machine.execTideCrossCheck countB s
  | .tideCalibrationWindow count => Sys2Proof.Machine.execTideCalibrationWindow count s
  | .tideArbitration a b => Sys2Proof.Machine.execTideArbitration a b s
  | .tideLost x => Sys2Proof.Machine.execTideLost x s
  | .tideRestart x => Sys2Proof.Machine.execTideRestart x s
  | .refclkLock => Sys2Proof.Machine.execRefclkLock s
  | .refclkLost => Sys2Proof.Machine.execRefclkLost s
  | .syncEdge phase width periodOff => Sys2Proof.Machine.execSyncEdge phase width periodOff s
  | .syncLost => Sys2Proof.Machine.execSyncLost s
  | .safenLow p => Sys2Proof.Machine.execSafenLow p s
  | .reflexTrigger p j => Sys2Proof.Machine.execReflexTrigger p j s
  | .counterEdge p ix sa sb => Sys2Proof.Machine.execCounterEdge p ix sa sb s
  | .dlDriveEdge m level => Sys2Proof.Machine.execDlDriveEdge m level s
  | .dlPermitLow m => Sys2Proof.Machine.execDlPermitLow m s
  | .dlLost m => Sys2Proof.Machine.execDlLost m s
  | .dlWakeEdge m rising => Sys2Proof.Machine.execDlWakeEdge m rising s
  | .hailSlot v => Sys2Proof.Machine.execHailSlot v s
  | .hailPulseEnd q => Sys2Proof.Machine.execHailPulseEnd q s
  | .hailSlotEnd lo hi => Sys2Proof.Machine.execHailSlotEnd lo hi s
  | .overcurrent o => Sys2Proof.Machine.execOvercurrent o s
  | .thermalShutdown q => Sys2Proof.Machine.execThermalShutdown q s
  | .thermalCooled q => Sys2Proof.Machine.execThermalCooled q s
  | .retryReload q => Sys2Proof.Machine.execRetryReload q s
  | .reverseBlock q => Sys2Proof.Machine.execReverseBlock q s
  | .reverseRelease q => Sys2Proof.Machine.execReverseRelease q s
  | .pwmPeriod n iRaw vf => Sys2Proof.Machine.execPwmPeriod n iRaw vf s
  | .pqTrip n thermal => Sys2Proof.Machine.execPqTrip n thermal s
  | .analogSample n bits cks sats => Sys2Proof.Machine.execAnalogSample n bits cks sats s
  | .refWindow p w => Sys2Proof.Machine.execRefWindow p w s
  | .refStuck p => Sys2Proof.Machine.execRefStuck p s
  | .shuntTrip n => Sys2Proof.Machine.execShuntTrip n s
  | .shuntReclose n => Sys2Proof.Machine.execShuntReclose n s
  | .excLimit p => Sys2Proof.Machine.execExcLimit p s
  | .sagAssert p c => Sys2Proof.Machine.execSagAssert p c s
  | .sagRelease p c => Sys2Proof.Machine.execSagRelease p c s
  | .vfOverSet p => Sys2Proof.Machine.execVfOverSet p s
  | .vfOverClear p => Sys2Proof.Machine.execVfOverClear p s
  | .logicStop p => Sys2Proof.Machine.execLogicStop p s
  | .pontoonRestart p => Sys2Proof.Machine.execPontoonRestart p s
  | .powerOn => Sys2Proof.Machine.execPowerOn s
  | .rstnPin => Sys2Proof.Machine.execRstnPin s
  | .vddLow => Sys2Proof.Machine.execVddLow s
  | .quayCheck => Sys2Proof.Machine.execQuayCheck s
  | .tapReset => Sys2Proof.Machine.execTapReset s
  | .testenHigh => Sys2Proof.Machine.execTestenHigh s
  | .testenLow => Sys2Proof.Machine.execTestenLow s
  | .mooredWake w => Sys2Proof.Machine.execMooredWake w s
  | .start => Sys2Proof.Machine.execStart s
  | .addrLatch a1 a0 => Sys2Proof.Machine.execAddrLatch a1 a0 s
  | .vddioLow => Sys2Proof.Machine.execVddioLow s
  | .vddioReturn => Sys2Proof.Machine.execVddioReturn s
  | .tidesStop => Sys2Proof.Machine.execTidesStop s
  | .selFall p => Sys2Proof.Machine.execSelFall p s
  | .inputLevelChange p ix samples => Sys2Proof.Machine.execInputLevelChange p ix samples s
  | .tollKeeperEnabled => Sys2Proof.Machine.execTollKeeperEnabled s
  | .tollKeeperDisabled => Sys2Proof.Machine.execTollKeeperDisabled s
  | .mooringDomainLost => Sys2Proof.Machine.execMooringDomainLost s
  | .dlCarrierReturn m => Sys2Proof.Machine.execDlCarrierReturn m s

end Sys2Proof.Machine
end

