-- ==== Sys2Proof/Safety.lean ====
section
/-! DEFINITION. What a safe state is, and the vocabulary of the statements: which parts of the state a command may change. -/

namespace Sys2Proof.Machine

/-! ### Invariants -/

/-- The depths of the command, toll and record slips (R27). -/
def State.slipsOk (s : State) : Bool :=
  decide (s.hpa.slipA.length ≤ 2) && decide (s.hpa.slipB.length ≤ 2)
  && decide (s.hpb.slipA.length ≤ 2) && decide (s.hpb.slipB.length ≤ 2)
  && decide (s.hpa.toll.length ≤ 8) && decide (s.hpb.toll.length ≤ 8)
  && decide (s.com.slipA.length ≤ 8) && decide (s.com.slipB.length ≤ 8) && decide (s.com.slipQ.length ≤ 4)

/-- Ticks that rise or stand, none above m. -/
def ticksOk : List Nat → Nat → Bool
  | [], _ => true
  | a :: l, m => decide (a ≤ m) && l.all (fun b => decide (a ≤ b)) && ticksOk l m

/-- The check-ins in the toll slips stand in the order of their ticks, none later than the present one (R25). -/
def State.tollOrder (s : State) : Bool :=
  ticksOk (s.hpa.toll.map (·.tick)) s.rst.tick && ticksOk (s.hpb.toll.map (·.tick)) s.rst.tick

/-- Both banks are in canonical form: their addresses rise and lie in the bank of R434. -/
def State.banksOk (s : State) : Bool := s.nvmA.wf && s.nvmB.wf

/-! ### Frames: a state that differs from another in the parts named only -/

/-- Only the timebase differs. -/
def OnlyTb (s t : State) : Prop := t = { s with tb := t.tb }

/-- Only pontoon p differs. -/
def OnlyPont (p : Fin 4) (s t : State) : Prop := t = { s with ponts := s.ponts.set p (t.pont p) }

/-- Only helm h differs. -/
def OnlyHelm (h : HelmId) (s t : State) : Prop := t = s.modHelm h (fun _ => t.helm h)

/-- Nothing but the helms, the windows' RC fields, the bell and the record slip of the Quay differs: what a stamped event of
the Quay and its record may touch. -/
def OnlyNotes (s t : State) : Prop :=
  t = { s with helmA := t.helmA, helmB := t.helmB, win := t.win, bell := t.bell, com := t.com }

/-! ### What an event of the Quay leaves -/

/-- A record of a Quay source stands last in its slip, where the slip has room and hold-up has not begun (R27, R446). -/
def Noted (s t : State) (r : Rec) : Prop :=
  s.com.holdUp = false → s.com.slipQ.length < 4 → t.com.slipQ = s.com.slipQ ++ [r]

/-- A helm has queued a record and offered its queue to its slip of 8 (R27): unless its queue of 64 was full, the record stands
last in what its slip and queue then hold. -/
def State.Offers (s t : State) (h : HelmId) (r : Rec) : Prop :=
  (s.helm h).recQ.length < 64 → t.com.slip h ++ (t.helm h).recQ = s.com.slip h ++ (s.helm h).recQ ++ [r]

/-- Every helm in service, and no other, has received a stamped event (R60, R186). -/
def Received (s t : State) (at_ : Stamp) (e : Ev) : Prop :=
  ∀ h, (t.helm h).hs.evs = (s.helm h).hs.evs ++ (if (s.helm h).svc.inService = true then [{ at_ := at_, ev := e }] else [])

/-- A cause of the bell waits for the landing, or is set at once where no landing runs (R128). -/
def Rung (s t : State) (k : Nat) : Prop :=
  t.bell = if s.landingsRun = true then { s.bell with raised := s.bell.raised ||| oneBit k }
    else { s.bell with cause := s.bell.cause ||| oneBit k }

/-- As `Rung`, for a cause that the passage raises which applies the event (R128). -/
def RungByEvent (s t : State) (k : Nat) : Prop :=
  t.bell = if s.landingsRun = true then s.bell else { s.bell with cause := s.bell.cause ||| oneBit k }

/-- Whether a count of a window lies within C/400, rounded down, of C (R39). -/
def NearC (c : Int) (n : Nat) : Prop := ((n : Int) - c).natAbs ≤ c.toNat / 400

/-- The window after an event of an RC field outside the passages: counted at the next landing, or at once where no landing runs
(R72). -/
def State.winWith (s : State) (addr lo : Nat) (amount : Int := 1) : Window :=
  if s.landingsRun = true then { s.win with pend := s.win.pend ++ [⟨⟨addr, lo⟩, amount⟩] }
  else s.win.count ⟨⟨addr, lo⟩, amount⟩

/-- The toll keeper has expired at tick te, in the crossing and stroke given (R419 to R421): the pulse runs with the length and polarity in force, the
reset-cause record and the WD_EXPIRY record say why, the bell and the helms in service learn it, and no die is reset. The
pulse begins no later than te + 2 and lasts its full length from there (log entry 24, DESIGN CHOICE). -/
def ExpiredAt (s t : State) (te : Nat) (at_ : Stamp) (sub : BitVec 4) (task port : Nat) (param : Word) : Prop :=
  t.toll.st = .pulse ∧ t.toll.pulsePol = s.toll.cur.pol
  ∧ te ≤ t.toll.pulseAt ∧ t.toll.pulseAt ≤ te + 2
  ∧ (1 ≤ s.toll.cur.pulse → t.toll.pulseEnd = t.toll.pulseAt + (s.toll.cur.pulse * 32768 + 999) / 1000)
  ∧ t.toll.checked = 0 ∧ t.toll.lastSub = sub ∧ t.toll.lastTask = BitVec.ofNat 3 task ∧ t.toll.lastAt = at_.crossing
  ∧ (s.toll.wdp ≠ .hiz → t.toll.wdp = .active) ∧ t.toll.cur = s.toll.cur ∧ t.toll.enabled = s.toll.enabled
  ∧ t.rst.cause = 8 ∧ t.rst.sub = sub ∧ t.rst.task = BitVec.ofNat 3 task ∧ t.rst.count = min 4095 (s.rst.count + 1)
  ∧ t.rst.atC = at_.crossing ∧ t.rst.atS = at_.stroke ∧ t.rst.atT = te
  ∧ Noted s t ⟨at_, 9, clsFault, 0x003,
      wd (sub.toNat * 2 ^ 20 + port * 2 ^ 18 + s.toll.cur.roster.toNat * 256 + s.toll.checked.toNat), param, wd te⟩
  ∧ ((∃ h, (s.helm h).svc.inService = true) → Received s t at_ .tollExpiry)
  ∧ ((∀ h, (s.helm h).svc.inService = false) → t.toll.expPend = s.toll.expPend ++ [at_])
  ∧ RungByEvent s t bellToll
  ∧ t = { s with toll := t.toll, rst := t.rst, com := t.com, win := t.win, bell := t.bell, helmA := t.helmA,
                 helmB := t.helmB }

/-- Settings that wait come into force with the next window (R430). -/
def Toll.nextCur (t : Toll) : TkSet :=
  match t.pend with
  | some (c, _) => c
  | none => t.cur

/-- Only the ports' front ends, what their frames bring the helms and the check units, and the RC fields differ. -/
def OnlyFront (s u : State) : Prop :=
  u = { s with hpa := u.hpa, hpb := u.hpb, helmA := u.helmA, helmB := u.helmB, win := u.win, nextId := u.nextId,
               cus := u.cus, snooped := u.snooped }
  ∧ ∀ h, (u.helm h).svc = (s.helm h).svc ∧ (u.helm h).hs = { (s.helm h).hs with evs := (u.helm h).hs.evs }

/-- A frame stands last in the command slip of a port to every helm in service, and in no other (R28). -/
def EnteredIn (s u : State) (p : Port) (e : Entered) : Prop :=
  (u.port p).slipA = (s.port p).slipA ++ (if s.helmA.svc.inService = true then [e] else [])
  ∧ (u.port p).slipB = (s.port p).slipB ++ (if s.helmB.svc.inService = true then [e] else [])

/-- Nothing has entered the command slips of a port. -/
def NotEntered (s u : State) (p : Port) : Prop :=
  (u.port p).slipA = (s.port p).slipA ∧ (u.port p).slipB = (s.port p).slipB

/-- A port within a select period that has brought no whole frame yet. -/
def State.receiving (s : State) (p : Port) : Prop :=
  s.portOn = true ∧ (s.port p).sel = true ∧ (s.port p).done = false

/-- The reply slot of a UL2 frame holds the front end's own reply (R112). -/
def OwnReply (s u : State) (p : Port) (st : Status) (echo : Byte) (eff : Word) : Prop :=
  (u.port p).due = some (.raw (s.ul2Bytes ⟨st, echo, eff, [], none⟩) none)

/-- The dies of the logic side stand at their after-reset values, the crossing being held; a swap that has not proven itself stays in
mind (R471); the pontoons, but for the judgement of R322 that a reset ends and the beat slips of the ports, and the pins stay. -/
def AfterReset (s t : State) : Prop :=
  t.helmA = { swapped := s.helmA.swapped } ∧ t.helmB = { swapped := s.helmB.swapped } ∧ t.holder = none ∧ t.mode = .unreported ∧ t.hpa = {} ∧ t.hpb = {}
  ∧ t.win = {} ∧ t.now = s.now ∧ t.tb.counting = false ∧ t.rst.started = false ∧ t.rst.addr = none
  ∧ t.ponts = s.ponts.map (fun x => x.forgetJudge.noBeats) ∧ t.lanes = s.lanes ∧ t.rst.vddio = s.rst.vddio ∧ t.rst.tick = s.rst.tick

/-- A reset-class event in the reset-cause record (R181). -/
def CauseRecorded (s t : State) (cause sub : BitVec 4) : Prop :=
  t.rst.cause = cause ∧ t.rst.sub = sub ∧ t.rst.task = 0 ∧ t.rst.count = min 4095 (s.rst.count + 1)
  ∧ t.rst.atC = s.tb.crossing ∧ t.rst.atS = s.tb.stroke ∧ t.rst.atT = s.rst.tick
  ∧ t.rst.prev = BitVec.ofNat 12 (s.rst.cause.toNat * 256 + s.rst.sub.toNat * 16 + s.rst.task.toNat * 2)

/-- The landed values, the counters and the analog side of a pontoon stay. -/
def Pont.sameValues (x y : Pont) : Prop :=
  (∀ i : Fin 8, y.outs[i].landed = x.outs[i].landed) ∧ y.cts = x.cts ∧ y.ais = x.ais ∧ y.grp = x.grp ∧ y.setup = x.setup

/-- An output that differs from another only in the note of its switch (R252). -/
def OutSt.upToSwitch (a b : OutSt) : Prop := a = { b with swOn := a.swOn, swAt := a.swAt }

/-- A pontoon that differs from another only in the notes of its switches (R252). -/
def Pont.upToSwitch (x y : Pont) : Prop :=
  x = { y with outs := x.outs } ∧ ∀ i : Fin 8, x.outs[i].upToSwitch y.outs[i]

/-! ### Host commands -/

/-- The service states have come about as every helm that computes passages has decided them. -/
def State.settled (s : State) : Prop :=
  ∀ g, (s.helm g).svc.computes = true → ∀ x, (s.hsOf g).red.svc x = (s.helm x).svc

/-- How the row of tag t is applied at helm h: with the stamp of the frame that waits for it, or as a stand-in (R56, R58). -/
def State.ctxOf (s : State) (h : HelmId) (t : Tag) : Ctx :=
  match s.waiting h t with
  | some e => ⟨h, s.tb.crossing, e.at_.landing, t, e.id, e.at_, e.moved⟩
  | none => ⟨h, s.tb.crossing, s.tb.crossing, t, s.nextId, ⟨s.tb.crossing, 0⟩, {}⟩

/-- Every helm that computes passages has begun that of the crossing that stands, in which a command is applied (R56, R61; log entry 23,
DESIGN CHOICE). -/
def State.underWay (s : State) : Prop := ∀ g, (s.helm g).svc.computes = true → (s.helm g).begun = some s.tb.crossing

/-- A host command executes at helm h: conditions on the state and the operands alone. The device is live, the passages of its crossing have
begun, h computes passages, and the checks of R132 in their order (parameters, length, role, mode, authority) let the command pass. -/
def State.takes (s : State) (h : HelmId) (t : Tag) (c : Cmd) : Prop :=
  s.live = true ∧ s.settled ∧ s.underWay ∧ (s.helm h).svc.computes = true ∧ s.checkCmd (s.ctxOf h t) c = none

/-- Helm h, and no other that computes passages, makes the changes outside the helm states. -/
def State.soleActor (s : State) (h : HelmId) : Prop :=
  s.acts h = true ∧ ((s.helm (otherHelm h)).svc.computes = true → s.acts (otherHelm h) = false)

/-- The replies of helm h that wait for the reply slip of the port of t have gained exactly the reply that an answer gives, last; the
helm's background work offers it to the slip. The reply of a command that has been given before is not repeated, and UL1 has none (R27,
R29, R51, R68, R100). -/
def Answered (s u : State) (h : HelmId) (t : Tag) (c : Cmd) (a : Ans) : Prop :=
  let k := s.ctxOf h t
  (u.helm h).waiting t.port = (s.helm h).waiting t.port
    ++ (if k.moved.silent = true ∨ t.gen = .ul1 then [] else [(k.id, a.reply c k)])
  ∧ (u.helm h).slip t.port = (s.helm h).slip t.port

/-- A helm state that differs from another only in what every row of a command brings along: the frames that wait, the held
replies, the ports heard, and the mode words settled anew. -/
def HelmState.like (a b : HelmState) : Prop :=
  a = { b with cmds := a.cmds, heldA := a.heldA, heldB := a.heldB, heard := a.heard, modes := a.modes }

/-- A host command has run at helm h: its effect on the helm state there, and its answer, unless that comes later (R324, R355). -/
def State.Ran (s u : State) (h : HelmId) (t : Tag) (c : Cmd) : Prop :=
  let r := s.doCmd (s.ctxOf h t) c
  (u.hsOf h).like (r.1.hsOf h)
  ∧ if r.2.later = true then (u.helm h).slip t.port = (s.helm h).slip t.port ∧ (u.helm h).waiting t.port = (s.helm h).waiting t.port
    else Answered s u h t c r.2

/-- Nothing differs but the helms, the ports' front ends, the bell and the number of the next frame. -/
def OnlyHelmSide (s u : State) : Prop :=
  u = { s with helmA := u.helmA, helmB := u.helmB, hpa := u.hpa, hpb := u.hpb, bell := u.bell, nextId := u.nextId }

/-- The mode, the one before it, its cause and since when, and the notes of SINGLE-HANDED are alike (R385). -/
def ModeSt.same (a b : ModeSt) : Prop :=
  a.mode = b.mode ∧ a.prev = b.prev ∧ a.cause = b.cause ∧ a.since = b.since ∧ a.shHelm = b.shHelm ∧ a.shPont = b.shPont

/-- No mode change is in the making at helm g: settled once more, as every row of a command does, the mode stays as it is, with no
record and no bell cause (R387). -/
def State.modeStands (s : State) (g : HelmId) : Prop :=
  let t := (s.openMode g s.tb.crossing).settleMode g s.tb.crossing
  (t.hsOf g).modes.same (s.hsOf g).modes ∧ t.bell = s.bell ∧ (t.helm g).shared = (s.helm g).shared

/-- What a row of a command of tag t brings along whatever the command does, and nothing else: the waiting frame is taken from the
slips of its port and noted, its reply joins those of the port, and the next frame has the next number. The bell, the modes, the other
port and a helm that computes no passages stay (R28, R132). -/
def State.BareRow (s u : State) (t : Tag) : Prop :=
  OnlyHelmSide s u ∧ u.bell = s.bell ∧ u.nextId = s.nextId + 1 ∧ u.port (otherPort t.port) = s.port (otherPort t.port)
  ∧ u.port t.port = { s.port t.port with slipA := (u.port t.port).slipA, slipB := (u.port t.port).slipB }
  ∧ ∀ g, ((s.helm g).svc.computes = false → u.helm g = s.helm g)
    ∧ ((s.helm g).svc.computes = true → (u.hsOf g).like (s.hsOf g) ∧ (u.hsOf g).modes.same (s.hsOf g).modes
      ∧ (u.helm g).slip (otherPort t.port) = (s.helm g).slip (otherPort t.port)
      ∧ (u.helm g).waiting (otherPort t.port) = (s.helm g).waiting (otherPort t.port)
      ∧ u.helm g = { s.helm g with
          hs := (u.helm g).hs, lastCmds := (u.helm g).lastCmds, resync := {}, waitA := (u.helm g).waitA, waitB := (u.helm g).waitB })

end Sys2Proof.Machine
end

