-- ==== Sys2Proof/Certificates/Slice0/Obligations.lean ====
section
/-! DEFINITION. The statements for the provers. -/

section Slice0Obligations

open Sys2Proof Sys2Proof.Machine

/-! ### The queue and the state after reset -/

/-- A step is the front command, carried out with the queue's rest. -/
def Obligations.StepRunsTheFront : Prop :=
  ∀ (c : Instr) (s : State), step { s with pending := c :: s.pending } = exec c s

/-- On an empty queue the block idles: one mooring tick passes and nothing else changes (the model's choice: log entry 9), but that the
toll keeper, while a window or a pulse runs, keeps the crossing and stroke of the tick (R419); but in MOORED a wake source that has come
wakes the device, by a reset with its cause (R390, R459). -/
def Obligations.EmptyQueueTicks : Prop :=
  ∀ s : State, s.pending = [] →
    let u : State := { s with rst := { s.rst with tick := s.rst.tick + 1 }, toll := s.toll.noteTick (s.rst.tick + 1) s.now }
    (s.live = false ∨ s.mode ≠ .moored ∨ s.rst.wakeSub = none → step s = .next u)
    ∧ u.toll = { s.toll with stamps := u.toll.stamps }
    ∧ (s.toll.st = .idle ∨ s.toll.st = .mooring → u.toll.stamps = [])
    ∧ (s.toll.st ≠ .idle → s.toll.st ≠ .mooring → u.stampAt (s.rst.tick + 1) = s.now
        ∨ ∃ e ∈ s.toll.stamps, s.rst.tick + 1 < e.1)
    ∧ (∀ c, s.live = true → s.mode = .moored → s.rst.wakeSub = some c → s.slipsOk = true →
        ∃ t, step s = .next t ∧ AfterReset u t ∧ CauseRecorded u t 7 c ∧ t.bell.cause = 0x820000)

/-- After POWER_ON: the values of the tables of R42 (TIDE_STATUS), R126 (bell causes and mask), R178 and R181 (the
reset-cause record), R180 (both helms STARTING) and R432 (the toll keeper IDLE), and a slip with nothing in it. -/
def Obligations.ResetValues : Prop :=
  State.reset.tideStatus = 0x0E0000 ∧ State.reset.bell.cause = 0x800000 ∧ State.reset.bell.mask = 0xFFFE00
    ∧ State.reset.rst.cause = 1 ∧ State.reset.rst.sub = 0 ∧ State.reset.rst.count = 1 ∧ State.reset.rst.prev = 0
    ∧ State.reset.helmA.svc = .starting ∧ State.reset.helmB.svc = .starting ∧ State.reset.holder = none
    ∧ State.reset.toll.st = .idle ∧ State.reset.toll.wdp = .hiz ∧ State.reset.pending = []
    ∧ State.reset.slipsOk = true ∧ State.reset.banksOk = true

/-! ### Strokes and tides (R35 to R43) -/

/-- STROKE (R35): with the counter running, the stroke advances by one of 256, the crossing with it after stroke 255, and a
stroke token enters each helm's stroke slip of depth 4 or is lost (R27). A FOLLOW that steps stays at stroke 255 (R77; that it holds
that stroke until the edge is log entry 32, DEDUCED), and so does a device that goes to MOORED (R389): only the count of time gone by
goes on, as it does before the counter runs (R36), and without a tide, while the pontoons' regenerators hold their frequency (R43;
log entry 32, DEDUCED). The
first stroke starts the count at stroke 0. Outside stroke 240 the helm states, the banks, the pontoons and the bell stay. At
stroke 0 a LEAD drives its pulse (R76); at stroke 32 a helm in service takes the reports of the crossing from its slips (R31).

BEAT_TOKEN (R43, R186): every pontoon's gangway of a helm that sends beats takes the token with the mark that stands, a
slip of depth 2 loses one over it (R27), and the mark is then plain. The beats are numbered, so that a pontoon can tell which beats of its
two gangways are the same one.

Stroke 240 (R55, R61, R67, R68, R128): the landing at the Quay, once the reads asked of the general ports are served (R456). When the
passage of the crossing is kept, the bell takes the causes raised and asked for and loses the cleared ones, the mode and the holder are
the ones the leading helm reports, and what the passage asked for outside the helm states takes effect: the words for the banks are written
in their order, each to the banks that it names; the setups go to the pontoons that run and are loaded; the toll keeper's settings are
pending and its enable stands (R430); the restarts of check units are made in their order (R457, R58); the mark and the decimator reset are
set (R79); a flag whose clear was written reads 0 unless it was set since the landing before (R146); the clearings of the first-fault area
are handed to the commit engine. When the Quay does not keep it, none of this happens and what was asked for waits until the helms judge
the passage; the causes the Quay has raised are set all the same. RC events since the landing before are counted either way (R72), and a
check unit shows its result of this landing. How the Quay knows whether the passage is kept, that these effects wait for the landing, and
what becomes of those of a passage that it does not keep, is log entry 43 (DEDUCED).

RC fields (R147; what counts as an event of a field, and that the helms clear by what they counted, is log entry 14, DEDUCED). An
event adds to a count, no further than its limit. The clear that a reply sent in full brings takes a count down by the value returned, to
no less than 0; a count that was at its limit when read, or has reached it again since the snapshot, restarts from the events since;
the other fields stay, and the reading needs no notes any more. -/
def Obligations.StrokesAndLandings : Prop :=
  (∀ s : State,
    let runs := s.live = true ∧ s.rst.started = true ∧ s.rst.firstGiven = true
    let holds := (s.tb.stepping = true ∨ s.moorHeld = true) ∧ s.tb.counting = true ∧ s.tb.stroke = 255
    (s.tb.tides = false ∨ s.tb.ts = .dead ∨ ¬runs ∨ holds → exec .stroke s
        = .next { s with tb := { s.tb with age := s.tb.age + s.tb.strokeTide } })
    ∧ (s.tb.tides = true → s.tb.ts ≠ .dead → runs → ¬holds → ∃ t, exec .stroke s = .next t
      ∧ t.tb.counting = true
      ∧ t.now = (if s.tb.counting = false then ⟨s.tb.crossing, 0⟩
          else if s.tb.stroke < 255 then ⟨s.tb.crossing, s.tb.stroke + 1⟩ else ⟨s.tb.crossing + 1, 0⟩)
      ∧ t.hpa = s.hpa ∧ t.hpb = s.hpb
      ∧ (∀ h, (t.helm h).strokeSlip = ((s.helm h).strokeSlip ++ [t.now]).take (max 4 (s.helm h).strokeSlip.length))
      ∧ (t.tb.stroke ≠ 240 → t = { s with tb := t.tb, helmA := t.helmA, helmB := t.helmB }
          ∧ ∀ h, (t.helm h).hs = (s.helm h).hs ∧ (t.helm h).svc = (s.helm h).svc)
      ∧ (t.tb.stroke = 0 → t.tb.mark = .sounding
          ∧ (s.syncRole = 1 → s.rst.vddio = true → t.tb.syncOut = if s.tb.markAt = some t.tb.crossing then 4000 else 1000))
      ∧ (t.tb.stroke = 32 → ∀ h, (s.helm h).svc.inService = true → ∀ p : Fin 4, (t.helm h).repSlips[p] = []
          ∧ (t.helm h).reports[p] = (s.helm h).repSlips[p].find? (fun r => r.crossing = t.tb.crossing))))
  ∧ (∀ s : State, s.live = true → s.tb.tides = true → s.tb.counting = true → ∃ t, exec .beatToken s = .next t
    ∧ t = { s with tb := { s.tb with mark := .plain, beatNo := s.tb.beatNo + 1 }, ponts := t.ponts }
    ∧ ∀ p, (t.pont p).gwA.slip = (if s.helmA.svc.beats = true then
              ((s.pont p).gwA.slip ++ [(⟨s.tb.mark, s.tb.beatNo + 1⟩ : Beat)]).take (max 2 (s.pont p).gwA.slip.length) else (s.pont p).gwA.slip)
        ∧ (t.pont p).gwB.slip = (if s.helmB.svc.beats = true then
              ((s.pont p).gwB.slip ++ [(⟨s.tb.mark, s.tb.beatNo + 1⟩ : Beat)]).take (max 2 (s.pont p).gwB.slip.length) else (s.pont p).gwB.slip)
        ∧ t.pont p = { s.pont p with gwA := (t.pont p).gwA, gwB := (t.pont p).gwB })
  ∧ (∀ s : State, s.live = true → s.tb.tides = true → s.tb.ts ≠ .dead → s.rst.started = true → s.rst.firstGiven = true →
    s.tb.counting = true → s.tb.stroke = 239 → s.helmA.closing = false → s.helmB.closing = false →
    let n := s.tb.crossing
    let r := s.serveReads
    let put (b : Bank) (l : List NvmDue) : Bank := l.foldl (fun b d => b.writes d.addr d.words) b
    let flag (f was : Bool) (k : Nat) : Prop := f = true ↔ was = true ∧ (s.tb.w1c.getLsbD k = false ∨ s.tb.fresh.getLsbD k = true)
    ∃ t, exec .stroke s = .next t ∧ t.tb.mark = .landing ∧ t.now = ⟨n, 240⟩ ∧ t.bell.raised = 0 ∧ t.tb.fresh = 0
      ∧ t.win = { s.win.pend.foldl Window.count s.win with pend := [] }
      ∧ (∀ h, (t.helm h).links.nvmSlip = [] ∧ (t.helm h).links.nvmWait = [])
      ∧ (s.keeps n = true →
          t.bell.cause = (s.bell.cause &&& ~~~s.bell.cleared) ||| s.bell.raised ||| s.bell.due ∧ t.bell.due = 0
          ∧ t.bell.cleared = 0 ∧ t.bell.maskTo = none ∧ t.keptAt = some n
          ∧ t.bell.mask = s.bell.maskTo.getD s.bell.mask ∧ t.com = { s.com with ffClear := s.com.ffClear ++ s.com.ffDue, ffDue := [] }
          ∧ (∀ h, s.leader = some h → t.mode = (s.helm h).hs.modes.mode ∧ t.holder = some h ∧ t.rst.landed = true)
          ∧ t.nvmDue = [] ∧ t.nvmA = put s.nvmA (s.nvmDue.filter (·.toA)) ∧ t.nvmB = put s.nvmB (s.nvmDue.filter (·.toB))
          ∧ t.setups = none
          ∧ (s.setups = none → t.ponts = s.ponts)
          ∧ (∀ ch, s.setups = some ch → ∀ p, t.pont p = (if (s.pont p).running = true ∧ (s.pont p).loaded = true
              then { s.pont p with nextSetup := some (n, ch) } else s.pont p))
          ∧ (∀ d, s.toll.due.or s.toll.first = some d →
              t.toll = { s.toll with pend := some (d.set, d.src), enabled := d.enabled, due := none, first := none })
          ∧ (s.toll.due.or s.toll.first = none → t.toll = s.toll)
          ∧ t.cuOps = s.cuOps.filter (fun o => n < o.at_)
          ∧ (∀ k : Fin 4, t.cus[k] = (((s.cuOps.filter (fun o => o.at_ ≤ n ∧ o.unit = k.val)).foldl
              (fun u o => o.apply u r.snooped) r.cus[k]).land n))
          ∧ t.tb.markAt = s.tb.markDue.or s.tb.markAt ∧ t.tb.decimAt = s.tb.decimDue.or s.tb.decimAt
          ∧ t.tb.markDue = none ∧ t.tb.decimDue = none ∧ t.tb.w1c = 0
          ∧ flag t.tb.refLost s.tb.refLost 0 ∧ flag t.tb.syncLost s.tb.syncLost 1 ∧ flag t.tb.syncMismatch s.tb.syncMismatch 2
          ∧ flag t.tb.markSeen s.tb.markSeen 3)
      ∧ (s.keeps n = false → t.bell = { s.bell with cause := s.bell.cause ||| s.bell.raised, raised := 0 }
          ∧ t.mode = s.mode ∧ t.nvmA = s.nvmA ∧ t.nvmB = s.nvmB ∧ t.com = s.com ∧ t.ponts = s.ponts ∧ t.toll = s.toll
          ∧ t.nvmDue = s.nvmDue ∧ t.setups = s.setups ∧ t.cuOps = s.cuOps ∧ t.keptAt = s.keptAt
          ∧ (∀ k : Fin 4, t.cus[k] = (r.cus[k]).land n)
          ∧ t.tb.w1c = s.tb.w1c ∧ t.tb.markDue = s.tb.markDue ∧ t.tb.decimDue = s.tb.decimDue ∧ t.tb.markAt = s.tb.markAt
          ∧ t.tb.decimAt = s.tb.decimAt ∧ t.tb.refLost = s.tb.refLost ∧ t.tb.syncLost = s.tb.syncLost
          ∧ t.tb.syncMismatch = s.tb.syncMismatch ∧ t.tb.markSeen = s.tb.markSeen))
  ∧ (∀ (w : Window) (k : RcKey) (lim : Nat), rcKind k = .count lim →
    let val (w : Window) : Int := (w.rcGet k.addr k.lo).getD 0
    (∀ n, val (w.count ⟨k, n⟩) = min (lim : Int) (val w + n))
    ∧ (∀ (j : RcKey) (n : Int), j ≠ k → val (w.count ⟨j, n⟩) = val w)
    ∧ (∀ (id : Nat) (t : RcTag) (v : Int), w.tags.find? (fun t => t.id = id) = some t → t.base = [(k, v)] →
        val (w.clearRead id) = (if v = lim ∨ (assocGet t.since k).getD 0 = lim then (assocGet t.since k).getD 0 else max 0 (val w - v))
        ∧ (w.clearRead id).tags = w.tags.filter (fun u => u.id ≠ id)
        ∧ w.clearRead id = { w with rc := (w.clearRead id).rc, tags := (w.clearRead id).tags }
        ∧ ∀ j, j ≠ k → (w.clearRead id).rcGet j.addr j.lo = w.rcGet j.addr j.lo)
    ∧ ∀ id, (∀ t ∈ w.tags, t.id ≠ id) → w.clearRead id = w)

/-- The cross-check of the tides (R38, R39): a difference above 327 counts leaves AGREE for ARBITRATE; otherwise the state
stays. C takes the last 16 windows in AGREE while the tides agree within 0.1 %, and is frozen otherwise. Only the timebase
changes.

TIDE_ARBITRATION (R39, R40; how the agreement within 0.1 % is measured, and that C runs on at once, is log entry 44, DESIGN
CHOICE): exactly one count within C/400 of C keeps that tide and discards the other; both, with the
tides agreeing, end the arbitration; anything else repeats it, the third time in succession to SPLIT. -/
def Obligations.TideChecks : Prop :=
  (∀ (s : State) (n : Nat), s.live = true → s.tb.both = true →
    (∃ t, exec (.tideCrossCheck n) s = .next t ∧ OnlyTb s t
      ∧ t.tb.ts = (if s.tb.ts = .agree ∧ (n + 327 < 65536 ∨ 65536 + 327 < n) then .arbitrate 0 else s.tb.ts)
      ∧ (n = 65536 → t.tb.diff = 0)
      ∧ (t.tb.close = true ↔ (n - 65536 ≤ 65 ∧ 65536 - n ≤ 65))
      ∧ t.tb.cWin = s.tb.cWin ∧ t.tb.selB = s.tb.selB ∧ t.now = s.now)
    ∧ (s.tb.ts = .agree → s.tb.close = true → exec (.tideCalibrationWindow n) s
        = .next { s with tb := { s.tb with cWin := (n :: s.tb.cWin).take 16 } })
    ∧ ((s.tb.ts ≠ .agree ∨ s.tb.close = false) → exec (.tideCalibrationWindow n) s = .next s))
  ∧ (∀ (s : State) (a b : Nat), s.live = true → s.tb.both = true →
    let c := s.tb.c
    let one := (NearC c a ∧ ¬NearC c b) ∨ (¬NearC c a ∧ NearC c b)
    let agree := NearC c a ∧ NearC c b ∧ ((a : Int) - b).natAbs * 1000 ≤ a
    ((∃ r, s.tb.ts = .arbitrate r) ∨ s.tb.ts = .split → one → ∃ t, exec (.tideArbitration a b) s = .next t
      ∧ OnlyNotes { s with tb := t.tb } t ∧ Noted s t ⟨s.now, 8, clsFault, 0x005, 0, t.tideStatus, 0⟩
      ∧ Received s t s.now .tideDiscard ∧ RungByEvent s t bellTide
      ∧ t.tb.ts = .single ∧ t.tb.unresolved = false ∧ (t.tb.selB = true ↔ NearC c b)
      ∧ (t.tb.aOk = true ↔ NearC c a) ∧ (t.tb.bOk = true ↔ NearC c b) ∧ t.now = s.now)
    ∧ (∀ r, s.tb.ts = .arbitrate r → agree → ∃ t, exec (.tideArbitration a b) s = .next t
      ∧ OnlyNotes { s with tb := t.tb } t ∧ Noted s t ⟨s.now, 8, clsWarn, 0x006, 0, t.tideStatus, 0⟩
      ∧ Received s t s.now .tideTransient ∧ t.tb = { s.tb with ts := .agree, unresolved := false, close := true })
    ∧ (∀ r, s.tb.ts = .arbitrate r → ¬one → ¬agree → r < 2 → exec (.tideArbitration a b) s
        = .next { s with tb := { s.tb with ts := .arbitrate (r + 1), unresolved := true } })
    ∧ (s.tb.ts = .arbitrate 2 → ¬one → ¬agree → ∃ t, exec (.tideArbitration a b) s = .next t
      ∧ OnlyNotes { s with tb := t.tb } t ∧ Noted s t ⟨s.now, 8, clsFault, 0x007, 0, t.tideStatus, 0⟩
      ∧ Received s t s.now .tideSplit ∧ RungByEvent s t bellTide
      ∧ t.tb = { s.tb with ts := .split, unresolved := true })
    ∧ (s.tb.ts = .split → ¬one → exec (.tideArbitration a b) s = .next s))

/-- TIDE_LOST and TIDE_RESTART (R39, R459): the loss of a tide in AGREE selects the other and is recorded; the loss of the
remaining one holds all dies in reset with cause TIDE_LOSS; a tide that runs again lets the device start. -/
def Obligations.TideLossAndRestart : Prop :=
  ∀ (s : State) (x : TideId),
    (s.live = true → s.tb.tides = true → s.tb.ts = .agree → ∃ t, exec (.tideLost x) s = .next t
      ∧ OnlyNotes { s with tb := t.tb } t ∧ Noted s t ⟨s.now, 8, clsFault, 0x004, 0, t.tideStatus, 0⟩
      ∧ t.tb.ts = .single ∧ (t.tb.selB = true ↔ x = .a) ∧ (x = .a → t.tb.aOk = false ∧ t.tb.bOk = s.tb.bOk)
      ∧ (x = .b → t.tb.bOk = false ∧ t.tb.aOk = s.tb.aOk) ∧ t.now = s.now)
    ∧ (s.live = true → s.tb.tides = true → s.tb.ts = .single → (s.tb.selB = true ↔ x = .b) →
      ∃ t, exec (.tideLost x) s = .next t ∧ t.live = false ∧ t.rst.held = true ∧ t.rst.cause = 4 ∧ t.tb.ts = .dead
        ∧ t.helmA = { swapped := s.helmA.swapped } ∧ t.helmB = { swapped := s.helmB.swapped } ∧ t.holder = none ∧ t.now = s.now
        ∧ t.nvmA = s.nvmA ∧ t.nvmB = s.nvmB ∧ t.ponts = s.ponts.map (fun x => x.forgetJudge.noBeats))
    ∧ (s.tb.ts = .dead → ∃ t, exec (.tideRestart x) s = .next t ∧ t.rst.held = false ∧ t.tb.ts = .agree
        ∧ t.tb.aOk = true ∧ t.tb.bOk = true ∧ (t.tb.selB = true ↔ x = .b) ∧ t.rst.cause = s.rst.cause
        ∧ (∀ h, (t.helm h).svc = (s.helm h).svc) ∧ t.ponts = s.ponts)
    ∧ (s.tb.ts ≠ .dead → exec (.tideRestart x) s = .next s)

/-- REFCLK (R37): locked while its use is enabled, with VDDIO or without (R474); lost, REFCLK_LOST is set, a record written, the bell rung and the event
passed to the helms. A reference not in use is neither.

SYNC at a FOLLOW (R77 to R79): a wrong period sets SYNC_MISMATCH; outside the running modes the first edge steps the
counter, which holds stroke 255 until the next (log entry 32, DEDUCED); a FOLLOW steps once after a reset and only steers from then on
(log entry 53, DESIGN CHOICE); later edges steer, lock after 16 within 1 us, and a wide edge is the marked pulse,
at whose sounding, that of the nearest stroke 0 (log entry 32, DEDUCED), the decimators are reset where the charter has it so, in a
pontoon that has taken that sounding already at once. No edge for 4 crossings is recorded and rings the bell. -/
def Obligations.ReferenceClockAndSync : Prop :=
  (∀ s : State, s.live = true →
    (s.tb.tides = true → bb (chBody s.inForce 0x02) 1 20 = true →
      exec .refclkLock s = .next { s with tb := { s.tb with refLocked := true } })
    ∧ (bb (chBody s.inForce 0x02) 1 20 = false → exec .refclkLock s = .next s ∧ exec .refclkLost s = .next s)
    ∧ (s.tb.refLocked = true → bb (chBody s.inForce 0x02) 1 20 = true → ∃ t, exec .refclkLost s = .next t
      ∧ OnlyNotes { s with tb := t.tb } t
      ∧ t.tb = { s.tb with refLocked := false, refLost := true, fresh := s.tb.fresh ||| 1 }
      ∧ Noted s t ⟨s.now, 8, clsWarn, 0x008, 0, t.tideStatus, 0⟩ ∧ Received s t s.now .refclkLost
      ∧ RungByEvent s t bellTide))
  ∧ (∀ (s : State) (ph : Int) (w off : Nat), s.live = true → s.tb.counting = true → s.syncRole = 2 →
    let c := s.edgeCrossing
    let decim := 2500 ≤ w ∧ bb (chBody s.inForce 0x02) 1 21 = true
    let marked (t : State) : Prop := t = { s with tb := t.tb, ponts := t.ponts } ∧ ∀ p,
      (decim → ∀ r, (s.pont p).report = some r → (s.pont p).running = true → r.crossing = c → (s.pont p).crossing = c →
        t.pont p = (s.pont p).soundResets p true)
      ∧ (¬decim ∨ (s.pont p).report = none ∨ (s.pont p).running = false ∨ (s.pont p).crossing ≠ c → t.pont p = s.pont p)
    (s.rst.vddio = true →
      (2000 < off → ∃ t, exec (.syncEdge ph w off) s = .next t
        ∧ t = { s with tb := t.tb, bell := t.bell, helmA := t.helmA, helmB := t.helmB }
        ∧ t.tb = { s.tb with syncMismatch := true, fresh := s.tb.fresh ||| 4 }
        ∧ (s.tb.syncMismatch = false → RungByEvent s t bellSync ∧ Received s t s.now (.cause bellSync)))
      ∧ (off ≤ 2000 → s.tb.stepped = false → s.mode.running = false → ¬(s.tb.stepping = true ∧ s.tb.stroke = 255) →
        ∃ t, exec (.syncEdge ph w off) s = .next t ∧ marked t ∧ t.tb.stepping = true ∧ t.now = s.now
          ∧ (2500 ≤ w → t.tb.markSeen = true))
      ∧ (off ≤ 2000 → s.tb.stepped = false → s.mode.running = false → s.tb.stepping = true → s.tb.stroke = 255 →
        ∃ t, exec (.syncEdge ph w off) s = .next t ∧ t.now = ⟨s.tb.crossing + 1, 0⟩ ∧ t.tb.stepping = false
          ∧ t.tb.stepped = true ∧ t.tb.decimAt = some (s.tb.crossing + 1))
      ∧ (off ≤ 2000 → (s.tb.stepped = true ∨ s.mode.running = true) →
        ∃ t, exec (.syncEdge ph w off) s = .next t ∧ marked t ∧ t.now = s.now
          ∧ (32768 < ph.natAbs * 1000 → t.tb.syncLocked = false ∧ t.tb.inLock = 0)
          ∧ (ph.natAbs * 1000 ≤ 16384 → t.tb.inLock = min 16 (s.tb.inLock + 1)
              ∧ (15 ≤ s.tb.inLock → t.tb.syncLocked = true))
          ∧ (t.tb.markSeen = true ↔ s.tb.markSeen = true ∨ 2500 ≤ w)
          ∧ (decim → t.tb.decimAt = some c) ∧ (¬decim → t.tb.decimAt = s.tb.decimAt)))
    ∧ ∃ t, exec .syncLost s = .next t ∧ OnlyNotes { s with tb := t.tb } t
      ∧ t.tb = { s.tb with syncLost := true, inLock := 0, stepping := false, fresh := s.tb.fresh ||| 2 }
      ∧ Noted s t ⟨s.now, 0xC, clsWarn, 0x009, 0, t.syncStatus, 0⟩ ∧ RungByEvent s t bellSync
      ∧ Received s t s.now (.cause bellSync))

/-! ### The toll keeper (R414 to R432) -/

/-- R414 and R415. Check-ins are taken in the order of their stamps, at one tick those of HPA before those of HPB and within a
port in the order received, and judged against the window at their tick by the first row that matches: IDLE or PULSE, not
judged and counted in IGNORED; KEY for a wrong key or task; EARLY in the closed part; DOUBLE for a task already in CHECKED;
otherwise the task's bit is set. After an expiry, a check-in with the same stamp is not judged. A check-in stamped at the closing tick
or later comes after the window's end; an expiry found then carries the crossing and stroke at which the closing tick fell (R419). What an
expiry does is R419 to R421; at which tick, te + 2 at the latest, its pulse begins is log entry 24 (DESIGN CHOICE). -/
def Obligations.CheckInVerdicts : Prop :=
  ∀ (s s' : State) (c : CheckIn),
    let k := s.toll
    let task := c.param.toNat % 16
    let keyOk := c.param.toNat / 16 = 0xC0A57 ∧ task ≤ 7 ∧ k.cur.roster.getLsbD task = true
    let port := portCode c.port
    let te := k.w + k.cur.closed + k.cur.opened
    let opened := k.st = .closed ∨ k.st = .opened
    let missing := k.cur.roster &&& ~~~k.checked
    let window := opened ∧ k.w ≤ c.tick ∧ c.tick < te
    (∀ r, s.hpa.toll = c :: r → (∀ b ∈ s.hpb.toll.head?, c.tick ≤ b.tick) →
        s.nextCheckIn = some (c, { s with hpa := { s.hpa with toll := r } }))
    ∧ (∀ r, s.hpb.toll = c :: r → (∀ a ∈ s.hpa.toll.head?, c.tick < a.tick) →
        s.nextCheckIn = some (c, { s with hpb := { s.hpb with toll := r } }))
    ∧ (s.tollOrder = true → s.nextCheckIn = some (c, s') →
      ((k.st = .idle ∨ k.st = .mooring ∨ (k.st = .pulse ∧ c.tick < k.pulseEnd)) →
        exec .tollCheckIn s = .next { s' with win := s'.winWith 0x705 0 })
      ∧ (window → ¬keyOk → ∃ t, exec .tollCheckIn s = .next t ∧ ExpiredAt s' t c.tick c.at_ 3 0 port c.param)
      ∧ (window → keyOk → c.tick < k.w + k.cur.closed → ∃ t, exec .tollCheckIn s = .next t
          ∧ ExpiredAt s' t c.tick c.at_ 1 task port c.param)
      ∧ (window → keyOk → k.w + k.cur.closed ≤ c.tick → k.checked.getLsbD task = true →
          ∃ t, exec .tollCheckIn s = .next t ∧ ExpiredAt s' t c.tick c.at_ 2 task port c.param)
      ∧ (window → keyOk → k.w + k.cur.closed ≤ c.tick → k.checked.getLsbD task = false →
          exec .tollCheckIn s = .next { s' with toll := { s'.toll with
            st := .opened, checked := k.checked ||| BitVec.ofNat 8 (2 ^ task) } })
      ∧ (opened → te ≤ c.tick → missing ≠ 0 → c.tick < te + (k.cur.pulse * 32768 + 999) / 1000 →
          ∃ t u, ExpiredAt s' u te (s.stampAt te) 4 (lowestTask missing) 0 0 ∧ u.toll.lastMissing = missing
            ∧ exec .tollCheckIn s = .next t ∧ t = { u with win := u.winWith 0x705 0 })
      ∧ (opened → te ≤ c.tick → missing = 0 → c.tick < te + k.nextCur.closed → c.param.toNat / 16 = 0xC0A57 → task ≤ 7 →
          k.nextCur.roster.getLsbD task = true → ∃ t, exec .tollCheckIn s = .next t ∧ t.toll.st = .pulse ∧ t.toll.lastSub = 1
            ∧ t.toll.lastTask = BitVec.ofNat 3 task ∧ t.toll.cur = k.nextCur ∧ t.rst.cause = 8 ∧ t.rst.sub = 1
            ∧ t.rst.atT = c.tick))
    ∧ (s.nextCheckIn = none → exec .tollCheckIn s = .next s)
    ∧ (s.tollOrder = true → s.nextCheckIn = some (c, s') → window → ∀ (u u' : State) (d : CheckIn), exec .tollCheckIn s = .next u →
        u.toll.st = .pulse → u.nextCheckIn = some (d, u') → d.tick = c.tick →
        exec .tollCheckIn u = .next { u' with win := u'.winWith 0x705 0 })

/-- The check-ins in the toll slips stand in the order of their ticks, none later than the mooring tick count (R25, R27), at reset and after
every step.

The ticks of a window (R416 to R418): the opening tick opens it; the closing tick, no check-in before it being left, ends a
complete turn and begins the next window at that tick, or expires MISSING with the lowest task that has not paid, with the crossing and
stroke at which that tick fell: a tick still to come falls now, an earlier one where the ticks that passed were noted (R419). At which tick,
te + 2 at the latest, the pulse begins is log entry 24 (DESIGN CHOICE); WDP drives the active level from that tick on and not before. A
window lasts a tick at least (R428).

The pulse (R418, R424): at its end WDP is inactive and a window begins at that tick, or the moored interval, or IDLE is
entered if the keeper was disabled meanwhile. Enabled in IDLE after a landing, a window begins; disabled, a window is
abandoned without judgement, but its own event at that tick comes first, and a pulse completes; check-ins stamped before that tick are
judged before (none of them is left in these clauses). -/
def Obligations.TollKeeper : Prop :=
  (State.reset.tollOrder = true ∧ ∀ s t : State, s.tollOrder = true → step s = .next t → t.tollOrder = true)
  ∧ (∀ s : State,
    let k := s.toll
    let te := k.w + k.cur.closed + k.cur.opened
    let missing := k.cur.roster &&& ~~~k.checked
    (k.st = .closed → exec .tkOpeningTick s = .next { s with
      toll := { k with st := .opened }, rst := { s.rst with tick := max s.rst.tick (k.w + k.cur.closed) } })
    ∧ (k.st ≠ .closed → exec .tkOpeningTick s = .next s)
    ∧ (k.st = .opened → (∀ c ∈ s.hpa.toll ++ s.hpb.toll, te ≤ c.tick) →
      (missing = 0 → 0 < k.nextCur.closed + k.nextCur.opened → ∃ t, exec .tkClosingTick s = .next t
        ∧ t = { s with toll := t.toll, rst := t.rst, win := s.winWith 0x704 8 }
        ∧ t.toll.st = .closed ∧ t.toll.w = te ∧ t.toll.checked = 0 ∧ t.toll.cur = k.nextCur
        ∧ t.rst = { s.rst with tick := max s.rst.tick te })
      ∧ (missing ≠ 0 → ∃ t, exec .tkClosingTick s = .next t ∧ ExpiredAt s t te (s.stampAt te) 4 (lowestTask missing) 0 0
        ∧ t.toll.lastMissing = missing))
    ∧ (s.rst.tick < te → s.stampAt te = s.now)
    ∧ (∀ e l, te ≤ s.rst.tick → k.stamps = e :: l → e.1 ≤ te → s.stampAt te = e.2)
    ∧ (∀ b, s.rst.vdd = true → s.rst.vddio = true → k.wdp = .active →
        (s.wdpPin = some b ↔ b = if s.rst.tick < k.pulseAt then !k.cur.pol else k.pulsePol))
    ∧ (k.st ≠ .opened → exec .tkClosingTick s = .next s))
  ∧ (∀ s : State,
    let k := s.toll
    let te := k.w + k.cur.closed + k.cur.opened
    let missing := k.cur.roster &&& ~~~k.checked
    let none_ := ∀ c ∈ s.hpa.toll ++ s.hpb.toll, s.rst.tick ≤ c.tick
    (k.st = .pulse → ∃ t, exec .wdpPulseEnd s = .next t
      ∧ t = { s with toll := t.toll, rst := { s.rst with tick := max s.rst.tick k.pulseEnd } }
      ∧ t.toll.wdp = (if k.wdp = .hiz then .hiz else .inactive)
      ∧ (k.moorAfter = false → k.enabled = true → t.toll.st = .closed ∧ t.toll.w = k.pulseEnd ∧ t.toll.checked = 0
          ∧ t.toll.cur = k.nextCur)
      ∧ (k.enabled = false → t.toll.st = .idle)
      ∧ (k.moorAfter = true → k.enabled = true → t.toll.st = .mooring
          ∧ t.toll.moorEnd = k.pulseEnd + k.cur.moorS * 32768))
    ∧ (k.st ≠ .pulse → exec .wdpPulseEnd s = .next s)
    ∧ (k.st = .idle → k.enabled = true → s.rst.landed = true → ∃ t, exec .tollKeeperEnabled s = .next t
      ∧ t = { s with toll := t.toll } ∧ t.toll.st = .closed ∧ t.toll.w = s.rst.tick ∧ t.toll.checked = 0
      ∧ t.toll.cur = k.nextCur ∧ t.toll.pend = none)
    ∧ ((k.st ≠ .idle ∨ k.enabled = false) → exec .tollKeeperEnabled s = .next s)
    ∧ (k.enabled = true → exec .tollKeeperDisabled s = .next s)
    ∧ (k.enabled = false → (k.st = .closed ∨ k.st = .opened) → none_ → s.rst.tick < te →
      exec .tollKeeperDisabled s = .next { s with toll := { k with st := .idle, checked := 0 } })
    ∧ (k.enabled = false → (k.st = .closed ∨ k.st = .opened) → none_ → s.rst.tick = te →
      (missing = 0 → 0 < k.nextCur.closed + k.nextCur.opened → ∃ t, exec .tollKeeperDisabled s = .next t
        ∧ t = { s with toll := t.toll, win := s.winWith 0x704 8 } ∧ t.toll.st = .idle ∧ t.toll.checked = 0
        ∧ t.toll.cur = k.nextCur)
      ∧ (missing ≠ 0 → ∃ t, exec .tollKeeperDisabled s = .next t ∧ ExpiredAt s t te (s.stampAt te) 4 (lowestTask missing) 0 0))
    ∧ (k.enabled = false → k.st = .pulse → none_ → s.rst.tick < k.pulseEnd → exec .tollKeeperDisabled s = .next s))

/-- Wake sources of MOORED (R390, R426): the end of the moored interval is SUB 0x3 and leaves the keeper IDLE, a wake request
on an open session SUB 0x1 or 0x2; of two in one mooring tick the lowest stands. -/
def Obligations.WakeSources : Prop :=
  ∀ s : State,
    (s.toll.st = .mooring → ∃ t, exec .mooredIntervalEnd s = .next t ∧ t = { s with toll := t.toll, rst := t.rst }
      ∧ t.toll = { s.toll with st := .idle } ∧ t.rst.tick = max s.rst.tick s.toll.moorEnd ∧ t.rst.cause = s.rst.cause
      ∧ (s.mode = .moored → s.rst.wakeSub = none → t.rst.wakeSub = some 3))
    ∧ (s.toll.st ≠ .mooring → exec .mooredIntervalEnd s = .next s)
    ∧ (∀ p, s.portOn = true → (s.port p).opened = true → s.mode = .moored → s.rst.wakeSub = none → exec (.wakeRequest p) s
        = .next { s with rst := { s.rst with wakeSub := some (BitVec.ofNat 4 (portCode p)), wakeTick := s.rst.tick } })
    ∧ (∀ p c, s.portOn = true → (s.port p).opened = true → s.mode = .moored → s.rst.wakeSub = some c → s.rst.wakeTick = s.rst.tick →
        ∃ t, exec (.wakeRequest p) s = .next t ∧ t = { s with rst := { s.rst with wakeSub := t.rst.wakeSub } }
          ∧ t.rst.wakeSub.map (·.toNat) = some (min c.toNat (portCode p)))
    ∧ (∀ p, (s.portOn = false ∨ (s.port p).opened = false ∨ s.mode ≠ .moored) → exec (.wakeRequest p) s = .next s)

/-! ### The host ports (R90 to R131) -/

/-- CRC-16 (R104): width 16, polynomial 0x1021, begun with 0xFFFF, most significant bit first, no final XOR; it covers the fold byte and
every byte of a UL2 or UL3 frame or reply before it, and is sent after them; the CRC of all of these with two more bytes is 0 where
those are it, and not otherwise. -/
def Obligations.ChecksAccept : Prop :=
  crc16 [] = 0xFFFF
  ∧ (∀ (bs : List Byte) (b : Byte), crc16 (bs ++ [b]) = (List.range 8).foldl (fun (r : BitVec 16) i =>
      if r.getLsbD 15 = b.getLsbD (7 - i) then r <<< 1 else (r <<< 1) ^^^ 0x1021) (crc16 bs))
  ∧ (∀ (s : State) (bs : List Byte),
    let two (d : BitVec 16) : List Byte := [(d >>> 8).setWidth 8, d.setWidth 8]
    s.withCrc16 bs = bs ++ two (crc16 (s.fold ++ bs))
    ∧ ∀ d : BitVec 16, crc16 (s.fold ++ (bs ++ two d)) = 0 ↔ d = crc16 (s.fold ++ bs))
  ∧ (∀ (s : State) (r : Reply), s.ul2Bytes r = s.withCrc16 ((s.ul2Bytes r).take ((s.ul2Bytes r).length - 2))
    ∧ s.ul3Bytes r = s.withCrc16 ((s.ul3Bytes r).take ((s.ul3Bytes r).length - 2)))

/-- UL1 frames (R99 to R102): a good read of a defined address answers its value; a bad CRC is answered CRC_BAD and counted; a
good write of 0x08 or 0x09 under a session and a role enters the command slips as a masked output write and echoes its value;
in a closed session any write is answered SESSION_REQUIRED (R118).
The alive counter plays no part. Bytes with their CRC-8 after them pass its check. -/
def Obligations.Ul1Frames : Prop :=
  ∀ (s : State) (p : Port) (f : List Byte), s.receiving p → s.ul1On = true → f.length = 4 → (pb f 0).toNat < 0x80 →
    let b0 := pb f 0
    let a := b0.toNat % 64
    let good := crc8 (s.fold ++ f.take 3) = pb f 3
    let reply (u : State) (bs : List Byte) : Prop := (u.port p).due = some (.raw bs none)
    (good → s.mode ≠ .moored → b0.getLsbD 6 = false → ∀ v, s.classic p a = some v →
      ∃ u, exec (.ul1Read p f) s = .next u ∧ OnlyFront s u ∧ NotEntered s u p ∧ (u.port p).alive = (s.port p).alive
        ∧ reply u (s.ul1Bytes b0 false v))
    ∧ (¬good → ∃ u, exec (.ul1Read p f) s = .next u ∧ exec (.ul1Write p f) s = .next u ∧ OnlyFront s u ∧ NotEntered s u p
        ∧ u.win = s.winWith (portStatusAddr p) 16
        ∧ reply u (s.ul1Err b0 .crcBad))
    ∧ (good → b0.getLsbD 6 = true → (s.port p).opened = false → ∃ u, exec (.ul1Write p f) s = .next u ∧ OnlyFront s u
        ∧ NotEntered s u p ∧ u.win = s.win ∧ reply u (s.ul1Err b0 .sessionRequired))
    ∧ (good → s.mode ≠ .moored → b0.getLsbD 6 = true → (a = 8 ∨ a = 9) → (s.classic p a).isSome = true →
      (s.port p).opened = true → (∃ g r, s.holder = some g ∧ ((s.hsOf g).role p).held = some r) → s.noHelm = false →
      s.slipRoom p = true → ∃ u, exec (.ul1Write p f) s = .next u ∧ OnlyFront s u ∧ (u.port p).alive = (s.port p).alive
        ∧ EnteredIn s u p ⟨⟨p, 0, .ul1⟩, 0x10, [BitVec.ofNat 8 (a - 8), pb f 1, pb f 2], s.now, s.nextId, {}⟩
        ∧ u.nextId = s.nextId + 1 ∧ reply u (s.ul1Bytes b0 false (pn f 1 2)))
    ∧ (∀ bs, crc8 (s.fold ++ (bs ++ [crc8 (s.fold ++ bs)])) = 0)

/-- A UL2 frame (R103, R111 to R113, R129): with a good CRC, the alive value expected, an open session and room, a helm's
command enters the slips of every helm in service, and its reply is due with the next frame; a rejected one enters none and is
answered by the front end, with the count and the next alive value of the first check that it fails. -/
def Obligations.Ul2Frames : Prop :=
  ∀ (s : State) (p : Port) (f : List Byte), s.receiving p → pb f 0 = 0x96 → pn f 3 1 ≤ 192 → f.length = 6 + pn f 3 1 →
    let alive := pb f 1
    let op := pb f 2
    let prm := (f.drop 4).take (pn f 3 1)
    let x := (s.port p).alive
    let good := crc16 (s.fold ++ f) = 0
    let now := wd s.tb.crossing
    (good → op ≠ 0x02 → op ≠ 0x40 → (s.port p).opened = true → alive = x → s.slipRoom p = true → s.mode ≠ .moored →
      s.noHelm = false → ∃ u, exec (.ul2Frame p f) s = .next u ∧ OnlyFront s u ∧ (u.port p).alive = x + 1
        ∧ EnteredIn s u p ⟨⟨p, alive, .ul2⟩, op, prm, s.now, s.nextId, {}⟩ ∧ u.nextId = s.nextId + 1
        ∧ (u.port p).due = some (.helm s.nextId alive
            (if opIsRead op = true then wd (s.now.landing - 1) else if op = 0x70 then wd (s.now.landing + 1)
             else wd s.now.landing))
        ∧ u.port (otherPort p) = s.port (otherPort p))
    ∧ (¬good → ∃ u, exec (.ul2Frame p f) s = .next u ∧ OnlyFront s u ∧ NotEntered s u p ∧ (u.port p).alive = x + 1
        ∧ OwnReply s u p .crcBad x now ∧ u.win = s.winWith (portStatusAddr p) 16)
    ∧ (good → op ≠ 0x02 → (s.port p).opened = false → ∃ u, exec (.ul2Frame p f) s = .next u ∧ OnlyFront s u
        ∧ NotEntered s u p ∧ (u.port p).alive = x ∧ OwnReply s u p .sessionRequired x now ∧ u.win = s.win)
    ∧ (good → op ≠ 0x02 → (s.port p).opened = true → alive ≠ x → ∃ u, exec (.ul2Frame p f) s = .next u ∧ OnlyFront s u
        ∧ NotEntered s u p ∧ (u.port p).alive = alive + 1 ∧ OwnReply s u p .aliveSkip alive now
        ∧ u.win = s.winWith (portStatusAddr p) 12)
    ∧ (good → op ≠ 0x02 → (s.port p).opened = true → alive = x → s.slipRoom p = false →
        ∃ u, exec (.ul2Frame p f) s = .next u ∧ OnlyFront s u ∧ NotEntered s u p ∧ (u.port p).alive = x + 1
        ∧ OwnReply s u p .busy x now)
    ∧ (good → op = 0x20 → prm ≠ [0x01] → (s.port p).opened = true → alive = x → s.slipRoom p = true → s.mode = .moored →
        ∃ u, exec (.ul2Frame p f) s = .next u ∧ OnlyFront s u ∧ NotEntered s u p ∧ (u.port p).alive = x + 1
        ∧ OwnReply s u p .modeDenied alive now)

/-- UL3 (R106 to R110): an accepted request enters the slips and its reply is pending in the fetch buffer; one whose CRC fails enters none
and the buffer holds its rejection. A fetch answers from the buffer, which stays as it is: the reply that is ready; ACCEPTED_PENDING while
it is pending, or the reply that the holder has by then; REPLY_GONE for another request's or from an empty buffer; CRC_BAD for a fetch
whose own CRC fails. That REPLY_GONE to a fetch carries the current crossing as EFF_CROSSING is log entry 56 (DESIGN CHOICE: R110 gives
none). -/
def Obligations.Ul3Frames : Prop :=
  ∀ (s : State) (p : Port) (f : List Byte), s.receiving p → s.mode ≠ .moored → (s.port p).opened = true →
    pb f 1 = (s.port p).alive →
    let aw := addrBytes (pb f 0)
    let op := pb f 2
    let clean (x : PortFE) : PortFE := { x with
      done := false, sending := none, sendId := none, heardAt := none, alive := 0, fetch := .empty, due := none,
      clocked := 0, head := [], lanes := 0, dummies := 0 }
    (0xC0 ≤ (pb f 0).toNat → isFetch (pb f 0) = false → (pb f 0).getLsbD 0 = false → aw + pn f 3 1 ≤ 192 →
      f.length = 6 + aw + pn f 3 1 → crc16 (s.fold ++ f) = 0 → op ≠ 0x02 → op ≠ 0x40 → s.slipRoom p = true →
      s.noHelm = false → ∃ u, exec (.ul3Request p f) s = .next u ∧ OnlyFront s u
        ∧ EnteredIn s u p ⟨⟨p, pb f 1, .ul3⟩, op, (f.drop 4).take (aw + pn f 3 1), s.now, s.nextId, {}⟩
        ∧ (u.port p).fetch = .pending (pb f 1) s.nextId (effOfOp op s.now.landing false)
        ∧ (u.port p).alive = (s.port p).alive + 1)
    ∧ (isFetch (pb f 0) = true → (pb f 0).getLsbD 2 = false → f.length = 5 → crc16 (s.fold ++ f) = 0 →
      (∀ r, (s.port p).fetch = .ready (pb f 2) r → ∃ u, exec (.ul3Fetch p f) s = .next u ∧ OnlyFront s u
        ∧ (u.port p).sending = some (s.ul3Bytes r) ∧ (u.port p).fetch = (s.port p).fetch
        ∧ (u.port p).alive = (s.port p).alive + 1 ∧ clean (u.port p) = clean (s.port p))
      ∧ (∀ a r, (s.port p).fetch = .ready a r → a ≠ pb f 2 → ∃ u, exec (.ul3Fetch p f) s = .next u ∧ OnlyFront s u
        ∧ (u.port p).sending = some (s.ul3Bytes ⟨.replyGone, pb f 2, wd s.tb.crossing, [], none⟩)
        ∧ (u.port p).fetch = (s.port p).fetch ∧ clean (u.port p) = clean (s.port p))
      ∧ ((s.port p).fetch = .empty → ∃ u, exec (.ul3Fetch p f) s = .next u ∧ OnlyFront s u
        ∧ (u.port p).sending = some (s.ul3Bytes ⟨.replyGone, pb f 2, wd s.tb.crossing, [], none⟩)
        ∧ (u.port p).fetch = .empty)
      ∧ (∀ a id e, (s.port p).fetch = .pending a id e → ∃ u, exec (.ul3Fetch p f) s = .next u ∧ OnlyFront s u
        ∧ (a ≠ pb f 2 → (u.port p).fetch = (s.port p).fetch
            ∧ (u.port p).sending = some (s.ul3Bytes ⟨.replyGone, pb f 2, wd s.tb.crossing, [], none⟩))
        ∧ (a = pb f 2 → s.helmReply p id = none → (u.port p).fetch = (s.port p).fetch
            ∧ (u.port p).sending = some (s.ul3Bytes ⟨.acceptedPending, pb f 2, e, [], none⟩))
        ∧ (a = pb f 2 → ∀ r, s.helmReply p id = some r → (u.port p).fetch = .ready a r
            ∧ (u.port p).sending = some (s.ul3Bytes r))))
    ∧ (isFetch (pb f 0) = true → (pb f 0).getLsbD 2 = false → f.length = 5 → crc16 (s.fold ++ f) ≠ 0 →
      ∃ u, exec (.ul3Fetch p f) s = .next u ∧ OnlyFront s u ∧ (u.port p).fetch = (s.port p).fetch
        ∧ (u.port p).sending = some (s.ul3Bytes ⟨.crcBad, (s.port p).alive, wd s.tb.crossing, [], none⟩)
        ∧ (u.port p).alive = (s.port p).alive + 1 ∧ u.win = s.winWith (portStatusAddr p) 16)
    ∧ (0xC0 ≤ (pb f 0).toNat → isFetch (pb f 0) = false → (pb f 0).getLsbD 0 = false → aw + pn f 3 1 ≤ 192 →
      f.length = 6 + aw + pn f 3 1 → crc16 (s.fold ++ f) ≠ 0 → ∃ u, exec (.ul3Request p f) s = .next u ∧ OnlyFront s u
        ∧ NotEntered s u p ∧ (u.port p).alive = (s.port p).alive + 1 ∧ u.win = s.winWith (portStatusAddr p) 16
        ∧ (u.port p).fetch = .ready (s.port p).alive ⟨.crcBad, (s.port p).alive, wd s.tb.crossing, [], none⟩)

/-- A select period (R92, R96 to R98, R114, R147): its fall chooses the reply due, ACCEPTED_PENDING when the holder has none
yet; its rise without edges does nothing but end it; a reply sent in full reports its RC reading, one cut short is counted;
a UL2 frame cut off is answered FRAME_CUT and counted. -/
def Obligations.SelectPeriods : Prop :=
  ∀ (s : State) (p : Port) (n : Nat) (got : List Byte) (part : List Bool), s.portOn = true →
    let x := s.port p
    let starts (bs : Option (List Byte)) (c : Option Nat) : Prop :=
      exec (.selFall p) s = .next (s.modPort p (fun f => { f with
        sel := true, done := false, clocked := 0, head := [], lanes := 0, dummies := 0, sending := bs, sendId := c }))
    (x.sel = false →
      (x.due = none → starts none none) ∧ (∀ bs c, x.due = some (.raw bs c) → starts (some bs) c)
      ∧ (∀ id a e r, x.due = some (.helm id a e) → s.helmReply p id = some r → starts (some (s.ul2Bytes r)) r.clr)
      ∧ (∀ id a e, x.due = some (.helm id a e) → s.helmReply p id = none →
          starts (some (s.ul2Bytes ⟨.acceptedPending, a, e, [], none⟩)) none))
    ∧ (x.sel = true →
      exec (.selRelease p false n ⟨got, part⟩) s = .next (s.modPort p (fun f => { f with
        sel := false, done := false, driven := [], io := [], sending := none, sendId := none }))
      ∧ (∀ bs, x.done = true → x.sending = some bs → x.clocked + got.length ≤ n →
          (n < bs.length → ∃ u, exec (.selRelease p true n ⟨got, part⟩) s = .next u
            ∧ u.win = s.winWith (portStatusAddr p) 0 ∧ (u.port p).sel = false ∧ (x.head = [] → (u.port p).driven = bs.take n)
            ∧ ∀ h, u.helm h = s.helm h)
          ∧ (∀ id, bs.length ≤ n → x.sendId = some id → ∃ u, exec (.selRelease p true n ⟨got, part⟩) s = .next u
            ∧ u.win = s.win ∧ Received s u s.now (.rcClear id) ∧ (u.port p).sel = false))
      ∧ (x.done = false → x.sending = none → s.framed got = .unfinished → genOf got part = .ul2 →
          ∃ u, exec (.selRelease p true n ⟨got, part⟩) s = .next u ∧ OnlyFront s u ∧ NotEntered s u p
            ∧ u.win = s.winWith (portStatusAddr p) 8 ∧ OwnReply s u p .frameCut x.alive (wd s.tb.crossing)
            ∧ (u.port p).alive = (if 2 ≤ got.length then x.alive + 1 else x.alive)))

/-- SESSION_RESET and TOLL (R25, R118 to R120, R129, R161): a session opens with its alive value, flushes the slips and the
fetch buffer and is passed to the helms; a check-in is stamped with the mooring tick, and the crossing and stroke, into a slip of 8, or answered BUSY,
PARAM_BAD, or MODE_DENIED in MOORED; before the first landing it is answered NO_HELM (log entry 55, DESIGN CHOICE). -/
def Obligations.SessionAndToll : Prop :=
  ∀ (s : State) (p : Port) (a : Byte), s.portOn = true →
    (∃ u, exec (.sessionReset p a) s = .next u ∧ OnlyFront s u ∧ (u.port p).opened = true ∧ (u.port p).alive = a + 1
      ∧ (u.port p).slipA = [] ∧ (u.port p).slipB = [] ∧ (u.port p).fetch = .empty ∧ (u.port p).toll = (s.port p).toll
      ∧ (∀ h, (s.helm h).svc.inService = true → (u.helm h).hs.evs.getLast? = some { at_ := s.now, ev := .sessionReset p s.nextId })
      ∧ ∃ st, (u.port p).due = some (.raw (s.ul2Bytes ⟨.ok, a, wd s.effL, bytesOfWords [s.sessionWord, st], none⟩) none))
    ∧ (∀ prm, (s.port p).opened = true → s.mode ≠ .moored → s.rst.landed = true →
      (prm.length = 3 → (s.port p).toll.length < 8 → ∃ u, exec (.toll p a prm) s = .next u ∧ OnlyFront s u
        ∧ (u.port p).toll = (s.port p).toll ++ [⟨wd (natOfBytes prm), p, s.rst.tick, s.now⟩] ∧ (u.port p).alive = a + 1
        ∧ NotEntered s u p ∧ OwnReply s u p .ok a (wd s.tb.crossing))
      ∧ (prm.length = 3 → 8 ≤ (s.port p).toll.length → ∃ u, exec (.toll p a prm) s = .next u ∧ OnlyFront s u
        ∧ (u.port p).toll = (s.port p).toll ∧ OwnReply s u p .busy a (wd s.now.landing))
      ∧ (prm.length ≠ 3 → ∃ u, exec (.toll p a prm) s = .next u ∧ OnlyFront s u
        ∧ (u.port p).toll = (s.port p).toll ∧ OwnReply s u p .paramBad a (wd s.now.landing)))
    ∧ (∀ prm, (s.port p).opened = true → s.mode ≠ .moored → s.rst.landed = false → ∃ u, exec (.toll p a prm) s = .next u
        ∧ OnlyFront s u ∧ (u.port p).toll = (s.port p).toll ∧ OwnReply s u p .noHelm a (wd s.now.landing))
    ∧ (∀ prm, (s.port p).opened = true → s.mode = .moored → ∃ u, exec (.toll p a prm) s = .next u ∧ OnlyFront s u
        ∧ (u.port p).toll = (s.port p).toll ∧ OwnReply s u p .modeDenied a (wd s.tb.crossing))

/-! ### Resets and supplies (R181, R375, R389, R390, R446, R459 to R463, R474, R479) -/

/-- The resets with a cause of their own (R459, R461): RSTN_PIN, QUAY_CHECK, TAP_RESET under MAKER and MOORED_WAKE put the
logic side to its after-reset values; the records already in the slips are committed first, and only an NVM_FAULT of theirs can be
left. MOORED_WAKE wakes by its source where it is met, otherwise only by one that came before (R390).

POWER_ON clears the record, the toll keeper and the slips as well, and keeps both banks (R181, R459); the count of time gone by, to
which the pontoons that keep running refer, goes on (R467). TESTEN high holds the
logic side in reset, low ends that as RSTn does (R479). -/
def Obligations.Resets : Prop :=
  (∀ (s : State) (w : WakeSrc), s.slipsOk = true →
    let done (i : Instr) (cause sub : BitVec 4) : Prop :=
      ∃ t, exec i s = .next t ∧ AfterReset s t ∧ CauseRecorded s t cause sub
        ∧ t.com.slipA = [] ∧ t.com.slipB = [] ∧ (∀ r ∈ t.com.slipQ, r.code = 0x00A) ∧ (s.banksOk = true → t.banksOk = true)
    (s.rst.vdd = true → s.rst.testen = false → done .rstnPin 2 0)
    ∧ (s.live = true → done .quayCheck 5 0)
    ∧ (s.live = true → s.makerHeld = true → done .tapReset 6 0)
    ∧ (s.live = true → s.makerHeld = false → exec .tapReset s = .next s)
    ∧ (s.live = true → s.mode = .moored → s.rst.wakeSub = none → s.wakeMet w = true → done (.mooredWake w) 7 (wakeCode w)
        ∧ ∃ t, exec (.mooredWake w) s = .next t ∧ t.bell.cause = 0x820000)
    ∧ (∀ c, s.live = true → s.mode = .moored → s.rst.wakeSub = some c → (s.wakeMet w = false ∨ s.rst.wakeTick ≠ s.rst.tick) →
        done (.mooredWake w) 7 c)
    ∧ (s.rst.wakeSub = none → s.wakeMet w = false → exec (.mooredWake w) s = .next s)
    ∧ (s.mode ≠ .moored → exec (.mooredWake w) s = .next s))
  ∧ (∀ s : State,
    (∃ t, exec .powerOn s = .next t ∧ t.rst = { State.reset.rst with vddio := s.rst.vddio, testen := s.rst.testen }
      ∧ t.tb = { State.reset.tb with age := s.tb.age, ageSnd := s.tb.ageSnd, ageLand := s.tb.ageLand, beatNo := s.tb.beatNo } ∧ t.toll = State.reset.toll ∧ t.com = State.reset.com ∧ t.helmA = { swapped := s.helmA.swapped } ∧ t.helmB = { swapped := s.helmB.swapped }
      ∧ t.hpa = {} ∧ t.hpb = {} ∧ t.bell = {} ∧ t.win = {} ∧ t.nvmA = s.nvmA ∧ t.nvmB = s.nvmB
      ∧ t.ponts = s.ponts.map (fun x => x.forgetJudge.noBeats))
    ∧ (s.rst.testen = false → s.slipsOk = true → ∃ t, exec .testenHigh s = .next t ∧ AfterReset s t ∧ t.live = false
      ∧ t.rst.testen = true ∧ t.rst.cause = s.rst.cause ∧ t.rst.count = s.rst.count)
    ∧ (s.rst.testen = true → ∃ t, exec .testenLow s = .next t ∧ t.rst.testen = false ∧ CauseRecorded s t 2 0
      ∧ t = { s with rst := t.rst })
    ∧ (s.rst.testen = true → exec .testenHigh s = .next s) ∧ (s.rst.testen = false → exec .testenLow s = .next s))

/-- VDD_LOW (R375, R446): hold-up begins, the POWER_FAIL record waits with the number of records in the slips, the logic side is
in reset with cause 3, and every running pontoon holds its outputs. Below 2.0 V at VHOLD the mooring-clock domain loses its
state (R460). A clearing of the first-fault area that has not begun is lost with the engine that stops (log entry 34, DEDUCED).

VDDIO (R377, R474): while it is low every DRIVE and PERMIT lane counts as low, so that a DRIVE value is 0 and a PERMIT lane of a running
pontoon holds its target at level 4; SYNC is not driven, and the ports' select periods end; on its return DRIVE lanes take their pins' levels. Both are stamped events to the helms (R60). -/
def Obligations.VddAndVddio : Prop :=
  (∀ s : State,
    (s.rst.vdd = true → ∃ t, exec .vddLow s = .next t ∧ t.live = false ∧ t.com.holdUp = true
      ∧ t.com.powerFail = some ⟨s.now, 0xB, clsFault, 0x001, 0,
          wd (s.com.slipQ.length + s.com.slipA.length + s.com.slipB.length), 0⟩
      ∧ t.com.slipQ = s.com.slipQ ∧ t.com.slipA = s.com.slipA ∧ t.com.slipB = s.com.slipB ∧ t.com.ffClear = []
      ∧ CauseRecorded s t 3 0 ∧ t.helmA = { swapped := s.helmA.swapped } ∧ t.helmB = { swapped := s.helmB.swapped } ∧ t.now = s.now ∧ t.nvmA = s.nvmA ∧ t.nvmB = s.nvmB
      ∧ ∀ p, (s.pont p).running = true → (t.pont p).safenLow = true ∧ (t.pont p).safenHold = true ∧ (t.pont p).drive = 0
          ∧ ∀ i : Fin 8, (t.pont p).outs[i].held = true ∧ (t.pont p).outs[i].landed = (s.pont p).outs[i].landed)
    ∧ (s.rst.vdd = false → exec .vddLow s = .next s)
    ∧ (s.rst.vdd = false → ∃ t, exec .mooringDomainLost s = .next t ∧ t.rst.mooringAlive = false ∧ t.toll = State.reset.toll
      ∧ t.com.slipA = [] ∧ t.com.slipB = [] ∧ t.com.slipQ = [] ∧ t.com.powerFail = none ∧ t.nvmA = s.nvmA
      ∧ t.nvmB = s.nvmB ∧ t.ponts = s.ponts ∧ t.tb = s.tb)
    ∧ (s.rst.vdd = true → exec .mooringDomainLost s = .next s))
  ∧ (∀ s : State,
    (∃ t, exec .vddioLow s = .next t ∧ t.rst = { s.rst with vddio := false }
      ∧ t = { s with rst := t.rst, tb := { s.tb with syncOut := 0 }, ponts := t.ponts, hpa := t.hpa, hpb := t.hpb,
                     helmA := t.helmA, helmB := t.helmB }
      ∧ (s.rst.vddio = true → Received s t s.now (.supply false))
      ∧ (∀ p, (t.port p).sel = false ∧ (t.port p).sending = none ∧ (t.port p).opened = (s.port p).opened
          ∧ (t.port p).alive = (s.port p).alive)
      ∧ (∀ p, (t.pont p).drive = 0 ∧ (∀ i : Fin 8, (t.pont p).outs[i].landed = (s.pont p).outs[i].landed)
          ∧ (∀ l : Fin 2, (s.pont p).running = true → ((s.pont p).lane p l).1 = 3 →
              (t.pont p).permitLow.getLsbD l.val = true ∧ (t.pont p).permitHold.getLsbD l.val = true
              ∧ ∀ i : Fin 8, ((s.pont p).lane p l).2 = i.val → (t.pont p).outs[i].held = true)
          ∧ (∀ l : Fin 2, (s.pont p).running = false ∨ ((s.pont p).lane p l).1 ≠ 3 →
              (t.pont p).permitLow.getLsbD l.val = (s.pont p).permitLow.getLsbD l.val
              ∧ (t.pont p).permitHold.getLsbD l.val = (s.pont p).permitHold.getLsbD l.val)
          ∧ ∀ i : Fin 8, (s.pont p).outs[i].held = true → (t.pont p).outs[i].held = true))
    ∧ (∃ t, exec .vddioReturn s = .next t ∧ t.rst = { s.rst with vddio := true }
      ∧ t = { s with rst := t.rst, ponts := t.ponts, helmA := t.helmA, helmB := t.helmB }
      ∧ (s.rst.vddio = false → Received s t s.now (.supply true))
      ∧ ∀ p (l : Fin 2), (t.pont p).drive.getLsbD l.val
          = ((s.pont p).running && (bf (chBody (s.pont p).setup 0x0B) (2 * p.val + l.val) 23 22 == 2)
              && s.lanes.level.getLsbD (2 * p.val + l.val))
        ∧ ∀ i : Fin 8, (t.pont p).outs[i].upToSwitch (s.pont p).outs[i]))

/-- Start-up (R95, R462, R463): the address pins are read once, at the start the crossing is one more than the crossing held,
or 0 on a blank device after power-on, and START is in the ring of each bank that reads it back (whether one does, no command says:
a free value, log entry 2). An engine still in hold-up commits its records first (R446).

TIDES_STOP (R389, R418, R448): in MOORED, once the record slips are empty and landing L + 1 is made, whose passage has run, the
counter stops and what still waits for a helm is lost; the toll keeper leaves its window for the moored interval. Here no check-in and no
event of the toll keeper is left from before this tick; those would come first. -/
def Obligations.StartUpAndTidesStop : Prop :=
  (∀ s : State,
    (∀ a1 a0, s.live = true → s.rst.vddio = true → s.rst.addr = none → exec (.addrLatch a1 a0) s
      = .next { s with rst := { s.rst with addr := some (3 * strapValue a1 + strapValue a0) } })
    ∧ (∀ a1 a0, s.rst.addr ≠ none → exec (.addrLatch a1 a0) s = .next s)
    ∧ (s.rst.held = false → s.rst.testen = false → s.rst.started = false → s.rst.mooringAlive = true →
      let k := s.commitSlips.resumeRings.com.slot
      let v := s.commitSlips.backAt 0
      ∃ t, exec .start s = .next t ∧ t.rst = { s.rst with started := true, vdd := true, powerOn := false } ∧ t.tb.stroke = 0
        ∧ (s.rst.powerOn = false → t.tb.crossing = s.tb.crossing + 1)
        ∧ (s.rst.powerOn = true → s.nvmA.mem = [] → s.nvmB.mem = [] → s.com.take = none → s.com.powerFail = none →
            t.tb.crossing = 0)
        ∧ t.com.holdUp = false ∧ t.ponts = s.ponts ∧ k < ringSlots
        ∧ ((∀ h, (s.helm h).svc.inService = false) → t.helmA = s.helmA ∧ t.helmB = s.helmB)
        ∧ (s.banksOk = true → ∀ b : Bool, (if b then v.b1 || v.b2 else v.a1 || v.a2) = true → (t.bank b).reads (8 * k) 8
            = Rec.words ⟨⟨t.tb.crossing, 0⟩, 0xA, clsInfo, 0x002, 0, s.rst.causeWord, 0⟩))
    ∧ (s.rst.started = true → exec .start s = .next s))
  ∧ (∀ s : State,
    let te := s.toll.w + s.toll.cur.closed + s.toll.cur.opened
    (∀ c ∈ s.hpa.toll ++ s.hpb.toll, s.rst.tick ≤ c.tick) →
    (s.toll.st = .closed ∨ s.toll.st = .opened → s.rst.tick < te) → (s.toll.st = .pulse → s.rst.tick < s.toll.pulseEnd) →
    (s.live = true → s.tb.tides = true → s.moorReady = true → ∃ t, exec .tidesStop s = .next t ∧ t.tb.tides = false
      ∧ t.tb.counting = false ∧ t.now = s.now ∧ t.rst = s.rst ∧ t.nvmA = s.nvmA ∧ t.nvmB = s.nvmB ∧ t.ponts = s.ponts
      ∧ (∀ h, (t.helm h).hs.evs = [] ∧ (t.helm h).hs.cmds = [] ∧ (t.helm h).hs.img = (s.helm h).hs.img)
      ∧ (∀ p, (t.port p).slipA = [] ∧ (t.port p).slipB = [] ∧ (t.port p).toll = (s.port p).toll
          ∧ (t.port p).opened = (s.port p).opened)
      ∧ (s.toll.st = .closed ∨ s.toll.st = .opened → t.toll.st = .mooring ∧ t.toll.checked = 0
          ∧ t.toll.moorEnd = s.rst.tick + s.toll.cur.moorS * 32768)
      ∧ (s.toll.st = .idle → t.toll.st = .idle))
    ∧ (s.mode ≠ .moored → s.toll.st ≠ .closed → exec .tidesStop s = .next s))

/-! ### The black box and the check units (R32, R433 to R451, R455 to R458) -/

/-- Reading a bank after writing it: the word written, every other word as before, and the canonical form is kept.

Two banks in canonical form that read alike are equal. -/
def Obligations.Banks : Prop :=
  (∀ (b : Bank) (a c : Nat) (w : Word), b.wf = true → a < bankWords →
    (b.write a w).read a = w ∧ (c ≠ a → (b.write a w).read c = b.read c) ∧ (b.write a w).wf = true)
  ∧ (∀ b c : Bank, b.wf = true → c.wf = true → (∀ a, b.read a = c.read a) → b = c)

/-- The order of commits (R32): Quay sources first, then the helms' slips alternately.

RECORD_COMMIT (R441): the record taken is written into slot h of the ring of both banks, h being the slot after the newest
record, and its journal entry, with LAP and h, into the journal word of this commit. A bank whose two read-backs of a write differ
holds nothing known there, NVM_FAULT is handed over as a Quay source, and the bank stays in use. A FAULT record also goes into the
next empty slot of the first-fault area while it is not full, and rings BLACKBOX (R443). Every other word stays. In hold-up, in which
the bell has no supply, it does not ring, and the POWER_FAIL record is the last (R446). -/
def Obligations.Commits : Prop :=
  (∀ c : Commit,
    (∀ r l, c.slipQ = r :: l → c.take = some (r, { c with slipQ := l }))
    ∧ (∀ a b l m, c.slipQ = [] → c.slipA = a :: l → c.slipB = b :: m → ∃ d, c.take
        = some (if c.turnB = true then b else a, d) ∧ d.turnB = !c.turnB)
    ∧ (∀ a l, c.slipQ = [] → c.slipA = a :: l → c.slipB = [] → ∃ d, c.take = some (a, d) ∧ d.slipA = l)
    ∧ (∀ b m, c.slipQ = [] → c.slipA = [] → c.slipB = b :: m → ∃ d, c.take = some (b, d) ∧ d.slipB = m)
    ∧ (c.slipQ = [] → c.slipA = [] → c.slipB = [] → c.take = none))
  ∧ (∀ (s : State) (r : Rec) (v : ReadBack), s.banksOk = true → s.com.slot < ringSlots →
    ((∃ d, s.com.take = some (r, d)) ∨ (s.com.take = none ∧ s.com.powerFail = some r)) →
    let k := s.com.slot
    let j := journalBase + s.com.total % 8192
    let ff := ffBase + 8 * s.com.ffFill
    let first := r.cls = clsFault ∧ s.com.ffFill < 256
    let one (v : PairBack) (b : Bool) : Bool := if b then v.b1 || v.b2 else v.a1 || v.a2
    let good := one v.ring
    let goodFf := one v.ff
    ∃ t, exec (.recordCommit v) s = .next t
      ∧ t = { s with com := t.com, nvmA := t.nvmA, nvmB := t.nvmB, bell := t.bell, win := t.win, free := t.free,
                     helmA := t.helmA, helmB := t.helmB }
      ∧ t.com.slot = (if k + 1 < ringSlots then k + 1 else 0) ∧ t.com.total = (s.com.total + 1) % 8192
      ∧ t.com.lap = (if k + 1 < ringSlots then s.com.lap else (s.com.lap + 1) % 256) ∧ t.banksOk = true
      ∧ (∀ b : Bool, (good b = true → (t.bank b).reads (8 * k) 8 = r.words
            ∧ (t.bank b).read j = wd (s.com.lap % 256 * 65536 + k))
          ∧ (first → goodFf b = true → (t.bank b).reads ff 8 = r.words)
          ∧ (good b = false → s.com.holdUp = false → s.com.slipQ.length ≤ 1 →
              (⟨s.now, 0xB, clsFault, 0x00A, 0, wd (if b then 1 else 0), wd (8 * k)⟩ : Rec) ∈ t.com.slipQ)
          ∧ (first → goodFf b = false → s.com.holdUp = false → s.com.slipQ.length ≤ 1 →
              (⟨s.now, 0xB, clsFault, 0x00A, 0, wd (if b then 1 else 0), wd ff⟩ : Rec) ∈ t.com.slipQ)
          ∧ ∀ a, ¬(8 * k ≤ a ∧ a < 8 * k + 8) → a ≠ j → ¬(first ∧ ff ≤ a ∧ a < ff + 8) →
              (t.bank b).read a = (s.bank b).read a)
      ∧ (first → t.com.ffFill = s.com.ffFill + 1
          ∧ (s.com.holdUp = false → RungByEvent s t bellBlackbox ∧ Received s t s.now (.cause bellBlackbox))
          ∧ (s.com.holdUp = true → t.bell = s.bell ∧ t.helmA = s.helmA ∧ t.helmB = s.helmB))
      ∧ (¬first → t.com.ffFill = s.com.ffFill ∧ t.bell = s.bell ∧ t.helmA = s.helmA ∧ t.helmB = s.helmB)
      ∧ (good true = true → good false = true → (first → goodFf true = true ∧ goodFf false = true) →
          t.win = s.win ∧ t.free = s.free))

/-- VHOLD_EXHAUSTED (R447) ends the commit in progress: each bank's copy in the ring is the old one, the complete one, or one that is not
intact; only when both are complete can a journal entry have been written, or the copy of a FAULT record in the first-fault area be
another than the old one (R441; log entry 34, DEDUCED); nothing else in the banks changes, and nothing more is committed.

FIRST_FAULT_CLEAR (R443): the oldest clearing that was accepted is carried out: the first-fault area holds its FF_CLEAR record in slot 0
and nothing else, and the record is in the rings too, in each bank that reads it back (whether one does, no command says: a free value,
log entry 2). The clearings accepted after it still wait. In hold-up there is no clearing, nor where none was accepted (R446). -/
def Obligations.HoldUpAndFirstFault : Prop :=
  (∀ (s : State) (a b : BankLeft) (r : Rec) (d : Commit), s.com.holdUp = true → s.com.take = some (r, d) →
    s.banksOk = true → s.com.slot < ringSlots →
    let k := s.com.slot
    let j := journalBase + s.com.total % 8192
    let ff := ffBase + 8 * s.com.ffFill
    let full := a.ring = .complete ∧ b.ring = .complete
    let first := r.cls = clsFault ∧ s.com.ffFill < 256
    let left (l : BankLeft) (x y : Bank) : Prop :=
      (l.ring = .old → y = x) ∧ (l.ring = .complete → y.reads (8 * k) 8 = r.words)
      ∧ (l.ring = .corrupt → copyIntact (y.reads (8 * k) 8) = false)
      ∧ y.read j = (if full ∧ l.journal = true then wd (s.com.lap % 256 * 65536 + k) else x.read j)
      ∧ (full → first → (l.ff = .old → y.reads ff 8 = x.reads ff 8) ∧ (l.ff = .complete → y.reads ff 8 = r.words)
          ∧ (l.ff = .corrupt → copyIntact (y.reads ff 8) = false))
      ∧ ∀ i, ¬(8 * k ≤ i ∧ i < 8 * k + 8) → i ≠ j → ¬(full ∧ first ∧ ff ≤ i ∧ i < ff + 8) → y.read i = x.read i
    ∃ t, exec (.vholdExhausted a b) s = .next t ∧ left a s.nvmA t.nvmA ∧ left b s.nvmB t.nvmB
      ∧ t.com.slipA = [] ∧ t.com.slipB = [] ∧ t.com.slipQ = [] ∧ t.com.powerFail = none ∧ t.com.take = none
      ∧ t = { s with com := t.com, nvmA := t.nvmA, nvmB := t.nvmB, free := t.free })
  ∧ ((∀ s : State, s.com.holdUp = true ∨ s.com.ffClear = [] → exec .firstFaultClear s = .next s)
  ∧ ∀ (s : State) (r : Rec) (l : List Rec), s.com.ffClear = r :: l → s.com.holdUp = false → s.banksOk = true → s.com.slot < ringSlots →
    let good (v : PairBack) (b : Bool) : Bool := if b then v.b1 || v.b2 else v.a1 || v.a2
    ∃ t, exec .firstFaultClear s = .next t ∧ t.com.ffClear = l ∧ t.com.ffFill = 1 ∧ t.banksOk = true
      ∧ RungByEvent s t bellBlackbox ∧ Received s t s.now (.cause bellBlackbox)
      ∧ ∀ b : Bool, (good (s.backAt 0) b = true → (t.bank b).reads ffBase 8 = r.words) ∧ (∀ i, 8 ≤ i → i < 2048 → (t.bank b).read (ffBase + i) = 0)
          ∧ (good (s.backAt 1) b = true → (t.bank b).reads (8 * s.com.slot) 8 = Rec.words { r with cls := clsAct }))

/-- CHECK_UNIT_SNOOP (R27, R455, R456): the words that arrive pass through a slip of depth 4 in their order; a word over it
takes the place of the oldest and is flagged and counted; nothing else changes. -/
def Obligations.CheckUnitSnoop : Prop :=
  ∀ (s : State) (k : Fin 4) (n : Nat),
    let u := s.cus[k]
    let all := u.slip ++ u.stream.take n
    let lost := all.length - 4
    ∃ t, exec (.checkUnitSnoop k n) s = .next t ∧ t = { s with cus := s.cus.set k (t.cus[k]), win := t.win }
      ∧ (t.cus[k]).stream = u.stream.drop n ∧ (t.cus[k]).slip = all.drop (lost + 1) ∧ (t.cus[k]).slip.length ≤ 3
      ∧ (t.cus[k]).taken = u.taken ++ (all.drop lost).take 1
      ∧ (lost = 0 → (t.cus[k]).overrun = u.overrun ∧ t.win = s.win)
      ∧ (0 < lost → (t.cus[k]).overrun = true ∧ t.win = s.winWith 0x021 0 lost)
      ∧ (t.cus[k]).reg = u.reg ∧ (t.cus[k]).bytes = u.bytes

/-! ### Inputs, counters, reflexes and lanes (R233 to R239, R264 to R267, R375 to R378, R390) -/

/-- REFLEX_TRIGGER and INPUT_LEVEL_CHANGE (R238, R264, R266): a pair whose condition holds is triggered and holds all its
targets at level 4, whatever a manifest says. A level is accepted with the PREFILTER_N-th consecutive sample that shows it, and not
before (R228); samples of the levels as they stand change neither them, nor a pair, nor a counter. Samples come for both inputs of a
pair at a time, by the one row or the other, and do the same (R221, R234).

COUNTER_EDGE (R221, R228, R233 to R235): the samples of a pair of inputs change the prefiltered level of one, or of both at the same
sample, and stage 4 takes it. An edge that the mode counts moves the counter by one, down with CT_DIR, modulo 2^46; a change of A and B of
a quadrature counter in the same sample counts as an error only; a dark pontoon counts nothing. Samples of the levels as they stand are
no edge. -/
def Obligations.ReflexesAndCounters : Prop :=
  (∀ (s : State) (p : Fin 4),
    let x := s.pont p
    (∀ j : Fin 4, x.running = true → x.rxCond p j = true → ∃ t, exec (.reflexTrigger p j) s = .next t ∧ OnlyPont p s t
      ∧ (t.pont p).rx[j].trig = true ∧ (t.pont p).sameValues x ∧ (t.pont p).ins = x.ins
      ∧ (∀ k : Fin 4, k ≠ j → (t.pont p).rx[k] = x.rx[k])
      ∧ ∀ i : Fin 8, (x.rxWord p j).getLsbD (10 + i.val) = true → (t.pont p).outs[i].held = true)
    ∧ (∀ j : Fin 4, x.rxCond p j = false → exec (.reflexTrigger p j) s = .next s)
    ∧ (∀ (i : Fin 8) (l : List (Bool × Bool)), ∃ t, exec (.inputLevelChange p i l) s = .next t
      ∧ (∀ (k : Fin 4) (sa sb : List Bool), k.val = i.val → sa.zip sb = l → exec (.counterEdge p k sa sb) s = .next t)
      ∧ t = { s with ponts := s.ponts.set p (t.pont p), lanes := { s.lanes with mirror := t.lanes.mirror } }
      ∧ (∀ k : Fin 8, k.val / 2 ≠ i.val / 2 → (t.pont p).ins[k] = x.ins[k])
      ∧ (∀ k : Fin 8, (t.pont p).outs[k].landed = x.outs[k].landed)
      ∧ (t.pont p).ais = x.ais ∧ (t.pont p).grp = x.grp ∧ (t.pont p).setup = x.setup
      ∧ (4 ≤ i.val ∨ x.running = false ∨ x.dark = true → (t.pont p).cts = x.cts)
      ∧ (let n := prefilterN (bf x.inRec (8 * p.val + i.val) 19 17)
         let own (v : Bool × Bool) : Bool := if i.val % 2 = 0 then v.1 else v.2
         ((∀ v ∈ l, own v = x.ins[i].raw) → (t.pont p).ins[i].raw = x.ins[i].raw)
         ∧ (x.ins[i].cmp = x.ins[i].raw → l.length < n → (t.pont p).ins[i].raw = x.ins[i].raw)
         ∧ ((∀ v ∈ l, v = ((vat x.ins (i.val / 2 * 2) {}).raw, (vat x.ins (i.val / 2 * 2 + 1) {}).raw)) →
            (t.pont p).rx = x.rx ∧ (t.pont p).cts = x.cts)
         ∧ (n ≤ l.length → (∀ v ∈ l, own v ≠ x.ins[i].raw) → (t.pont p).ins[i].raw = !x.ins[i].raw
            ∧ (x.running = true → ∀ j : Fin 4, (t.pont p).rxCond p j = true → (t.pont p).rx[j].trig = true
              ∧ ∀ k : Fin 8, (x.rxWord p j).getLsbD (10 + k.val) = true → (t.pont p).outs[k].held = true)))))
  ∧ (∀ (s : State) (p i : Fin 4) (sa sb : List Bool),
    let x := s.pont p
    let l := sa.zip sb
    let even := i.val / 2 * 2
    let j := if i.val = even then even + 1 else even
    let d (k : Nat) := vat x.ins k {}
    let n (k : Nat) := prefilterN (bf x.inRec (8 * p.val + k) 19 17)
    let own (v : Bool × Bool) : Bool := if i.val = even then v.1 else v.2
    let oth (v : Bool × Bool) : Bool := if i.val = even then v.2 else v.1
    let rising := !(d i).raw
    let alone := n i ≤ l.length ∧ ∀ v ∈ l, own v = rising ∧ oth v = (d j).raw
    let both := n i = n j ∧ n i ≤ l.length ∧ (d i).cmp = (d i).raw ∧ (d j).cmp = (d j).raw
      ∧ ∀ v ∈ l, own v = rising ∧ oth v = !(d j).raw
    let mode (k : Nat) := bf x.inRec (32 + 4 * p.val + k) 23 21
    let down (k : Nat) := bitOf (x.inRec.getD (32 + 4 * p.val + k) 0) 20
    let counts := (mode i = 1 ∧ rising = true) ∨ (mode i = 2 ∧ rising = false) ∨ mode i = 3
    let moved (c : CtSt) (up : Bool) : BitVec 46 := if up = true then c.count + 1 else c.count - 1
    ((∀ v ∈ l, own v = (d i).raw ∧ oth v = (d j).raw) → ∃ t, exec (.counterEdge p i sa sb) s = .next t
      ∧ (vat (t.pont p).ins i {}).raw = (d i).raw ∧ (vat (t.pont p).ins j {}).raw = (d j).raw ∧ (t.pont p).cts = x.cts
      ∧ (t.pont p).rcInc = x.rcInc)
    ∧ (alone ∨ both → ∃ t, exec (.counterEdge p i sa sb) s = .next t
      ∧ t = { s with ponts := s.ponts.set p (t.pont p), lanes := { s.lanes with mirror := t.lanes.mirror } }
      ∧ (let y := t.pont p
         (∀ k : Fin 8, y.outs[k].landed = x.outs[k].landed) ∧ y.ais = x.ais ∧ y.grp = x.grp ∧ y.setup = x.setup
         ∧ (vat y.ins i {}).raw = rising ∧ (alone → (vat y.ins j {}).raw = (d j).raw) ∧ (both → (vat y.ins j {}).raw = !(d j).raw)
         ∧ (∀ k : Fin 8, k.val / 2 ≠ i.val / 2 → y.ins[k] = x.ins[k])
         ∧ (x.running = true → ∀ k : Fin 4, y.rxCond p k = true → y.rx[k].trig = true
             ∧ ∀ m : Fin 8, (x.rxWord p k).getLsbD (10 + m.val) = true → y.outs[m].held = true)
         ∧ (x.running = false ∨ x.dark = true → y.cts = x.cts)
         ∧ (x.running = true → x.dark = false →
             (both → 4 ≤ mode even → y.cts = x.cts ∧ (⟨⟨0x130 + 4 * p + even, 8⟩, 1⟩ : RcInc) ∈ y.rcInc)
             ∧ (alone → mode even < 4 → counts → y.cts = x.cts.set i { x.cts[i] with count := moved x.cts[i] (!down i) })
             ∧ (alone → mode even < 4 → ¬counts → y.cts = x.cts)
             ∧ (alone → 4 ≤ mode even → mode even < 6 → even + 1 = i.val → y.cts = x.cts)
             ∧ (alone → mode even = 4 → even = i.val → rising = false → y.cts = x.cts)
             ∧ (alone → (mode even = 4 ∧ rising = true) ∨ mode even = 5 ∨ mode even = 6 → even = i.val →
                 (vat y.cts even {}).count = moved (vat x.cts even {}) ((rising != (d j).raw) != down even))
             ∧ (alone → mode even = 6 → even + 1 = i.val →
                 (vat y.cts even {}).count = moved (vat x.cts even {}) ((rising == (d j).raw) != down even))))))

/-- SAFEN_LOW and DL_PERMIT_LOW (R375, R377): every output of the pontoon goes to its safe state, or the target of the PERMIT
lane; the event reaches the helms.

DRIVE and MIRROR lanes and the wake edges (R377, R378, R390): a DRIVE lane takes the level while VDDIO is present; a lost
lane drives its MIRROR pin low until its carrier returns; a selected edge in MOORED wakes with SUB 0x4. -/
def Obligations.SafenAndLanes : Prop :=
  (∀ s : State,
    (∀ p, (s.pont p).running = true → ∃ t, exec (.safenLow p) s = .next t
      ∧ t = { s with ponts := s.ponts.set p (t.pont p), lanes := { s.lanes with safenNow := false }, helmA := t.helmA, helmB := t.helmB }
      ∧ Received s t s.now (.safenEdge p false) ∧ (t.pont p).safenLow = true ∧ (t.pont p).safenHold = true
      ∧ (t.pont p).sameValues (s.pont p) ∧ ∀ i : Fin 8, (t.pont p).outs[i].held = true)
    ∧ (∀ p, (s.pont p).running = false → ∃ t, exec (.safenLow p) s = .next t ∧ t.ponts = s.ponts
      ∧ Received s t s.now (.safenEdge p false))
    ∧ (∀ m : Fin 8, (s.pont (pontOfLane m)).running = true → ((s.pont (pontOfLane m)).lane (pontOfLane m) (m.val % 2)).1 = 3 →
      ∃ t, exec (.dlPermitLow m) s = .next t ∧ t.lanes.level.getLsbD m = false
        ∧ (t.pont (pontOfLane m)).permitHold.getLsbD (m.val % 2) = true
        ∧ (t.pont (pontOfLane m)).sameValues (s.pont (pontOfLane m))
        ∧ (∀ q, q ≠ pontOfLane m → t.pont q = s.pont q)
        ∧ ∀ i : Fin 8, ((s.pont (pontOfLane m)).lane (pontOfLane m) (m.val % 2)).2 = i.val →
            (t.pont (pontOfLane m)).outs[i].held = true))
  ∧ (∀ (s : State) (m : Fin 8) (b : Bool),
    let p := pontOfLane m
    let wake := chBody s.inForce 0x04
    (∃ t, exec (.dlDriveEdge m b) s = .next t ∧ t = { s with ponts := s.ponts.set p (t.pont p), lanes := t.lanes }
      ∧ t.lanes.level.getLsbD m = b ∧ (∀ k : Fin 8, k ≠ m → t.lanes.level.getLsbD k = s.lanes.level.getLsbD k)
      ∧ (t.pont p).sameValues (s.pont p) ∧ (t.pont p).ins = (s.pont p).ins
      ∧ ((s.pont p).running = true → ((s.pont p).lane p (m.val % 2)).1 = 2 →
          (t.pont p).drive.getLsbD (m.val % 2) = (b && s.rst.vddio)))
    ∧ (∃ t, exec (.dlLost m) s = .next t ∧ t = { s with lanes := t.lanes } ∧ t.lanes.mirror.getLsbD m = false
      ∧ t.lanes.lost.getLsbD m = true)
    ∧ (∃ t, exec (.dlCarrierReturn m) s = .next t ∧ t = { s with lanes := t.lanes } ∧ t.lanes.lost.getLsbD m = false
      ∧ t.lanes.mirror.getLsbD m = (s.pont p).mirrorLevel p (m.val % 2))
    ∧ (s.rst.vddio = true → s.mode = .moored → s.rst.wakeSub = none →
      (if b = true then bf wake 1 23 16 else bf wake 1 15 8).testBit m.val = true →
      exec (.dlWakeEdge m b) s = .next { s with rst := { s.rst with wakeSub := some 4, wakeTick := s.rst.tick } })
    ∧ ((s.rst.vddio = false ∨ (if b = true then bf wake 1 23 16 else bf wake 1 15 8).testBit m.val = false) →
      exec (.dlWakeEdge m b) s = .next s))

/-! ### Proportional stages (R283 to R299) -/

/-- PWM_PERIOD (R283, R284, R289 to R291, R297): a stage that no slot freezes, once its grid has begun, ends the period with a duty
between 0 and DMAX and an on-time of at most PWM_DIV - 20 modulator periods; decided by level 1 or 3, or latched, both switches stay open
and the integrator is 0. The dither phase goes on by INC. A stage that a slot freezes has no period. Nothing else of the pontoon
changes.

PQ_TRIP (R295): the PQ latch with its cause, and both switches open; while nothing above it decides, level 3 does and the
output's value is 0. -/
def Obligations.ProportionalStages : Prop :=
  (∀ (s : State) (n : Fin 8) (i : Int) (v : Nat),
    let p := pontOfPq n
    let j := n.val % 2
    let x := s.pont p
    let q := vat x.pqs j {}
    (x.running = true → x.regLocked = true → x.gridDue = false → q.frozen = false →
      ∃ t, exec (.pwmPeriod n i v) s = .next t ∧ OnlyPont p s t
      ∧ t.pont p = { x with pqs := (t.pont p).pqs, rcInc := (t.pont p).rcInc }
      ∧ (let r := vat (t.pont p).pqs j {}
         r.phase = q.phase + BitVec.ofNat 24 (x.ditherInc p j)
         ∧ (x.level j = 1 ∨ x.level j = 3 ∨ q.latch = true → r.duty = 0 ∧ r.g = 0 ∧ r.bothOpen = true)
         ∧ 0 ≤ r.duty ∧ r.duty ≤ dmaxOf (x.pwmDiv p j) * 65536 ∧ r.onTime ≤ x.pwmDiv p j - 20))
    ∧ ((x.running = false ∨ x.regLocked = false ∨ x.gridDue = true ∨ q.frozen = true) →
        exec (.pwmPeriod n i v) s = .next s))
  ∧ (∀ (s : State) (n : Fin 8) (thermal : Bool),
    let p := pontOfPq n
    let j := n.val % 2
    let x := s.pont p
    (x.running = true → ∃ t, exec (.pqTrip n thermal) s = .next t ∧ OnlyPont p s t
      ∧ (∀ i : Fin 8, (t.pont p).outs[i].upToSwitch x.outs[i])
      ∧ (vat (t.pont p).pqs j {}).latch = true ∧ (thermal = true → (vat (t.pont p).pqs j {}).thermal = true)
      ∧ (thermal = false → (vat (t.pont p).pqs j {}).trip = true)
      ∧ (x.dark = false → (vat x.outs j {}).shed = false → (vat x.outs j {}).queued = false →
          (t.pont p).level j = 3 ∧ (t.pont p).value p j = 0))
    ∧ (x.running = false → exec (.pqTrip n thermal) s = .next s))

/-! ### Analog inputs (R306 to R325) -/

/-- ANALOG_SAMPLE (R306, R314, R340): a sample of an enabled channel lies within the measured limits of its range, and there is
none while dark or with the shunt open; VALID asks for a settled reference and an unmarked channel. The other channels and
the outputs stay.

The shunts and the excitation (R308, R309, R340): a shunt that trips leaves no valid sample until it closes again and 14
samples have passed; an excitation at its limit is flagged and rings ANALOG. -/
def Obligations.AnalogInputs : Prop :=
  (∀ (s : State) (n : Fin 16) (bits : List Bool) (cks : List (Int × Int)) (sats : List Bool),
    let p := pontOfAi n
    let i := n.val % 4
    let x := s.pont p
    let a := vat x.ais i {}
    (x.running = true → x.regLocked = true → x.aiEn p i = true → ∃ t, exec (.analogSample n bits cks sats) s = .next t
      ∧ OnlyPont p s t ∧ (t.pont p).outs = x.outs ∧ (t.pont p).ins = x.ins ∧ (t.pont p).cts = x.cts
      ∧ (t.pont p).pqs = x.pqs ∧ ((∀ w ∈ x.grp.waits, w.ch ≠ i) → (t.pont p).grp = x.grp)
      ∧ (∀ k : Fin 4, k.val ≠ i → (t.pont p).ais[k] = x.ais[k])
      ∧ (let b := vat (t.pont p).ais i {}
         b.pos = a.pos + presetD a.preset
         ∧ b.settle = (if x.unsettled p i = true then 14 else a.settle - 1)
         ∧ (x.dark = true ∨ a.shunt = true → b.sample = none)
         ∧ (x.dark = false → a.shunt = false → ∃ v, b.sample = some v ∧ (measuredOf (x.aiRange p i)).1 ≤ v
              ∧ v ≤ (measuredOf (x.aiRange p i)).2)
         ∧ (b.valid = true → x.dark = false ∧ a.shunt = false ∧ x.unsettled p i = false ∧ a.settle = 0)))
    ∧ (x.aiEn p i = false → exec (.analogSample n bits cks sats) s = .next s))
  ∧ (∀ (s : State) (n : Fin 16),
    let p := pontOfAi n
    let i := n.val % 4
    let x := s.pont p
    let a := vat x.ais i {}
    (x.running = true → x.aiEn p i = true → (x.aiRange p i = 2 ∨ x.aiRange p i = 3) → a.shunt = false →
      ∃ t, exec (.shuntTrip n) s = .next t ∧ OnlyPont p s t
        ∧ (vat (t.pont p).ais i {}) = { a with shunt := true, sample := none, valid := false }
        ∧ (t.pont p).bells = x.bells ||| oneBit bellAnalog
        ∧ t.pont p = { x with ais := (t.pont p).ais, rcInc := (t.pont p).rcInc, bells := (t.pont p).bells,
                              recs := (t.pont p).recs })
    ∧ (a.shunt = true → exec (.shuntTrip n) s = .next s)
    ∧ (x.running = true → a.shunt = true → ∃ t, exec (.shuntReclose n) s = .next t ∧ OnlyPont p s t
        ∧ (vat (t.pont p).ais i {}) = { a with shunt := false, settle := 14 })
    ∧ (a.shunt = false → exec (.shuntReclose n) s = .next s)
    ∧ (∀ g, (s.pont g).excOn g = true → ∃ t, exec (.excLimit g) s = .next t
        ∧ OnlyPont g s t ∧ (t.pont g).grp = { (s.pont g).grp with excLim := true, excNew := true }
        ∧ (t.pont g).bells = (s.pont g).bells ||| oneBit bellAnalog)
    ∧ (∀ g, (s.pont g).excOn g = false → exec (.excLimit g) s = .next s))

/-- REF_WINDOW (R312, R313, R321): a window more than 0.5 % from V_NOM sets REF_UNSETTLED, except for SUPPLY; the second
consecutive still window clears it; two windows of |a/A − 1| > 0.3 % start the judgement of the references, one within 0.1 %
ends it. That in JUDGING the AGREE row is looked at before the others, whatever those say, and that windows count towards settling only
after the minimum, is log entry 37 (DEDUCED); the other rows of the judgement are not stated here. While dark, and with an empty store,
a window is not judged, and only the time of the settling passes. REF_STUCK rings ANALOG and leaves the judgement.

SNAPSHOT_CONVERSION (R318, R325): from the sounding after its landing on, the oldest snapshot asked for takes a free slot of
the rotation; its conversion, scaled as the channel is, and the saturation wait for the channel's own sample that goes with
the slot; nothing else of the pontoon changes. -/
def Obligations.ReferencesAndSnapshots : Prop :=
  (∀ (s : State) (p : Fin 4) (w : RefMeas),
    let x := s.pont p
    let g := x.grp
    let near := x.refSel p = 3 ∨ ((w.vref : Int) - x.vNom p).natAbs * 200 ≤ x.vNom p
    let a := (w.iref, w.ckref)
    (x.running = true → x.dark = false → x.setup ≠ [] → ∃ t, exec (.refWindow p w) s = .next t ∧ OnlyPont p s t
      ∧ (t.pont p).outs = x.outs ∧ (t.pont p).grp.vref = w.vref
      ∧ (g.uns = false → ((t.pont p).grp.uns = true ↔ ¬near))
      ∧ (g.uns = true → ¬near → (t.pont p).grp.uns = true ∧ (t.pont p).grp.stable = 0)
      ∧ (∀ l, g.uns = true → near → g.minWins ≤ g.wins → g.lastVref = some l →
          ((w.vref : Int) - l).natAbs * 10000 < l → 1 ≤ g.stable → (t.pont p).grp.uns = false)
      ∧ (g.judge = .agree → g.aWin ≠ [] → within 3 a (meanRatio g.aWin) = false → 1 ≤ g.run →
          (t.pont p).grp.judge = .judging ∧ (t.pont p).grp.aWin = g.aWin ∧ (t.pont p).grp.sWin = g.sWin)
      ∧ (g.judge = .judging → within 1 a (meanRatio g.aWin) = true → (t.pont p).grp.judge = .agree))
    ∧ (x.running = true → x.dark = true ∨ x.setup = [] → ∃ t, exec (.refWindow p w) s = .next t ∧ OnlyPont p s t
      ∧ (let h := (t.pont p).grp
         t.pont p = { x with grp := h } ∧ h.uns = g.uns ∧ h.judge = g.judge ∧ h.vref = g.vref ∧ h.lastVref = g.lastVref
         ∧ h.aWin = g.aWin ∧ h.sWin = g.sWin ∧ (g.uns = true → h.wins = min (g.wins + 1) 100)))
    ∧ (x.running = false → exec (.refWindow p w) s = .next s)
    ∧ (x.running = true → g.uns = true → g.changed = true → ∃ t, exec (.refStuck p) s = .next t ∧ OnlyPont p s t
      ∧ (t.pont p).grp = g ∧ (t.pont p).bells = x.bells ||| oneBit bellAnalog
      ∧ (t.pont p).recs = x.recs ++ [(0x0A3, clsFault + 4, subj (0x10 + p.val),
          if x.dark = true ∨ g.lastVref = none then 0x800000 else wd g.vref, 0)])
    ∧ (g.uns = false → exec (.refStuck p) s = .next s))
  ∧ (∀ (s : State) (p : Fin 4) (v vref : Int) (low high : Bool),
    let c : CkConv := ⟨v, vref, low || high⟩
    let x := s.pont p
    (∀ n m l, x.running = true → x.grp.snaps = (n, m) :: l → slotsOf (x.rotation p) 7 ≠ [] → m ≤ x.crossing →
      ∃ t, exec (.snapshotConversion p v vref low high) s = .next t
      ∧ t = s.modPont p (fun y => { y with grp := (t.pont p).grp })
      ∧ (t.pont p).grp = { x.grp with snaps := l, waits := (t.pont p).grp.waits, slotsUsed := x.grp.slotsUsed + 1 }
      ∧ ∃ w : SnapWait, (t.pont p).grp.waits = x.grp.waits ++ [w]
        ∧ w.ch = n ∧ w.conv = x.ckScaled p n c ∧ w.sat = c.sat
        ∧ (x.grp.slotsUsed = 0 → w.at_ = 8 * ((slotsOf (x.rotation p) 7).headD 0 : Nat)))
    ∧ ((x.grp.snaps = [] ∨ slotsOf (x.rotation p) 7 = []) → exec (.snapshotConversion p v vref low high) s = .next s))

/-! ### A pontoon's crossing (R43 to R55, R187 to R192, R260 to R272) -/

/-- BEAT and REGENERATOR_LOCK (R43, R284, R391): the oldest symbol of the gangway is taken; on the gangway that the pontoon
follows a sounding mark counts the crossing, once for a beat interval, on whichever gangway its beat is counted; a pontoon stopped for MOORED starts with its first beat after the wake, from a helm that has
completed start-up (that its VFp is at or above VSTART is log entry 55, DESIGN CHOICE); the 64th locks the regenerator. While a
pontoon knows no holder it follows helm A's gangway (log entry 56, DESIGN CHOICE).

GANGWAY_SILENCE and GW_DOWN (R44, R45, R373): silence puts every output to its safe state and ends the soundings until a
crossing number comes; a gangway down leaves the other as it is, and with the beats of both missing the soundings wait for a crossing
number too. -/
def Obligations.BeatsAndSilence : Prop :=
  (∀ (s : State) (p : Fin 4) (h : HelmId),
    let x := s.pont p
    let y (rest : List Beat) := x.modGw h (fun g => { g with slip := rest, alive := true, beats := min 64 (g.beats + 1) })
    (∀ b rest, x.running = true → (x.gw h).slip = b :: rest → ∃ t, exec (.beat p h) s = .next t ∧ OnlyPont p s t
      ∧ (t.pont p).gw h = (y rest).gw h ∧ (t.pont p).gw (otherHelm h) = x.gw (otherHelm h) ∧ (t.pont p).outs = x.outs
      ∧ ((y rest).follows = h → x.lastBeat < b.no → (t.pont p).lastBeat = b.no ∧ (t.pont p).regBeats = min 64 (x.regBeats + 1)
        ∧ (b.mark = .sounding → (t.pont p).crossing = x.crossing + 1 ∧ (t.pont p).mark = .sounding)
        ∧ (b.mark = .landing → (t.pont p).crossing = x.crossing ∧ (t.pont p).mark = .landing))
      ∧ ((y rest).follows ≠ h ∨ b.no ≤ x.lastBeat → (t.pont p).lastBeat = x.lastBeat ∧ (t.pont p).regBeats = x.regBeats)
      ∧ ((y rest).follows ≠ h ∨ b.no ≤ x.lastBeat ∨ b.mark = .plain → (t.pont p).crossing = x.crossing ∧ (t.pont p).mark = x.mark))
    ∧ (x.running = true → (x.gw h).slip = [] → exec (.beat p h) s = .next s)
    ∧ (x.running = false → x.mooredStop = true → s.tb.tides = true → s.mode ≠ .moored → (s.helm h).svc.inService = true →
      (x.gw h).slip ≠ [] → ∃ t, exec (.beat p h) s = .next t ∧ OnlyPont p s t
      ∧ (t.pont p).running = true ∧ (t.pont p).silence = true ∧ (t.pont p).setup = [])
    ∧ (x.running = false → (x.mooredStop = false ∨ s.tb.tides = false ∨ s.mode = .moored ∨ (s.helm h).svc.inService = false) →
      exec (.beat p h) s = .next (s.modPont p (fun y => y.modGw h (fun g => { g with slip := g.slip.drop 1 }))))
    ∧ (x.running = true → x.regBeats = 64 → x.regLocked = false → exec (.regeneratorLock p) s
        = .next (s.modPont p (fun y => { y with regLocked := true, gridDue := true, decimDue := true })))
    ∧ (x.regBeats ≠ 64 → exec (.regeneratorLock p) s = .next s))
  ∧ (∀ (s : State) (p : Fin 4) (h : HelmId),
    let x := s.pont p
    (x.running = true →
      (∃ t, exec (.gangwaySilence p) s = .next t ∧ OnlyPont p s t ∧ (t.pont p).silence = true ∧ (t.pont p).marked = false
        ∧ (t.pont p).sameValues x ∧ (∀ i : Fin 8, (t.pont p).outs[i].held = true)
        ∧ (t.pont p).gwA.mans = [] ∧ (t.pont p).gwB.mans = [])
      ∧ ∃ t, exec (.gwDown p h) s = .next t ∧ OnlyPont p s t ∧ ((t.pont p).gw h).up = false
        ∧ ((t.pont p).gw h).alive = false
        ∧ (t.pont p).gw (otherHelm h) = x.gw (otherHelm h) ∧ (t.pont p).outs = x.outs
        ∧ ((x.gw (otherHelm h)).alive = false → (t.pont p).marked = false ∧ (t.pont p).mark = .plain)
        ∧ ((x.gw (otherHelm h)).alive = true → (t.pont p).marked = x.marked ∧ (t.pont p).mark = x.mark)
        ∧ ((x.gw h).up = true → (t.pont p).bells = x.bells ||| oneBit bellField)
        ∧ ((x.gw h).up = false → (t.pont p).bells = x.bells ∧ (t.pont p).recs = x.recs))
    ∧ (x.running = false → exec (.gangwaySilence p) s = .next s ∧ exec (.gwDown p h) s = .next s))

/-- SOUNDING (R44, R52): on the marked beat, with a valid crossing number, the report of this crossing is built from what
stands at that instant: the landed values, the verdict of the landing before, SAFEn as it is; what the report before told no helm
comes with it (R281, R383; for RC events log entry 57, DESIGN CHOICE). Without it only the pins are
noted. An edge of SAFEn is a stamped event to the helms (R60): a rising edge since the sounding before, not yet told, at its stroke; a
level that differs from the one last seen, with no such edge, at the instant of the sounding (log entry 38, DEDUCED). -/
def Obligations.Sounding : Prop :=
  ∀ (s : State) (p : Fin 4) (m : SoundingMeas),
    let x := s.pont p
    let told (e : Nat × Nat) : Prop := s.now.lt ⟨e.1, e.2⟩ = true ∨ s.lanes.riseAt.any (fun u => !u.lt ⟨e.1, e.2⟩) = true
    let edges (t : State) : Prop :=
      ((∀ e ∈ m.rises, told e) → (m.safen ≠ s.lanes.safenNow → Received s t s.now (.safenEdge p m.safen))
        ∧ (m.safen = s.lanes.safenNow → t.helmA = s.helmA ∧ t.helmB = s.helmB))
      ∧ (∀ e, m.rises = [e] → ¬ told e →
        (m.safen = true ∨ s.lanes.safenNow = false → Received s t ⟨e.1, e.2⟩ (.safenEdge p true))
        ∧ (m.safen = false → s.lanes.safenNow = true → ∀ h, (t.helm h).hs.evs = (s.helm h).hs.evs
            ++ (if (s.helm h).svc.inService = true then [{ at_ := ⟨e.1, e.2⟩, ev := .safenEdge p true },
              { at_ := s.now, ev := .safenEdge p false }] else [])))
    (x.running = true → x.marked = true → x.mark = .sounding → ∃ t, exec (.sounding p m) s = .next t
      ∧ t = { s with ponts := s.ponts.set p (t.pont p), lanes := t.lanes, helmA := t.helmA, helmB := t.helmB } ∧ edges t
      ∧ ∃ r, (t.pont p).report = some r
      ∧ r.crossing = x.crossing ∧ r.verdict = x.verdict ∧ r.holder = x.holder ∧ r.fromH = x.fromH
      ∧ r.configuring = x.configuring ∧ r.dark = x.dark ∧ r.gwA = x.gwA.up ∧ r.gwB = x.gwB.up
      ∧ r.landed = (List.finRange 8).map (fun i => x.outs[i].landed)
      ∧ (t.pont p).mark = .plain ∧ (t.pont p).crossing = x.crossing ∧ (t.pont p).safenLow = !m.safen
      ∧ (∀ i : Fin 8, (t.pont p).outs[i].landed = x.outs[i].landed) ∧ t.lanes.safenPin = m.safen
      ∧ (∀ o, s.landingsRun = true → x.told = false → x.report = some o →
          o.recs <+: r.recs ∧ o.rc <+: r.rc ∧ o.wakeTrig <+: r.wakeTrig ∧ o.bells &&& r.bells = o.bells))
    ∧ ((x.running = false ∨ x.marked = false ∨ x.mark ≠ .sounding) → ∃ t, exec (.sounding p m) s = .next t
      ∧ t = { s with lanes := t.lanes, helmA := t.helmA, helmB := t.helmB } ∧ t.lanes.safenNow = m.safen ∧ edges t)

/-- MANIFEST_COMPARE (R51, R189, R190), from stroke 232 to the landing: the verdict, the holder found, and the manifest that is to land, by the manifests that the two
gangways hold for this crossing; both slips are then empty. -/
def Obligations.ManifestCompare : Prop :=
  ∀ (s : State) (p : Fin 4),
    let x := s.pont p
    let ma := x.gwA.manFor x.crossing
    let mb := x.gwB.manFor x.crossing
    let own (v : HelmId) (a b : List Word) : List Word := match v with | .a => a | .b => b
    let is (v : Verdict) (by_ : Option HelmId) (c : Option (List Word)) (had : Bool) : Prop :=
      exec (.manifestCompare p) s = .next (s.modPont p (fun y => { y with
        verdict := v, chosenBy := by_, chosen := c, hadMan := had, gwA := { y.gwA with mans := [] },
        gwB := { y.gwB with mans := [] } }))
    (x.running = true → x.marked = true → 232 ≤ s.tb.stroke → s.tb.stroke < 240 →
      (∀ a b v, ma = some a → mb = some b → manView a = some v → manView b = some v →
        (a.tail = b.tail → is .agreed (some v) (some (own v a b)) true)
        ∧ (a.tail ≠ b.tail → manProving (own v b a) = true → is .provingMismatch (some v) (some (own v a b)) true)
        ∧ (a.tail ≠ b.tail → manProving (own v b a) = false → is .mismatch (some v) none true))
      ∧ (∀ a b v, ma = some a → mb = some b → manView a = some v → manView b ≠ some v → is .viewSplit none none true)
      ∧ (∀ a, ma = some a → mb = none → (manView a = some .a → is .shadowMissing (some .a) (some a) true)
          ∧ (manView a ≠ some .a → is .late none none false))
      ∧ (∀ b, ma = none → mb = some b → (manView b = some .b → is .shadowMissing (some .b) (some b) true)
          ∧ (manView b ≠ some .b → is .late none none false))
      ∧ (ma = none → mb = none → is .late none none false))
    ∧ (x.running = false ∨ x.marked = false ∨ s.tb.stroke < 232 ∨ 240 ≤ s.tb.stroke →
        exec (.manifestCompare p) s = .next s)

/-- LANDING (R55, R70, R190, R260): the chosen manifest's values land, and silence and an order end; without one every landed
value stays, and the verdict is SAFE under silence or an order; an order that is due acts and holds every output. A stop order that is due
turns every output off and stops the logic (R389). -/
def Obligations.Landing : Prop :=
  ∀ (s : State) (p : Fin 4),
    let x := s.pont p
    (x.running = true → x.marked = true → x.mark = .landing → x.stopDue = true →
      ∃ t, exec (.landing p) s = .next t ∧ t = { s with ponts := s.ponts.set p (t.pont p), lanes := t.lanes }
        ∧ (t.pont p).running = false ∧ (t.pont p).mooredStop = true ∧ (t.pont p).setup = []
        ∧ ∀ i : Fin 8, (t.pont p).outs[i] = {})
    ∧ (x.running = true → x.marked = true → x.mark = .landing → x.stopDue = false →
      ∃ t, exec (.landing p) s = .next t ∧ t = { s with ponts := s.ponts.set p (t.pont p), lanes := t.lanes }
        ∧ (t.pont p).mark = .plain ∧ (t.pont p).chosen = none ∧ (t.pont p).crossing = x.crossing
        ∧ (∀ m, x.chosen = some m → x.configuring = false → x.orderDue = false →
            (∀ i : Fin 8, (t.pont p).outs[i].landed = manValue m i) ∧ (t.pont p).fromH = x.chosenBy
            ∧ (t.pont p).holder = x.chosenBy ∧ (t.pont p).silence = false ∧ (t.pont p).order = false
            ∧ (t.pont p).verdict = x.verdict)
        ∧ (x.chosen = none ∨ x.configuring = true ∨ x.orderDue = true →
            (∀ i : Fin 8, (t.pont p).outs[i].landed = x.outs[i].landed) ∧ (t.pont p).fromH = none
            ∧ (x.silence = true ∨ x.order = true ∨ x.orderDue = true ∨ x.configuring = true → (t.pont p).verdict = .safe)
            ∧ (x.silence = false → x.order = false → x.orderDue = false → x.configuring = false →
                (t.pont p).verdict = x.verdict))
        ∧ (x.orderDue = true → (t.pont p).order = true ∧ (t.pont p).orderDue = false
            ∧ ∀ i : Fin 8, (t.pont p).outs[i].held = true))
    ∧ ((x.running = false ∨ x.marked = false ∨ x.mark ≠ .landing) → exec (.landing p) s = .next s)

/-! ### Gangway frames (R27, R30, R31, R53, R70, R211, R363, R367 to R373) -/

/-- A frame that fails a check at a running pontoon (R372, R373) has no effect there but the count, and four in succession
mark the gangway down.

The frames that a running pontoon takes: MANIFEST, in time for stroke 232, into a slip of depth 2 (R23, R30), CONFIG that completes a reload (R363), ORDER
(R70, R389), which act at the next landing, a readout order (R355), for the oldest wake read that the helm has outstanding, ECHO (R211) and SET_CROSSING (R371). What a CONFIG frame brings, the
charter in force at the helm that sends it, and what an order brings, the samples sent on both
gangways, is log entry 7 (DESIGN CHOICE); which manifests are taken as they are is log entry 8 (PRESUMED) and log entry 39 (DEDUCED). -/
def Obligations.FramesAtPontoons : Prop :=
  (∀ (s : State) (p : Fin 4) (h : HelmId) (f : RxFrame),
    let x := s.pont p
    let same (t : State) : Prop :=
      (∀ q, q ≠ p → t.pont q = s.pont q) ∧ (t.pont p).outs = x.outs ∧ (t.pont p).setup = x.setup
      ∧ (t.pont p).orderDue = x.orderDue ∧ (t.pont p).running = true ∧ (t.pont p).crossing = x.crossing
      ∧ (t.pont p).nextSetup = x.nextSetup ∧ ((t.pont p).gw h).mans = (x.gw h).mans
      ∧ (t.pont p).gw (otherHelm h) = x.gw (otherHelm h)
      ∧ ((x.gw h).discards < 3 → (t.pont p).rcInc = x.rcInc ++ [⟨crcErrKey p h, 1⟩]
          ∧ ((t.pont p).gw h) = { x.gw h with discards := (x.gw h).discards + 1 })
      ∧ (3 ≤ (x.gw h).discards → ((t.pont p).gw h).up = false)
    x.running = true →
      (frPasses f 2 x.crossing false h p = false → ∃ t, exec (.manifest p h f) s = .next t ∧ same t)
      ∧ (∀ l, frPasses f 3 x.crossing false h p = false → ∃ t, exec (.config p h f l) s = .next t ∧ same t)
      ∧ (∀ o, frPasses f 4 x.crossing false h p = false → ∃ t, exec (.order p h f o) s = .next t ∧ same t)
      ∧ (frPasses f 6 x.crossing false h p = false → ∃ t, exec (.echo p h ⟨false, f⟩) s = .next t ∧ same t
          ∧ ((x.gw h).discards < 3 → ((t.pont p).gw h).echo = (x.gw h).echo) ∧ ∀ g, t.helm g = s.helm g)
      ∧ (frPasses f 7 (setCrossingNo f) false h p = false → ∃ t, exec (.setCrossing p h f) s = .next t ∧ same t))
  ∧ (∀ (s : State) (p : Fin 4) (h : HelmId) (f : RxFrame),
    let x := s.pont p
    let good (t : Nat) (n : Nat) := frPasses f t n false h p = true
    let keeps (t : State) : Prop := (∀ q, q ≠ p → t.pont q = s.pont q) ∧ (t.pont p).gw (otherHelm h) = x.gw (otherHelm h)
    x.running = true →
      (good 2 x.crossing → manOk f.payload h = true → s.tb.stroke < 232 → (x.gw h).mans.length < 2 → ∃ t, exec (.manifest p h f) s = .next t
        ∧ keeps t ∧ ((t.pont p).gw h).mans = (x.gw h).mans ++ [(x.crossing, f.payload)] ∧ (t.pont p).outs = x.outs)
      ∧ (good 2 x.crossing → (manOk f.payload h = false ∨ 232 ≤ s.tb.stroke ∨ 2 ≤ (x.gw h).mans.length) → ∃ t, exec (.manifest p h f) s = .next t
        ∧ keeps t ∧ ((t.pont p).gw h).mans = (x.gw h).mans ∧ (t.pont p).outs = x.outs)
      ∧ (good 3 x.crossing → (s.hsOf h).charter ≠ [] → x.setup = [] → ∃ t, exec (.config p h f true) s = .next t ∧ keeps t
        ∧ (t.pont p).setup = (s.hsOf h).charter ∧ (t.pont p).configuring = false
        ∧ ∀ i : Fin 8, (t.pont p).outs[i].landed = x.outs[i].landed)
      ∧ (good 3 x.crossing → (s.hsOf h).charter ≠ [] → x.setup ≠ [] → ∃ t, exec (.config p h f true) s = .next t ∧ keeps t
        ∧ (t.pont p).setup = x.setup ∧ (t.pont p).nextSetup = some (0, (s.hsOf h).charter) ∧ (t.pont p).configuring = false)
      ∧ (good 3 x.crossing → ∃ t, exec (.config p h f false) s = .next t ∧ keeps t ∧ (t.pont p).setup = x.setup
        ∧ (t.pont p).configuring = x.configuring)
      ∧ (good 4 x.crossing → ∃ t, exec (.order p h f .safeState) s = .next t ∧ keeps t ∧ (t.pont p).orderDue = true
        ∧ (t.pont p).outs = x.outs)
      ∧ (good 4 x.crossing → ∃ t, exec (.order p h f .stop) s = .next t ∧ keeps t ∧ (t.pont p).stopDue = true
        ∧ (t.pont p).running = true ∧ (t.pont p).outs = x.outs)
      ∧ (good 4 x.crossing → (s.hsOf h).wakeReads[p] = [] → ∃ t, exec (.order p h f .readout) s = .next t ∧ keeps t
        ∧ ((t.pont p).gw h).read = (x.gw h).read ∧ (t.pont p).wake = x.wake ∧ (t.pont p).outs = x.outs)
      ∧ (∀ q rest, good 4 x.crossing → (s.hsOf h).wakeReads[p] = q :: rest → ∃ t, exec (.order p h f .readout) s = .next t
        ∧ OnlyPont p s t
        ∧ (x.wake.st ≠ .complete → ∀ g, ((t.pont p).gw g).read = (x.gw g).read)
        ∧ (let ws := (((x.wake.buf.drop q.off).take q.count).zipIdx q.off).map (fun e => (e.2, e.1))
           x.wake.st = .complete → ∀ g, ((t.pont p).gw g).read = (x.gw g).read ++ ws.filter (fun e => !(x.gw g).read.contains e))
        ∧ (t.pont p).wake = x.wake ∧ (t.pont p).outs = x.outs)
      ∧ (good 6 x.crossing → ∃ t, exec (.echo p h ⟨false, f⟩) s = .next t ∧ keeps t ∧ ((t.pont p).gw h).echo = some f.payload
        ∧ (∀ g, t.helm g = s.helm g) ∧ (t.pont p).outs = x.outs)
      ∧ (good 7 (setCrossingNo f) → ∃ t, exec (.setCrossing p h f) s = .next t ∧ keeps t
        ∧ (t.pont p).crossing = setCrossingNo f ∧ (t.pont p).marked = true ∧ (t.pont p).mark = (if x.marked = true then x.mark else .plain)
        ∧ (t.pont p).outs = x.outs))

/-- Frames at a helm in service (R27, R31, R53, R355, R372): a good REPORT of the crossing enters a slip of depth 2; a BULK frame
brings the next words that the pontoon has to send into the bulk slip of 64, and none is sent while they do not fit; an ECHO that comes
back with the payload that the pontoon returned shows its gangway good (R211); a bad frame is counted and brings nothing; a sequence
number that does not follow is counted. What REPORT, BULK and ECHO frames bring is log entry 7 (DESIGN CHOICE), and that a frame
discarded at a helm counts in CRC_ERR of its pontoon is log entry 39 (DEDUCED). -/
def Obligations.HelmFrames : Prop :=
  ∀ (s : State) (h : HelmId) (p : Fin 4) (f : RxFrame), (s.helm h).svc.inService = true →
    let n := f.payload.length
    let read := ((s.pont p).gw h).read
    let key := crcErrKey p h
    let keeps (t : State) : Prop := (t.helm h).hs = (s.helm h).hs ∧ t.helm (otherHelm h) = s.helm (otherHelm h) ∧ t.tb = s.tb
    let sent (t : State) : Prop := t.ponts = s.ponts.set p ((s.pont p).modGw h (fun g => { g with read := read.drop n }))
    (∀ r, frPasses f 1 s.tb.crossing true h p = true → (s.pont p).report = some r → r.crossing = s.tb.crossing →
      ((s.helm h).repSlips[p]).length < 2 → ∃ t, exec (.report h p f) s = .next t ∧ keeps t ∧ t.ponts = s.ponts
        ∧ (t.helm h).repSlips = (s.helm h).repSlips.set p ((s.helm h).repSlips[p] ++ [r])
        ∧ (t.helm h).seqIn[p] = some (frSeq f)
        ∧ t.win = (match (s.helm h).seqIn[p] with
            | some q => if frSeq f = q + 1 then s.win else s.winWith key.addr key.lo
            | none => s.win))
    ∧ (frPasses f 1 s.tb.crossing true h p = false → ∃ t, exec (.report h p f) s = .next t ∧ keeps t ∧ t.ponts = s.ponts
        ∧ t.helm h = s.helm h ∧ t.win = s.winWith key.addr key.lo)
    ∧ ((s.helm h).bulkSlip[p].length + n ≤ 64 →
      (frPasses f 5 s.tb.crossing true h p = true → ∃ t, exec (.bulk h p f) s = .next t ∧ keeps t ∧ sent t
        ∧ (t.helm h).bulkSlip = (s.helm h).bulkSlip.set p ((s.helm h).bulkSlip[p] ++ read.take n))
      ∧ (frPasses f 5 s.tb.crossing true h p = false → ∃ t, exec (.bulk h p f) s = .next t
        ∧ sent t ∧ t = { s with ponts := t.ponts, win := s.winWith key.addr key.lo }))
    ∧ (64 < (s.helm h).bulkSlip[p].length + n → exec (.bulk h p f) s = .next s)
    ∧ (∃ t, exec (.echo p h ⟨true, f⟩) s = .next t ∧ keeps t
        ∧ ((t.helm h).echoOk[p] = true ↔ frPasses f 6 s.tb.crossing true h p = true ∧ ((s.pont p).gw h).echo = some f.payload)
        ∧ (frPasses f 6 s.tb.crossing true h p = false → t.win = s.winWith key.addr key.lo)
        ∧ t.pont p = (s.pont p).modGw h (fun g => { g with echo := none }) ∧ ∀ q, q ≠ p → t.pont q = s.pont q)

/-! ### The field supply (R271, R272, R358 to R363, R383) -/

/-- Sag (R271, R272, R359): a condition asserted sheds at once every output whose priority it affects; released, none is shed
newly; the landed values stay. DARK makes every input's state unknown (R230) and clears every detector (R344).

The field voltage above its limit, and the stop and restart of a pontoon's logic (R359, R363): everything a pontoon holds is
lost but the levels at its terminals; it restarts dark, silent, with an empty store, its counters from 0, with CT_GAP to
come (R236). -/
def Obligations.SagsAndFieldSupply : Prop :=
  (∀ (s : State) (p : Fin 4) (c : Sag),
    let x := s.pont p
    let same (y : Pont) : Prop := (∀ i : Fin 8, y.outs[i].landed = x.outs[i].landed) ∧ (∀ i : Fin 8, y.ins[i].raw = x.ins[i].raw) ∧ y.setup = x.setup
      ∧ y.running = true
    let frame (t : State) : Prop := t = { s with ponts := s.ponts.set p (t.pont p), lanes := t.lanes }
    (x.running = true → x.sag.getLsbD (Sag.ix c) = false → ∃ t, exec (.sagAssert p c) s = .next t ∧ frame t ∧ same (t.pont p)
      ∧ (t.pont p).sag = x.sag ||| BitVec.ofNat 4 (2 ^ (Sag.ix c)) ∧ (t.pont p).bells = x.bells ||| oneBit bellField
      ∧ ∀ i : Fin 8, (t.pont p).mustShed (x.priority p i) = true → (t.pont p).outs[i].shed = true
          ∧ (t.pont p).outs[i].queued = false)
    ∧ (x.running = true → x.sag.getLsbD 3 = false → ∃ t, exec (.sagAssert p .dark) s = .next t
      ∧ (∀ i : Fin 8, (t.pont p).ins[i].known = false) ∧ ∀ i : Fin 4, (t.pont p).ais[i] = x.ais[i].clearAll)
    ∧ (x.running = true → x.sag.getLsbD (Sag.ix c) = true → ∃ t, exec (.sagRelease p c) s = .next t ∧ frame t ∧ same (t.pont p)
      ∧ (t.pont p).sag = x.sag &&& ~~~BitVec.ofNat 4 (2 ^ (Sag.ix c))
      ∧ ∀ i : Fin 8, (t.pont p).outs[i].shed = true → x.outs[i].shed = true)
    ∧ (x.sag.getLsbD (Sag.ix c) = true → exec (.sagAssert p c) s = .next s)
    ∧ (x.sag.getLsbD (Sag.ix c) = false → exec (.sagRelease p c) s = .next s))
  ∧ (∀ (s : State) (p : Fin 4),
    let x := s.pont p
    let frame (t : State) : Prop := t = { s with ponts := s.ponts.set p (t.pont p), lanes := t.lanes }
    (x.running = true → x.vfOver = false → ∃ t, exec (.vfOverSet p) s = .next t ∧ OnlyPont p s t
      ∧ (t.pont p).vfOver = true ∧ (t.pont p).bells = x.bells ||| oneBit bellField ∧ (t.pont p).outs = x.outs
      ∧ (t.pont p).recsV = x.recsV ++ [(0x0C3, clsWarn)])
    ∧ (exec (.vfOverClear p) s = .next (s.modPont p (fun y => { y with vfOver := false })))
    ∧ (∃ t, exec (.logicStop p) s = .next t ∧ frame t ∧ (t.pont p).running = false ∧ (t.pont p).setup = []
      ∧ (t.pont p).outs = Vector.replicate 8 {} ∧ (t.pont p).report = none
      ∧ ∀ i : Fin 8, (t.pont p).ins[i].raw = x.ins[i].raw)
    ∧ (x.running = false → ∃ t, exec (.pontoonRestart p) s = .next t ∧ frame t ∧ (t.pont p).running = true
      ∧ (t.pont p).dark = true ∧ (t.pont p).silence = true ∧ (t.pont p).configuring = true ∧ (t.pont p).setup = []
      ∧ (t.pont p).marked = false ∧ (∀ i : Fin 4, (t.pont p).cts[i].count = 0 ∧ (t.pont p).cts[i].gap = true) ∧ (t.pont p).grp.uns = true)
    ∧ (x.running = true → exec (.pontoonRestart p) s = .next s))

/-! ### Helms outside their passages (R27, R51, R180 to R212, R464 to R466) -/

/-- HELM_HALT and HELM_SILENT (R184, R185, R438): the helm stops at once, its slips, manifests and records not yet handed over with it; the
other, if it runs passages,
learns it by a stamped event. Where no passage can apply one the helm counts as HALTED at once, by a record of the Quay, whose D2
names the former holder where the helm held, and the bell HELM; a halt of the other helm that still waited for a passage of this
one is shown and recorded before it (R219; that the reset controller writes these records is the model's choice, log entry 51). A
helm that has taken no stroke for two crossings is silent and halts too.

DEBUG_CLOSE_INSTRUCTION (R216): the attachment ends at the next landing, by a stamped event. With no helm in service the
Quay makes the landing: at stroke 240 the helm is HALTED with its full self-test to come, DEBUG_DETACH is recorded and HELM
rings (that the reset controller writes this record is the model's choice, log entry 51). -/
def Obligations.HaltsAndDebugClose : Prop :=
  (∀ (s : State) (h : HelmId) (c : HaltCause),
    let o := otherHelm h
    let was := (s.helm h).svc.inService
    let held (g : HelmId) : Word := if was = true ∧ (s.hsOf h).red.view = some g then wd (helmSubj g) else 0
    let haltRec (g : HelmId) (k : Stamp) (cause : BitVec 4) : Rec :=
      ⟨k, 0xA, clsFault, 0x023, subj (helmSubj g), wd cause.toNat, held g⟩
    let left := if (s.helm h).svc.computes = true then (s.helm h).waitingHalts.filter (fun e => e.1 = o) else []
    let stopped (t : State) (cause : BitVec 4) : Prop :=
      (t.helm h).svc = .halted ∧ (t.helm h).testing = true ∧ (t.helm h).out = Vector.replicate 4 [] ∧ (t.helm h).outAt = none
      ∧ (t.helm h).recQ = [] ∧ (t.helm h).shared = [] ∧ (t.helm h).held = [] ∧ (t.helm h).sure = [] ∧ (t.helm h).links = {}
      ∧ s.hpa.slip o = t.hpa.slip o ∧ t.hpa.slip h = [] ∧ t.hpb.slip h = [] ∧ (t.helm o).svc = (s.helm o).svc
      ∧ t.tb = s.tb ∧ t.ponts = s.ponts ∧ t.nvmA = s.nvmA ∧ t.nvmB = s.nvmB
      ∧ ((s.helm h).svc.inService = true → (s.helm o).runs = true →
          (t.helm o).hs.evs = (s.helm o).hs.evs ++ [{ at_ := s.now, ev := .helmHalt h cause }] ∧ (t.helm o).hs.red = (s.helm o).hs.red
          ∧ t.bell = s.bell ∧ t.com = s.com)
      ∧ ((s.helm h).svc.inService = false ∨ (s.helm o).runs = false →
          (t.helm h).outCause = cause ∧ (t.hsOf h).red.svc h = .halted ∧ (t.hsOf o).evs = (s.hsOf o).evs
          ∧ (left = [] → Noted s t (haltRec h s.now cause))
          ∧ (∀ k c, left = [(o, k, c)] → s.com.holdUp = false → s.com.slipQ.length < 3 →
              t.com.slipQ = s.com.slipQ ++ [haltRec o k c, haltRec h s.now cause] ∧ (t.hsOf h).red.svc o = .halted
              ∧ (t.helm o).outCause = c)
          ∧ ((s.helm o).svc.computes = true → Rung s t bellHelm)
          ∧ ((s.helm o).svc.computes = false → t.bell = { s.bell with cause := s.bell.cause ||| oneBit bellHelm }))
    (s.live = true → (s.helm h).svc ≠ .halted → ∃ t, exec (.helmHalt h c) s = .next t ∧ stopped t (haltOut c))
    ∧ ((s.helm h).svc = .halted → exec (.helmHalt h c) s = .next s)
    ∧ (s.live = true → s.tb.counting = true → (s.helm h).svc.inService = true → (s.helm h).silent = false →
      (s.helm h).tokenAt + 2 ≤ s.tb.crossing → ∃ t, exec (.helmSilent h) s = .next t ∧ stopped t 5
        ∧ (t.helm h).silent = true)
    ∧ (s.tb.crossing < (s.helm h).tokenAt + 2 → exec (.helmSilent h) s = .next s))
  ∧ (∀ (s : State) (h : HelmId), s.live = true →
    ((s.helm h).svc = .debug → (s.helm (otherHelm h)).svc.inService = true →
      ∃ t, exec (.debugCloseInstruction h) s = .next t ∧ Received s t s.now (.debugClose h) ∧ (t.helm h).svc = .debug
        ∧ t = { s with helmA := t.helmA, helmB := t.helmB })
    ∧ ((s.helm h).svc = .debug → (s.helm (otherHelm h)).svc.inService = false →
      exec (.debugCloseInstruction h) s = .next (s.modHelm h (fun x => { x with closing := true })))
    ∧ (s.tb.tides = true → s.tb.ts ≠ .dead → s.rst.started = true → s.rst.firstGiven = true → s.tb.counting = true → s.tb.stroke = 239 →
      (∀ g, (s.helm g).svc.inService = false) → (s.helm h).closing = true → (s.helm (otherHelm h)).closing = false →
      ∃ t, exec .stroke s = .next t ∧ (t.helm h).svc = .halted ∧ (t.helm h).testing = true ∧ (t.helm h).closing = false
        ∧ (t.hsOf h).red.svc h = .halted ∧ bitOf t.bell.cause bellHelm = true
        ∧ Noted s t ⟨⟨s.tb.crossing, 240⟩, 0xA, clsAct, 0x050, wd (helmCode h), 0, 0⟩)
    ∧ ((s.helm h).svc ≠ .debug → exec (.debugCloseInstruction h) s = .next s))

/-- STROKE_TOKEN (R27, R32, R51, R184, R195): the oldest token of the slip is taken; one that does not follow the last halts the helm.
Otherwise the helm offers its records to the record slip of 8, in their order; a helm in service, joining ones too, empties its command
slips, and its frames wait for their landing; the general ports have served every read asked of them. In the background window its readout
task empties the bulk slips, replies enter the reply slips while there is room, but in the windows of a test passage, and, the painter
working, the words of the other helm are taken and its own offered to the painter slip of 32; at other strokes none of this is done.

BACKGROUND_STEP (R46, R51, R195, R211), in the background window: a good step moves on to the next, the holder staying within steps 2 to 4; a bad one hands
HELM_FENCE for itself to the helms, a bad step 4 halts the helm; a bad step 6 writes its record, and marks the painter down and
a good one up in both helms (that both helms show it is the model's inference, log entry 30, DEDUCED). Outside the background
window, and in the windows of a test passage, none runs. -/
def Obligations.StrokeTokensAndBackground : Prop :=
  (∀ (s : State) (h : HelmId) (k : Stamp) (rest : List Stamp),
    let x := s.helm h
    let o := otherHelm h
    let room := if s.com.holdUp = true then 0 else 8 - (s.com.slip h).length
    let taken (t : State) : Prop :=
      (t.helm h).strokeSlip = rest ∧ (t.helm h).strokeReg = some k ∧ (t.helm h).tokenAt = k.crossing ∧ (t.helm h).svc = x.svc
      ∧ (t.helm o).svc = (s.helm o).svc ∧ t.hsOf o = s.hsOf o
      ∧ t.com.slip h = s.com.slip h ++ x.recQ.take room ∧ (t.helm h).recQ = x.recQ.drop room
      ∧ t.com.slip o = s.com.slip o ∧ (t.helm o).recQ = (s.helm o).recQ ∧ t.com.slipQ = s.com.slipQ
      ∧ (t.helm h).bulkSlip = (if k.background = true then Vector.replicate 4 [] else x.bulkSlip)
      ∧ t.readsAsked = 0 ∧ t.tb = s.tb ∧ t.ponts = s.ponts ∧ t.nvmA = s.nvmA ∧ t.nvmB = s.nvmB
    let replies (t : State) : Prop :=
      (k.background = false ∨ s.testWindow h = true →
        ∀ p, (t.helm h).waiting p = x.waiting p ∧ (t.helm h).slip p = x.slip p)
      ∧ (k.background = true → s.testWindow h = false → ∀ p, (t.helm h).waiting p ≠ [] → 2 ≤ ((t.helm h).slip p).length)
    let painter (t : State) : Prop :=
      (k.background = true → x.svc.inService = true → x.painterOk = true → (t.helm o).links.painterSlip = []
        ∧ (t.helm h).links.painterSlip ++ (t.helm h).links.painterWait = x.links.painterSlip ++ x.links.painterWait
        ∧ ((t.helm h).links.painterWait ≠ [] → 32 ≤ (t.helm h).links.painterSlip.length)
        ∧ (∀ w, (s.helm o).links.painterSlip = [⟨false, w⟩] → (t.helm h).links.peerHealth = w))
      ∧ (k.background = false ∨ x.svc.inService = false ∨ x.painterOk = false →
        ∀ g, (t.helm g).links.painterSlip = (s.helm g).links.painterSlip ∧ (t.helm g).links.painterWait = (s.helm g).links.painterWait)
    s.live = true → x.svc ≠ .halted → x.svc ≠ .debug → x.strokeSlip = k :: rest →
      (∀ u, x.strokeReg = some u → k ≠ u.nextStroke → ∃ t, exec (.strokeToken h) s = .next t ∧ (t.helm h).svc = .halted
        ∧ (t.helm h).strokeSlip = rest)
      ∧ (x.svc.inService = true → (∀ u, x.strokeReg = some u → k = u.nextStroke) → ∃ t, exec (.strokeToken h) s = .next t
          ∧ taken t ∧ replies t ∧ painter t
          ∧ t.hpa.slip h = [] ∧ t.hpb.slip h = [] ∧ t.hpa.slip o = s.hpa.slip o ∧ t.hpb.slip o = s.hpb.slip o
          ∧ (k.background = false ∨ x.svc.computes = false → (t.hsOf h).cmds = x.hs.cmds ++ s.hpa.slip h ++ s.hpb.slip h)
          ∧ t.hsOf h = { x.hs with cmds := (t.hsOf h).cmds, heldA := (t.hsOf h).heldA, heldB := (t.hsOf h).heldB,
                                   heard := (t.hsOf h).heard })
      ∧ (x.svc.inService = false → (∀ u, x.strokeReg = some u → k = u.nextStroke) → ∃ t, exec (.strokeToken h) s = .next t
          ∧ taken t ∧ replies t ∧ painter t ∧ t.hsOf h = x.hs ∧ t.hpa = s.hpa ∧ t.hpb = s.hpb))
  ∧ (∀ (s : State) (h : HelmId),
    let x := s.helm h
    let k := x.stepNow (s.lead h)
    ((s.testWindow h = true ∨ (32 ≤ s.tb.stroke ∧ s.tb.stroke < 208)) → ∀ b, exec (.backgroundStep h b) s = .next s)
    ∧ (s.live = true → x.svc.computes = true → s.testWindow h = false → (208 ≤ s.tb.stroke ∨ s.tb.stroke < 32) →
      (∃ t, exec (.backgroundStep h true) s = .next t ∧ (k ≠ 6 → OnlyHelm h s t) ∧ (t.helm h).bgStep = stepAfter (s.lead h) k
        ∧ (k = 6 → OnlyHelm h { s with helmA := { s.helmA with painterOk := true }, helmB := { s.helmB with painterOk := true } } t)
        ∧ (t.helm h).svc = x.svc ∧ (t.helm h).hs = x.hs ∧ (s.lead h = true → 2 ≤ k ∧ k ≤ 4))
      ∧ (k = 4 → ∃ t, exec (.backgroundStep h false) s = .next t ∧ (t.helm h).svc = .halted)
      ∧ (k = 6 → ∃ t, exec (.backgroundStep h false) s = .next t ∧ (∀ g, (t.helm g).painterOk = false
          ∧ (t.helm g).hs = (s.helm g).hs ∧ (t.helm g).svc = (s.helm g).svc)
        ∧ s.Offers t h ⟨s.now, helmSource h, clsFault, 0x029, subj (helmSubj h), 6, 0⟩)
      ∧ (k ≠ 4 → k ≠ 6 → k ≠ 7 → ∃ t, exec (.backgroundStep h false) s = .next t
          ∧ (t.helm h).hs.evs = x.hs.evs ++ [{ at_ := s.now, ev := .helmFence h 2 k }] ∧ (t.helm h).svc = x.svc
          ∧ s.Offers t h ⟨s.now, helmSource h, clsFault, 0x029, subj (helmSubj h), wd k, 0⟩)))

/-- Test passages and their outcome (R195 to R197): in a background window the signature of the oldest one due is compared with the
golden one and its record offered; the verdict of a helm is that of the record which has entered its record slip, at once or with a later
stroke token (that a record has reached the engine when it is in the slip is log entry 50, DEDUCED); at stroke 64 of its crossing the Quay
raises the outcome, with NONE for a named helm whose
record has not come (log entry 50) and PASS for one that no request names (log entry 58, DESIGN CHOICE), and the passage is due no longer;
those of other crossings stay due.

The full self-test (R186, R212, R219): a pass leads to STARTING with nothing loaded, the painter tried and good in both helms, and
from FENCED or HALTED with a HELM_JOIN record (the painter of both helms and this record are the model's choice, log entry 51,
DESIGN CHOICE); a fail leads to BIST_FAIL with its record; it is counted, unless a wake made a test passage stand in for it (R459), and repeated while the charter's
retries last. -/
def Obligations.TestPassagesAndSelfTests : Prop :=
  (∀ (s : State) (h : HelmId) (sig : BitVec 48),
    let x := s.helm h
    let verdict (l : List TestRun) (k : TestKey) (v : TestVerdict) : List TestRun :=
      l.map (fun r => if r.key = k then (match h with | .a => { r with resA := v } | .b => { r with resB := v }) else r)
    (∀ k l, s.live = true → x.svc.computes = true → x.tests = k :: l → (208 ≤ s.tb.stroke ∨ s.tb.stroke < 32) →
      ∃ t, exec (.testPassage h sig) s = .next t ∧ (t.helm h).tests = l ∧ (t.helm h).sig = sig ∧ (t.helm h).hs = x.hs
        ∧ ((t.helm h).testOk = true ↔ sig = Config.goldenSig)
        ∧ s.Offers t h ⟨s.now, helmSource h, clsInfo, 0x022, subj (helmSubj h) + (if sig = Config.goldenSig then 1 else 2),
            wd (sig.toNat / 2 ^ 24), wd sig.toNat⟩
        ∧ (∀ r ∈ t.outcomes, ∃ q ∈ s.outcomes, r.key = q.key ∧ ∀ g, r.names g = q.names g)
        ∧ (s.com.holdUp = true ∨ 8 ≤ (s.com.slip h).length → t.outcomes = s.outcomes)
        ∧ (s.com.holdUp = false → (s.com.slip h).length < 8 → x.recQ = [] → x.testRecs = [] →
            t.outcomes = verdict s.outcomes k (if sig = Config.goldenSig then .pass else .fail))
        ∧ t.helm (otherHelm h) = s.helm (otherHelm h))
    ∧ (x.tests = [] → exec (.testPassage h sig) s = .next s)
    ∧ (∀ k r c, s.live = true → x.svc.computes = true → x.strokeSlip = [c] → x.strokeReg = none → x.testRecs = [k] → x.recQ = [r] →
        r.code = 0x022 → s.com.holdUp = false → (s.com.slip h).length < 8 → ∃ t, exec (.strokeToken h) s = .next t
          ∧ t.outcomes = verdict s.outcomes k (if fld r.d0 3 0 = 1 then .pass else .fail) ∧ (t.helm h).testRecs = [])
    ∧ (∀ r l, s.outcomes = r :: l → (r.key.1 < s.tb.crossing ∨ (r.key.1 = s.tb.crossing ∧ 64 ≤ s.tb.stroke)) →
      ∃ t, exec .testOutcome s = .next t ∧ t.outcomes = s.outcomes.filter (fun q => q.key ≠ r.key)
        ∧ Received s t ⟨r.key.1, 64⟩ (.testOutcome (if r.nameA = true then r.resA else .pass)
            (if r.nameB = true then r.resB else .pass) r.key.2)
        ∧ (∀ g, (t.helm g).tests = (s.helm g).tests.filter (fun k => k ≠ r.key))
        ∧ t = { s with helmA := t.helmA, helmB := t.helmB, outcomes := t.outcomes })
    ∧ ((∀ r ∈ s.outcomes, s.tb.crossing < r.key.1 ∨ (s.tb.crossing = r.key.1 ∧ s.tb.stroke < 64)) →
      exec .testOutcome s = .next s))
  ∧ (∀ (s : State) (h : HelmId),
    let x := s.helm h
    let o := otherHelm h
    let counted : Window := if s.rst.cause = 7 ∧ s.rst.firstGiven = false then s.win else s.winWith 0x60B 6
    s.live = true → x.svc.inService = false →
      (x.testing = true → x.svc ≠ .debug →
        (∃ t, exec (.fullSelftestDone h true) s = .next t ∧ (t.helm h).svc = .starting ∧ (t.helm h).testing = false
          ∧ (t.helm h).lockOk = true ∧ (t.helm h).memOk = true ∧ (t.helm h).testOk = true ∧ (t.helm h).loaded = false
          ∧ (t.helm h).bistFail = false ∧ (∀ g, (t.helm g).painterOk = true) ∧ (t.hsOf h).red.svc h = .starting
          ∧ (t.helm o).svc = (s.helm o).svc ∧ t.win = counted
          ∧ (∀ g, h ∉ (t.hsOf g).red.doubleFail) ∧ (x.svc = .starting → t.bell = s.bell ∧ t.com = s.com)
          ∧ (x.svc ≠ .starting → Rung s t bellHelm
              ∧ s.Offers t h ⟨s.now, helmSource h, clsInfo, 0x025, subj (helmSubj h), wd x.outCause.toNat, 0⟩)
          ∧ t = { s with helmA := t.helmA, helmB := t.helmB, win := t.win, bell := t.bell, com := t.com,
                         outcomes := t.outcomes })
        ∧ (∃ t, exec (.fullSelftestDone h false) s = .next t ∧ (t.helm h).svc = x.svc ∧ (t.helm h).testing = false
          ∧ (t.helm h).bistFail = true ∧ t.win = counted ∧ t.helm o = s.helm o
          ∧ s.Offers t h ⟨s.now, helmSource h, clsFault, 0x02A, subj (helmSubj h), wd x.bistTries, 0⟩))
      ∧ (x.testing = false → ∀ b, exec (.fullSelftestDone h b) s = .next s)
      ∧ (x.bistFail = true → x.joinable = true → x.testing = false → x.bistTries < x.retries → exec (.bistRetry h) s
          = .next (s.modHelm h (fun y => { y with testing := true, bistTries := y.bistTries + 1 })))
      ∧ (x.retries ≤ x.bistTries → exec (.bistRetry h) s = .next s))

/-- A helm that is loaded (R186, R209, R464 to R466): it joins another in service; the primary takes the helm first, BERTHED, or
ANCHORED with MODE_CAUSE 6 under the fallback charter; the other waits, and takes it when the primary has missed its
deadline. It is to send SET_CROSSING and CONFIG to every pontoon (R465), and its HANDOVER record names the former holder. With
both helms out of service before, it starts under R209: BERTHED after both were in DEBUG, else ANCHORED with MODE_CAUSE 8, or, ANCHORED
already, with the cause, the mode before and the landing that it had (R386), and a MODE_CHANGE record, its bell and counts at reset but for what this start rings. (The record of a first holder is log entry 51,
DESIGN CHOICE; the start under R209, its bell, empty counts and the stamps of its records rest on log entries 28, DEDUCED, and
51.) -/
def Obligations.TakingTheHelm : Prop :=
  ∀ (s : State) (h : HelmId),
    let x := s.helm h
    let o := otherHelm h
    let took (g : HelmId) (d2 : Word) : Rec :=
      ⟨⟨s.tb.crossing, 240⟩, helmSource g, clsInfo, 0x027, subj (helmSubj g), 0, d2⟩
    let last := (s.hsOf s.lastPassage).modes
    let stood : Prop := s.mode = .anchored ∧ last.mode = .anchored
    let former : Word := match (s.helm s.lastPassage).hs.red.view with
      | some g => wd (helmSubj g)
      | none => 0
    let holds (g : HelmId) (t : State) : Prop :=
      (t.helm g).svc = .holding ∧ (t.helm g).crossOut = 0xF ∧ (t.helm g).cfgOut = 0xF
      ∧ (s.vote.code = none → s.Offers t g (took g 0)) ∧ (t.hsOf g).red.view = some g ∧ t.rst.firstGiven = true
      ∧ (t.hsOf g).charter = (s.hsOf g).charter ∧ (t.hsOf g).img = startImg (s.hsOf g).charter
      ∧ (t.hsOf g).modes.mode = (if isFallback (s.hsOf g).charter = true then .anchored else .berthed)
      ∧ (isFallback (s.hsOf g).charter = true → (t.hsOf g).modes.cause = 6)
      ∧ (t.hsOf g).roleA.held = none ∧ (t.hsOf g).roleB.held = none ∧ t.now = s.now
    s.live = true →
      (s.rst.started = true → x.svc = .starting → x.testing = false → x.bistFail = false → x.loaded = true →
        ((s.helm o).svc.inService = true → ∃ t, exec (.helmLoaded h) s = .next t ∧ (t.helm h).svc = .joining
          ∧ (t.helm h).resync = {} ∧ (t.helm o).svc = (s.helm o).svc ∧ (t.hsOf o).img = (s.hsOf o).img
          ∧ (t.hsOf o).red.svc h = .joining)
        ∧ ((s.helm o).svc.inService = false → s.rst.firstGiven = false →
          (firstPrimary x.hs.charter = h ∨ s.rst.firstLate = true) → ∃ t, exec (.helmLoaded h) s = .next t ∧ holds h t)
        ∧ ((s.helm o).svc.inService = false → s.rst.firstGiven = true → (s.helmA.outCause ≠ 8 ∨ s.helmB.outCause ≠ 8) →
          ∃ t, exec (.helmLoaded h) s = .next t ∧ (t.helm h).svc = .holding ∧ (t.hsOf h).modes.mode = .anchored
            ∧ (¬ stood → (t.hsOf h).modes.cause = 8 ∧ (t.hsOf h).modes.prev = s.mode ∧ (t.hsOf h).modes.since = s.tb.crossing)
            ∧ (stood → (t.hsOf h).modes.cause = last.cause ∧ (t.hsOf h).modes.prev = last.prev ∧ (t.hsOf h).modes.since = last.since)
            ∧ (t.hsOf h).red.retHold = (s.helm s.lastPassage).hs.red.retHold
            ∧ (t.helm h).crossOut = 0xF ∧ (t.helm h).cfgOut = 0xF
            ∧ (t.bell.cause ||| t.bell.raised) = 0x800000 ||| oneBit bellHelm ||| oneBit bellMode ∧ t.bell.mask = s.bell.mask
            ∧ t.win.rc = []
            ∧ (x.recQ.length < 63 → t.com.slip h ++ (t.helm h).recQ = s.com.slip h ++ x.recQ
              ++ [took h former, ⟨⟨s.tb.crossing, 240⟩, helmSource h, clsFault, 0x04E,
                  wd (0x50008 + s.mode.code * 2 ^ 12), 0, 0⟩]))
        ∧ ((s.helm o).svc.inService = false → s.rst.firstGiven = true → s.helmA.outCause = 8 → s.helmB.outCause = 8 →
          ∃ t, exec (.helmLoaded h) s = .next t ∧ (t.helm h).svc = .holding ∧ (t.hsOf h).modes.mode = .berthed
            ∧ (t.helm h).crossOut = 0xF ∧ (t.helm h).cfgOut = 0xF
            ∧ (s.mode = .berthed → s.Offers t h (took h former))
            ∧ (s.mode ≠ .berthed → x.recQ.length < 63 → t.com.slip h ++ (t.helm h).recQ = s.com.slip h ++ x.recQ
              ++ [took h former, ⟨⟨s.tb.crossing, 240⟩, helmSource h, clsAct, 0x04E,
                  wd (0x10000 + s.mode.code * 2 ^ 12), 0, 0⟩]))
        ∧ ((s.helm o).svc.inService = false → s.rst.firstGiven = false → firstPrimary x.hs.charter ≠ h →
          s.rst.firstLate = false → exec (.helmLoaded h) s = .next (s.modHelm h (fun y => { y with ready := true }))))
      ∧ (x.bistFail = true → exec (.helmLoaded h) s = .next s)
      ∧ (s.rst.firstGiven = false → s.rst.firstLate = false →
        (s.helmA.ready = true → ∃ t, exec .firstHolderTimeout s = .next t ∧ holds .a t)
        ∧ (s.helmA.ready = false → s.helmB.ready = true → ∃ t, exec .firstHolderTimeout s = .next t ∧ holds .b t)
        ∧ (s.helmA.ready = false → s.helmB.ready = false → exec .firstHolderTimeout s
            = .next { s with rst := { s.rst with firstLate := true } }))
      ∧ (s.rst.firstGiven = true → exec .firstHolderTimeout s = .next s)

/-- Joining (R206 to R208): a request with the painter up starts the resynchronisation; a chunk and a delta of up to 1 024 words
go in each background window of a later crossing, a longer delta aborts it; after the twelfth the joiner has the holder's state
and hands HELM_JOIN over. After an abort, 16 crossings pass. -/
def Obligations.Joining : Prop :=
  ∀ (s : State) (h : HelmId),
    let x := s.helm h
    let o := otherHelm h
    s.live = true →
      (x.svc = .joining → x.resync.r = none → x.painterOk = true → x.resync.retryAt ≤ s.tb.crossing →
        (s.helm o).svc.computes = true → exec (.joinRequest h) s
          = .next (s.modHelm h (fun y => { y with resync := { r := some s.tb.crossing, win := s.tb.crossing } })))
      ∧ ((x.svc ≠ .joining ∨ x.painterOk = false ∨ s.tb.crossing < x.resync.retryAt) → exec (.joinRequest h) s = .next s)
      ∧ (∀ d, let w := if 208 ≤ s.tb.stroke then s.tb.crossing else s.tb.crossing - 1
        s.joiner = some h → x.resync.chunks < 12 →
        ((208 ≤ s.tb.stroke ∨ s.tb.stroke < 32) → x.resync.win < w →
          (d ≤ 1024 → exec (.resyncChunk d) s
            = .next (s.modHelm h (fun y => { y with resync := { y.resync with chunks := y.resync.chunks + 1, win := w } })))
          ∧ (1024 < d → ∃ t, exec (.resyncChunk d) s = .next t ∧ (t.helm h).resync = { retryAt := s.tb.crossing + 16 }
              ∧ t.helm o = s.helm o ∧ t.win = s.winWith 0x60B 12))
        ∧ (32 ≤ s.tb.stroke → s.tb.stroke < 208 → exec (.resyncChunk d) s = .next s)
        ∧ (w ≤ x.resync.win → exec (.resyncChunk d) s = .next s))
      ∧ (∀ r, x.svc = .joining → x.resync.r = some r → x.resync.chunks = 12 → x.resync.handed = false →
        (s.helm o).svc.computes = true → r + 13 ≤ s.tb.crossing → 32 ≤ s.tb.stroke →
        (s.helm o).passNo = some s.tb.crossing → ∃ t, exec (.helmJoin h) s = .next t
          ∧ (t.hsOf h) = { s.hsOf o with evs := (s.hsOf o).evs ++ [{ at_ := s.now, ev := .helmJoin h }] }
          ∧ (t.hsOf o).evs = (s.hsOf o).evs ++ [{ at_ := s.now, ev := .helmJoin h }] ∧ (t.helm h).resync.handed = true
          ∧ (t.helm h).saved = (s.helm o).saved ∧ (t.helm h).svc = .joining ∧ t.ponts = s.ponts ∧ t.tb = s.tb)
      ∧ (∀ r, x.svc = .joining → x.resync.r = some r → x.resync.chunks = 12 → x.resync.handed = false →
        (s.helm o).svc.computes = true → r + 13 ≤ s.tb.crossing → 32 ≤ s.tb.stroke → ∃ t, exec (.helmJoin h) s = .next t
          ∧ (t.helm h).passNo = some s.tb.crossing)
      ∧ (x.resync.chunks ≠ 12 → exec (.helmJoin h) s = .next s)

/-! ### Charters in NVM (R408, R422, R452 to R454, R465) -/

/-- CHARTER_LOAD (R217, R422, R453, R465, R468): three equal intact copies are loaded; with two equal ones their charter is; with
no intact copy the fallback charter is. WDP then leaves high impedance, to the polarity of that charter; before the first
landing PRIMARY_ACT shows its primary. The image is the one the table names for the helm, code ROM where neither bank
holds it whole, which alone is recorded. No copy is rewritten here and no record of the vote is made: the first holder does so (R465). Of the banks only the
image table is written, as it was read (R468). A helm that has failed its self-test loads none (R212).

CHARTER_COPY_WRITE and CHARTER_COPY_CHECK (R159, R408, R454): the holder writes copy 1, 2, 3 of the pending charter in this
order, beginning with the first that is neither confirmed nor its own; a copy that both helms read back equal stands in its
region and is confirmed, one that does not has its header (log entry 34, DEDUCED) and stands otherwise open (log entry 2), and is written again only by a new
holder. A check of the copies reads all three and rewrites those that are not intact or differ from the charter in force, but none
after CHARTER_SPLIT; it then offers a CHARTER_REPAIRED record with the copies intact and rewritten, FROM_FORCE, and the generations of the
charter in force and of the first intact copy rewritten, and rings CHARTER. Whether a rewritten copy reads back equal no command says: that is a
free value (log entry 2, DESIGN CHOICE). Every word of the banks outside the regions of the copies written stays. -/
def Obligations.ChartersInNvm : Prop :=
  (∀ (s : State) (h : HelmId),
    let x := s.helm h
    let ok (c : Nat) := s.copyOk c = true
    let w (c : Nat) := s.copyWords c
    let loads (ch : List Word) (src : BitVec 3) : Prop := ∃ t, exec (.charterLoad h) s = .next t ∧ (t.helm h).loaded = true
      ∧ (t.hsOf h).charter = ch ∧ (t.hsOf h).chSource = src ∧ (t.helm h).svc = .starting ∧ t.toll.wdp ≠ .hiz
      ∧ (s.toll.wdp = .hiz → t.toll.wdp = .inactive ∧ t.toll.cur.pol = (chToll ch).pol)
      ∧ (s.win.landing = none → assocGet t.win.snap 0x600 = some (wd (helmCodeO (chPrimary ch) * 2 ^ 20)))
      ∧ (let b := bootOf s.imgTable h
         (2 ≤ b → (t.helm h).boot = BitVec.ofNat 2 b)
         ∧ (b < 2 → (t.helm h).boot
            = if imageIntact s.nvmA s.imgTable b = false ∧ imageIntact s.nvmB s.imgTable b = false then 3 else BitVec.ofNat 2 b))
      ∧ (t.hsOf (otherHelm h)) = s.hsOf (otherHelm h) ∧ t.ponts = s.ponts ∧ t.tb = s.tb
      ∧ (t.hsOf h).copyOk = BitVec.ofNat 3 (copyMask s.copyOk) ∧ (t.hsOf h).imgTab = s.imgTable ∧ t.bell = s.bell
      ∧ (let b := bootOf s.imgTable h
         let broken : Prop := b < 2 ∧ imageIntact s.nvmA s.imgTable b = false ∧ imageIntact s.nvmB s.imgTable b = false
         (¬broken → t.com = s.com ∧ ∀ g, (t.helm g).recQ = (s.helm g).recQ ∧ (t.helm g).shared = (s.helm g).shared ∧ (t.helm g).sure = (s.helm g).sure)
         ∧ (broken → s.Offers t h ⟨s.now, helmSource h, clsFault, 0x00A, 0, 0, wd (imgSlotBase b)⟩))
      ∧ (s.banksOk = true → t.banksOk = true ∧ ∀ b : Bool, (t.bank b).reads imgBase 12 = imgTableWords s.imgTable
          ∧ ∀ a, ¬(imgBase ≤ a ∧ a < imgBase + 12) → (t.bank b).read a = (s.bank b).read a)
    (s.live = true → x.svc = .starting → x.testing = false → x.bistFail = false → x.loaded = false →
      (ok 0 → ok 1 → ok 2 → w 0 = w 1 → w 1 = w 2 → loads (w 0) 0)
      ∧ (ok 0 → ok 1 → w 0 = w 1 → ¬(ok 2 ∧ w 1 = w 2) → loads (w 0) 1)
      ∧ (ok 0 → ok 2 → w 0 = w 2 → ¬(ok 1 ∧ w 0 = w 1) → loads (w 0) 1)
      ∧ (ok 1 → ok 2 → w 1 = w 2 → ¬(ok 0 ∧ w 0 = w 1) → loads (w 1) 1)
      ∧ (ok 0 → ok 1 → ok 2 → w 0 ≠ w 1 → w 0 ≠ w 2 → w 1 ≠ w 2 → loads fallbackCharter 3)
      ∧ (ok 0 → ¬ok 1 → ¬ok 2 → loads (w 0) 2) ∧ (¬ok 0 → ok 1 → ¬ok 2 → loads (w 1) 2)
      ∧ (ok 0 → ok 1 → ¬ok 2 → w 0 ≠ w 1 → loads (w 0) 2) ∧ (ok 0 → ¬ok 1 → ok 2 → w 0 ≠ w 2 → loads (w 0) 2)
      ∧ (¬ok 0 → ok 1 → ok 2 → w 1 ≠ w 2 → loads (w 1) 2)
      ∧ (¬ok 0 → ¬ok 1 → ok 2 → loads (w 2) 2) ∧ (¬ok 0 → ¬ok 1 → ¬ok 2 → loads fallbackCharter 4))
    ∧ ((x.svc ≠ .starting ∨ x.testing = true ∨ x.bistFail = true ∨ x.loaded = true) → exec (.charterLoad h) s = .next s))
  ∧ (∀ (s : State) (h : HelmId) (c : Fin 3), s.leader = some h → s.banksOk = true →
    let r := copyRegion c
    let bit : BitVec 3 := BitVec.ofNat 3 (2 ^ c.val)
    let stays (t : State) (written : Fin 3 → Prop) (n : Nat) : Prop := ∀ (b : Bool) (a : Nat),
      (∀ d, written d → ¬((copyRegion d).1 = b ∧ (copyRegion d).2 ≤ a ∧ a < (copyRegion d).2 + 4 + n)) →
        (t.bank b).read a = (s.bank b).read a
    let ch := (s.hsOf h).charter
    let bad (d : Fin 3) : Bool := decide ((s.hsOf h).chSource ≠ 3) && !(s.copyOk d && decide (s.copyWords d = ch))
    let used (d : Fin 3) (n : Nat) : Nat := if bad d = true then n + 1 + (if Config.readBack n = true then 0 else ch.length) else n
    let n : Nat := if c = 0 then s.free else if c = 1 then used 0 s.free else used 1 (used 0 s.free)
    (∀ p, (s.hsOf h).pending = some p → p.words.length ≤ 8192 → 1 ≤ p.words.length →
      let has (k : Nat) : Bool := p.ok.getLsbD k || (decide (p.writer = some h) && p.wrote.getLsbD k)
      (has c = false → (∀ d : Fin 3, d < c → has d = true) →
        (∃ t, exec (.charterCopyWrite c true) s = .next t ∧ t.banksOk = true ∧ t.copyWords c = p.words ∧ t.copyOk c = true
          ∧ (∀ d : Fin 3, d ≠ c → t.copyWords d = s.copyWords d) ∧ stays t (fun d => d = c) p.words.length
          ∧ (∀ g q, (s.hsOf g).pend = some q → ∃ q', (t.hsOf g).pend = some q' ∧ q'.ok = q.ok ||| bit
              ∧ q'.writer = some h ∧ q'.wrote.getLsbD c = true
              ∧ q = { q' with ok := q.ok, writer := q.writer, wrote := q.wrote })
          ∧ (t.hsOf h).charter = (s.hsOf h).charter)
        ∧ (∃ t, exec (.charterCopyWrite c false) s = .next t ∧ t.banksOk = true
          ∧ (∀ q', (t.hsOf h).pend = some q' → q'.ok = p.ok ∧ q'.writer = some h ∧ q'.wrote.getLsbD c = true)
          ∧ (t.bank r.1).reads r.2 4 = (copyImage p.words).take 4 ∧ stays t (fun d => d = c) p.words.length
          ∧ (t.hsOf h).charter = (s.hsOf h).charter))
      ∧ ((has c = true ∨ ∃ d : Fin 3, d < c ∧ has d = false) → ∀ b, exec (.charterCopyWrite c b) s = .next s))
    ∧ ((s.hsOf h).pending = none → exec (.charterCopyWrite c true) s = .next s ∧ exec (.charterCopyWrite c false) s = .next s)
    ∧ ((s.hsOf h).pending = none → 1 ≤ ch.length → ch.length ≤ 8192 → bad c = true →
      ∃ t, exec .charterCopyCheck s = .next t ∧ t.banksOk = true ∧ stays t (fun d => bad d = true) ch.length
        ∧ (t.bank r.1).reads r.2 4 = (copyImage ch).take 4
        ∧ (if Config.readBack n = true then t.copyWords c = ch ∧ t.copyOk c = true else t.copyLen c = ch.length)
        ∧ (t.hsOf h).charter = ch ∧ (∀ d : Fin 3, (t.hsOf h).copyOk.getLsbD d = t.copyOk d) ∧ t.ponts = s.ponts
        ∧ Rung s t bellCharter
        ∧ (let rewritten (d : Fin 3) : Nat := if bad d = true then 2 ^ d.val else 0
           let intact (d : Fin 3) : Nat := if s.copyOk d = true then 2 ^ d.val else 0
           let first : Word := if bad 0 = true ∧ s.copyOk 0 = true then chGen (s.copyWords 0)
             else if bad 1 = true ∧ s.copyOk 1 = true then chGen (s.copyWords 1)
             else if bad 2 = true ∧ s.copyOk 2 = true then chGen (s.copyWords 2) else 0
           s.Offers t h ⟨⟨s.tb.crossing, 240⟩, helmSource h, clsWarn, 0x060,
             wd ((intact 0 + intact 1 + intact 2) * 2 ^ 21 + (rewritten 0 + rewritten 1 + rewritten 2) * 2 ^ 18 + 2 ^ 15), chGen ch, first⟩))
    ∧ ((s.hsOf h).pending = none → (∀ d, bad d = false) → ∃ t, exec .charterCopyCheck s = .next t ∧ t.nvmA = s.nvmA ∧ t.nvmB = s.nvmB
        ∧ (t.hsOf h).charter = ch ∧ (∀ d : Fin 3, (t.hsOf h).copyOk.getLsbD d = s.copyOk d) ∧ t.bell = s.bell ∧ t.com = s.com
        ∧ t.ponts = s.ponts)
    ∧ ((s.hsOf h).pending ≠ none → exec .charterCopyCheck s = .next s))

/-! ### Passages (R54, R61, R151, R201 to R203, R210, R268, R269, R355, R398) -/

/-- PASSAGE (R54, R61, R259): a helm that computes runs the passage of a crossing once, from stroke 32 on; begun after stroke 208 it sends
no manifest; in BERTHED and ANCHORED every output of SAFE_STATE OFF is off in the image it sends, one of ON is on, one of HOLD_LAST has the
value held, within SP_CEIL, and one of FIXED its FIXED_SP.

The manifest of a passage (R61, R81, R149, R259 to R261, R269), from the state `b` after its events and commands: forced outputs in
SLIPWAY replace the host image, the standing orders act on that in the order of their indices, and in BERTHED, ANCHORED or with the host
lost safe states replace it; HOLD_LAST is fixed as the first such cause begins and does not follow later manifests (that an overlapping
cause keeps it, in one passage as in the next, is log entry 31, DEDUCED).

The passages after the one that entered MOORED (R386, R389): each sends no manifest and, at the helm that makes the changes outside
the helm states, a stop order to every pontoon; at landing L + 1 what is due there is still applied, later frames and events never are (log
entry 29, DEDUCED).

The standing orders (R81, R83, R84, R86, R88): order k acts on its target T in the manifest as the orders before it left it, by the
landed value L, within SP_CEIL (R287), and sets its result; every other output, and every other order's state, stays. Of TIMER `o.lastOn`
is the landed state, and `o.changedAt` the landing of its last change; of FOLLOW `o.delay` holds the source in earlier passages (what it
gives where none is known is log entry 40, DEDUCED).

What a landing applies, and in which order (R58, R60, R61, R131): the stamped events due, in the order of their stamps, and after them
the commands due, in the order of their stamps, HPA before HPB at equal ones, and those of one port as received (by the numbers of the
frames; log entry 23, DESIGN CHOICE); collections are none. In the passage they are noted in that order, and none of them waits any more.

Keeping or discarding a passage (R61, R67, R68, R193): its helm state is discarded when no pontoon in service reports that its
manifest landed, or one in service reports a disagreement. The helm state saved at its start then stands again; its commands and events are
due once more, before those that came later, a reply that was given is not repeated; its records are dropped, and at the helm that makes
the changes outside the helm states what waited for its landing, unless the Quay kept that landing (log entry 43, DEDUCED). What reports and
the passing crossings themselves have shown stays (log entries 15 and 40, DEDUCED). A kept passage hands its records on, at the helm whose
view holds the helm (R438). -/
def Obligations.Passage : Prop :=
  (∀ (s : State) (h : HelmId),
    let x := s.helm h
    let n := s.tb.crossing
    (s.live = true → s.tb.counting = true → 32 ≤ s.tb.stroke → x.svc.computes = true → x.passNo ≠ some n →
      ∃ t, exec (.passage h) s = .next t ∧ (t.helm h).passNo = some n ∧ t.now = s.now
        ∧ exec (.passage h) t = .next t
        ∧ (208 < s.tb.stroke → (t.helm h).out = Vector.replicate 4 [])
        ∧ (x.hs.modes.mode ≠ .moored → ((t.hsOf h).modes.mode = .berthed ∨ (t.hsOf h).modes.mode = .anchored) →
            ∀ q : Fin 32, (chSafe (t.hsOf h).charter q = 0 → (t.hsOf h).man[q] = 0)
              ∧ (chSafe (t.hsOf h).charter q = 1 → (t.hsOf h).man[q] = 1)
              ∧ (chSafe (t.hsOf h).charter q = 2 → (t.hsOf h).man[q] = (if isPq q = true
                  then min (t.hsOf h).safeHold[q] (chCeil (t.hsOf h).charter (pqOf q)) else (t.hsOf h).safeHold[q]))
              ∧ (chSafe (t.hsOf h).charter q = 3 → (t.hsOf h).man[q] = bs (chBody (t.hsOf h).charter 0x08) (10 * pqOf q + 5))))
    ∧ ((s.tb.stroke < 32 ∨ x.passNo = some n ∨ s.tb.counting = false) → exec (.passage h) s = .next s))
  ∧ (∀ (s : State) (h : HelmId),
    let n := s.tb.crossing
    let going : Prop := (s.helm h).begun = some n
    let w := if going then s else (s.openPassage h).startPassage h n
    let b := ((w.applyRest h n).hsOf h).holdStart
    let m : Vector Int 32 := Vector.ofFn (fun (q : Fin 32) => if b.modes.mode = .slipway then (b.forced[q]).getD b.img[q] else b.img[q])
    let x := OrdRun.all ⟨m, b, false⟩ n
    s.live = true → s.tb.counting = true → 32 ≤ s.tb.stroke → (s.helm h).svc.computes = true → (s.helm h).passNo ≠ some n →
      (going ∨ (s.openPassage h).inMoored h n = false) → ∃ t, exec (.passage h) s = .next t
        ∧ (t.hsOf h).orders = x.hs.orders ∧ (t.hsOf h).charter = b.charter ∧ (t.hsOf h).landed = b.landed
        ∧ (b.modes.mode.safe = false → (t.hsOf h).hl ≠ .lost → (t.hsOf h).man = x.m ∧ (t.hsOf h).safeOn = false)
        ∧ (b.modes.mode.safe = true ∨ (t.hsOf h).hl = .lost → (t.hsOf h).safeOn = true
          ∧ (t.hsOf h).safeHold = (if b.safeOn = true then b.safeHold else b.landed)
          ∧ ∀ q : Fin 32, (t.hsOf h).man[q] = (match chSafe b.charter q with
            | 0 => 0
            | 1 => 1
            | 2 => if isPq q = true then min (t.hsOf h).safeHold[q] (chCeil b.charter (pqOf q)) else (t.hsOf h).safeHold[q]
            | _ => bs (chBody b.charter 0x08) (10 * pqOf q + 5))))
  ∧ (∀ (s : State) (h : HelmId),
    let n := s.tb.crossing
    let u := s.openPassage h
    s.live = true → s.tb.counting = true → 32 ≤ s.tb.stroke → (s.helm h).svc.computes = true → (s.helm h).passNo ≠ some n →
      (s.helm h).begun ≠ some n → u.inMoored h n = true → ∃ t, exec (.passage h) s = .next t
        ∧ (t.helm h).passNo = some n ∧ (t.helm h).out = Vector.replicate 4 [] ∧ (t.helm h).outAt = none
        ∧ (u.acts h = true → (u.hsOf h).modes.since + 1 < n → (t.helm h).ordOut = some .stop)
        ∧ (u.acts h = false → (u.hsOf h).modes.since + 1 < n → (t.helm h).ordOut = none)
        ∧ ((u.hsOf h).modes.since + 1 < n → (t.hsOf h).cmds = (s.hsOf h).cmds ∧ (t.hsOf h).evs = (s.hsOf h).evs
            ∧ (t.hsOf h).img = (s.hsOf h).img ∧ (t.hsOf h).modes.mode = .moored ∧ (t.helm h).lastCmds = [])
        ∧ (n ≤ (u.hsOf h).modes.since + 1 → (∀ e ∈ (t.hsOf h).evs, n < e.at_.landing)
            ∧ (∀ e ∈ (t.hsOf h).cmds, n < e.at_.landing ∨ e.isCollection = true)))
  ∧ (∀ (x : OrdRun) (n k : Nat) (b : List Word), k < 64 →
    let hs := x.hs
    let t := bf b 0 19 15
    let T := vat x.m t 0
    let L := vat hs.landed t 0
    let o := vat hs.orders k {}
    let y := x.eval n k b
    let st := vat y.hs.orders k {}
    let off (v : Bool) (on : Int) : Int := if v = true then on else 0
    let acts (v : Int) (r : Bool) : Prop := (∀ q : Fin 32, y.m[q] = if q.val = t then
        (if isPq t = true then min v (chCeil hs.charter (pqOf t)) else v) else x.m[q]) ∧ st.result = r
    (∀ j : Fin 64, j.val ≠ k → y.hs.orders[j] = hs.orders[j])
    ∧ y.hs = { hs with orders := y.hs.orders, anchorDue := y.hs.anchorDue }
    ∧ (∀ l, chOrders hs.charter = l ++ [b] →
        OrdRun.all x n = (l.zipIdx.foldl (fun x e => x.eval n e.2 e.1) x).eval n l.length b)
    ∧ (chOrders hs.charter = [] → OrdRun.all x n = x)
    ∧ (bf b 0 23 20 = 0 → acts T false)
    ∧ (bf b 0 23 20 = 1 → srcAi (bf b 1 23 16) = false →
        let a := match hs.srcBool x.m (bf b 1 23 16) with | some v => v != bb b 1 15 | none => false
        let c := match hs.srcBool x.m (bf b 1 14 7) with | some v => v != bb b 1 6 | none => false
        let ok := match bf b 1 5 4 with | 0 => a | 1 => a && c | _ => a || c
        acts (off ok T) ok ∧ st.hyst = false)
    ∧ (bf b 0 23 20 = 1 → srcAi (bf b 1 23 16) = true → bf b 1 5 4 = 0 →
        (hs.srcVal (bf b 1 23 16 - 0x80) 0 = none → acts 0 false ∧ st.hyst = false)
        ∧ ∀ v, hs.srcVal (bf b 1 23 16 - 0x80) 0 = some v →
          let a : Bool := decide (bs b 2 ≤ v) || (o.hyst && decide (bs b 2 - bs b 3 ≤ v))
          acts (off (a != bb b 1 15) T) (a != bb b 1 15) ∧ st.hyst = a)
    ∧ (bf b 0 23 20 = 2 →
        let up := if bs b 1 = 0 then T else L + min (T - L) (bs b 1)
        let down := if bs b 2 = 0 then T else L - min (L - T) (bs b 2)
        (L ≤ T → acts up (decide (up ≠ T))) ∧ (T < L → acts down (decide (down ≠ T))))
    ∧ (bf b 0 23 20 = 3 →
        let clamp (cap : Int) : Prop := acts (min T cap) (decide (min T cap ≠ T))
        (hs.srcVal (bf b 1 23 16 - 0x80) (bf b 1 15 14) = none → clamp (bs b 5))
        ∧ ∀ v, hs.srcVal (bf b 1 23 16 - 0x80) (bf b 1 15 14) = some v → (v ≤ bs b 2 → clamp (bs b 4)) ∧ (bs b 2 < v → bs b 3 ≤ v → clamp (bs b 5))
          ∧ (bs b 2 < v → v < bs b 3 → clamp (bs b 4 - ((bs b 4 - bs b 5) * (v - bs b 2)).tdiv (bs b 3 - bs b 2))))
    ∧ (bf b 0 23 20 = 4 →
        let on : Bool := decide (0 < L)
        let since : Option Nat := if o.fresh = false ∧ on ≠ o.lastOn then some (n - 1) else o.changedAt
        let least := ((if on = true then b.getD 1 0 else b.getD 2 0) : Word).toNat
        ((on ≠ decide (0 < T) ∧ ∃ c, since = some c ∧ n - c < least) → acts L true)
        ∧ (¬(on ≠ decide (0 < T) ∧ ∃ c, since = some c ∧ n - c < least) → acts T false)
        ∧ st.fresh = false ∧ st.lastOn = on ∧ st.changedAt = since)
    ∧ (bf b 0 23 20 = 5 →
        let now := hs.srcBool x.m (bf b 1 23 16)
        let d := bf b 1 14 7
        let src : Option Bool := if d = 0 ∨ n = 0 then now else (assocGet ((o.delay.filter (fun e => e.1 ≠ n)).take 255) (n - d)).getD none
        let v := match src with | some v => v != bb b 1 15 | none => false
        acts (off v (if isPq t = true then bs b 2 else 1)) v ∧ assocGet st.delay n = some now)
    ∧ (bf b 0 23 20 = 6 → (∀ r, vat hs.reps (bf b 1 23 16 / 8) none = some r → r.hails = []) →
        let bad : Bool := o.failed || decide (bf b 1 15 12 ≤ o.misses)
        acts (if bad = true ∧ bf b 1 11 10 = 1 then 0 else T) (!bad)
        ∧ (bad = true → o.failed = false → bf b 1 11 10 = 2 → hs.anchorDue = none → y.hs.anchorDue = some (n + 1, 7)))
    ∧ (∀ r e, bf b 0 23 20 = 6 → vat hs.reps (bf b 1 23 16 / 8) none = some r → r.hails = [e] → e.input = bf b 1 23 16 → e.owner = t →
        e.acted = true → (e.code = true → acts T true ∧ st.misses = 0) ∧ (e.code = false → st.misses = o.misses + 1)))
  ∧ ((∀ (hs : HelmState) (n : Nat),
    (∀ e, e ∈ hs.cmdsDue n ↔ e ∈ hs.cmds ∧ e.at_.landing ≤ n ∧ e.isCollection = false)
    ∧ (hs.cmdsDue n).length = (hs.cmds.filter (fun e => e.at_.landing ≤ n && !e.isCollection)).length
    ∧ (hs.cmdsDue n).Pairwise (fun a c => c.at_.lt a.at_ = false
        ∧ (a.at_ = c.at_ → ¬(a.tag.port = .hpb ∧ c.tag.port = .hpa) ∧ (a.tag.port = c.tag.port → a.id ≤ c.id)))
    ∧ (∀ e, e ∈ hs.evsDue n ↔ e ∈ hs.evs ∧ e.at_.landing ≤ n)
    ∧ (hs.evsDue n).Pairwise (fun a c => c.at_.lt a.at_ = false))
  ∧ (∀ (s : State) (h : HelmId),
    let n := s.tb.crossing
    let w := if (s.helm h).begun = some n then s else (s.openPassage h).startPassage h n
    s.live = true → s.tb.counting = true → 32 ≤ s.tb.stroke → s.tb.stroke < 208 → (s.helm h).svc.computes = true →
      (s.helm h).passNo ≠ some n → ((s.helm h).begun = some n ∨ (s.openPassage h).inMoored h n = false) →
      ((s.helm h).begun ≠ some n → (∀ e ∈ (w.hsOf h).evs, n < e.at_.landing) ∧ (w.helm h).lastCmds = [])
      ∧ ∃ t, exec (.passage h) s = .next t
        ∧ ((t.helm h).svc.computes = true → (t.helm h).lastCmds = (w.helm h).lastCmds ++ (w.hsOf h).cmdsDue n
          ∧ (t.helm h).lastEvs = (w.helm h).lastEvs
          ∧ ∀ e ∈ (t.hsOf h).cmds, n < e.at_.landing ∨ e.isCollection = true)))
  ∧ ((∀ hs : HelmState, hs.discards = false ↔
    (∃ p : Fin 4, ∃ r, hs.reps[p] = some r ∧ hs.inSvc.getLsbD p = true ∧ r.verdict.landedActive r.hadMan = true)
    ∧ ∀ p : Fin 4, ∀ r, hs.reps[p] = some r → hs.inSvc.getLsbD p = true → r.verdict ≠ .mismatch ∧ r.verdict ≠ .viewSplit)
  ∧ (∀ (s : State) (h : HelmId) (n : Nat),
    let x := s.helm h
    let t := s.keepOrDiscard h n
    (x.passNo = some (n - 1) → x.hs.discards = true →
      t.hsOf h = { x.saved with
          modes := (t.hsOf h).modes, cmds := (t.hsOf h).cmds, evs := (t.hsOf h).evs, heldA := x.hs.heldA, heldB := x.hs.heldB
          heard := x.hs.heard, prevReps := x.hs.prevReps, reps := x.hs.reps, taken := x.hs.taken, inSvc := x.hs.inSvc
          prevSvc := x.hs.prevSvc, wakeReads := (t.hsOf h).wakeReads, man := x.hs.man, orders := (t.hsOf h).orders }
      ∧ (t.hsOf h).modes.same x.saved.modes
      ∧ (t.hsOf h).cmds.map (fun e => (e.id, e.tag, e.op, e.prm, e.at_))
          = (x.lastCmds ++ x.hs.cmds).map (fun e => (e.id, e.tag, e.op, e.prm, e.at_))
      ∧ (∀ e ∈ (t.hsOf h).cmds, e ∈ x.hs.cmds ∨ (e.moved.again = true ∧ (x.hs.awaits e.id = false → e.moved.silent = true)))
      ∧ (t.hsOf h).evs.map (fun e => (e.at_, e.ev)) = (x.lastEvs ++ x.hs.evs).map (fun e => (e.at_, e.ev))
      ∧ (∀ k : Fin 64, (t.hsOf h).orders[k].hyst = x.saved.orders[k].hyst ∧ (t.hsOf h).orders[k].acted = x.saved.orders[k].acted)
      ∧ (t.helm h).shared = [] ∧ (t.helm h).held = [] ∧ (t.helm h).recQ = x.recQ
      ∧ (s.acts h = true → s.keptAt ≠ some (n - 1) → t.nvmDue = [] ∧ t.setups = none ∧ t.toll.due = none ∧ t.com.ffDue = []
          ∧ t.tb.markDue = none ∧ t.tb.decimDue = none ∧ t.bell.due = 0 ∧ ∀ o ∈ t.cuOps, n - 1 < o.at_)
      ∧ (s.acts h = false ∨ s.keptAt = some (n - 1) → t = s.modHelm h (fun _ => t.helm h)))
    ∧ (x.passNo ≠ some (n - 1) ∨ x.hs.discards = false → OnlyHelm h s t ∧ t.helm h = { x with
        held := [], shared := [], recQ := if x.hs.red.view = some h then (x.recQ ++ x.held ++ x.shared).take 64 else x.recQ }))
  ∧ (∀ (s : State) (h : HelmId),
    let n := s.tb.crossing
    let w := (s.openPassage h).takeReports h n
    s.live = true → s.tb.counting = true → 32 ≤ s.tb.stroke → (s.helm h).svc.computes = true → (s.helm h).begun ≠ some n →
      1 ≤ n → (s.helm h).passNo = some (n - 1) → (w.hsOf h).discards = true → ∃ t, exec (.passage h) s = .next t
        ∧ ((t.helm h).svc.computes = true → ∀ e ∈ (s.helm h).lastCmds, e.isCollection = false → e.at_.landing ≤ n →
            ∃ e' ∈ (t.helm h).lastCmds, e'.moved.again = true ∧ e'.id = e.id ∧ e'.op = e.op ∧ e'.prm = e.prm)))

/-- Pulses, challenges, lockouts and idle roles end in every helm that computes (R151, R393, R398): each when its crossing has come,
and not before; the rest of the helm state stays, but for the note of the mode words of the landing before, which a passage's first
command or event takes (R387; `hs` has it), and, at ROLE_IDLE_EXPIRY, for the crossings heard up to n - 2, of which the last is noted first
(`heard` has it). The passages of the crossing have begun (R61; log entry 23, DESIGN CHOICE).

Host loss (R269): one more crossing not heard, above the charter's limit, releases forces, ends pulses and lands safe states;
below it nothing happens. The passages of the crossing have begun (log entry 23, DESIGN CHOICE). A miss of a HAIL-CHECK order counts (R86); the next passage acts on it at MISS_LIMIT.

WAKE_READ_COMPLETE (R355): when the landing of the oldest wake read of a pontoon has come, and the bulk slips brought all the
samples of its OFFSET and COUNT, its reply holds them, and NOT_READY when they have not; before that nothing happens. The passages of the
crossing have begun (log entry 23, DESIGN CHOICE). -/
def Obligations.EventsOfPassages : Prop :=
  (∀ (s : State) (h : HelmId), s.live = true → (s.helm h).svc.computes = true → s.underWay →
    let n := s.tb.crossing
    let hs := (s.openMode h n).hsOf h
    let put (a : HelmState) (p : Port) (r : RoleSt) : HelmState := match p with | .hpa => { a with roleA := r } | .hpb => { a with roleB := r }
    (∀ q : Fin 32, ∃ t, exec (.pulseEnd q) s = .next t
      ∧ (∀ l, hs.pulses[q] = some l → l ≤ n → t.hsOf h = { hs with img := hs.img.set q 0, pulses := hs.pulses.set q none })
      ∧ ((∀ l, hs.pulses[q] = some l → n < l) → t.hsOf h = hs))
    ∧ (∀ p, ∃ t, exec (.challengeExpiry p) s = .next t
      ∧ ((∃ c, (hs.role p).chal = some c ∧ c.expires ≤ n) → t.hsOf h = put hs p { hs.role p with chal := none })
      ∧ ((∀ c, (hs.role p).chal = some c → n < c.expires) → t.hsOf h = hs))
    ∧ (∀ p, ∃ t, exec (.lockoutEnd p) s = .next t
      ∧ ((∃ u, (hs.role p).lockedUntil = some u ∧ u ≤ n) → t.hsOf h = put hs p { hs.role p with lockedUntil := none, fails := 0 })
      ∧ ((∀ u, (hs.role p).lockedUntil = some u → n < u) → t.hsOf h = hs))
    ∧ (∀ p, ∃ t, exec (.roleIdleExpiry p) s = .next t
      ∧ (let lim := bf (chBody hs.charter 0x04) 0 15 0
         let heard := (hs.drainHeard n).noteHeard n p
         heard = put { hs with heard := heard.heard, evs := heard.evs } p { hs.role p with lastHeard := (heard.role p).lastHeard }
         ∧ (hs.evs = [] → hs.heard = [] → (heard.role p).lastHeard = (hs.role p).lastHeard)
         ∧ (∀ c, hs.evs = [] → hs.heard = [(p, c)] → (hs.role p).lastHeard ≤ c → c + 2 ≤ n → n < c + 4 → (heard.role p).lastHeard = c)
         ∧ (lim ≠ 0 → hs.crossings lim ≤ n - 2 - (heard.role p).lastHeard →
              t.hsOf h = put heard p { heard.role p with held := none, chal := none, fp := if (hs.role p).held = none ∧ (hs.role p).chal = none
                then (hs.role p).fp else 0 })
         ∧ (lim = 0 ∨ n - 2 - (heard.role p).lastHeard < hs.crossings lim → t.hsOf h = heard))))
  ∧ (∀ (s : State) (h : HelmId), s.live = true → (s.helm h).svc.computes = true →
    s.underWay →
    let hs := (s.openMode h s.tb.crossing).hsOf h
    let r := chHostLoss hs.charter
    (hs.hl = .watching → r.1 = true → (hs.modes.mode = .slipway ∨ hs.modes.mode.running = true) → r.2.2 < hs.hlCount + 1 →
      ∃ t, exec .hostLost s = .next t ∧ (t.hsOf h).hl = .lost ∧ (t.hsOf h).hlCount = hs.hlCount + 1
        ∧ (t.hsOf h).forced = Vector.replicate 32 none ∧ (∀ q : Fin 32, (t.hsOf h).pulses[q] = none)
        ∧ (∀ q : Fin 32, (chSafe hs.charter q = 0 → (t.hsOf h).man[q] = 0) ∧ (chSafe hs.charter q = 1 → (t.hsOf h).man[q] = 1))
        ∧ (t.hsOf h).modes = hs.modes)
    ∧ ((hs.hl = .lost ∨ hs.hlCount + 1 ≤ r.2.2) → ∃ t, exec .hostLost s = .next t ∧ t.hsOf h = hs)
    ∧ (∀ k : Fin 64,
      let b := (chOrders hs.charter).getD k []
      let o := vat hs.orders k {}
      bf b 0 23 20 = 6 → o.failed = false → ∃ t, exec (.hailCheckMiss k) s = .next t
        ∧ (vat (t.hsOf h).orders k {}) = { o with misses := o.misses + 1 }
        ∧ t.hsOf h = { hs with orders := (t.hsOf h).orders } ∧ (∀ m : Fin 64, m ≠ k → (t.hsOf h).orders[m] = hs.orders[m])))
  ∧ (∀ (s : State) (h : HelmId) (p : Fin 4) (r : OutReq) (l : List OutReq), s.live = true → (s.helm h).svc.computes = true → s.underWay →
    (s.hsOf h).wakeReads[p] = r :: l →
    let got := (List.range r.count).filterMap (fun j => assocGet (s.helm h).bulk[p] (r.off + j))
    let all (u : State) : List (Nat × Reply) := (u.helm h).slip r.tag.port ++ (u.helm h).waiting r.tag.port
    (r.doneAt ≤ s.tb.crossing → r.off + r.count ≤ r.total → got.length = r.count → r.tag.gen ≠ .ul1 →
      ∃ t, exec (.wakeReadComplete p) s = .next t ∧ (t.hsOf h).wakeReads[p] = l
        ∧ all t = all s ++ [(r.id, ⟨.ok, r.tag.alive, r.eff, bytesOfWords got, none⟩)]
        ∧ ((t.helm h).slip r.tag.port).length ≤ max 2 ((s.helm h).slip r.tag.port).length
        ∧ (t.helm h).bulk[p] = ((s.helm h).bulk[p]).filter (fun e => e.1 < r.off || decide (r.off + r.count ≤ e.1))
        ∧ (t.hsOf h).img = (s.hsOf h).img)
    ∧ (r.doneAt ≤ s.tb.crossing → r.off + r.count ≤ r.total → got.length < r.count → r.tag.gen ≠ .ul1 →
      ∃ t, exec (.wakeReadComplete p) s = .next t ∧ (t.hsOf h).wakeReads[p] = l
        ∧ all t = all s ++ [(r.id, ⟨.notReady, r.tag.alive, r.eff, [], none⟩)])
    ∧ (s.tb.crossing < r.doneAt → ∃ t, exec (.wakeReadComplete p) s = .next t
        ∧ t.hsOf h = (s.openMode h s.tb.crossing).hsOf h
        ∧ (t.helm h).slip r.tag.port = (s.helm h).slip r.tag.port))

/-- HELM_PROVEN and RETURN_TO_HELM (R203, R210): at the last agreed landing of PROVE a helm is STANDBY, in the view of every
helm that computes; the primary takes the helm back once RETURN_LEFT is 0 and no hold is set, with the outputs' image as it
is, and not before. The passages of the crossing have begun (log entry 23, DESIGN CHOICE). -/
def Obligations.ProvenAndReturn : Prop :=
  ∀ (s : State) (h g : HelmId), s.live = true → (s.helm h).svc.computes = true → s.underWay →
    let r := (s.hsOf h).red
    (r.svc g = .proving → r.proveLeft ≤ 1 → r.doubleFail = none → ∃ t, exec (.helmProven g) s = .next t
      ∧ (t.hsOf h).red.svc g = .standby ∧ (t.hsOf h).red.proveLeft = 0 ∧ (t.hsOf h).red.view = r.view
      ∧ (t.hsOf h).img = (s.hsOf h).img)
    ∧ (r.svc g ≠ .proving → ∃ t, exec (.helmProven g) s = .next t ∧ t.hsOf h = (s.openMode h s.tb.crossing).hsOf h)
    ∧ (chPrimary (s.hsOf h).charter = some g → r.svc g = .standby → r.view = some (otherHelm g) → r.retOn = true →
      r.retLeft = 0 → r.retHold = false → r.arb = none → ∃ t, exec .returnToHelm s = .next t
        ∧ (t.hsOf h).red.view = some g ∧ (t.hsOf h).red.svc g = .holding ∧ (t.hsOf h).red.retOn = false
        ∧ (t.hsOf h).img = (s.hsOf h).img)
    ∧ ((r.retOn = false ∨ 0 < r.retLeft ∨ r.retHold = true ∨ r.arb ≠ none) → ∃ t, exec .returnToHelm s = .next t
        ∧ (t.hsOf h).red.view = r.view)

/-! ### What every step keeps -/

/-- Both banks keep their canonical form through every step (R434). -/
def Obligations.StepKeepsBanks : Prop :=
  ∀ s t : State, s.banksOk = true → step s = .next t → t.banksOk = true

/-- No step puts more into a command, toll or record slip than its depth (R27). -/
def Obligations.StepKeepsSlips : Prop :=
  ∀ s t : State, s.slipsOk = true → step s = .next t → t.slipsOk = true

/-- A landed value of a pontoon changes at its landing, and where its logic stops or starts, and by no other command: not by
what a host, a helm or another pontoon does (R55, R260, R363, R391). -/
def Obligations.LandedChangesOnlyAtLandings : Prop :=
  ∀ (s t : State) (c : Instr) (p : Fin 4) (i : Fin 8), exec c s = .next t →
    c ≠ .landing p → c ≠ .logicStop p → c ≠ .pontoonRestart p → (∀ h, c ≠ .beat p h) →
    (t.pont p).outs[i].landed = (s.pont p).outs[i].landed

/-! ### Outputs (R247 to R281) -/

/-- OVERCURRENT, REVERSE_BLOCK and REVERSE_RELEASE at a switching output of a running pontoon set or clear their one flag
(R249, R250), OVERCURRENT past the blanking of the output's LOAD_KIND (R252); nothing else of the machine changes but the note
of when a switch last moved. At a PQn, which has no such protection, nothing happens.

The protection of R249. A thermal shutdown of a switching output that is on cools it and counts in TSD_COUNT; once
cooled, a retry that is left switches it on again, and none left latches it off, with an OUT_FAULT record that the next report brings
(R281); 1.0 s on gives all retries back. A PQn
takes the PQ latch (R295), and its junction is noted as cooled. -/
def Obligations.OutputFlagsAndProtection : Prop :=
  (∀ (s : State) (q : Fin 32) (us : Nat), (s.pont (pontOf q)).running = true →
    let x := s.pont (pontOf q)
    let gives (c : Instr) (f : OutSt → OutSt) : Prop := ∃ t, exec c s = .next t ∧ OnlyPont (pontOf q) s t
      ∧ (t.pont (pontOf q)).upToSwitch (x.modOut (q.val % 8) f)
    let blank := if bf x.outRec q 15 14 = 2 then 100000 else 1000
    (isSwitch q = true →
      (0 < (vat x.outs (q.val % 8) {}).landed → (vat x.outs (q.val % 8) {}).prot = .normal → blank < us →
        gives (.overcurrent ⟨q, us⟩) (fun o => { o with overcurrent := true }))
      ∧ (us ≤ blank → gives (.overcurrent ⟨q, us⟩) id)
      ∧ gives (.reverseBlock q) (fun o => { o with reverse := true })
      ∧ gives (.reverseRelease q) (fun o => { o with reverse := false }))
    ∧ (isSwitch q = false →
      gives (.overcurrent ⟨q, us⟩) id ∧ gives (.reverseBlock q) id ∧ gives (.reverseRelease q) id))
  ∧ (∀ (s : State) (q : Fin 32), (s.pont (pontOf q)).running = true →
    let p := pontOf q
    let i := q.val % 8
    let x := s.pont p
    let o := vat x.outs i {}
    let gives (c : Instr) (y : Pont) : Prop := ∃ t, exec c s = .next t ∧ OnlyPont p s t ∧ (t.pont p).upToSwitch y
    (isSwitch q = true →
      (o.prot = .normal → 0 < o.landed → gives (.thermalShutdown q)
          ((x.modOut i (fun o => { o with prot := .cooling })).rcIn (0x210 + q.val) 2 1))
      ∧ (o.prot = .cooling → 0 < o.retry → gives (.thermalCooled q)
          (x.modOut i (fun o => { o with prot := .normal, retry := o.retry - 1 })))
      ∧ (o.prot = .cooling → o.retry = 0 → gives (.thermalCooled q) ((x.modOut i (fun o => { o with prot := .latched })).recIn 0x080
          (clsFault + 4) (subj (0x20 + q.val)) ({ o with prot := .latched }.diag true) 0))
      ∧ (o.prot = .normal → gives (.retryReload q) (x.modOut i (fun o => { o with retry := x.retries p i }))))
    ∧ (isSwitch q = false →
      (∃ t, exec (.thermalShutdown q) s = .next t ∧ OnlyPont p s t
        ∧ (∀ j : Fin 8, (t.pont p).outs[j].upToSwitch x.outs[j])
        ∧ (vat (t.pont p).pqs i {}).latch = true ∧ (vat (t.pont p).pqs i {}).thermal = true
        ∧ (vat (t.pont p).pqs i {}).hot = true)
      ∧ exec (.thermalCooled q) s
        = .next (s.modPont p (fun y => { y with pqs := vmod y.pqs i (fun w => { w with hot := false }) }))))

/-- A hail slot (R255 to R257): in a crossing that carries the slot of output m, every running pontoon notes the slot, and
m, if it is enabled for hails and decided by level 5, takes action; the pulse ends at its time; at the slot's end the slot
is closed and no pulse is left. No landed value, hold, counter or input level changes. -/
def Obligations.HailSlots : Prop :=
  ∀ (s : State) (p : Fin 4) (v lo hi : List PinV) (q : Fin 32),
    let x := s.pont p
    let k := bf x.outRec 32 23 12
    let same (y : Pont) : Prop := y.cts = x.cts ∧ y.rx = x.rx ∧ ∀ j : Fin 8,
      y.outs[j].landed = x.outs[j].landed ∧ y.outs[j].held = x.outs[j].held ∧ y.ins[j].raw = x.ins[j].raw
    (x.running = true → k ≠ 0 → x.crossing % k < 32 → ∃ t, exec (.hailSlot v) s = .next t ∧ t = { s with ponts := t.ponts }
      ∧ (t.pont p).slotOf = some (x.crossing % k) ∧ same (t.pont p)
      ∧ (∀ j : Fin 8, 2 ≤ j.val → 8 * p.val + j.val = x.crossing % k → bb x.outRec (x.crossing % k) 10 = true →
          x.level j = 5 → (t.pont p).outs[j].hailPulse = true))
    ∧ exec (.hailPulseEnd q) s
        = .next (s.modPont (pontOf q) (fun y => y.modOut (q.val % 8) (fun o => { o with hailPulse := false })))
    ∧ (∃ t, exec (.hailSlotEnd lo hi) s = .next t ∧ t = { s with ponts := t.ponts } ∧ same (t.pont p)
      ∧ (t.pont p).slotOf = none ∧ (x.slotOf ≠ none → ∀ j : Fin 8, (t.pont p).outs[j].hailPulse = false)
      ∧ (x.slotOf = none → t.pont p = x))

/-! ### Host commands at their point of application (R132 to R172) -/

/-- Every row of a host command (R132), whatever its operands: where the device is live and the passages of the crossing have begun, and a
helm computes passages, the row answers a next state. Where the checks of R132 let the command pass, the helm state at that helm is what the
command's effect makes of it and its answer is the command's, unless that comes later with a report. A command that fails a check in every
helm that computes passages is answered with its status in each and changes nothing else: not the helm state, nor anything outside the
helms; the mode words are settled as by any row of the crossing, and where no mode change is in the making they stay, and so do the bell, the
other port, and a helm that computes none. (That a row begins a passage that has not yet begun is log entry 23, DESIGN CHOICE.) Every row is
named; COLLECTION, of which no check of R132 is asked, completes by the statement about it. -/
def Obligations.HostCommandsComplete : Prop :=
  ∀ (s : State) (h : HelmId) (t : Tag),
    let runs (i : Instr) (c : Cmd) : Prop := s.takes h t c → ∃ u, exec i s = .next u ∧ s.Ran u h t c
    let refused (i : Instr) (c : Cmd) : Prop := ∀ st, s.live = true → s.settled → s.underWay → (s.helm h).svc.computes = true →
      (∀ g, (s.helm g).svc.computes = true → s.checkCmd (s.ctxOf g t) c = some st) → ∃ u, exec i s = .next u ∧ OnlyHelmSide s u
        ∧ (u.hsOf h).like (s.hsOf h) ∧ (u.hsOf h).modes = (((s.openMode h s.tb.crossing).settleMode h s.tb.crossing).hsOf h).modes
        ∧ Answered s u h t c (Ans.st st) ∧ ((∀ g, (s.helm g).svc.computes = true → s.modeStands g) → s.BareRow u t)
    let row (P : Instr → Cmd → Prop) : Prop :=
      P (.status t) .status ∧ (∀ a n, P (.readWindow t a n) (.readWindow a n))
      ∧ (∀ a ws, P (.writeWindow t a ws) (.writeWindow a ws))
      ∧ (∀ r v, P (.bellCauseClear t r v) (.writeWindow (w1cAddr r) [v]))
      ∧ (∀ v, P (.bellMaskWrite t v) (.writeWindow 0x031 [v]))
      ∧ (∀ k, P (.ctZero t k) (.writeWindow (0x130 + k.val) [oneBit 20]))
      ∧ (∀ m v, P (.setOutputs t m v) (.setOutputs 0 m v)) ∧ (∀ m v, P (.setOutputsForce t m v) (.setOutputs 1 m v))
      ∧ (∀ m v, P (.setOutputsRelease t m v) (.setOutputs 2 m v)) ∧ (∀ es, P (.setProp t es) (.setProp es))
      ∧ (∀ c v, P (.setPropForce t c v) (.setProp [⟨BitVec.ofNat 8 (128 + c.val), v⟩]))
      ∧ (∀ c v, P (.setPropRelease t c v) (.setProp [⟨BitVec.ofNat 8 (64 + c.val), v⟩]))
      ∧ (∀ c d, P (.pulseOutput t c d) (.pulse c d)) ∧ (∀ x, P (.setMode t x) (.setMode x))
      ∧ (∀ x, P (.roleChallenge t x) (.roleChallenge x)) ∧ (∀ r, P (.roleResponse t r) (.roleResponse r))
      ∧ P (.roleDrop t) .roleDrop ∧ (∀ x o n, P (.charterRead t x o n) (.charterRead x o n))
      ∧ (∀ o ws, P (.charterWrite t o ws) (.charterWrite o ws)) ∧ P (.charterDiscard t) .charterDiscard
      ∧ (∀ g a c, P (.charterCommit t g a c) (.charterCommit g a c))
      ∧ (∀ r c o p l, P (.tollConfig t r c o p l) (.tollConfig r c o p l))
      ∧ (∀ a o n, P (.blackboxRead t a o n) (.blackboxRead a o n)) ∧ (∀ a b c, P (.hostMark t a b c) (.hostMark a b c))
      ∧ P (.blackboxMarkClear t) .markClear
      ∧ (∀ k x w f p i o, P (.checkConfig t k x w f p i o) (.checkConfig k x w f p i o))
      ∧ (∀ k f, P (.checkRead t k f) (.checkRead k f)) ∧ (∀ c, P (.analogSnapshot t c) (.analogSnapshot c))
      ∧ (∀ p c g l a b, P (.wakeArm t p c g l a b) (.wakeArm p c g l a b))
      ∧ (∀ p, P (.wakeDisarm t p) (.wakeArm p 0 0xFF 0 0 1)) ∧ (∀ p o n, P (.wakeRead t p o n) (.wakeRead p o n))
      ∧ P (.syncIssue t) .syncIssue ∧ (∀ o ws, P (.firmwareStageData t o ws) (.stageData o ws))
      ∧ (∀ n c v, P (.firmwareStageFinish t n c v) (.stageFinish n c v)) ∧ (∀ b, P (.firmwareSwap t b) (.fwSwap b))
      ∧ (∀ b, P (.helmHandover t b) (.handover b)) ∧ P (.helmReturnHold t) (.returnHold 1)
      ∧ P (.helmReturnRelease t) (.returnHold 0) ∧ (∀ b, P (.selftestTestPassage t b) (.selftest b 1))
      ∧ (∀ b, P (.selftestFull t b) (.selftest b 2)) ∧ (∀ b, P (.debugOpen t b) (.debug b 1))
      ∧ (∀ b, P (.debugClose t b) (.debug b 0))
    row runs ∧ row refused

/-- STATUS, READ_WINDOW and CHARTER_READ answer with the words of the snapshot, or of the charter in force, and change
nothing (R139, R141, R157). When a reading's RC fields are cleared is log entry 22 (DEDUCED).

COLLECTION (R117): the reply held for the last of the port's frames with this alive value, with the collection's own alive
value; ACCEPTED_PENDING while it is not complete, REPLY_GONE when there is none. It is answered in the helm's background window; outside
it, and in the windows of a test passage, it waits (R51, R195). The helm state's image stays. (That a collection counts among the port's last 8 is log entry 20, DEDUCED; the EFF_CROSSING of REPLY_GONE is log entry 21,
DEDUCED, that of ACCEPTED_PENDING log entry 56, DESIGN CHOICE; a row without a waiting frame stands in for one by log entry 23, DESIGN
CHOICE.) -/
def Obligations.ReadsAndCollection : Prop :=
  (∀ (s : State) (h : HelmId) (t : Tag),
    (s.takes h t .status → ∃ u, exec (.status t) s = .next u ∧ OnlyHelmSide s u ∧ (u.hsOf h).like (s.hsOf h)
      ∧ Answered s u h t .status { status := .ok, data := bytesOfWords (s.statusWords t.port) })
    ∧ (∀ a n, s.takes h t (.readWindow a n) → ∃ u, exec (.readWindow t a n) s = .next u
      ∧ u.win.snap = s.win.snap ∧ u.win.rc = s.win.rc ∧ u.tb = s.tb ∧ (u.hsOf h).like (s.hsOf h)
      ∧ Answered s u h t (.readWindow a n)
          { status := (s.win.read a n).1, data := bytesOfWords (s.win.read a n).2
            clr := if t.gen = .ul2 ∧ (s.ctxOf h t).moved.silent = false then some (s.ctxOf h t).id else none })
    ∧ (∀ off n, s.takes h t (.charterRead 0 off n) → ∃ u, exec (.charterRead t 0 off n) s = .next u ∧ OnlyHelmSide s u
      ∧ (u.hsOf h).like (s.hsOf h)
      ∧ Answered s u h t (.charterRead 0 off n)
          { status := if 0 < n ∧ (maskKeys (s.hsOf h).charter false).length < off + n then .addrOverrun else .ok
            data := bytesOfWords (wordsAt (maskKeys (s.hsOf h).charter false) off n) }))
  ∧ (∀ (s : State) (h : HelmId) (t : Tag) (k : Byte), s.live = true → (s.helm h).svc.computes = true → t.gen = .ul2 →
    let e := (s.waiting h t).getD ⟨t, 0x01, [k], s.now, s.nextId, {}⟩
    let n := pb e.prm 0
    let others := (((s.hsOf h).hold e).held t.port).filter (fun x => x.id ≠ e.id)
    let last := others.reverse.find? (fun x => x.alive = n)
    ((s.now.background && !s.testWindow h) = true → ∃ u r, exec (.collection t k) s = .next u
      ∧ (u.helm h).slip t.port ++ (u.helm h).waiting t.port
        = (s.helm h).slip t.port ++ (s.helm h).waiting t.port ++ [(e.id, r)] ∧ r.alive = t.alive
      ∧ (u.hsOf h).img = (s.hsOf h).img
      ∧ (last = none → r.status = .replyGone ∧ r.data = [])
      ∧ (∀ x, last = some x → x.reply = none → r.status = .acceptedPending ∧ r.data = [] ∧ r.eff = x.eff)
      ∧ (∀ x v, last = some x → x.reply = some v → r = { v with alive := t.alive }))
    ∧ ((s.now.background && !s.testWindow h) = false → ∃ u, exec (.collection t k) s = .next u
      ∧ (u.hsOf h).cmds = (s.hsOf h).cmds.filter (fun x => x.id ≠ e.id) ++ [e]
      ∧ (u.helm h).slip t.port = (s.helm h).slip t.port ∧ (u.helm h).waiting t.port = (s.helm h).waiting t.port
      ∧ (u.hsOf h).img = (s.hsOf h).img))

/-- Writes of the window (R144, R126, R42, R80, R236): all words at defined addresses, or none. A word past 0x7FF gives ADDR_OVERRUN,
whatever the others, and otherwise one at an undefined address UNDEFINED_ADDR, and nothing is written then; a write of no word is PARAM_BAD
(R132, R143). No writable field of the window holds a span count or an encoded value, so that no word of a write gives PARAM_BAD: with every
address defined it is OK, and each word acts by the access codes of its fields. A bell cause and the flags
of TIDE_STATUS and SYNC_STATUS are cleared by ones at the landing, a flag set again since staying; BELL_MASK waits for the
landing (that these wait for the landing that the Quay makes is log entry 43, DEDUCED); CT_ZERO goes with the manifest. -/
def Obligations.WindowWrites : Prop :=
  ∀ (s : State) (h : HelmId) (t : Tag),
    let none_ (u : State) : Prop := OnlyHelmSide s u ∧ (u.hsOf h).like (s.hsOf h) ∧ u.bell.cleared = s.bell.cleared
      ∧ u.bell.maskTo = s.bell.maskTo
    (∀ a ws, s.takes h t (.writeWindow a ws) →
      (∃ i, i < ws.length ∧ 0x7FF < a + i) → ∃ u, exec (.writeWindow t a ws) s = .next u ∧ none_ u
        ∧ Answered s u h t (.writeWindow a ws) (Ans.st .addrOverrun))
    ∧ (∀ a ws, s.takes h t (.writeWindow a ws) → (∀ i, i < ws.length → a + i ≤ 0x7FF) →
      (∃ i, i < ws.length ∧ winDefined (a + i) = false) → ∃ u, exec (.writeWindow t a ws) s = .next u ∧ none_ u
        ∧ Answered s u h t (.writeWindow a ws) (Ans.st .undefinedAddr))
    ∧ (∀ a, s.live = true → s.settled → s.underWay → (s.helm h).svc.computes = true → ∃ u, exec (.writeWindow t a []) s = .next u ∧ none_ u
        ∧ Answered s u h t (.writeWindow a []) (Ans.st .paramBad))
    ∧ (∀ a ws, s.takes h t (.writeWindow a ws) → (∀ i, i < ws.length → a + i ≤ 0x7FF ∧ winDefined (a + i) = true) →
      ∃ u, exec (.writeWindow t a ws) s = .next u ∧ u.ponts = s.ponts
        ∧ u.nvmA = s.nvmA ∧ u.nvmB = s.nvmB ∧ Answered s u h t (.writeWindow a ws) Ans.ok
        ∧ (let has (x : Nat) : Prop := a ≤ x ∧ x < a + ws.length
           let w (x : Nat) : Word := if has x then ws.getD (x - a) 0 else 0
           let flags : BitVec 4 := BitVec.ofNat 4 (bn (bitOf (w 0x020) 21) + bn (bitOf (w 0x026) 20) * 2 + bn (bitOf (w 0x026) 19) * 4
             + bn (bitOf (w 0x026) 18) * 8)
           (s.soleActor h → u.bell.cleared = s.bell.cleared ||| w 0x030
              ∧ u.bell.maskTo = (if has 0x031 then some (w 0x031 &&& 0xFFFE00) else s.bell.maskTo)
              ∧ u.tb = { s.tb with w1c := s.tb.w1c ||| flags })
           ∧ (∀ k : Fin 16, bitOf (w (0x130 + k.val)) 20 = true → ManReq.ctZero (k.val % 4) ∈ vat (u.hsOf h).reqs (k.val / 4) [])
           ∧ ((∀ k : Fin 16, bitOf (w (0x130 + k.val)) 20 = false) → (u.hsOf h).like (s.hsOf h))))
    ∧ (∀ v, s.takes h t (.writeWindow 0x030 [v]) → s.soleActor h → ∃ u, exec (.bellCauseClear t .bellCause v) s = .next u
      ∧ u.bell.cleared = s.bell.cleared ||| v ∧ (s.landingsRun = true → u.bell.cause = s.bell.cause) ∧ u.tb = s.tb)
    ∧ (∀ v, s.takes h t (.writeWindow 0x020 [v]) → s.soleActor h → ∃ u, exec (.bellCauseClear t .tideStatus v) s = .next u
      ∧ u.tb = { s.tb with w1c := s.tb.w1c ||| (if bitOf v 21 = true then 1 else 0) }
      ∧ ∀ b, (u.tb.land b true).refLost = (s.tb.refLost && !((s.tb.w1c.getLsbD 0 || bitOf v 21) && !s.tb.fresh.getLsbD 0)))
    ∧ (∀ v, s.takes h t (.writeWindow 0x026 [v]) → s.soleActor h → ∃ u, exec (.bellCauseClear t .syncStatus v) s = .next u
      ∧ u.tb = { s.tb with w1c := u.tb.w1c }
      ∧ (s.tb.w1c = 0 → s.tb.fresh = 0 → ∀ b, (u.tb.land b true).syncLost = (s.tb.syncLost && !bitOf v 20)
          ∧ (u.tb.land b true).syncMismatch = (s.tb.syncMismatch && !bitOf v 19)
          ∧ (u.tb.land b true).markSeen = (s.tb.markSeen && !bitOf v 18)))
    ∧ (∀ v, s.takes h t (.writeWindow 0x031 [v]) → s.soleActor h → ∃ u, exec (.bellMaskWrite t v) s = .next u
      ∧ u.bell.maskTo = some (v &&& 0xFFFE00) ∧ u.bell.mask = s.bell.mask ∧ u.tb = s.tb)
    ∧ (∀ k : Fin 16, s.takes h t (.writeWindow (0x130 + k.val) [oneBit 20]) → ∃ u, exec (.ctZero t k) s = .next u
      ∧ ManReq.ctZero (k.val % 4) ∈ vat (u.hsOf h).reqs (k.val / 4) [] ∧ (u.hsOf h).img = (s.hsOf h).img ∧ u.tb = s.tb)

/-- An output command of the port that has the authority, outside host loss: SET_OUTPUTS sets the host image of the selected
outputs and ends their pulses, FORCE and RELEASE begin and end forces and leave a pulse running (that they do not end it is log entry 25,
DEDUCED), PULSE_OUTPUT turns on and sets the end (R149, R151). That the
port has the authority from its first output command on under HPA only and HPB only too is log entry 47 (DESIGN CHOICE).

Proportional setpoints (R150): an entry sets the host image of its stage, a FORCE entry forces it and a RELEASE entry ends
the force, each no higher than the stage's ceiling. The authority under HPA only and HPB only is log entry 47 (DESIGN CHOICE).

The first output command after host loss ends it: an output that it does not name keeps the value it holds (R270). HL_COUNT
then begins again at 0, which is the model's choice (log entry 56, DESIGN CHOICE). -/
def Obligations.OutputAndPropCommands : Prop :=
  (∀ (s : State) (h : HelmId) (t : Tag) (m v : BitVec 32), (s.hsOf h).hl = .watching →
    (chOutAuth (s.hsOf h).charter ≠ 2 ∨ ((s.hsOf h).auth = some t.port ∧ (s.hsOf h).takeover = none)) →
    let mine : HelmState := { s.hsOf h with auth := some t.port }
    (s.takes h t (.setOutputs 0 m v) → ∃ u, exec (.setOutputs t m v) s = .next u ∧ OnlyHelmSide s u
      ∧ (u.hsOf h).like (mine.setImg m v) ∧ Answered s u h t (.setOutputs 0 m v) Ans.ok)
    ∧ (s.takes h t (.setOutputs 1 m v) → ∃ u, exec (.setOutputsForce t m v) s = .next u ∧ OnlyHelmSide s u
      ∧ (u.hsOf h).like (mine.setForce m v true) ∧ Answered s u h t (.setOutputs 1 m v) Ans.ok)
    ∧ (s.takes h t (.setOutputs 2 m v) → ∃ u, exec (.setOutputsRelease t m v) s = .next u ∧ OnlyHelmSide s u
      ∧ (u.hsOf h).like (mine.setForce m v false) ∧ Answered s u h t (.setOutputs 2 m v) Ans.ok)
    ∧ (∀ ch d, s.takes h t (.pulse ch d) → ∃ u, exec (.pulseOutput t ch d) s = .next u ∧ OnlyHelmSide s u
      ∧ (u.hsOf h).like { mine with img := vset mine.img ch 1
                                    pulses := vset mine.pulses ch (some ((s.ctxOf h t).L + d)) }
      ∧ Answered s u h t (.pulse ch d) Ans.ok))
  ∧ (∀ (s : State) (h : HelmId) (t : Tag) (ch : Fin 8) (sp : Word), (s.hsOf h).hl = .watching →
    (chOutAuth (s.hsOf h).charter ≠ 2 ∨ ((s.hsOf h).auth = some t.port ∧ (s.hsOf h).takeover = none)) →
    let mine : HelmState := { s.hsOf h with auth := some t.port }
    let v := min (sc sp) (chCeil (s.hsOf h).charter ch)
    let e (f : Nat) : PropEntry := ⟨BitVec.ofNat 8 (f + ch.val), sp⟩
    (s.takes h t (.setProp [e 0]) → ∃ u, exec (.setProp t [e 0]) s = .next u ∧ OnlyHelmSide s u
      ∧ (u.hsOf h).like { mine with img := vset mine.img (qOfPq ch) v }
      ∧ Answered s u h t (.setProp [e 0]) { status := .ok, data := [clampedBy (s.hsOf h).charter [e 0]] })
    ∧ (s.takes h t (.setProp [e 128]) → ∃ u, exec (.setPropForce t ch sp) s = .next u ∧ OnlyHelmSide s u
      ∧ (u.hsOf h).like { mine with forced := vset mine.forced (qOfPq ch) (some v) })
    ∧ (s.takes h t (.setProp [e 64]) → ∃ u, exec (.setPropRelease t ch sp) s = .next u ∧ OnlyHelmSide s u
      ∧ (u.hsOf h).like { mine with forced := vset mine.forced (qOfPq ch) none }))
  ∧ (∀ (s : State) (h : HelmId) (t : Tag) (m v : BitVec 32), (s.hsOf h).hl ≠ .watching →
    chOutAuth (s.hsOf h).charter ≠ 2 → s.takes h t (.setOutputs 0 m v) →
    ∃ u, exec (.setOutputs t m v) s = .next u ∧ (u.hsOf h).hl = .watching ∧ (u.hsOf h).hlCount = 0
      ∧ ∀ q : Fin 32, (u.hsOf h).img[q]
          = if m.getLsbD q then (if v.getLsbD q then 1 else 0) else (s.hsOf h).landed[q])

/-- SET_MODE (R386, R387): an allowed transition makes the mode of the next landing, with MODE_CAUSE 0x01, MODE_PREV and
MODE_SINCE, and its record, and ends every force outside SLIPWAY; the entry to MOORED ends every role session too. The mode that already
stands is answered OK, and any other MODE_DENIED, and either then changes nothing where no mode change is in the making. -/
def Obligations.SetMode : Prop :=
  ∀ (s : State) (h : HelmId) (t : Tag) (x : Byte), s.takes h t (.setMode x) →
    let n := s.tb.crossing
    let old := (s.hsOf h).modes.mode
    let port := (s.hsOf h).role t.port
    let record (m : Mode) : Rec := ⟨⟨n, 240⟩, helmSource h, if m = .anchored then clsFault else clsAct, 0x04E,
      wd (roleCode port.held * 2 ^ 22 + portCode t.port * 2 ^ 20) + wd (m.code * 2 ^ 16 + old.code * 2 ^ 12 + 1), port.fp, 0⟩
    let stays (a : Ans) : Prop := ∃ u, exec (.setMode t x) s = .next u ∧ (u.hsOf h).like (s.hsOf h)
      ∧ (u.hsOf h).modes = (((s.openMode h n).settleMode h n).hsOf h).modes ∧ Answered s u h t (.setMode x) a
      ∧ ((∀ g, (s.helm g).svc.computes = true → s.modeStands g) → s.BareRow u t)
    let alike (r : Option (Option Mode)) : Prop := ∀ g, (s.helm g).svc.computes = true →
      s.checkCmd (s.ctxOf g t) (.setMode x) = none ∧ s.modeMove g n x.toNat = r
    (∃ u, exec (.setMode t x) s = .next u ∧ OnlyHelmSide s u)
    ∧ (s.modeMove h n x.toNat = some (some .moored) → ((s.hsOf h).modes.openAt n).old = old →
      ∃ u, exec (.setMode t x) s = .next u ∧ OnlyHelmSide s u ∧ (u.hsOf h).modes.mode = .moored ∧ (u.hsOf h).modes.prev = old
        ∧ (u.hsOf h).modes.cause = 1 ∧ (u.hsOf h).modes.since = n ∧ (u.hsOf h).forced = Vector.replicate 32 none
        ∧ (∀ p, ((u.hsOf h).role p).held = none ∧ ((u.hsOf h).role p).chal = none) ∧ (u.hsOf h).img = (s.hsOf h).img
        ∧ record .moored ∈ (u.helm h).shared ∧ Answered s u h t (.setMode x) Ans.ok)
    ∧ (∀ m, s.modeMove h n x.toNat = some (some m) → m ≠ .moored →
      ((s.hsOf h).modes.openAt n).old = old → ∃ u, exec (.setMode t x) s = .next u ∧ OnlyHelmSide s u
        ∧ (u.hsOf h).modes.mode = (if m = .underway ∧ ((s.hsOf h).red.single = true ∨ (s.hsOf h).shPonts ≠ 0)
            then .singleHanded else m)
        ∧ (u.hsOf h).modes.prev = old ∧ (u.hsOf h).modes.cause = 1 ∧ (u.hsOf h).modes.since = n
        ∧ record (u.hsOf h).modes.mode ∈ (u.helm h).shared
        ∧ (u.hsOf h).forced = (if m = .slipway then (s.hsOf h).forced else Vector.replicate 32 none)
        ∧ (u.hsOf h).img = (s.hsOf h).img ∧ Answered s u h t (.setMode x) Ans.ok)
    ∧ (alike (some none) → stays Ans.ok) ∧ (alike none → stays (Ans.st .modeDenied))

/-- Roles (R398): a challenge gives 32 bytes and a life of 30 s; the right response takes the role, with the fingerprint of its
key; a wrong one counts, and the third in succession locks the port for 10 s; a drop ends the role. -/
def Obligations.RoleCommands : Prop :=
  ∀ (s : State) (h : HelmId) (t : Tag),
    let r := (s.hsOf h).role t.port
    let n := s.tb.crossing
    (∀ b : Byte, s.takes h t (.roleChallenge b) → r.lockedUntil = none →
      (roleKey (s.hsOf h).charter (roleOf b)).isSome = true → ∃ u, exec (.roleChallenge t b) s = .next u ∧ OnlyHelmSide s u
        ∧ (u.hsOf h).role t.port = { r with chal := some ⟨roleOf b, (List.range 32).map (Config.noise (s.ctxOf h t).id),
            wd (s.ctxOf h t).L, n + (s.hsOf h).crossings 30⟩ }
        ∧ Answered s u h t (.roleChallenge b)
            { status := .ok, data := (List.range 32).map (Config.noise (s.ctxOf h t).id) })
    ∧ (∀ c key resp, s.takes h t (.roleResponse resp) → r.chal = some c → roleKey (s.hsOf h).charter c.role = some key →
      hmac256 key (roleMsg c t.port) = resp → ∃ u, exec (.roleResponse t resp) s = .next u ∧ OnlyHelmSide s u
        ∧ ((u.hsOf h).role t.port).held = some c.role ∧ ((u.hsOf h).role t.port).fp = keyFp key
        ∧ ((u.hsOf h).role t.port).chal = none ∧ ((u.hsOf h).role t.port).fails = 0)
    ∧ (∀ c key resp, s.takes h t (.roleResponse resp) → r.chal = some c → roleKey (s.hsOf h).charter c.role = some key →
      hmac256 key (roleMsg c t.port) ≠ resp → ∃ u, exec (.roleResponse t resp) s = .next u ∧ OnlyHelmSide s u
        ∧ ((u.hsOf h).role t.port).held = r.held ∧ ((u.hsOf h).role t.port).chal = none
        ∧ ((u.hsOf h).role t.port).fails = r.fails + 1
        ∧ (3 ≤ r.fails + 1 → r.lockedUntil = none →
            ((u.hsOf h).role t.port).lockedUntil = some (n + (s.hsOf h).crossings 10))
        ∧ Answered s u h t (.roleResponse resp) (Ans.st .authFailed))
    ∧ (s.takes h t .roleDrop → ∃ u, exec (.roleDrop t) s = .next u ∧ OnlyHelmSide s u
        ∧ ((u.hsOf h).role t.port).held = none ∧ ((u.hsOf h).role t.port).chal = none
        ∧ (u.hsOf h).role (otherPort t.port) = (s.hsOf h).role (otherPort t.port))

/-- The charter draft (R155, R156, R408): a write makes or extends the port's own draft, a discard ends it; both are refused
while a charter is pending, with BUSY, and when the other port owns the draft, with DRAFT_OWNED; the charter in force stays.

CHARTER_COMMIT (R158 to R160, R408): a draft that passes every check becomes the pending charter for the landing AT names,
with no copy confirmed yet; the charter in force stays; while one is pending, BUSY, and of a draft that the other port owns, DRAFT_OWNED
(R155). -/
def Obligations.CharterCommands : Prop :=
  (∀ (s : State) (h : HelmId) (t : Tag),
    let hs := s.hsOf h
    (∀ off ws, s.takes h t (.charterWrite off ws) → hs.pend = none → hs.foreignDraft t.port = false →
      ∃ u, exec (.charterWrite t off ws) s = .next u ∧ OnlyHelmSide s u
        ∧ (u.hsOf h).like { hs with draft := some ⟨t.port, overlay (s.ctxOf h t).id
            (match hs.draft with | some d => d.words | none => hs.charter) off ws⟩ }
        ∧ Answered s u h t (.charterWrite off ws) Ans.ok)
    ∧ (∀ off ws, s.takes h t (.charterWrite off ws) → hs.pend = none → hs.foreignDraft t.port = true →
      ∃ u, exec (.charterWrite t off ws) s = .next u ∧ (u.hsOf h).like hs
        ∧ Answered s u h t (.charterWrite off ws) (Ans.st .draftOwned))
    ∧ (s.takes h t .charterDiscard → hs.pend = none → hs.foreignDraft t.port = false →
      ∃ u, exec (.charterDiscard t) s = .next u ∧ OnlyHelmSide s u ∧ (u.hsOf h).like { hs with draft := none }
        ∧ Answered s u h t .charterDiscard Ans.ok)
    ∧ (s.takes h t .charterDiscard → hs.pend = none → hs.foreignDraft t.port = true →
      ∃ u, exec (.charterDiscard t) s = .next u ∧ (u.hsOf h).like hs ∧ Answered s u h t .charterDiscard (Ans.st .draftOwned))
    ∧ (∀ off ws, s.takes h t (.charterWrite off ws) → hs.pend ≠ none → ∃ u, exec (.charterWrite t off ws) s = .next u
        ∧ (u.hsOf h).like hs ∧ Answered s u h t (.charterWrite off ws) (Ans.st .busy))
    ∧ (s.takes h t .charterDiscard → hs.pend ≠ none → ∃ u, exec (.charterDiscard t) s = .next u
        ∧ (u.hsOf h).like hs ∧ Answered s u h t .charterDiscard (Ans.st .busy)))
  ∧ (∀ (s : State) (h : HelmId) (t : Tag) (gen atW : Word) (crc : BitVec 32),
    let hs := s.hsOf h
    let c : Cmd := .charterCommit gen atW crc
    s.takes h t c →
    (∀ d n, hs.pend = none → hs.draft = some d → d.owner = t.port →
      atLanding ((s.ctxOf h t).L + commitDelay hs.charter) atW = some n →
      gen = nextGen (chGen hs.charter) → chGen (chTrim d.words) = gen → chCrc (chTrim d.words) = crc →
      judgeDraft d.words hs.charter (decide ((hs.role t.port).held = some .maker)) = none →
      budgetOver (chTrim d.words) = false →
      ∃ u, exec (.charterCommit t gen atW crc) s = .next u ∧ OnlyHelmSide s u
        ∧ (u.hsOf h).like { hs with draft := none, pend := some {
            words := chTrim d.words, gen := gen, at_ := n, ok := 0, port := t.port, role := (hs.role t.port).held
            fp := (hs.role t.port).fp } }
        ∧ Answered s u h t c { status := .ok, eff := some n })
    ∧ (hs.pend = none → hs.foreignDraft t.port = true → ∃ u, exec (.charterCommit t gen atW crc) s = .next u ∧ (u.hsOf h).like hs
        ∧ Answered s u h t c (Ans.st .draftOwned))
    ∧ (hs.pend ≠ none → ∃ u, exec (.charterCommit t gen atW crc) s = .next u ∧ (u.hsOf h).like hs
        ∧ Answered s u h t c (Ans.st .busy)))

/-- Commands whose effect lies in the Quay: TOLL_CONFIG (settings that the landing brings, R430), SYNC_ISSUE (R79),
BLACKBOX_MARK (R165), CHECK_CONFIG and CHECK_READ (restarts that the landing brings, R457), each made once, by the helm that
acts; the helm state is left as it was. What waits for the landing that keeps the passage (log entry 43, DEDUCED) that landing makes, as the
statement of stroke 240 has it. (MOOR_S, which TOLL_CONFIG does not have, stays that of the latest settings: log entry 55,
DESIGN CHOICE.)

BLACKBOX_READ (R164): the items of both banks from the first slot on, as the rings stand once every record stamped up to
the landing before is committed; the banks and the record slips stay. -/
def Obligations.QuayAndBlackboxCommands : Prop :=
  (∀ (s : State) (h : HelmId) (t : Tag), s.soleActor h →
    let L := (s.ctxOf h t).L
    (∀ r c o ms pol, s.takes h t (.tollConfig r c o ms pol) → ∃ u, exec (.tollConfig t r c o ms pol) s = .next u
      ∧ u.toll.due.map (fun d => (d.set, d.enabled)) = some (⟨r, c.toNat, o.toNat, ms, decide (pol = 1), s.toll.moorNow⟩, true)
      ∧ u.toll = { s.toll with due := u.toll.due } ∧ (u.hsOf h).like (s.hsOf h))
    ∧ (s.takes h t .syncIssue → ∃ u, exec (.syncIssue t) s = .next u
      ∧ u.tb = { s.tb with decimDue := some (L + 1), markDue := if s.syncRole = 1 then some (L + 1) else s.tb.markDue }
      ∧ (u.hsOf h).like (s.hsOf h))
    ∧ (∀ a b c, s.takes h t (.hostMark a b c) → ∃ u, exec (.hostMark t a b c) s = .next u ∧ OnlyHelmSide s u
      ∧ (u.hsOf h).like (s.hsOf h) ∧ Answered s u h t (.hostMark a b c) Ans.ok
      ∧ (⟨⟨s.tb.crossing, 240⟩, helmSource h, clsAct, 0x051, a, b, c⟩ : Rec) ∈ (u.helm h).shared)
    ∧ (s.takes h t .markClear → ∃ u, exec (.blackboxMarkClear t) s = .next u
      ∧ u.com = { s.com with ffDue := s.com.ffDue ++ [⟨⟨s.tb.crossing, 240⟩, helmSource h, clsAct, 0x04D,
          wd ((s.hsOf h).roleNo t.port * 2 ^ 22 + portCode t.port * 2 ^ 20), ((s.hsOf h).role t.port).fp, 0⟩] }
      ∧ u.nvmA = s.nvmA ∧ u.nvmB = s.nvmB ∧ (u.hsOf h).like (s.hsOf h) ∧ Answered s u h t .markClear Ans.ok)
    ∧ (∀ k x w f p i o, s.takes h t (.checkConfig k x w f p i o) → ∃ u, exec (.checkConfig t k x w f p i o) s = .next u
      ∧ u.cuOps = s.cuOps ++ [⟨k, L, some { source := x, width := w, flags := f, poly := p, init := i, xorout := o }⟩]
      ∧ u.cus = s.cus ∧ (u.hsOf h).like (s.hsOf h) ∧ Answered s u h t (.checkConfig k x w f p i o) Ans.ok)
    ∧ (∀ k f, s.takes h t (.checkRead k f) → ∃ u, exec (.checkRead t k f) s = .next u
      ∧ u.cuOps = s.cuOps ++ (if f.getLsbD 0 then [⟨k, L, none⟩] else []) ∧ u.cus = s.cus
      ∧ (u.hsOf h).like (s.hsOf h)
      ∧ (let c := (vat s.cus k {}).foldUpTo (L - 1)
         Answered s u h t (.checkRead k f)
           { status := .ok, data := bytesOfNat 4 (c.result c.reg).toNat ++ bytesOfNat 3 c.bytes
                                      ++ [BitVec.ofNat 8 (bn c.overrun + 2 * bn (c.flags.getLsbD 0))] })))
  ∧ (∀ (s : State) (h : HelmId) (t : Tag) (area : Byte) (start count : Nat),
    s.takes h t (.blackboxRead area start count) → h = .a ∨ s.helmA.svc.computes = false →
    let v := s.commitUpTo ⟨(s.ctxOf h t).L - 1, 240⟩
    let ff := decide (area.toNat = 1)
    let r := v.bbGather ff count (if start ≠ 0xFFFF then start else if ff then 0 else v.oldestSlot)
      (if t.gen = .ul3 then 3070 else 190) []
    ∃ u, exec (.blackboxRead t area start count) s = .next u ∧ OnlyHelmSide s u ∧ (u.hsOf h).like (s.hsOf h)
      ∧ Answered s u h t (.blackboxRead area start count)
          { status := .ok, data := bytesOfNat 2 r.1 ++ bytesOfWords r.2 })

/-- Requests that go with the manifest (R324, R352, R355): a snapshot that fits is requested and its reply waits, or
it is dropped, counted in SNAP_DROPS, and answered CONVERTER_BUSY (R168; with no report of the pontoon that is log entry 49, DESIGN
CHOICE); a wake buffer is armed or disarmed at the landing; a read of a complete capture is queued for its
landing, a fifth one is answered BUSY, and without a complete capture, whether the report shows another state or did not come, the answer is
NOT_READY. -/
def Obligations.MeasureCommands : Prop :=
  ∀ (s : State) (h : HelmId) (t : Tag),
    let hs := s.hsOf h
    (∀ ch r, s.takes h t (.analogSnapshot ch) → freeSlot (hs.charterAt ((s.ctxOf h t).L + 1)) (ch / 4) = true →
      (vat hs.snaps (ch / 4) []).length < 2 → vat hs.reps (ch / 4) none = some r → r.ckFault = false →
      (r.ai[ch % 4]?).map (·.uns) = some false → ∃ u, exec (.analogSnapshot t ch) s = .next u ∧ OnlyHelmSide s u
        ∧ (u.hsOf h).like { hs with
            reqs := vmod hs.reqs (ch / 4) (fun l => l ++ [.snap (ch % 4)])
            snaps := vmod hs.snaps (ch / 4) (fun l => l ++
              [⟨(s.ctxOf h t).id, t, ch, 0, 0, 0, wd ((s.ctxOf h t).L + 1), 0⟩]) }
        ∧ (u.helm h).slip t.port = (s.helm h).slip t.port
        ∧ (u.helm h).waiting t.port = (s.helm h).waiting t.port)
    ∧ (∀ ch, s.takes h t (.analogSnapshot ch) →
      (freeSlot (hs.charterAt ((s.ctxOf h t).L + 1)) (ch / 4) = false ∨ 2 ≤ (vat hs.snaps (ch / 4) []).length
        ∨ vat hs.reps (ch / 4) none = none
        ∨ ∃ r, vat hs.reps (ch / 4) none = some r ∧ (r.ckFault = true ∨ (r.ai[ch % 4]?).map (·.uns) = some true)) →
      ∃ u, exec (.analogSnapshot t ch) s = .next u ∧ OnlyHelmSide s u
        ∧ (u.hsOf h).like { hs with rcOps := hs.rcOps ++ [.inc ⟨⟨grpAddr (ch / 4) 3, 8⟩, 1⟩] }
        ∧ Answered s u h t (.analogSnapshot ch) (Ans.st .converterBusy))
    ∧ (∀ p c g l a b, s.takes h t (.wakeArm p c g l a b) → g ≠ 0xFF → wakeBad hs.charter p c g a b = false →
      ∃ u, exec (.wakeArm t p c g l a b) s = .next u ∧ OnlyHelmSide s u
        ∧ (p < 4 → ManReq.wake (c.setWidth 4) g (sc l) a b ∈ vat (u.hsOf h).reqs p [])
        ∧ Answered s u h t (.wakeArm p c g l a b) Ans.ok)
    ∧ (∀ p, s.takes h t (.wakeArm p 0 0xFF 0 0 1) → ∃ u, exec (.wakeDisarm t p) s = .next u ∧ OnlyHelmSide s u
        ∧ (p < 4 → ManReq.wake 0 0xFF 0 0 1 ∈ vat (u.hsOf h).reqs p [])
        ∧ Answered s u h t (.wakeArm p 0 0xFF 0 0 1) Ans.ok)
    ∧ (∀ p off n r, s.takes h t (.wakeRead p off n) → vat hs.reps p none = some r → r.wake = .complete →
      (vat hs.wakeReads p []).length < 4 → p < 4 → ∃ u, exec (.wakeRead t p off n) s = .next u ∧ OnlyHelmSide s u
        ∧ (∃ q, vat (u.hsOf h).wakeReads p [] = vat hs.wakeReads p [] ++ [q] ∧ q.id = (s.ctxOf h t).id ∧ q.tag = t
            ∧ q.off = off ∧ q.count = n ∧ q.total = r.wakeTotal ∧ (s.ctxOf h t).L < q.doneAt)
        ∧ (u.helm h).slip t.port = (s.helm h).slip t.port
        ∧ (u.helm h).waiting t.port = (s.helm h).waiting t.port)
    ∧ (∀ p off n r, s.takes h t (.wakeRead p off n) → vat hs.reps p none = some r → r.wake = .complete →
      4 ≤ (vat hs.wakeReads p []).length → ∃ u, exec (.wakeRead t p off n) s = .next u ∧ (u.hsOf h).like hs
        ∧ Answered s u h t (.wakeRead p off n) (Ans.st .busy))
    ∧ (∀ p off n, s.takes h t (.wakeRead p off n) → (∀ r, vat hs.reps p none = some r → r.wake ≠ .complete) →
      ∃ u, exec (.wakeRead t p off n) s = .next u ∧ (u.hsOf h).like hs
        ∧ Answered s u h t (.wakeRead p off n) (Ans.st .notReady))

/-- Firmware (R68, R171, R468 to R470): staged words are written to the same place of both banks at the landing, at stroke 240, that keeps
the passage (log entry 43, DEDUCED), and the table
shows a slot being staged; Finish sets STAGE_STATE by the CRC over what the passage has staged by then; a swap turns the boot entry of the standby, whose format
must be that of the image the holder runs, and restarts it on its new image. -/
def Obligations.FirmwareCommands : Prop :=
  ∀ (s : State) (h : HelmId) (t : Tag),
    let hs := s.hsOf h
    (∀ i off ws, s.takes h t (.stageData off ws) → s.soleActor h → hs.staging t.port = .ok i → slotState hs.imgTab i = 1 →
      ∃ u, exec (.firmwareStageData t off ws) s = .next u
        ∧ OnlyHelmSide { s with nvmDue := s.nvmDue ++ [⟨true, true, imgSlotBase i + off, ws⟩] } u
        ∧ (u.hsOf h).like { hs with stageOwner := some t.port, staged := hs.staged ++ [(imgSlotBase i + off, ws)] }
        ∧ Answered s u h t (.stageData off ws) Ans.ok)
    ∧ (∀ i off ws, s.takes h t (.stageData off ws) → s.soleActor h → hs.staging t.port = .ok i → slotState hs.imgTab i ≠ 1 →
      ∃ u, exec (.firmwareStageData t off ws) s = .next u
        ∧ (⟨true, true, imgSlotBase i + off, ws⟩ : NvmDue) ∈ u.nvmDue ∧ slotState (u.hsOf h).imgTab i = 1
        ∧ (u.hsOf h).stageOwner = some t.port ∧ u.nvmA = s.nvmA ∧ u.nvmB = s.nvmB
        ∧ Answered s u h t (.stageData off ws) Ans.ok)
    ∧ (∀ i len crc ver, s.takes h t (.stageFinish len crc ver) → hs.staging t.port = .ok i →
      ∃ u, exec (.firmwareStageFinish t len crc ver) s = .next u
        ∧ (u.hsOf h).imgTab = imgSlotSet hs.imgTab i
            [wd ((if crcWords ((List.range len).map (fun j => s.stagedRead hs (imgSlotBase i + j))) = crc then 2 else 3) * 2 ^ 22
              + (Config.imageFormat ver).toNat), wd len, wd (crc.toNat / 65536), wd (crc.toNat % 65536), ver]
        ∧ u.nvmA = s.nvmA ∧ u.nvmB = s.nvmB ∧ Answered s u h t (.stageFinish len crc ver) Ans.ok)
    ∧ (∀ b g, s.takes h t (.fwSwap b) → helmOf b = some g → hs.red.view ≠ some g → hs.red.svc g = .standby →
      (let i := if bootOf hs.imgTab .a = bootOf hs.imgTab .b then (stagingSlot hs.imgTab).getD 3
                else bootOf hs.imgTab (otherHelm g)
       (i < 2 → slotState hs.imgTab i = 2) → bootFormat hs.imgTab i = bootFormat hs.imgTab (s.helm (otherHelm g)).boot.toNat →
       ∃ u, exec (.firmwareSwap t b) s = .next u ∧ (u.hsOf h).imgTab = setBoot hs.imgTab g i
         ∧ (u.hsOf h).red.svc g = .starting ∧ (u.helm g).outCause = 9 ∧ (u.helm g).swapped = true))
    ∧ (s.live = true → s.tb.tides = true → s.tb.ts ≠ .dead → s.rst.started = true → s.rst.firstGiven = true → s.tb.counting = true →
      s.tb.stroke = 239 → s.helmA.closing = false → s.helmB.closing = false → s.pending = [.stroke] → s.keeps s.tb.crossing = true →
      ∃ u, step s = .next u ∧ u.nvmDue = []
        ∧ u.nvmA = (s.nvmDue.filter (·.toA)).foldl (fun b d => b.writes d.addr d.words) s.nvmA
        ∧ u.nvmB = (s.nvmDue.filter (·.toB)).foldl (fun b d => b.writes d.addr d.words) s.nvmB
        ∧ (∀ d : NvmDue, s.nvmDue = [d] → s.banksOk = true → d.addr + d.words.length ≤ bankWords → ∀ i, i < d.words.length →
            (d.toA = true → u.nvmA.read (d.addr + i) = d.words.getD i 0) ∧ (d.toB = true → u.nvmB.read (d.addr + i) = d.words.getD i 0)))

/-- The helm commands (R172, R197, R201, R203, R215, R216): a handover makes the standby the holder; the return hold is set and
released; a test passage comes due in the helms named; a standby leaves for its full self-test; a standby attaches to debug,
and an attachment that ends leaves the helm HALTED, with its full self-test to come. -/
def Obligations.HelmCommands : Prop :=
  ∀ (s : State) (h : HelmId) (t : Tag),
    let hs := s.hsOf h
    (∀ b g, s.takes h t (.handover b) → helmOf b = some g → hs.red.view ≠ some g → hs.red.svc g = .standby →
      hs.red.arb = none → ∃ u, exec (.helmHandover t b) s = .next u ∧ (u.hsOf h).red.view = some g
        ∧ (u.hsOf h).red.svc g = .holding ∧ (u.hsOf h).red.lastHandover = s.tb.crossing ∧ (u.hsOf h).img = hs.img
        ∧ Answered s u h t (.handover b) { status := .ok, eff := some (s.ctxOf h t).L })
    ∧ (s.takes h t (.returnHold 1) → ∃ u, exec (.helmReturnHold t) s = .next u ∧ OnlyHelmSide s u
        ∧ (u.hsOf h).like { hs with red := { hs.red with retHold := true } } ∧ Answered s u h t (.returnHold 1) Ans.ok)
    ∧ (s.takes h t (.returnHold 0) → ∃ u, exec (.helmReturnRelease t) s = .next u ∧ OnlyHelmSide s u
        ∧ (u.hsOf h).like { hs with red := { hs.red with retHold := false } } ∧ Answered s u h t (.returnHold 0) Ans.ok)
    ∧ (∀ b : Byte, s.takes h t (.selftest b 1) → s.soleActor h → (∀ r ∈ s.outcomes, r.key ≠ ((s.ctxOf h t).L + 2, true)) → ∃ u, exec (.selftestTestPassage t b) s = .next u
        ∧ (let names (g : HelmId) : Bool := decide (b.toNat = 3) || decide (b.toNat = helmCode g)
           u.outcomes = s.outcomes ++ [{ key := ((s.ctxOf h t).L + 2, true), nameA := names .a, nameB := names .b }]
           ∧ (∀ g, names g = true → (s.helm g).svc.computes = true → ((s.ctxOf h t).L + 2, true) ∈ (u.helm g).tests))
        ∧ (u.hsOf h).like hs)
    ∧ (∀ (b : Byte) g, s.takes h t (.selftest b 2) → helmOfCode b.toNat = some g → hs.red.view ≠ some g →
        hs.red.svc g = .standby → ∃ u, exec (.selftestFull t b) s = .next u ∧ (u.hsOf h).red.svc g = .starting
          ∧ (u.helm g).outCause = 0xA ∧ (u.helm g).testing = true ∧ Answered s u h t (.selftest b 2) Ans.ok)
    ∧ (∀ (b : Byte) g, s.takes h t (.selftest b 2) → helmOfCode b.toNat = some g → hs.red.view ≠ some g →
        hs.red.svc g = .starting → (s.helm g).bistFail = true → ∃ u, exec (.selftestFull t b) s = .next u
          ∧ (u.helm g).testing = true ∧ (u.helm g).bistTries = 0 ∧ Answered s u h t (.selftest b 2) Ans.ok)
    ∧ (∀ b : Byte, s.takes h t (.debug b 1) → helmOfCode b.toNat = none →
        (∀ v, hs.red.view = some v → hs.red.svc (otherHelm v) ≠ .standby ∨ hs.red.arb ≠ none) →
        ∃ u, exec (.debugOpen t b) s = .next u ∧ (u.hsOf h).like hs ∧ Answered s u h t (.debug b 1) (Ans.st .noStandby))
    ∧ (∀ (b : Byte) g, s.takes h t (.debug b 1) → helmOfCode b.toNat = some g → hs.red.view ≠ some g →
        hs.red.svc g = .standby → ∃ u, exec (.debugOpen t b) s = .next u ∧ (u.hsOf h).red.svc g = .debug
          ∧ (u.helm g).outCause = 8 ∧ (u.hsOf h).red.view = hs.red.view ∧ Answered s u h t (.debug b 1) Ans.ok)
    ∧ (∀ (b : Byte) g, s.takes h t (.debug b 0) → b.toNat = helmCode g → g ≠ h → hs.red.svc g = .debug →
        ∃ u, exec (.debugClose t b) s = .next u ∧ (u.hsOf h).red.svc g = .halted ∧ (u.helm g).svc = .halted
          ∧ (u.helm g).testing = true ∧ Answered s u h t (.debug b 0) Ans.ok)

end Slice0Obligations
end

