-- ==== Sys2Proof/Laws/Crc.lean ====
section
/-! SUPPORT. Lengths: the bytes of words and numbers, and the 32 bytes of SHA-256 and HMAC (R396). -/

namespace Sys2Proof.Machine

@[simp] theorem bytesOfWord_length (w : Word) : (bytesOfWord w).length = 3 := rfl

@[simp] theorem bytesOfNat_length (n v : Nat) : (bytesOfNat n v).length = n := by simp [bytesOfNat]

@[simp] theorem bytesOfWords_length (ws : List Word) : (bytesOfWords ws).length = 3 * ws.length := by
  induction ws with
  | nil => rfl
  | cons w ws ih => simp only [bytesOfWords, List.flatMap_cons, List.length_append, bytesOfWord_length,
      List.length_cons] at ih ⊢; omega

/-- A round keeps four values of each register. -/
theorem ShaRegs.round_length (v : ShaRegs) (kw : BitVec 32) (h : v.up.length = 4 ∧ v.low.length = 4) :
    (v.round kw).up.length = 4 ∧ (v.round kw).low.length = 4 := by
  simp [ShaRegs.round, h.1, h.2]

theorem ShaRegs.rounds_length (kws : List (BitVec 32)) : ∀ v : ShaRegs, v.up.length = 4 ∧ v.low.length = 4 →
    (kws.foldl ShaRegs.round v).up.length = 4 ∧ (kws.foldl ShaRegs.round v).low.length = 4 := by
  induction kws with
  | nil => exact fun _ h => h
  | cons k kws ih => exact fun v h => ih _ (v.round_length k h)

theorem shaAbsorb_length (h : List (BitVec 32)) (b : List Byte) (hl : h.length = 8) : (shaAbsorb h b).length = 8 := by
  have := ShaRegs.rounds_length (List.zipWith (· + ·) shaRoundConsts (shaSched b 64).reverse) ⟨h.take 4, h.drop 4⟩
    ⟨by simp [hl], by simp [hl]⟩
  simp [shaAbsorb, hl, this.1, this.2]

theorem shaBlocks_length (bs : List (List Byte)) : ∀ h : List (BitVec 32), h.length = 8 →
    (bs.foldl shaAbsorb h).length = 8 := by
  induction bs with
  | nil => exact fun _ hl => hl
  | cons b bs ih => exact fun h hl => ih _ (shaAbsorb_length h b hl)

/-- SHA-256 answers 32 bytes. -/
@[simp] theorem sha256_length (m : List Byte) : (sha256 m).length = 32 := by
  unfold sha256
  have h : ∀ l : List (BitVec 32), (l.flatMap (fun w => bytesOfNat 4 w.toNat)).length = 4 * l.length := by
    intro l
    induction l with
    | nil => rfl
    | cons w l ih => simp only [List.flatMap_cons, List.length_append, bytesOfNat_length, ih, List.length_cons]; omega
  rw [h, shaBlocks_length _ _ (by decide +kernel)]

/-- HMAC-SHA-256 answers 32 bytes (R396). -/
@[simp] theorem hmac256_length (k m : List Byte) : (hmac256 k m).length = 32 := sha256_length _

end Sys2Proof.Machine
end

