-- ==== Sys2Proof/Laws/Nvm.lean ====
section
/-! SUPPORT. The canonical form of a bank (R434): what it says of the entries, and that every operation on a bank keeps it. -/

namespace Sys2Proof.Machine

/-- An entry that a bank may list: inside the bank, and not what an unlisted word reads as. -/
def listed (e : Nat × Word) : Prop := e.1 < bankWords ∧ e.2 ≠ nvmBlank e.1

theorem memWf_iff : ∀ l : List (Nat × Word),
    memWf l = true ↔ l.Pairwise (fun x y => x.1 < y.1) ∧ ∀ e ∈ l, listed e
  | [] => by simp [memWf]
  | [e] => by simp [memWf, listed]
  | e :: f :: tl => by
    have ih := memWf_iff (f :: tl)
    simp only [memWf, Bool.and_eq_true, decide_eq_true_eq, bne_iff_ne, ih]
    constructor
    · rintro ⟨⟨⟨h1, h2⟩, h3⟩, hp, hl⟩
      refine ⟨List.pairwise_cons.2 ⟨fun y hy => ?_, hp⟩, ?_⟩
      · rcases List.mem_cons.1 hy with rfl | hy
        · exact h1
        · exact Nat.lt_trans h1 ((List.pairwise_cons.1 hp).1 y hy)
      · intro y hy
        rcases List.mem_cons.1 hy with rfl | hy
        · exact ⟨h2, h3⟩
        · exact hl y hy
    · rintro ⟨hp, hl⟩
      have h := List.pairwise_cons.1 hp
      exact ⟨⟨⟨h.1 f (by simp), (hl e (by simp)).1⟩, (hl e (by simp)).2⟩, h.2, fun y hy => hl y (List.mem_cons_of_mem _ hy)⟩

/-- Every entry after an insertion is the new one or was there. -/
theorem mem_nvmInsert {x : Nat × Word} {a : Nat} {w : Word} : ∀ {l : List (Nat × Word)},
    x ∈ nvmInsert l a w → x = (a, w) ∨ x ∈ l
  | [], h => by simpa [nvmInsert] using h
  | e :: tl, h => by
    simp only [nvmInsert] at h
    split at h
    · simpa using h
    · split at h
      · rcases List.mem_cons.1 h with h | h
        · exact .inl h
        · exact .inr (List.mem_cons_of_mem _ h)
      · rcases List.mem_cons.1 h with h | h
        · exact .inr (by simp [h])
        · rcases mem_nvmInsert h with h | h
          · exact .inl h
          · exact .inr (List.mem_cons_of_mem _ h)

/-- An insertion keeps the addresses rising. -/
theorem nvmInsert_pairwise (a : Nat) (w : Word) : ∀ {l : List (Nat × Word)},
    l.Pairwise (fun x y => x.1 < y.1) → (nvmInsert l a w).Pairwise (fun x y => x.1 < y.1)
  | [], _ => by simp [nvmInsert]
  | e :: tl, h => by
    have hc := List.pairwise_cons.1 h
    simp only [nvmInsert]
    split
    · rename_i ha
      refine List.pairwise_cons.2 ⟨fun y hy => ?_, h⟩
      rcases List.mem_cons.1 hy with rfl | hy
      · exact ha
      · exact Nat.lt_trans ha (hc.1 y hy)
    · split
      · rename_i _ ha
        exact List.pairwise_cons.2 ⟨fun y hy => by simpa [ha] using hc.1 y hy, hc.2⟩
      · rename_i h1 h2
        refine List.pairwise_cons.2 ⟨fun y hy => ?_, nvmInsert_pairwise a w hc.2⟩
        rcases mem_nvmInsert hy with rfl | hy
        · show e.1 < a
          omega
        · exact hc.1 y hy

/-- Writing a word keeps the canonical form. -/
theorem Bank.write_wf {b : Bank} (a : Nat) (w : Word) (h : b.wf = true) : (b.write a w).wf = true := by
  have hb := (memWf_iff b.mem).1 h
  unfold Bank.write
  split
  · exact h
  · rename_i ha
    split
    · exact (memWf_iff _).2 ⟨hb.1.filter _, fun e he => hb.2 e (List.mem_filter.1 he).1⟩
    · rename_i hw
      refine (memWf_iff _).2 ⟨nvmInsert_pairwise a w hb.1, fun e he => ?_⟩
      rcases mem_nvmInsert he with rfl | he
      · exact ⟨Nat.lt_of_not_le ha, hw⟩
      · exact hb.2 e he

/-- Writing words keeps the canonical form. -/
theorem Bank.writes_wf : ∀ (ws : List Word) {b : Bank} (a : Nat), b.wf = true → (b.writes a ws).wf = true
  | [], _, _, h => h
  | w :: ws, _, a, h => Bank.writes_wf ws (a + 1) (Bank.write_wf a w h)

/-- What a commit that was cut short leaves is in canonical form. -/
theorem Bank.leave_wf {b : Bank} (a n : Nat) (ws : List Word) (l : CopyLeft) (h : b.wf = true) :
    (b.leave a ws l n).wf = true := by
  cases l
  · exact h
  · exact Bank.writes_wf _ _ h
  · exact Bank.writes_wf _ _ h

/-- The banks of the state after reset are in canonical form. -/
theorem reset_banks_wf : State.reset.nvmA.wf = true ∧ State.reset.nvmB.wf = true := by decide

end Sys2Proof.Machine
end

