-- ==== Sys2Proof/Laws/State.lean ====
section
/-! SUPPORT. What each update of a part of the state leaves: one lemma per field and update, so that no proof unfolds a
record update. -/

namespace Sys2Proof.Machine

/-! ### A pontoon changed -/

@[simp] theorem State.modPont_pending (s : State) (p : Fin 4) (g : Pont → Pont) :
    (s.modPont p g).pending = s.pending := rfl

@[simp] theorem State.modPont_tb (s : State) (p : Fin 4) (g : Pont → Pont) :
    (s.modPont p g).tb = s.tb := rfl

@[simp] theorem State.modPont_rst (s : State) (p : Fin 4) (g : Pont → Pont) :
    (s.modPont p g).rst = s.rst := rfl

@[simp] theorem State.modPont_toll (s : State) (p : Fin 4) (g : Pont → Pont) :
    (s.modPont p g).toll = s.toll := rfl

@[simp] theorem State.modPont_tollSnap (s : State) (p : Fin 4) (g : Pont → Pont) :
    (s.modPont p g).tollSnap = s.tollSnap := rfl

@[simp] theorem State.modPont_hpa (s : State) (p : Fin 4) (g : Pont → Pont) :
    (s.modPont p g).hpa = s.hpa := rfl

@[simp] theorem State.modPont_hpb (s : State) (p : Fin 4) (g : Pont → Pont) :
    (s.modPont p g).hpb = s.hpb := rfl

@[simp] theorem State.modPont_bell (s : State) (p : Fin 4) (g : Pont → Pont) :
    (s.modPont p g).bell = s.bell := rfl

@[simp] theorem State.modPont_com (s : State) (p : Fin 4) (g : Pont → Pont) :
    (s.modPont p g).com = s.com := rfl

@[simp] theorem State.modPont_nvmA (s : State) (p : Fin 4) (g : Pont → Pont) :
    (s.modPont p g).nvmA = s.nvmA := rfl

@[simp] theorem State.modPont_nvmB (s : State) (p : Fin 4) (g : Pont → Pont) :
    (s.modPont p g).nvmB = s.nvmB := rfl

@[simp] theorem State.modPont_cus (s : State) (p : Fin 4) (g : Pont → Pont) :
    (s.modPont p g).cus = s.cus := rfl

@[simp] theorem State.modPont_cuOps (s : State) (p : Fin 4) (g : Pont → Pont) :
    (s.modPont p g).cuOps = s.cuOps := rfl
@[simp] theorem State.modPont_nvmDue (s : State) (p : Fin 4) (g : Pont → Pont) :
    (s.modPont p g).nvmDue = s.nvmDue := rfl
@[simp] theorem State.modPont_setups (s : State) (p : Fin 4) (g : Pont → Pont) :
    (s.modPont p g).setups = s.setups := rfl
@[simp] theorem State.modPont_keptAt (s : State) (p : Fin 4) (g : Pont → Pont) :
    (s.modPont p g).keptAt = s.keptAt := rfl
@[simp] theorem State.modPont_genTurn (s : State) (p : Fin 4) (g : Pont → Pont) :
    (s.modPont p g).genTurn = s.genTurn := rfl
@[simp] theorem State.modPont_quay (s : State) (p : Fin 4) (g : Pont → Pont) :
    (s.modPont p g).quay = s.quay := rfl

@[simp] theorem State.modPont_snooped (s : State) (p : Fin 4) (g : Pont → Pont) :
    (s.modPont p g).snooped = s.snooped := rfl

@[simp] theorem State.modPont_lanes (s : State) (p : Fin 4) (g : Pont → Pont) :
    (s.modPont p g).lanes = s.lanes := rfl

@[simp] theorem State.modPont_helmA (s : State) (p : Fin 4) (g : Pont → Pont) :
    (s.modPont p g).helmA = s.helmA := rfl

@[simp] theorem State.modPont_helmB (s : State) (p : Fin 4) (g : Pont → Pont) :
    (s.modPont p g).helmB = s.helmB := rfl

@[simp] theorem State.modPont_holder (s : State) (p : Fin 4) (g : Pont → Pont) :
    (s.modPont p g).holder = s.holder := rfl

@[simp] theorem State.modPont_mode (s : State) (p : Fin 4) (g : Pont → Pont) :
    (s.modPont p g).mode = s.mode := rfl

@[simp] theorem State.modPont_outcomes (s : State) (p : Fin 4) (g : Pont → Pont) :
    (s.modPont p g).outcomes = s.outcomes := rfl

@[simp] theorem State.modPont_win (s : State) (p : Fin 4) (g : Pont → Pont) :
    (s.modPont p g).win = s.win := rfl

@[simp] theorem State.modPont_nextId (s : State) (p : Fin 4) (g : Pont → Pont) :
    (s.modPont p g).nextId = s.nextId := rfl

@[simp] theorem State.modPont_free (s : State) (p : Fin 4) (g : Pont → Pont) :
    (s.modPont p g).free = s.free := rfl

@[simp] theorem State.modPont_pont (s : State) (p : Fin 4) (g : Pont → Pont) :
    (s.modPont p g).pont p = g (s.pont p) := by simp [State.modPont, State.pont]

theorem State.modPont_pont_other (s : State) (p q : Fin 4) (g : Pont → Pont) (h : q ≠ p) :
    (s.modPont p g).pont q = s.pont q := by
  have : (p : Nat) ≠ q := fun e => h (Fin.ext e.symm)
  simp [State.modPont, State.pont, this]

/-! ### A helm changed -/

@[simp] theorem State.modHelm_pending (s : State) (h : HelmId) (g : Helm → Helm) :
    (s.modHelm h g).pending = s.pending := by cases h <;> rfl

@[simp] theorem State.modHelm_tb (s : State) (h : HelmId) (g : Helm → Helm) :
    (s.modHelm h g).tb = s.tb := by cases h <;> rfl

@[simp] theorem State.modHelm_rst (s : State) (h : HelmId) (g : Helm → Helm) :
    (s.modHelm h g).rst = s.rst := by cases h <;> rfl

@[simp] theorem State.modHelm_toll (s : State) (h : HelmId) (g : Helm → Helm) :
    (s.modHelm h g).toll = s.toll := by cases h <;> rfl

@[simp] theorem State.modHelm_tollSnap (s : State) (h : HelmId) (g : Helm → Helm) :
    (s.modHelm h g).tollSnap = s.tollSnap := by cases h <;> rfl

@[simp] theorem State.modHelm_hpa (s : State) (h : HelmId) (g : Helm → Helm) :
    (s.modHelm h g).hpa = s.hpa := by cases h <;> rfl

@[simp] theorem State.modHelm_hpb (s : State) (h : HelmId) (g : Helm → Helm) :
    (s.modHelm h g).hpb = s.hpb := by cases h <;> rfl

@[simp] theorem State.modHelm_bell (s : State) (h : HelmId) (g : Helm → Helm) :
    (s.modHelm h g).bell = s.bell := by cases h <;> rfl

@[simp] theorem State.modHelm_com (s : State) (h : HelmId) (g : Helm → Helm) :
    (s.modHelm h g).com = s.com := by cases h <;> rfl

@[simp] theorem State.modHelm_nvmA (s : State) (h : HelmId) (g : Helm → Helm) :
    (s.modHelm h g).nvmA = s.nvmA := by cases h <;> rfl

@[simp] theorem State.modHelm_nvmB (s : State) (h : HelmId) (g : Helm → Helm) :
    (s.modHelm h g).nvmB = s.nvmB := by cases h <;> rfl

@[simp] theorem State.modHelm_cus (s : State) (h : HelmId) (g : Helm → Helm) :
    (s.modHelm h g).cus = s.cus := by cases h <;> rfl

@[simp] theorem State.modHelm_cuOps (s : State) (h : HelmId) (g : Helm → Helm) :
    (s.modHelm h g).cuOps = s.cuOps := by cases h <;> rfl
@[simp] theorem State.modHelm_nvmDue (s : State) (h : HelmId) (g : Helm → Helm) :
    (s.modHelm h g).nvmDue = s.nvmDue := by cases h <;> rfl
@[simp] theorem State.modHelm_setups (s : State) (h : HelmId) (g : Helm → Helm) :
    (s.modHelm h g).setups = s.setups := by cases h <;> rfl
@[simp] theorem State.modHelm_keptAt (s : State) (h : HelmId) (g : Helm → Helm) :
    (s.modHelm h g).keptAt = s.keptAt := by cases h <;> rfl
@[simp] theorem State.modHelm_genTurn (s : State) (h : HelmId) (g : Helm → Helm) :
    (s.modHelm h g).genTurn = s.genTurn := by cases h <;> rfl
@[simp] theorem State.modHelm_quay (s : State) (h : HelmId) (g : Helm → Helm) :
    (s.modHelm h g).quay = s.quay := by cases h <;> rfl

@[simp] theorem State.modHelm_snooped (s : State) (h : HelmId) (g : Helm → Helm) :
    (s.modHelm h g).snooped = s.snooped := by cases h <;> rfl

@[simp] theorem State.modHelm_lanes (s : State) (h : HelmId) (g : Helm → Helm) :
    (s.modHelm h g).lanes = s.lanes := by cases h <;> rfl

@[simp] theorem State.modHelm_holder (s : State) (h : HelmId) (g : Helm → Helm) :
    (s.modHelm h g).holder = s.holder := by cases h <;> rfl

@[simp] theorem State.modHelm_mode (s : State) (h : HelmId) (g : Helm → Helm) :
    (s.modHelm h g).mode = s.mode := by cases h <;> rfl

@[simp] theorem State.modHelm_outcomes (s : State) (h : HelmId) (g : Helm → Helm) :
    (s.modHelm h g).outcomes = s.outcomes := by cases h <;> rfl

@[simp] theorem State.modHelm_win (s : State) (h : HelmId) (g : Helm → Helm) :
    (s.modHelm h g).win = s.win := by cases h <;> rfl

@[simp] theorem State.modHelm_ponts (s : State) (h : HelmId) (g : Helm → Helm) :
    (s.modHelm h g).ponts = s.ponts := by cases h <;> rfl

@[simp] theorem State.modHelm_nextId (s : State) (h : HelmId) (g : Helm → Helm) :
    (s.modHelm h g).nextId = s.nextId := by cases h <;> rfl

@[simp] theorem State.modHelm_free (s : State) (h : HelmId) (g : Helm → Helm) :
    (s.modHelm h g).free = s.free := by cases h <;> rfl

/-! ### A port changed -/

@[simp] theorem State.modPort_pending (s : State) (p : Port) (g : PortFE → PortFE) :
    (s.modPort p g).pending = s.pending := by cases p <;> rfl

@[simp] theorem State.modPort_tb (s : State) (p : Port) (g : PortFE → PortFE) :
    (s.modPort p g).tb = s.tb := by cases p <;> rfl

@[simp] theorem State.modPort_rst (s : State) (p : Port) (g : PortFE → PortFE) :
    (s.modPort p g).rst = s.rst := by cases p <;> rfl

@[simp] theorem State.modPort_toll (s : State) (p : Port) (g : PortFE → PortFE) :
    (s.modPort p g).toll = s.toll := by cases p <;> rfl

@[simp] theorem State.modPort_tollSnap (s : State) (p : Port) (g : PortFE → PortFE) :
    (s.modPort p g).tollSnap = s.tollSnap := by cases p <;> rfl

@[simp] theorem State.modPort_bell (s : State) (p : Port) (g : PortFE → PortFE) :
    (s.modPort p g).bell = s.bell := by cases p <;> rfl

@[simp] theorem State.modPort_com (s : State) (p : Port) (g : PortFE → PortFE) :
    (s.modPort p g).com = s.com := by cases p <;> rfl

@[simp] theorem State.modPort_nvmA (s : State) (p : Port) (g : PortFE → PortFE) :
    (s.modPort p g).nvmA = s.nvmA := by cases p <;> rfl

@[simp] theorem State.modPort_nvmB (s : State) (p : Port) (g : PortFE → PortFE) :
    (s.modPort p g).nvmB = s.nvmB := by cases p <;> rfl

@[simp] theorem State.modPort_cus (s : State) (p : Port) (g : PortFE → PortFE) :
    (s.modPort p g).cus = s.cus := by cases p <;> rfl

@[simp] theorem State.modPort_cuOps (s : State) (p : Port) (g : PortFE → PortFE) :
    (s.modPort p g).cuOps = s.cuOps := by cases p <;> rfl
@[simp] theorem State.modPort_nvmDue (s : State) (p : Port) (g : PortFE → PortFE) :
    (s.modPort p g).nvmDue = s.nvmDue := by cases p <;> rfl
@[simp] theorem State.modPort_setups (s : State) (p : Port) (g : PortFE → PortFE) :
    (s.modPort p g).setups = s.setups := by cases p <;> rfl
@[simp] theorem State.modPort_keptAt (s : State) (p : Port) (g : PortFE → PortFE) :
    (s.modPort p g).keptAt = s.keptAt := by cases p <;> rfl
@[simp] theorem State.modPort_genTurn (s : State) (p : Port) (g : PortFE → PortFE) :
    (s.modPort p g).genTurn = s.genTurn := by cases p <;> rfl
@[simp] theorem State.modPort_quay (s : State) (p : Port) (g : PortFE → PortFE) :
    (s.modPort p g).quay = s.quay := by cases p <;> rfl

@[simp] theorem State.modPort_snooped (s : State) (p : Port) (g : PortFE → PortFE) :
    (s.modPort p g).snooped = s.snooped := by cases p <;> rfl

@[simp] theorem State.modPort_lanes (s : State) (p : Port) (g : PortFE → PortFE) :
    (s.modPort p g).lanes = s.lanes := by cases p <;> rfl

@[simp] theorem State.modPort_helmA (s : State) (p : Port) (g : PortFE → PortFE) :
    (s.modPort p g).helmA = s.helmA := by cases p <;> rfl

@[simp] theorem State.modPort_helmB (s : State) (p : Port) (g : PortFE → PortFE) :
    (s.modPort p g).helmB = s.helmB := by cases p <;> rfl

@[simp] theorem State.modPort_holder (s : State) (p : Port) (g : PortFE → PortFE) :
    (s.modPort p g).holder = s.holder := by cases p <;> rfl

@[simp] theorem State.modPort_mode (s : State) (p : Port) (g : PortFE → PortFE) :
    (s.modPort p g).mode = s.mode := by cases p <;> rfl

@[simp] theorem State.modPort_outcomes (s : State) (p : Port) (g : PortFE → PortFE) :
    (s.modPort p g).outcomes = s.outcomes := by cases p <;> rfl

@[simp] theorem State.modPort_win (s : State) (p : Port) (g : PortFE → PortFE) :
    (s.modPort p g).win = s.win := by cases p <;> rfl

@[simp] theorem State.modPort_ponts (s : State) (p : Port) (g : PortFE → PortFE) :
    (s.modPort p g).ponts = s.ponts := by cases p <;> rfl

@[simp] theorem State.modPort_nextId (s : State) (p : Port) (g : PortFE → PortFE) :
    (s.modPort p g).nextId = s.nextId := by cases p <;> rfl

@[simp] theorem State.modPort_free (s : State) (p : Port) (g : PortFE → PortFE) :
    (s.modPort p g).free = s.free := by cases p <;> rfl

/-! ### A bank changed -/

@[simp] theorem State.modBank_pending (s : State) (b : Bool) (g : Bank → Bank) :
    (s.modBank b g).pending = s.pending := by cases b <;> rfl

@[simp] theorem State.modBank_tb (s : State) (b : Bool) (g : Bank → Bank) :
    (s.modBank b g).tb = s.tb := by cases b <;> rfl

@[simp] theorem State.modBank_rst (s : State) (b : Bool) (g : Bank → Bank) :
    (s.modBank b g).rst = s.rst := by cases b <;> rfl

@[simp] theorem State.modBank_toll (s : State) (b : Bool) (g : Bank → Bank) :
    (s.modBank b g).toll = s.toll := by cases b <;> rfl

@[simp] theorem State.modBank_tollSnap (s : State) (b : Bool) (g : Bank → Bank) :
    (s.modBank b g).tollSnap = s.tollSnap := by cases b <;> rfl

@[simp] theorem State.modBank_hpa (s : State) (b : Bool) (g : Bank → Bank) :
    (s.modBank b g).hpa = s.hpa := by cases b <;> rfl

@[simp] theorem State.modBank_hpb (s : State) (b : Bool) (g : Bank → Bank) :
    (s.modBank b g).hpb = s.hpb := by cases b <;> rfl

@[simp] theorem State.modBank_bell (s : State) (b : Bool) (g : Bank → Bank) :
    (s.modBank b g).bell = s.bell := by cases b <;> rfl

@[simp] theorem State.modBank_com (s : State) (b : Bool) (g : Bank → Bank) :
    (s.modBank b g).com = s.com := by cases b <;> rfl

@[simp] theorem State.modBank_cus (s : State) (b : Bool) (g : Bank → Bank) :
    (s.modBank b g).cus = s.cus := by cases b <;> rfl

@[simp] theorem State.modBank_cuOps (s : State) (b : Bool) (g : Bank → Bank) :
    (s.modBank b g).cuOps = s.cuOps := by cases b <;> rfl
@[simp] theorem State.modBank_nvmDue (s : State) (b : Bool) (g : Bank → Bank) :
    (s.modBank b g).nvmDue = s.nvmDue := by cases b <;> rfl
@[simp] theorem State.modBank_setups (s : State) (b : Bool) (g : Bank → Bank) :
    (s.modBank b g).setups = s.setups := by cases b <;> rfl
@[simp] theorem State.modBank_keptAt (s : State) (b : Bool) (g : Bank → Bank) :
    (s.modBank b g).keptAt = s.keptAt := by cases b <;> rfl
@[simp] theorem State.modBank_genTurn (s : State) (b : Bool) (g : Bank → Bank) :
    (s.modBank b g).genTurn = s.genTurn := by cases b <;> rfl
@[simp] theorem State.modBank_quay (s : State) (b : Bool) (g : Bank → Bank) :
    (s.modBank b g).quay = s.quay := by cases b <;> rfl

@[simp] theorem State.modBank_snooped (s : State) (b : Bool) (g : Bank → Bank) :
    (s.modBank b g).snooped = s.snooped := by cases b <;> rfl

@[simp] theorem State.modBank_lanes (s : State) (b : Bool) (g : Bank → Bank) :
    (s.modBank b g).lanes = s.lanes := by cases b <;> rfl

@[simp] theorem State.modBank_helmA (s : State) (b : Bool) (g : Bank → Bank) :
    (s.modBank b g).helmA = s.helmA := by cases b <;> rfl

@[simp] theorem State.modBank_helmB (s : State) (b : Bool) (g : Bank → Bank) :
    (s.modBank b g).helmB = s.helmB := by cases b <;> rfl

@[simp] theorem State.modBank_holder (s : State) (b : Bool) (g : Bank → Bank) :
    (s.modBank b g).holder = s.holder := by cases b <;> rfl

@[simp] theorem State.modBank_mode (s : State) (b : Bool) (g : Bank → Bank) :
    (s.modBank b g).mode = s.mode := by cases b <;> rfl

@[simp] theorem State.modBank_outcomes (s : State) (b : Bool) (g : Bank → Bank) :
    (s.modBank b g).outcomes = s.outcomes := by cases b <;> rfl

@[simp] theorem State.modBank_win (s : State) (b : Bool) (g : Bank → Bank) :
    (s.modBank b g).win = s.win := by cases b <;> rfl

@[simp] theorem State.modBank_ponts (s : State) (b : Bool) (g : Bank → Bank) :
    (s.modBank b g).ponts = s.ponts := by cases b <;> rfl

@[simp] theorem State.modBank_nextId (s : State) (b : Bool) (g : Bank → Bank) :
    (s.modBank b g).nextId = s.nextId := by cases b <;> rfl

@[simp] theorem State.modBank_free (s : State) (b : Bool) (g : Bank → Bank) :
    (s.modBank b g).free = s.free := by cases b <;> rfl

@[simp] theorem State.modHelm_helm (s : State) (h : HelmId) (g : Helm → Helm) :
    (s.modHelm h g).helm h = g (s.helm h) := by cases h <;> rfl

@[simp] theorem State.modHelm_helm_other (s : State) (h : HelmId) (g : Helm → Helm) :
    (s.modHelm h g).helm (otherHelm h) = s.helm (otherHelm h) := by cases h <;> rfl

@[simp] theorem State.modHelm_pont (s : State) (h : HelmId) (g : Helm → Helm) (p : Fin 4) :
    (s.modHelm h g).pont p = s.pont p := by cases h <;> rfl

@[simp] theorem State.modPort_port (s : State) (p : Port) (g : PortFE → PortFE) :
    (s.modPort p g).port p = g (s.port p) := by cases p <;> rfl

@[simp] theorem State.modPort_port_other (s : State) (p : Port) (g : PortFE → PortFE) :
    (s.modPort p g).port (otherPort p) = s.port (otherPort p) := by cases p <;> rfl

@[simp] theorem State.modPort_helm (s : State) (p : Port) (g : PortFE → PortFE) (h : HelmId) :
    (s.modPort p g).helm h = s.helm h := by cases p <;> cases h <;> rfl

@[simp] theorem State.modPort_pont (s : State) (p : Port) (g : PortFE → PortFE) (q : Fin 4) :
    (s.modPort p g).pont q = s.pont q := by cases p <;> rfl

@[simp] theorem State.modPont_helm (s : State) (p : Fin 4) (g : Pont → Pont) (h : HelmId) :
    (s.modPont p g).helm h = s.helm h := by cases h <;> rfl

@[simp] theorem State.modPont_port (s : State) (p : Fin 4) (g : Pont → Pont) (q : Port) :
    (s.modPont p g).port q = s.port q := by cases q <;> rfl

@[simp] theorem State.modBank_bank (s : State) (b : Bool) (g : Bank → Bank) :
    (s.modBank b g).bank b = g (s.bank b) := by cases b <;> rfl

@[simp] theorem State.modBank_bank_other (s : State) (b : Bool) (g : Bank → Bank) :
    (s.modBank b g).bank (!b) = s.bank (!b) := by cases b <;> rfl

@[simp] theorem otherHelm_otherHelm (h : HelmId) : otherHelm (otherHelm h) = h := by cases h <;> rfl

@[simp] theorem otherPort_otherPort (p : Port) : otherPort (otherPort p) = p := by cases p <;> rfl

/-! ### Notes of the Quay and of the helms -/

@[simp] theorem State.rcAdd_pending (s : State) (a k : Nat) (n : Int) :
    (s.rcAdd a k n).pending = s.pending := rfl

@[simp] theorem State.rcAdd_tb (s : State) (a k : Nat) (n : Int) :
    (s.rcAdd a k n).tb = s.tb := rfl

@[simp] theorem State.rcAdd_rst (s : State) (a k : Nat) (n : Int) :
    (s.rcAdd a k n).rst = s.rst := rfl

@[simp] theorem State.rcAdd_toll (s : State) (a k : Nat) (n : Int) :
    (s.rcAdd a k n).toll = s.toll := rfl

@[simp] theorem State.rcAdd_tollSnap (s : State) (a k : Nat) (n : Int) :
    (s.rcAdd a k n).tollSnap = s.tollSnap := rfl

@[simp] theorem State.rcAdd_hpa (s : State) (a k : Nat) (n : Int) :
    (s.rcAdd a k n).hpa = s.hpa := rfl

@[simp] theorem State.rcAdd_hpb (s : State) (a k : Nat) (n : Int) :
    (s.rcAdd a k n).hpb = s.hpb := rfl

@[simp] theorem State.rcAdd_bell (s : State) (a k : Nat) (n : Int) :
    (s.rcAdd a k n).bell = s.bell := rfl

@[simp] theorem State.rcAdd_com (s : State) (a k : Nat) (n : Int) :
    (s.rcAdd a k n).com = s.com := rfl

@[simp] theorem State.rcAdd_nvmA (s : State) (a k : Nat) (n : Int) :
    (s.rcAdd a k n).nvmA = s.nvmA := rfl

@[simp] theorem State.rcAdd_nvmB (s : State) (a k : Nat) (n : Int) :
    (s.rcAdd a k n).nvmB = s.nvmB := rfl

@[simp] theorem State.rcAdd_cus (s : State) (a k : Nat) (n : Int) :
    (s.rcAdd a k n).cus = s.cus := rfl

@[simp] theorem State.rcAdd_cuOps (s : State) (a k : Nat) (n : Int) :
    (s.rcAdd a k n).cuOps = s.cuOps := rfl
@[simp] theorem State.rcAdd_nvmDue (s : State) (a k : Nat) (n : Int) :
    (s.rcAdd a k n).nvmDue = s.nvmDue := rfl
@[simp] theorem State.rcAdd_setups (s : State) (a k : Nat) (n : Int) :
    (s.rcAdd a k n).setups = s.setups := rfl
@[simp] theorem State.rcAdd_keptAt (s : State) (a k : Nat) (n : Int) :
    (s.rcAdd a k n).keptAt = s.keptAt := rfl
@[simp] theorem State.rcAdd_genTurn (s : State) (a k : Nat) (n : Int) :
    (s.rcAdd a k n).genTurn = s.genTurn := rfl
@[simp] theorem State.rcAdd_quay (s : State) (a k : Nat) (n : Int) :
    (s.rcAdd a k n).quay = s.quay := rfl

@[simp] theorem State.rcAdd_snooped (s : State) (a k : Nat) (n : Int) :
    (s.rcAdd a k n).snooped = s.snooped := rfl

@[simp] theorem State.rcAdd_lanes (s : State) (a k : Nat) (n : Int) :
    (s.rcAdd a k n).lanes = s.lanes := rfl

@[simp] theorem State.rcAdd_helmA (s : State) (a k : Nat) (n : Int) :
    (s.rcAdd a k n).helmA = s.helmA := rfl

@[simp] theorem State.rcAdd_helmB (s : State) (a k : Nat) (n : Int) :
    (s.rcAdd a k n).helmB = s.helmB := rfl

@[simp] theorem State.rcAdd_holder (s : State) (a k : Nat) (n : Int) :
    (s.rcAdd a k n).holder = s.holder := rfl

@[simp] theorem State.rcAdd_mode (s : State) (a k : Nat) (n : Int) :
    (s.rcAdd a k n).mode = s.mode := rfl

@[simp] theorem State.rcAdd_outcomes (s : State) (a k : Nat) (n : Int) :
    (s.rcAdd a k n).outcomes = s.outcomes := rfl

@[simp] theorem State.rcAdd_ponts (s : State) (a k : Nat) (n : Int) :
    (s.rcAdd a k n).ponts = s.ponts := rfl

@[simp] theorem State.rcAdd_nextId (s : State) (a k : Nat) (n : Int) :
    (s.rcAdd a k n).nextId = s.nextId := rfl

@[simp] theorem State.rcAdd_free (s : State) (a k : Nat) (n : Int) :
    (s.rcAdd a k n).free = s.free := rfl

@[simp] theorem State.ring_pending (s : State) (k : Nat) :
    (s.ring k).pending = s.pending := by unfold State.ring; split <;> rfl

@[simp] theorem State.ring_tb (s : State) (k : Nat) :
    (s.ring k).tb = s.tb := by unfold State.ring; split <;> rfl

@[simp] theorem State.ring_rst (s : State) (k : Nat) :
    (s.ring k).rst = s.rst := by unfold State.ring; split <;> rfl

@[simp] theorem State.ring_toll (s : State) (k : Nat) :
    (s.ring k).toll = s.toll := by unfold State.ring; split <;> rfl

@[simp] theorem State.ring_tollSnap (s : State) (k : Nat) :
    (s.ring k).tollSnap = s.tollSnap := by unfold State.ring; split <;> rfl

@[simp] theorem State.ring_hpa (s : State) (k : Nat) :
    (s.ring k).hpa = s.hpa := by unfold State.ring; split <;> rfl

@[simp] theorem State.ring_hpb (s : State) (k : Nat) :
    (s.ring k).hpb = s.hpb := by unfold State.ring; split <;> rfl

@[simp] theorem State.ring_com (s : State) (k : Nat) :
    (s.ring k).com = s.com := by unfold State.ring; split <;> rfl

@[simp] theorem State.ring_nvmA (s : State) (k : Nat) :
    (s.ring k).nvmA = s.nvmA := by unfold State.ring; split <;> rfl

@[simp] theorem State.ring_nvmB (s : State) (k : Nat) :
    (s.ring k).nvmB = s.nvmB := by unfold State.ring; split <;> rfl

@[simp] theorem State.ring_cus (s : State) (k : Nat) :
    (s.ring k).cus = s.cus := by unfold State.ring; split <;> rfl

@[simp] theorem State.ring_cuOps (s : State) (k : Nat) :
    (s.ring k).cuOps = s.cuOps := by unfold State.ring; split <;> rfl
@[simp] theorem State.ring_nvmDue (s : State) (k : Nat) :
    (s.ring k).nvmDue = s.nvmDue := by unfold State.ring; split <;> rfl
@[simp] theorem State.ring_setups (s : State) (k : Nat) :
    (s.ring k).setups = s.setups := by unfold State.ring; split <;> rfl
@[simp] theorem State.ring_keptAt (s : State) (k : Nat) :
    (s.ring k).keptAt = s.keptAt := by unfold State.ring; split <;> rfl
@[simp] theorem State.ring_genTurn (s : State) (k : Nat) :
    (s.ring k).genTurn = s.genTurn := by unfold State.ring; split <;> rfl
@[simp] theorem State.ring_quay (s : State) (k : Nat) :
    (s.ring k).quay = s.quay := by unfold State.ring; split <;> rfl

@[simp] theorem State.ring_snooped (s : State) (k : Nat) :
    (s.ring k).snooped = s.snooped := by unfold State.ring; split <;> rfl

@[simp] theorem State.ring_lanes (s : State) (k : Nat) :
    (s.ring k).lanes = s.lanes := by unfold State.ring; split <;> rfl

@[simp] theorem State.ring_helmA (s : State) (k : Nat) :
    (s.ring k).helmA = s.helmA := by unfold State.ring; split <;> rfl

@[simp] theorem State.ring_helmB (s : State) (k : Nat) :
    (s.ring k).helmB = s.helmB := by unfold State.ring; split <;> rfl

@[simp] theorem State.ring_holder (s : State) (k : Nat) :
    (s.ring k).holder = s.holder := by unfold State.ring; split <;> rfl

@[simp] theorem State.ring_mode (s : State) (k : Nat) :
    (s.ring k).mode = s.mode := by unfold State.ring; split <;> rfl

@[simp] theorem State.ring_outcomes (s : State) (k : Nat) :
    (s.ring k).outcomes = s.outcomes := by unfold State.ring; split <;> rfl

@[simp] theorem State.ring_win (s : State) (k : Nat) :
    (s.ring k).win = s.win := by unfold State.ring; split <;> rfl

@[simp] theorem State.ring_ponts (s : State) (k : Nat) :
    (s.ring k).ponts = s.ponts := by unfold State.ring; split <;> rfl

@[simp] theorem State.ring_nextId (s : State) (k : Nat) :
    (s.ring k).nextId = s.nextId := by unfold State.ring; split <;> rfl

@[simp] theorem State.ring_free (s : State) (k : Nat) :
    (s.ring k).free = s.free := by unfold State.ring; split <;> rfl

@[simp] theorem State.ringEv_pending (s : State) (k : Nat) :
    (s.ringEv k).pending = s.pending := by unfold State.ringEv; split <;> simp

@[simp] theorem State.ringEv_tb (s : State) (k : Nat) :
    (s.ringEv k).tb = s.tb := by unfold State.ringEv; split <;> simp

@[simp] theorem State.ringEv_rst (s : State) (k : Nat) :
    (s.ringEv k).rst = s.rst := by unfold State.ringEv; split <;> simp

@[simp] theorem State.ringEv_toll (s : State) (k : Nat) :
    (s.ringEv k).toll = s.toll := by unfold State.ringEv; split <;> simp

@[simp] theorem State.ringEv_tollSnap (s : State) (k : Nat) :
    (s.ringEv k).tollSnap = s.tollSnap := by unfold State.ringEv; split <;> simp

@[simp] theorem State.ringEv_hpa (s : State) (k : Nat) :
    (s.ringEv k).hpa = s.hpa := by unfold State.ringEv; split <;> simp

@[simp] theorem State.ringEv_hpb (s : State) (k : Nat) :
    (s.ringEv k).hpb = s.hpb := by unfold State.ringEv; split <;> simp

@[simp] theorem State.ringEv_com (s : State) (k : Nat) :
    (s.ringEv k).com = s.com := by unfold State.ringEv; split <;> simp

@[simp] theorem State.ringEv_nvmA (s : State) (k : Nat) :
    (s.ringEv k).nvmA = s.nvmA := by unfold State.ringEv; split <;> simp

@[simp] theorem State.ringEv_nvmB (s : State) (k : Nat) :
    (s.ringEv k).nvmB = s.nvmB := by unfold State.ringEv; split <;> simp

@[simp] theorem State.ringEv_cus (s : State) (k : Nat) :
    (s.ringEv k).cus = s.cus := by unfold State.ringEv; split <;> simp

@[simp] theorem State.ringEv_cuOps (s : State) (k : Nat) :
    (s.ringEv k).cuOps = s.cuOps := by unfold State.ringEv; split <;> simp
@[simp] theorem State.ringEv_nvmDue (s : State) (k : Nat) :
    (s.ringEv k).nvmDue = s.nvmDue := by unfold State.ringEv; split <;> simp
@[simp] theorem State.ringEv_setups (s : State) (k : Nat) :
    (s.ringEv k).setups = s.setups := by unfold State.ringEv; split <;> simp
@[simp] theorem State.ringEv_keptAt (s : State) (k : Nat) :
    (s.ringEv k).keptAt = s.keptAt := by unfold State.ringEv; split <;> simp
@[simp] theorem State.ringEv_genTurn (s : State) (k : Nat) :
    (s.ringEv k).genTurn = s.genTurn := by unfold State.ringEv; split <;> simp
@[simp] theorem State.ringEv_quay (s : State) (k : Nat) :
    (s.ringEv k).quay = s.quay := by unfold State.ringEv; split <;> simp

@[simp] theorem State.ringEv_snooped (s : State) (k : Nat) :
    (s.ringEv k).snooped = s.snooped := by unfold State.ringEv; split <;> simp

@[simp] theorem State.ringEv_lanes (s : State) (k : Nat) :
    (s.ringEv k).lanes = s.lanes := by unfold State.ringEv; split <;> simp

@[simp] theorem State.ringEv_helmA (s : State) (k : Nat) :
    (s.ringEv k).helmA = s.helmA := by unfold State.ringEv; split <;> simp

@[simp] theorem State.ringEv_helmB (s : State) (k : Nat) :
    (s.ringEv k).helmB = s.helmB := by unfold State.ringEv; split <;> simp

@[simp] theorem State.ringEv_holder (s : State) (k : Nat) :
    (s.ringEv k).holder = s.holder := by unfold State.ringEv; split <;> simp

@[simp] theorem State.ringEv_mode (s : State) (k : Nat) :
    (s.ringEv k).mode = s.mode := by unfold State.ringEv; split <;> simp

@[simp] theorem State.ringEv_outcomes (s : State) (k : Nat) :
    (s.ringEv k).outcomes = s.outcomes := by unfold State.ringEv; split <;> simp

@[simp] theorem State.ringEv_win (s : State) (k : Nat) :
    (s.ringEv k).win = s.win := by unfold State.ringEv; split <;> simp

@[simp] theorem State.ringEv_ponts (s : State) (k : Nat) :
    (s.ringEv k).ponts = s.ponts := by unfold State.ringEv; split <;> simp

@[simp] theorem State.ringEv_nextId (s : State) (k : Nat) :
    (s.ringEv k).nextId = s.nextId := by unfold State.ringEv; split <;> simp

@[simp] theorem State.ringEv_free (s : State) (k : Nat) :
    (s.ringEv k).free = s.free := by unfold State.ringEv; split <;> simp

@[simp] theorem State.quayRec_pending (s : State) (r : Rec) :
    (s.quayRec r).pending = s.pending := by unfold State.quayRec; split <;> (try split) <;> rfl

@[simp] theorem State.quayRec_tb (s : State) (r : Rec) :
    (s.quayRec r).tb = s.tb := by unfold State.quayRec; split <;> (try split) <;> rfl

@[simp] theorem State.quayRec_rst (s : State) (r : Rec) :
    (s.quayRec r).rst = s.rst := by unfold State.quayRec; split <;> (try split) <;> rfl

@[simp] theorem State.quayRec_toll (s : State) (r : Rec) :
    (s.quayRec r).toll = s.toll := by unfold State.quayRec; split <;> (try split) <;> rfl

@[simp] theorem State.quayRec_tollSnap (s : State) (r : Rec) :
    (s.quayRec r).tollSnap = s.tollSnap := by unfold State.quayRec; split <;> (try split) <;> rfl

@[simp] theorem State.quayRec_hpa (s : State) (r : Rec) :
    (s.quayRec r).hpa = s.hpa := by unfold State.quayRec; split <;> (try split) <;> rfl

@[simp] theorem State.quayRec_hpb (s : State) (r : Rec) :
    (s.quayRec r).hpb = s.hpb := by unfold State.quayRec; split <;> (try split) <;> rfl

@[simp] theorem State.quayRec_bell (s : State) (r : Rec) :
    (s.quayRec r).bell = s.bell := by unfold State.quayRec; split <;> (try split) <;> rfl

@[simp] theorem State.quayRec_nvmA (s : State) (r : Rec) :
    (s.quayRec r).nvmA = s.nvmA := by unfold State.quayRec; split <;> (try split) <;> rfl

@[simp] theorem State.quayRec_nvmB (s : State) (r : Rec) :
    (s.quayRec r).nvmB = s.nvmB := by unfold State.quayRec; split <;> (try split) <;> rfl

@[simp] theorem State.quayRec_cus (s : State) (r : Rec) :
    (s.quayRec r).cus = s.cus := by unfold State.quayRec; split <;> (try split) <;> rfl

@[simp] theorem State.quayRec_cuOps (s : State) (r : Rec) :
    (s.quayRec r).cuOps = s.cuOps := by unfold State.quayRec; split <;> (try split) <;> rfl
@[simp] theorem State.quayRec_nvmDue (s : State) (r : Rec) :
    (s.quayRec r).nvmDue = s.nvmDue := by unfold State.quayRec; split <;> (try split) <;> rfl
@[simp] theorem State.quayRec_setups (s : State) (r : Rec) :
    (s.quayRec r).setups = s.setups := by unfold State.quayRec; split <;> (try split) <;> rfl
@[simp] theorem State.quayRec_keptAt (s : State) (r : Rec) :
    (s.quayRec r).keptAt = s.keptAt := by unfold State.quayRec; split <;> (try split) <;> rfl
@[simp] theorem State.quayRec_genTurn (s : State) (r : Rec) :
    (s.quayRec r).genTurn = s.genTurn := by unfold State.quayRec; split <;> (try split) <;> rfl
@[simp] theorem State.quayRec_quay (s : State) (r : Rec) :
    (s.quayRec r).quay = s.quay := by unfold State.quayRec; split <;> (try split) <;> rfl

@[simp] theorem State.quayRec_snooped (s : State) (r : Rec) :
    (s.quayRec r).snooped = s.snooped := by unfold State.quayRec; split <;> (try split) <;> rfl

@[simp] theorem State.quayRec_lanes (s : State) (r : Rec) :
    (s.quayRec r).lanes = s.lanes := by unfold State.quayRec; split <;> (try split) <;> rfl

@[simp] theorem State.quayRec_helmA (s : State) (r : Rec) :
    (s.quayRec r).helmA = s.helmA := by unfold State.quayRec; split <;> (try split) <;> rfl

@[simp] theorem State.quayRec_helmB (s : State) (r : Rec) :
    (s.quayRec r).helmB = s.helmB := by unfold State.quayRec; split <;> (try split) <;> rfl

@[simp] theorem State.quayRec_holder (s : State) (r : Rec) :
    (s.quayRec r).holder = s.holder := by unfold State.quayRec; split <;> (try split) <;> rfl

@[simp] theorem State.quayRec_mode (s : State) (r : Rec) :
    (s.quayRec r).mode = s.mode := by unfold State.quayRec; split <;> (try split) <;> rfl

@[simp] theorem State.quayRec_outcomes (s : State) (r : Rec) :
    (s.quayRec r).outcomes = s.outcomes := by unfold State.quayRec; split <;> (try split) <;> rfl

@[simp] theorem State.quayRec_ponts (s : State) (r : Rec) :
    (s.quayRec r).ponts = s.ponts := by unfold State.quayRec; split <;> (try split) <;> rfl

@[simp] theorem State.quayRec_nextId (s : State) (r : Rec) :
    (s.quayRec r).nextId = s.nextId := by unfold State.quayRec; split <;> (try split) <;> rfl

@[simp] theorem State.quayRec_free (s : State) (r : Rec) :
    (s.quayRec r).free = s.free := by unfold State.quayRec; split <;> (try split) <;> rfl

@[simp] theorem State.helmRec_pending (s : State) (h : HelmId) (at_ : Stamp) (c k : Nat) (x y z : Word) :
    (s.helmRec h at_ c k x y z).pending = s.pending := by simp [State.helmRec]

@[simp] theorem State.helmRec_tb (s : State) (h : HelmId) (at_ : Stamp) (c k : Nat) (x y z : Word) :
    (s.helmRec h at_ c k x y z).tb = s.tb := by simp [State.helmRec]

@[simp] theorem State.helmRec_rst (s : State) (h : HelmId) (at_ : Stamp) (c k : Nat) (x y z : Word) :
    (s.helmRec h at_ c k x y z).rst = s.rst := by simp [State.helmRec]

@[simp] theorem State.helmRec_toll (s : State) (h : HelmId) (at_ : Stamp) (c k : Nat) (x y z : Word) :
    (s.helmRec h at_ c k x y z).toll = s.toll := by simp [State.helmRec]

@[simp] theorem State.helmRec_tollSnap (s : State) (h : HelmId) (at_ : Stamp) (c k : Nat) (x y z : Word) :
    (s.helmRec h at_ c k x y z).tollSnap = s.tollSnap := by simp [State.helmRec]

@[simp] theorem State.helmRec_hpa (s : State) (h : HelmId) (at_ : Stamp) (c k : Nat) (x y z : Word) :
    (s.helmRec h at_ c k x y z).hpa = s.hpa := by simp [State.helmRec]

@[simp] theorem State.helmRec_hpb (s : State) (h : HelmId) (at_ : Stamp) (c k : Nat) (x y z : Word) :
    (s.helmRec h at_ c k x y z).hpb = s.hpb := by simp [State.helmRec]

@[simp] theorem State.helmRec_bell (s : State) (h : HelmId) (at_ : Stamp) (c k : Nat) (x y z : Word) :
    (s.helmRec h at_ c k x y z).bell = s.bell := by simp [State.helmRec]

@[simp] theorem State.helmRec_com (s : State) (h : HelmId) (at_ : Stamp) (c k : Nat) (x y z : Word) :
    (s.helmRec h at_ c k x y z).com = s.com := by simp [State.helmRec]

@[simp] theorem State.helmRec_nvmA (s : State) (h : HelmId) (at_ : Stamp) (c k : Nat) (x y z : Word) :
    (s.helmRec h at_ c k x y z).nvmA = s.nvmA := by simp [State.helmRec]

@[simp] theorem State.helmRec_nvmB (s : State) (h : HelmId) (at_ : Stamp) (c k : Nat) (x y z : Word) :
    (s.helmRec h at_ c k x y z).nvmB = s.nvmB := by simp [State.helmRec]

@[simp] theorem State.helmRec_cus (s : State) (h : HelmId) (at_ : Stamp) (c k : Nat) (x y z : Word) :
    (s.helmRec h at_ c k x y z).cus = s.cus := by simp [State.helmRec]

@[simp] theorem State.helmRec_cuOps (s : State) (h : HelmId) (at_ : Stamp) (c k : Nat) (x y z : Word) :
    (s.helmRec h at_ c k x y z).cuOps = s.cuOps := by simp [State.helmRec]
@[simp] theorem State.helmRec_nvmDue (s : State) (h : HelmId) (at_ : Stamp) (c k : Nat) (x y z : Word) :
    (s.helmRec h at_ c k x y z).nvmDue = s.nvmDue := by simp [State.helmRec]
@[simp] theorem State.helmRec_setups (s : State) (h : HelmId) (at_ : Stamp) (c k : Nat) (x y z : Word) :
    (s.helmRec h at_ c k x y z).setups = s.setups := by simp [State.helmRec]
@[simp] theorem State.helmRec_keptAt (s : State) (h : HelmId) (at_ : Stamp) (c k : Nat) (x y z : Word) :
    (s.helmRec h at_ c k x y z).keptAt = s.keptAt := by simp [State.helmRec]
@[simp] theorem State.helmRec_genTurn (s : State) (h : HelmId) (at_ : Stamp) (c k : Nat) (x y z : Word) :
    (s.helmRec h at_ c k x y z).genTurn = s.genTurn := by simp [State.helmRec]
@[simp] theorem State.helmRec_quay (s : State) (h : HelmId) (at_ : Stamp) (c k : Nat) (x y z : Word) :
    (s.helmRec h at_ c k x y z).quay = s.quay := by simp [State.helmRec]

@[simp] theorem State.helmRec_snooped (s : State) (h : HelmId) (at_ : Stamp) (c k : Nat) (x y z : Word) :
    (s.helmRec h at_ c k x y z).snooped = s.snooped := by simp [State.helmRec]

@[simp] theorem State.helmRec_lanes (s : State) (h : HelmId) (at_ : Stamp) (c k : Nat) (x y z : Word) :
    (s.helmRec h at_ c k x y z).lanes = s.lanes := by simp [State.helmRec]

@[simp] theorem State.helmRec_holder (s : State) (h : HelmId) (at_ : Stamp) (c k : Nat) (x y z : Word) :
    (s.helmRec h at_ c k x y z).holder = s.holder := by simp [State.helmRec]

@[simp] theorem State.helmRec_mode (s : State) (h : HelmId) (at_ : Stamp) (c k : Nat) (x y z : Word) :
    (s.helmRec h at_ c k x y z).mode = s.mode := by simp [State.helmRec]

@[simp] theorem State.helmRec_outcomes (s : State) (h : HelmId) (at_ : Stamp) (c k : Nat) (x y z : Word) :
    (s.helmRec h at_ c k x y z).outcomes = s.outcomes := by simp [State.helmRec]

@[simp] theorem State.helmRec_win (s : State) (h : HelmId) (at_ : Stamp) (c k : Nat) (x y z : Word) :
    (s.helmRec h at_ c k x y z).win = s.win := by simp [State.helmRec]

@[simp] theorem State.helmRec_ponts (s : State) (h : HelmId) (at_ : Stamp) (c k : Nat) (x y z : Word) :
    (s.helmRec h at_ c k x y z).ponts = s.ponts := by simp [State.helmRec]

@[simp] theorem State.helmRec_nextId (s : State) (h : HelmId) (at_ : Stamp) (c k : Nat) (x y z : Word) :
    (s.helmRec h at_ c k x y z).nextId = s.nextId := by simp [State.helmRec]

@[simp] theorem State.helmRec_free (s : State) (h : HelmId) (at_ : Stamp) (c k : Nat) (x y z : Word) :
    (s.helmRec h at_ c k x y z).free = s.free := by simp [State.helmRec]

@[simp] theorem State.sharedRec_pending (s : State) (h : HelmId) (at_ : Stamp) (c k : Nat) (x y z : Word) :
    (s.sharedRec h at_ c k x y z).pending = s.pending := by simp [State.sharedRec]

@[simp] theorem State.sharedRec_tb (s : State) (h : HelmId) (at_ : Stamp) (c k : Nat) (x y z : Word) :
    (s.sharedRec h at_ c k x y z).tb = s.tb := by simp [State.sharedRec]

@[simp] theorem State.sharedRec_rst (s : State) (h : HelmId) (at_ : Stamp) (c k : Nat) (x y z : Word) :
    (s.sharedRec h at_ c k x y z).rst = s.rst := by simp [State.sharedRec]

@[simp] theorem State.sharedRec_toll (s : State) (h : HelmId) (at_ : Stamp) (c k : Nat) (x y z : Word) :
    (s.sharedRec h at_ c k x y z).toll = s.toll := by simp [State.sharedRec]

@[simp] theorem State.sharedRec_tollSnap (s : State) (h : HelmId) (at_ : Stamp) (c k : Nat) (x y z : Word) :
    (s.sharedRec h at_ c k x y z).tollSnap = s.tollSnap := by simp [State.sharedRec]

@[simp] theorem State.sharedRec_hpa (s : State) (h : HelmId) (at_ : Stamp) (c k : Nat) (x y z : Word) :
    (s.sharedRec h at_ c k x y z).hpa = s.hpa := by simp [State.sharedRec]

@[simp] theorem State.sharedRec_hpb (s : State) (h : HelmId) (at_ : Stamp) (c k : Nat) (x y z : Word) :
    (s.sharedRec h at_ c k x y z).hpb = s.hpb := by simp [State.sharedRec]

@[simp] theorem State.sharedRec_bell (s : State) (h : HelmId) (at_ : Stamp) (c k : Nat) (x y z : Word) :
    (s.sharedRec h at_ c k x y z).bell = s.bell := by simp [State.sharedRec]

@[simp] theorem State.sharedRec_com (s : State) (h : HelmId) (at_ : Stamp) (c k : Nat) (x y z : Word) :
    (s.sharedRec h at_ c k x y z).com = s.com := by simp [State.sharedRec]

@[simp] theorem State.sharedRec_nvmA (s : State) (h : HelmId) (at_ : Stamp) (c k : Nat) (x y z : Word) :
    (s.sharedRec h at_ c k x y z).nvmA = s.nvmA := by simp [State.sharedRec]

@[simp] theorem State.sharedRec_nvmB (s : State) (h : HelmId) (at_ : Stamp) (c k : Nat) (x y z : Word) :
    (s.sharedRec h at_ c k x y z).nvmB = s.nvmB := by simp [State.sharedRec]

@[simp] theorem State.sharedRec_cus (s : State) (h : HelmId) (at_ : Stamp) (c k : Nat) (x y z : Word) :
    (s.sharedRec h at_ c k x y z).cus = s.cus := by simp [State.sharedRec]

@[simp] theorem State.sharedRec_cuOps (s : State) (h : HelmId) (at_ : Stamp) (c k : Nat) (x y z : Word) :
    (s.sharedRec h at_ c k x y z).cuOps = s.cuOps := by simp [State.sharedRec]
@[simp] theorem State.sharedRec_nvmDue (s : State) (h : HelmId) (at_ : Stamp) (c k : Nat) (x y z : Word) :
    (s.sharedRec h at_ c k x y z).nvmDue = s.nvmDue := by simp [State.sharedRec]
@[simp] theorem State.sharedRec_setups (s : State) (h : HelmId) (at_ : Stamp) (c k : Nat) (x y z : Word) :
    (s.sharedRec h at_ c k x y z).setups = s.setups := by simp [State.sharedRec]
@[simp] theorem State.sharedRec_keptAt (s : State) (h : HelmId) (at_ : Stamp) (c k : Nat) (x y z : Word) :
    (s.sharedRec h at_ c k x y z).keptAt = s.keptAt := by simp [State.sharedRec]
@[simp] theorem State.sharedRec_genTurn (s : State) (h : HelmId) (at_ : Stamp) (c k : Nat) (x y z : Word) :
    (s.sharedRec h at_ c k x y z).genTurn = s.genTurn := by simp [State.sharedRec]
@[simp] theorem State.sharedRec_quay (s : State) (h : HelmId) (at_ : Stamp) (c k : Nat) (x y z : Word) :
    (s.sharedRec h at_ c k x y z).quay = s.quay := by simp [State.sharedRec]

@[simp] theorem State.sharedRec_snooped (s : State) (h : HelmId) (at_ : Stamp) (c k : Nat) (x y z : Word) :
    (s.sharedRec h at_ c k x y z).snooped = s.snooped := by simp [State.sharedRec]

@[simp] theorem State.sharedRec_lanes (s : State) (h : HelmId) (at_ : Stamp) (c k : Nat) (x y z : Word) :
    (s.sharedRec h at_ c k x y z).lanes = s.lanes := by simp [State.sharedRec]

@[simp] theorem State.sharedRec_holder (s : State) (h : HelmId) (at_ : Stamp) (c k : Nat) (x y z : Word) :
    (s.sharedRec h at_ c k x y z).holder = s.holder := by simp [State.sharedRec]

@[simp] theorem State.sharedRec_mode (s : State) (h : HelmId) (at_ : Stamp) (c k : Nat) (x y z : Word) :
    (s.sharedRec h at_ c k x y z).mode = s.mode := by simp [State.sharedRec]

@[simp] theorem State.sharedRec_outcomes (s : State) (h : HelmId) (at_ : Stamp) (c k : Nat) (x y z : Word) :
    (s.sharedRec h at_ c k x y z).outcomes = s.outcomes := by simp [State.sharedRec]

@[simp] theorem State.sharedRec_win (s : State) (h : HelmId) (at_ : Stamp) (c k : Nat) (x y z : Word) :
    (s.sharedRec h at_ c k x y z).win = s.win := by simp [State.sharedRec]

@[simp] theorem State.sharedRec_ponts (s : State) (h : HelmId) (at_ : Stamp) (c k : Nat) (x y z : Word) :
    (s.sharedRec h at_ c k x y z).ponts = s.ponts := by simp [State.sharedRec]

@[simp] theorem State.sharedRec_nextId (s : State) (h : HelmId) (at_ : Stamp) (c k : Nat) (x y z : Word) :
    (s.sharedRec h at_ c k x y z).nextId = s.nextId := by simp [State.sharedRec]

@[simp] theorem State.sharedRec_free (s : State) (h : HelmId) (at_ : Stamp) (c k : Nat) (x y z : Word) :
    (s.sharedRec h at_ c k x y z).free = s.free := by simp [State.sharedRec]

@[simp] theorem State.handOn_pending (s : State) (h : HelmId) :
    (s.handOn h).pending = s.pending := by simp [State.handOn]

@[simp] theorem State.handOn_tb (s : State) (h : HelmId) :
    (s.handOn h).tb = s.tb := by simp [State.handOn]

@[simp] theorem State.handOn_rst (s : State) (h : HelmId) :
    (s.handOn h).rst = s.rst := by simp [State.handOn]

@[simp] theorem State.handOn_toll (s : State) (h : HelmId) :
    (s.handOn h).toll = s.toll := by simp [State.handOn]

@[simp] theorem State.handOn_tollSnap (s : State) (h : HelmId) :
    (s.handOn h).tollSnap = s.tollSnap := by simp [State.handOn]

@[simp] theorem State.handOn_hpa (s : State) (h : HelmId) :
    (s.handOn h).hpa = s.hpa := by simp [State.handOn]

@[simp] theorem State.handOn_hpb (s : State) (h : HelmId) :
    (s.handOn h).hpb = s.hpb := by simp [State.handOn]

@[simp] theorem State.handOn_bell (s : State) (h : HelmId) :
    (s.handOn h).bell = s.bell := by simp [State.handOn]

@[simp] theorem State.handOn_com (s : State) (h : HelmId) :
    (s.handOn h).com = s.com := by simp [State.handOn]

@[simp] theorem State.handOn_nvmA (s : State) (h : HelmId) :
    (s.handOn h).nvmA = s.nvmA := by simp [State.handOn]

@[simp] theorem State.handOn_nvmB (s : State) (h : HelmId) :
    (s.handOn h).nvmB = s.nvmB := by simp [State.handOn]

@[simp] theorem State.handOn_cus (s : State) (h : HelmId) :
    (s.handOn h).cus = s.cus := by simp [State.handOn]

@[simp] theorem State.handOn_cuOps (s : State) (h : HelmId) :
    (s.handOn h).cuOps = s.cuOps := by simp [State.handOn]
@[simp] theorem State.handOn_nvmDue (s : State) (h : HelmId) :
    (s.handOn h).nvmDue = s.nvmDue := by simp [State.handOn]
@[simp] theorem State.handOn_setups (s : State) (h : HelmId) :
    (s.handOn h).setups = s.setups := by simp [State.handOn]
@[simp] theorem State.handOn_keptAt (s : State) (h : HelmId) :
    (s.handOn h).keptAt = s.keptAt := by simp [State.handOn]
@[simp] theorem State.handOn_genTurn (s : State) (h : HelmId) :
    (s.handOn h).genTurn = s.genTurn := by simp [State.handOn]
@[simp] theorem State.handOn_quay (s : State) (h : HelmId) :
    (s.handOn h).quay = s.quay := by simp [State.handOn]

@[simp] theorem State.handOn_snooped (s : State) (h : HelmId) :
    (s.handOn h).snooped = s.snooped := by simp [State.handOn]

@[simp] theorem State.handOn_lanes (s : State) (h : HelmId) :
    (s.handOn h).lanes = s.lanes := by simp [State.handOn]

@[simp] theorem State.handOn_holder (s : State) (h : HelmId) :
    (s.handOn h).holder = s.holder := by simp [State.handOn]

@[simp] theorem State.handOn_mode (s : State) (h : HelmId) :
    (s.handOn h).mode = s.mode := by simp [State.handOn]

@[simp] theorem State.handOn_outcomes (s : State) (h : HelmId) :
    (s.handOn h).outcomes = s.outcomes := by simp [State.handOn]

@[simp] theorem State.handOn_win (s : State) (h : HelmId) :
    (s.handOn h).win = s.win := by simp [State.handOn]

@[simp] theorem State.handOn_ponts (s : State) (h : HelmId) :
    (s.handOn h).ponts = s.ponts := by simp [State.handOn]

@[simp] theorem State.handOn_nextId (s : State) (h : HelmId) :
    (s.handOn h).nextId = s.nextId := by simp [State.handOn]

@[simp] theorem State.handOn_free (s : State) (h : HelmId) :
    (s.handOn h).free = s.free := by simp [State.handOn]

end Sys2Proof.Machine
end

