-- ==== Sys2Proof/Laws/Ops.lean ====
section
/-! SUPPORT. What the shared operations can do, said once each: vectors by index, the notes of the Quay and of the helms, and
the step. -/

namespace Sys2Proof.Machine

/-! ### Vectors by index -/

variable {α : Type} {n : Nat}

theorem vat_lt (v : Vector α n) {k : Nat} (d : α) (h : k < n) : vat v k d = v[k] := by simp [vat, h]

theorem vat_ge (v : Vector α n) {k : Nat} (d : α) (h : n ≤ k) : vat v k d = d := by
  simp [vat, Nat.not_lt.2 h]

theorem vat_vset (v : Vector α n) {k : Nat} (x d : α) (h : k < n) : vat (vset v k x) k d = x := by
  simp [vat, vset, h]

theorem vat_vset_other (v : Vector α n) {k j : Nat} (x d : α) (h : j ≠ k) : vat (vset v k x) j d = vat v j d := by
  unfold vset
  split
  · by_cases hj : j < n
    · simp [vat, hj, Ne.symm h]
    · simp [vat, hj]
  · rfl

theorem vat_vmod (v : Vector α n) {k : Nat} (f : α → α) (d : α) (h : k < n) : vat (vmod v k f) k d = f (vat v k d) := by
  simp [vat, vmod, h]

theorem vat_vmod_other (v : Vector α n) {k j : Nat} (f : α → α) (d : α) (h : j ≠ k) :
    vat (vmod v k f) j d = vat v j d := by
  unfold vmod
  split
  · by_cases hj : j < n
    · simp [vat, hj, Ne.symm h]
    · simp [vat, hj]
  · rfl

/-! ### Notes -/

/-- A cause of the bell is raised for the landing where landings run, and set at once where none does (R128). -/
theorem State.ring_cases (s : State) (k : Nat) :
    (s.landingsRun = true ∧ s.ring k = { s with bell := { s.bell with raised := s.bell.raised ||| oneBit k } })
    ∨ (s.landingsRun = false ∧ s.ring k = { s with bell := { s.bell with cause := s.bell.cause ||| oneBit k } }) := by
  unfold State.ring
  cases h : s.landingsRun <;> simp

/-- A record of a Quay source stands last in its slip, or is dropped in hold-up, or is lost and counted (R27, R446). -/
theorem State.quayRec_cases (s : State) (r : Rec) :
    (s.com.holdUp = true ∧ s.quayRec r = s)
    ∨ (s.com.holdUp = false ∧ s.com.slipQ.length < 4
        ∧ s.quayRec r = { s with com := { s.com with slipQ := s.com.slipQ ++ [r] } })
    ∨ (s.com.holdUp = false ∧ 4 ≤ s.com.slipQ.length ∧ s.quayRec r = s.rcAdd 0x021 4 1) := by
  unfold State.quayRec
  cases h : s.com.holdUp
  · by_cases hl : s.com.slipQ.length < 4
    · simp [hl]
    · simp [hl, Nat.not_lt.1 hl]
  · simp

/-- The slip of the Quay's records keeps its depth of 4 (R27). -/
theorem State.quayRec_slipQ_length (s : State) (r : Rec) (h : s.com.slipQ.length ≤ 4) :
    (s.quayRec r).com.slipQ.length ≤ 4 := by
  rcases s.quayRec_cases r with ⟨-, e⟩ | ⟨-, hl, e⟩ | ⟨-, -, e⟩
  · rw [e]; exact h
  · rw [e]; simp; omega
  · rw [e]; exact h

/-- A record of a helm stands last in its queue of 64, or is dropped (R27). -/
theorem State.helmRec_recQ (s : State) (h : HelmId) (at_ : Stamp) (c k : Nat) (x y z : Word) :
    ((s.helm h).recQ.length < 64 ∧ ((s.helmRec h at_ c k x y z).helm h).recQ
        = (s.helm h).recQ ++ [⟨at_, helmSource h, c, k, x, y, z⟩])
    ∨ (64 ≤ (s.helm h).recQ.length ∧ ((s.helmRec h at_ c k x y z).helm h) = s.helm h) := by
  by_cases hl : (s.helm h).recQ.length < 64
  · exact .inl ⟨hl, by simp [State.helmRec, hl]⟩
  · exact .inr ⟨Nat.not_lt.1 hl, by simp [State.helmRec, hl]⟩

/-- Noting what its records say of its tests leaves a helm's port to the commit engine alone (R196). -/
@[simp] theorem State.results_com (l : List Rec) (h : HelmId) (s : State) : (s.results h l).com = s.com := by
  induction l generalizing s with
  | nil => rfl
  | cons r l ih =>
    unfold State.results
    split
    · split
      · exact ih s
      · rw [ih]; simp
    · rfl

/-- A helm offers no more records than its record slip of 8 has room for (R27). -/
theorem State.offerRecords_slips (s : State) (h : HelmId) (ha : s.com.slipA.length ≤ 8) (hb : s.com.slipB.length ≤ 8) :
    (s.offerRecords h).com.slipA.length ≤ 8 ∧ (s.offerRecords h).com.slipB.length ≤ 8
      ∧ (s.offerRecords h).com.slipQ = s.com.slipQ := by
  unfold State.offerRecords
  cases hu : s.com.holdUp
  · cases h
    · refine ⟨?_, ?_, ?_⟩ <;> simp [Commit.enter, Commit.slip, List.length_take] <;> omega
    · refine ⟨?_, ?_, ?_⟩ <;> simp [Commit.enter, Commit.slip, List.length_take] <;> omega
  · exact ⟨by simpa using ha, by simpa using hb, by simp⟩

/-! ### Links (R27, R32, R456) -/

/-- The oldest words or requests that wait enter a slip, in their order, and no more than it has room for. -/
theorem Links.askNvm_order (l : Links) : l.askNvm.nvmSlip ++ l.askNvm.nvmWait = l.nvmSlip ++ l.nvmWait := by
  simp [Links.askNvm]

theorem Links.fill_order (l : Links) : l.fill.painterSlip ++ l.fill.painterWait = l.painterSlip ++ l.painterWait := by
  simp [Links.fill]

theorem Links.askNvm_depth (l : Links) (h : l.nvmSlip.length ≤ 4) : l.askNvm.nvmSlip.length ≤ 4 := by
  simp [Links.askNvm]; omega

theorem Links.fill_depth (l : Links) (h : l.painterSlip.length ≤ 32) : l.fill.painterSlip.length ≤ 32 := by
  simp [Links.fill]; omega

/-- Nothing waits before a slip that is empty. -/
def Links.asked (l : Links) : Prop := l.nvmSlip = [] → l.nvmWait = []

theorem Links.askNvm_asked (l : Links) : l.askNvm.asked := by
  simp only [Links.asked, Links.askNvm, List.append_eq_nil_iff, and_imp]
  intro h
  simp [h]
  cases l.nvmWait <;> simp

/-- Serving the general ports changes the links of the helms, the turns, and what the check units see, and nothing else. -/
theorem State.servePorts_frame : ∀ (n : Nat) (s : State), ∃ t, State.servePorts n s = t
    ∧ t = { s with helmA := { s.helmA with links := t.helmA.links }, helmB := { s.helmB with links := t.helmB.links }
                   genTurn := t.genTurn, cus := t.cus, snooped := t.snooped }
  | 0, _ => ⟨_, rfl, rfl⟩
  | n + 1, s => by
    unfold State.servePorts
    split
    · exact ⟨_, rfl, rfl⟩
    · rename_i h r _
      obtain ⟨t, e, f⟩ := State.servePorts_frame n ((
        { s.modHelm h (fun x => { x with links := { x.links with nvmSlip := x.links.nvmSlip.drop 1 }.askNvm }) with
          genTurn := if h = HelmId.a then (s.modHelm h (fun x => { x with links := { x.links with nvmSlip := x.links.nvmSlip.drop 1 }.askNvm })).genTurn ||| BitVec.ofNat 2 (2 ^ bn r.bank)
            else (s.modHelm h (fun x => { x with links := { x.links with nvmSlip := x.links.nvmSlip.drop 1 }.askNvm })).genTurn &&& ~~~BitVec.ofNat 2 (2 ^ bn r.bank) }).delivered r.bank r.addr r.words r.landing)
      refine ⟨t, e, ?_⟩
      rw [f]
      cases h <;> simp [State.delivered, State.snoop, State.modHelm]

/-- One request served. -/
theorem Links.served_length (l : Links) (h : l.nvmSlip ≠ []) :
    ({ l with nvmSlip := l.nvmSlip.drop 1 } : Links).askNvm.nvmSlip.length
      + ({ l with nvmSlip := l.nvmSlip.drop 1 } : Links).askNvm.nvmWait.length + 1 = l.nvmSlip.length + l.nvmWait.length := by
  have e := congrArg List.length (Links.askNvm_order { l with nvmSlip := l.nvmSlip.drop 1 })
  have p := List.length_pos_iff.2 h
  simp only [List.length_append, List.length_drop] at e
  omega

/-- The general ports serve every read that is asked (R456). -/
theorem State.servePorts_done : ∀ (n : Nat) (s : State), s.helmA.links.asked → s.helmB.links.asked → s.readsAsked ≤ n →
    (State.servePorts n s).readsAsked = 0
  | 0, s, _, _, h => by simpa [State.servePorts] using h
  | n + 1, s, ha, hb, h => by
    unfold State.servePorts
    split
    · rename_i e
      have ea : s.helmA.links.nvmSlip = [] := by
        unfold State.nextRead at e
        cases h : s.helmA.links.nvmSlip <;> cases k : s.helmB.links.nvmSlip <;> simp_all
        split at e <;> cases e
      have eb : s.helmB.links.nvmSlip = [] := by
        unfold State.nextRead at e
        cases h : s.helmA.links.nvmSlip <;> cases k : s.helmB.links.nvmSlip <;> simp_all
      simp [State.readsAsked, ea, eb, ha ea, hb eb]
    · rename_i k r e
      have ne : (s.helm k).links.nvmSlip ≠ [] := by
        unfold State.nextRead at e
        cases h : s.helmA.links.nvmSlip <;> cases l : s.helmB.links.nvmSlip <;> simp_all
        · rcases e with ⟨rfl, _⟩; simp [State.helm, l]
        · rcases e with ⟨rfl, _⟩; simp [State.helm, h]
        · split at e <;> (cases e; simp [State.helm, h, l])
      have len := Links.served_length (s.helm k).links ne
      refine State.servePorts_done n _ ?_ ?_ ?_
      · cases k
        · exact Links.askNvm_asked _
        · exact ha
      · cases k
        · exact hb
        · exact Links.askNvm_asked _
      · cases k <;> simp only [State.readsAsked, State.delivered, State.snoop, State.modHelm, State.helm] at h len ⊢ <;> omega

theorem State.serveReads_done (s : State) : s.serveReads.readsAsked = 0 := by
  refine State.servePorts_done _ _ (Links.askNvm_asked _) (Links.askNvm_asked _) ?_
  have a := congrArg List.length (Links.askNvm_order s.helmA.links)
  have b := congrArg List.length (Links.askNvm_order s.helmB.links)
  simp only [List.length_append] at a b
  simp only [State.readsAsked, State.modHelm]
  omega

/-! ### The step -/

/-- A step idles on an empty queue, and otherwise the front command with the queue's rest. -/
theorem step_cases {s : State} {r : Host.Outcome State Fault Refusal} (h : step s = r) :
    (s.pending = [] ∧ r = .next s.idle)
    ∨ (∃ c rest, s.pending = c :: rest ∧ r = exec c { s with pending := rest }) := by
  subst h
  cases e : s.pending with
  | nil => exact .inl ⟨rfl, by simp [step, e]⟩
  | cons c rest => exact .inr ⟨c, rest, rfl, by simp [step, e]⟩

end Sys2Proof.Machine
end

