-- ==== Sys2Proof/WellFormed.lean ====
section
/-! DEFINITION. Which operands of a command the hardware can bring: numbers no wider than the field of a frame that carries
them, frames of a length that the ports can receive, and measurements of the size that a pontoon makes. A value that fits
its field and is out of range is well formed: the checks of R132 answer it, and the meanings are total on every operand. -/

namespace Sys2Proof

/-- A number of n bytes. -/
def fitsBytes (n v : Nat) : Bool := decide (v < 256 ^ n)

/-- The bytes of a UL2 frame as received: at most 192 parameter bytes with marker, alive, opcode, LEN and CRC (R103). -/
def ul2LenOk (f : List Byte) : Bool := decide (1 ≤ f.length) && decide (f.length ≤ 198)

/-- The bytes of a UL3 request: header, command phase, at most 192 bytes in both phases and CRC (R108). -/
def ul3LenOk (f : List Byte) : Bool := decide (1 ≤ f.length) && decide (f.length ≤ 198)

/-- The words of a parameter field beside an address of n bytes, 192 bytes in all (R103, R108). -/
def paramWordsOk (n : Nat) (ws : List Word) : Bool := decide (1 ≤ ws.length) && decide (n + 3 * ws.length ≤ 192)

/-- A gangway frame: at most 64 payload words (R368). -/
def RxFrame.wf (f : RxFrame) : Bool := decide (f.payload.length ≤ 64)

/-- A measurement at a sounding: a current for each of the 8 outputs (R280), the fields of the report, and edges at strokes 0 to 255 (R35,
R60). -/
def SoundingMeas.wf (m : SoundingMeas) : Bool := m.current.length == 8 && m.rises.all (fun e => decide (e.2 < 256))

/-- The entries of SET_PROP: 1 to 8 (R150). -/
def propEntriesOk (es : List PropEntry) : Bool := decide (1 ≤ es.length) && decide (es.length ≤ 8)

/-- Well-formed operands, by command. -/
def Instr.wf : Instr → Bool
  | .ul1Read _ f => f.length == 4
  | .ul1Write _ f => f.length == 4
  | .ul2Frame _ f => ul2LenOk f
  | .ul3Request _ f => ul3LenOk f
  | .ul3Fetch _ f => f.length == 5
  | .selRelease _ edges clocked got =>
    (edges || (clocked == 0 && got.bytes.isEmpty && got.part.isEmpty)) && decide (got.bytes.length ≤ clocked)
    && decide (got.part.length < 8)
  | .status _ => true
  | .collection _ _ => true
  | .sessionReset _ _ => true
  | .readWindow _ addr count => fitsBytes 2 addr && fitsBytes 1 count
  | .writeWindow _ addr ws => fitsBytes 2 addr && paramWordsOk 2 ws
  | .bellCauseClear _ _ _ => true
  | .bellMaskWrite _ _ => true
  | .ctZero _ _ => true
  | .setOutputs _ _ _ => true
  | .setOutputsForce _ _ _ => true
  | .setOutputsRelease _ _ _ => true
  | .setProp _ es => propEntriesOk es
  | .setPropForce _ _ _ => true
  | .setPropRelease _ _ _ => true
  | .pulseOutput _ ch dur => fitsBytes 1 ch && fitsBytes 2 dur
  | .pulseEnd _ => true
  | .setMode _ _ => true
  | .wakeRequest _ => true
  | .roleChallenge _ _ => true
  | .roleResponse _ resp => resp.length == 32
  | .roleDrop _ => true
  | .challengeExpiry _ => true
  | .lockoutEnd _ => true
  | .roleIdleExpiry _ => true
  | .charterRead _ _ off count => fitsBytes 3 off && fitsBytes 1 count
  | .charterWrite _ off ws => fitsBytes 3 off && paramWordsOk 3 ws
  | .charterDiscard _ => true
  | .charterCommit _ _ _ _ => true
  | .charterCopyWrite _ _ => true
  | .charterCopyCheck => true
  | .charterLoad _ => true
  | .toll _ _ prm => decide (prm.length ≤ 192)
  | .tollCheckIn => true
  | .tollConfig _ _ _ _ pulse _ => fitsBytes 2 pulse
  | .tkOpeningTick => true
  | .tkClosingTick => true
  | .wdpPulseEnd => true
  | .mooredIntervalEnd => true
  | .blackboxRead _ _ first count => fitsBytes 2 first && fitsBytes 1 count
  | .hostMark _ _ _ _ => true
  | .blackboxMarkClear _ => true
  | .firstFaultClear => true
  | .recordCommit _ => true
  | .vholdExhausted _ _ => true
  | .checkConfig _ unit _ width _ _ _ _ => fitsBytes 1 unit && fitsBytes 1 width
  | .checkRead _ unit _ => fitsBytes 1 unit
  | .checkUnitSnoop _ _ => true
  | .analogSnapshot _ ch => fitsBytes 1 ch
  | .snapshotConversion _ _ _ _ _ => true
  | .wakeArm _ p _ _ _ pre total => fitsBytes 1 p && fitsBytes 2 pre && fitsBytes 2 total
  | .wakeDisarm _ p => fitsBytes 1 p
  | .wakeRead _ p off count => fitsBytes 1 p && fitsBytes 2 off && fitsBytes 2 count
  | .wakeReadComplete _ => true
  | .syncIssue _ => true
  | .firmwareStageData _ off ws => fitsBytes 3 off && paramWordsOk 3 ws
  | .firmwareStageFinish _ len _ _ => fitsBytes 3 len
  | .firmwareSwap _ _ => true
  | .helmHandover _ _ => true
  | .helmReturnHold _ => true
  | .helmReturnRelease _ => true
  | .selftestTestPassage _ _ => true
  | .selftestFull _ _ => true
  | .debugOpen _ _ => true
  | .debugClose _ _ => true
  | .debugCloseInstruction _ => true
  | .stroke => true
  | .strokeToken _ => true
  | .beatToken => true
  | .beat _ _ => true
  | .regeneratorLock _ => true
  | .sounding _ m => m.wf
  | .passage _ => true
  | .hostLost => true
  | .hailCheckMiss _ => true
  | .backgroundStep _ _ => true
  | .testPassage _ _ => true
  | .testOutcome => true
  | .manifestCompare _ => true
  | .landing _ => true
  | .gangwaySilence _ => true
  | .gwDown _ _ => true
  | .report _ _ f => f.wf
  | .manifest _ _ f => f.wf
  | .config _ _ f _ => f.wf
  | .order _ _ f _ => f.wf
  | .bulk _ _ f => f.wf
  | .echo _ _ f => f.frame.wf
  | .setCrossing _ _ f => f.wf
  | .helmHalt _ _ => true
  | .helmSilent _ => true
  | .fullSelftestDone _ _ => true
  | .bistRetry _ => true
  | .helmLoaded _ => true
  | .firstHolderTimeout => true
  | .joinRequest _ => true
  | .resyncChunk _ => true
  | .helmJoin _ => true
  | .helmProven _ => true
  | .returnToHelm => true
  | .tideCrossCheck _ => true
  | .tideCalibrationWindow _ => true
  | .tideArbitration _ _ => true
  | .tideLost _ => true
  | .tideRestart _ => true
  | .refclkLock => true
  | .refclkLost => true
  | .syncEdge _ _ _ => true
  | .syncLost => true
  | .safenLow _ => true
  | .reflexTrigger _ _ => true
  | .counterEdge _ _ sa sb => decide (sa.length = sb.length)
  | .dlDriveEdge _ _ => true
  | .dlPermitLow _ => true
  | .dlLost _ => true
  | .dlWakeEdge _ _ => true
  | .hailSlot v => v.length == 32
  | .hailPulseEnd _ => true
  | .hailSlotEnd lo hi => lo.length == 32 && hi.length == 32
  | .overcurrent _ => true
  | .thermalShutdown _ => true
  | .thermalCooled _ => true
  | .retryReload _ => true
  | .reverseBlock _ => true
  | .reverseRelease _ => true
  | .pwmPeriod _ _ _ => true
  | .pqTrip _ _ => true
  | .analogSample _ _ cks sats => cks.length == sats.length
  | .refWindow _ _ => true
  | .refStuck _ => true
  | .shuntTrip _ => true
  | .shuntReclose _ => true
  | .excLimit _ => true
  | .sagAssert _ _ => true
  | .sagRelease _ _ => true
  | .vfOverSet _ => true
  | .vfOverClear _ => true
  | .logicStop _ => true
  | .pontoonRestart _ => true
  | .powerOn => true
  | .rstnPin => true
  | .vddLow => true
  | .quayCheck => true
  | .tapReset => true
  | .testenHigh => true
  | .testenLow => true
  | .mooredWake _ => true
  | .start => true
  | .addrLatch _ _ => true
  | .vddioLow => true
  | .vddioReturn => true
  | .tidesStop => true
  | .selFall _ => true
  | .inputLevelChange _ _ _ => true
  | .tollKeeperEnabled => true
  | .tollKeeperDisabled => true
  | .mooringDomainLost => true
  | .dlCarrierReturn _ => true

end Sys2Proof
end

