-- ==== Sys2Proof/Tests/Slice0.lean ====
section
/-! SUPPORT. Tests: ill-formed operands that the check refuses, single commands on small states with values taken from the
spec, and, for every statement with hypotheses, states and operands that meet them (`meets_…`). -/

namespace Sys2Proof.Tests

set_option Elab.async false

open Sys2Proof Sys2Proof.Machine

/-! ### Ill-formed operands, one for each check -/

theorem test_wf_ul1 : (Instr.ul1Read .hpa [0, 0, 0]).wf = false ∧ (Instr.ul1Write .hpa []).wf = false := by decide
theorem test_wf_ul2 : (Instr.ul2Frame .hpa []).wf = false ∧ (Instr.ul2Frame .hpa (List.replicate 199 0)).wf = false := by
  decide +kernel
theorem test_wf_ul3 : (Instr.ul3Request .hpa []).wf = false ∧ (Instr.ul3Request .hpa (List.replicate 199 0)).wf = false := by
  decide +kernel
theorem test_wf_fetch : (Instr.ul3Fetch .hpb [0xE0, 1, 1, 0]).wf = false := by decide
theorem test_wf_select : (Instr.selRelease .hpa false 3 ⟨[], []⟩).wf = false ∧ (Instr.selRelease .hpa true 1 ⟨[1, 2], []⟩).wf = false
    ∧ (Instr.selRelease .hpa true 1 ⟨[1], List.replicate 8 true⟩).wf = false := by
  decide
theorem test_wf_checks : (Instr.analogSample 0 [] [(1, 2)] []).wf = false ∧ (Instr.counterEdge 0 0 [true] []).wf = false := by decide
theorem test_wf_bytes : (Instr.readWindow ⟨.hpa, 0, .ul2⟩ 65536 1).wf = false
    ∧ (Instr.readWindow ⟨.hpa, 0, .ul2⟩ 0 256).wf = false ∧ (Instr.charterRead ⟨.hpa, 0, .ul2⟩ 0 (2 ^ 24) 1).wf = false := by
  decide +kernel
theorem test_wf_words : (Instr.writeWindow ⟨.hpa, 0, .ul2⟩ 0x30 []).wf = false
    ∧ (Instr.charterWrite ⟨.hpa, 0, .ul2⟩ 0 (List.replicate 64 0)).wf = false := by decide +kernel
theorem test_wf_prop : (Instr.setProp ⟨.hpa, 0, .ul2⟩ []).wf = false
    ∧ (Instr.setProp ⟨.hpa, 0, .ul2⟩ (List.replicate 9 ⟨0, 0⟩)).wf = false := by decide
theorem test_wf_response : (Instr.roleResponse ⟨.hpa, 0, .ul2⟩ [1]).wf = false := by decide
theorem test_wf_toll : (Instr.toll .hpa 0 (List.replicate 193 0)).wf = false := by decide +kernel
theorem test_wf_frame : (Instr.report .a 0 ⟨0, List.replicate 65 0, 0⟩).wf = false := by decide +kernel
theorem test_wf_slot : (Instr.hailSlot []).wf = false ∧ (Instr.hailSlotEnd (List.replicate 32 .between) []).wf = false := by
  decide

/-- No row of the table gives bits, so no word spells a command and the queue stays as it is. -/
theorem test_no_word_decodes : decodeTableWord 24 0xFFFFFF = none ∧ (State.reset.withFetchWord 8 1) = State.reset := by
  decide +kernel

/-! ### Small states -/

/-- A list of words with some replaced. -/
def patch (l : List Word) (ps : List (Nat × Word)) : List Word := ps.foldl (fun l e => l.set e.1 e.2) l

/-- A role-key record whose key repeats one byte. -/
def keyRec (role b : Nat) : List Word := [0x11000C, wd (role * 2 ^ 22)] ++ List.replicate 11 (wd b)

/-- A charter with setups of every kind: a FOLLOW with REFCLK, counters, a reflex, hail slots, host loss, lanes, two
HAIL-CHECK orders and role keys. -/
def chT : List Word :=
  (patch fallbackCharter [(2, 5), (5, 0xB00000), (7, 0xA00000), (10, 0xFF0F00), (12, 0x6C2710), (15, 0x940000),
    (16, 0x840000), (47, 0x200000), (48, 0x400000), (49, 0xD00000), (66, 0x738C00), (67, 0xB30C00), (73, 0x730800),
    (96, 0x020600), (97, 0x000200), (98, 0x8FF400), (200, 0xA80800), (260, 0x2861A8), (302, 0x980000), (303, 0xD80000),
    (304, 0x580000)]).dropLast
  ++ [0x100006, 0x610000, 0x002400, 0, 0, 0, 0] ++ [0x100006, 0x618000, 0x003800, 0, 0, 0, 0]
  ++ keyRec 1 1 ++ keyRec 2 2 ++ keyRec 3 3 ++ [0xFF0000]

/-- The same charter as a host record for HPA alone, with no PRIMARY and as a LEAD. -/
def chU : List Word := patch chT [(7, 0x200000), (12, 0x2C2710), (5, 0x400000)]

/-- The state of the helms of a running machine in SLIPWAY under MAKER on HPA. -/
def hsT : HelmState :=
  { modes := { mode := .slipway, old := .slipway, prev := .berthed, since := 90 }
    charter := chT
    roleA := { held := some .maker, fp := 7 }
    auth := some .hpa
    red := { view := some .a, svcA := .holding, svcB := .standby }
    imgTab := [0xF00000, 0x400000, 0, 0, 0, 0, 0, 0, 0, 0, 0]
    inSvc := 0xF }

/-- The holder. -/
def helmT : Helm :=
  { svc := .holding, testing := false, loaded := true, ready := true, hs := hsT, saved := hsT, painterOk := true
    passNo := some 99, begun := some 100, tokenAt := 100 }

/-- A gangway that is up. -/
def gwT : GwPort := { up := true, beats := 64 }

/-- A pontoon that runs, every output landed on. -/
def pontT : Pont :=
  { running := true, loaded := true, setup := chT, crossing := 100, marked := true, gwA := gwT, gwB := gwT, regBeats := 64
    regLocked := true, holder := some .a, outs := Vector.replicate 8 { landed := 1, retry := 2 }
    grp := { uns := false, changed := false, wins := 5, stable := 2, lastVref := some 1000 } }

/-- A running machine: Helm A holds, Helm B stands by, stroke 100 of crossing 100. -/
def up : State :=
  { State.reset with
    rst := { started := true, powerOn := false, landed := true, addr := some 4, firstGiven := true, tick := 5000 }
    tb := { counting := true, crossing := 100, stroke := 100 }
    helmA := helmT
    helmB := { helmT with svc := .standby }
    holder := some .a
    mode := .slipway
    hpa := { opened := true, alive := 7 }
    hpb := { opened := true, alive := 9 }
    ponts := Vector.replicate 4 pontT
    nextId := 50 }

/-- Both helms' states changed. -/
def both (s : State) (f : HelmState → HelmState) : State :=
  { s with helmA := { s.helmA with hs := f s.helmA.hs }, helmB := { s.helmB with hs := f s.helmB.hs } }

/-- Pontoon 0 changed. -/
def p0 (s : State) (f : Pont → Pont) : State := s.modPont 0 f

/-- The machine in a mode. -/
def inMode (s : State) (m : Mode) : State :=
  let t := both s (fun hs => { hs with modes := { hs.modes with mode := m, old := m } })
  { t with mode := m }

/-- Helm B in a service state. -/
def svcB (s : State) (v : Svc) : State :=
  both (s.modHelm .b (fun x => { x with svc := v })) (fun hs => { hs with red := { hs.red with svcB := v } })

/-- Both helms loaded, none in service. -/
def start0 : State :=
  { up with
    rst := { up.rst with firstGiven := false }
    helmA := { helmT with svc := .starting }
    helmB := { helmT with svc := .starting }
    holder := none
    mode := .unreported }

/-- A toll keeper in its open part: tasks 0 and 1, task 0 paid. -/
def tollT : Toll :=
  { st := .opened, w := 4000, cur := { roster := 3, closed := 100, opened := 2000, pulse := 10 }, enabled := true
    wdp := .inactive, checked := 1 }

/-- A record. -/
def recT : Rec := ⟨⟨99, 10⟩, 8, 3, 0x003, 1, 2, 3⟩

/-- A frame's tag on HPA. -/
def tg : Tag := ⟨.hpa, 7, .ul2⟩

/-- A gangway frame of a type with its CRC. -/
def frame (t cr : Nat) (upw : Bool) (h : HelmId) (p : Nat) (pl : List Word) : RxFrame :=
  let gf := wd (t * 2 ^ 20 + pl.length * 2 ^ 13 + 32)
  { gf := gf, payload := pl, crc := frameCrc cr upw h p ⟨gf, pl, 0⟩ }

/-- A report of crossing 100. -/
def repT : Report :=
  { crossing := 100, configuring := false, verdict := .agreed, holder := some .a, fromH := some .a, hadMan := true
    words := [], rc := [], diOn := 0, diValid := 0, diEn := 0, ai := List.replicate 4 { uns := false }
    landed := List.replicate 8 0, held := [], rxNow := 0, rxTrip := 0, ckFault := false, wake := .complete
    wakeTotal := 8, wakeTrig := [], snaps := [], hails := [], gwA := true, gwB := true, dark := false, vfState := 0, bells := 0
    recs := [] }

/-- A UL2 frame with its CRC. -/
def ul2 (a op : Byte) (prm : List Byte) : List Byte := up.withCrc16 ([0x96, a, op, BitVec.ofNat 8 prm.length] ++ prm)

/-- A UL1 frame with its CRC. -/
def ul1 (b0 x y : Byte) : List Byte := [b0, x, y, crc8 (up.fold ++ [b0, x, y])]

/-- A step of one command answers this value of a reading. -/
def gives {α : Type} [DecidableEq α] (c : Instr) (s : State) (f : State → α) (v : α) : Bool :=
  match exec c s with
  | .next t => decide (f t = v)
  | _ => false

/-! ### Hypotheses that no plain evaluation decides -/

/-- The service states have come about as both helms have decided them. -/
def settledB (s : State) : Bool :=
  [HelmId.a, .b].all (fun g => !(s.helm g).svc.computes || [HelmId.a, .b].all (fun x => (s.hsOf g).red.svc x = (s.helm x).svc))

theorem settled_of {s : State} (h : settledB s = true) : s.settled := by
  intro g hg x
  simp only [settledB, List.all_cons, List.all_nil, Bool.and_true, Bool.and_eq_true, Bool.or_eq_true, Bool.not_eq_true',
    decide_eq_true_eq] at h
  cases g <;> cases x <;> simp_all

/-- Every helm that computes has begun the crossing's frames. -/
def underWayB (s : State) : Bool :=
  [HelmId.a, .b].all (fun g => !(s.helm g).svc.computes || decide ((s.helm g).begun = some s.tb.crossing))

theorem underWay_of {s : State} (h : underWayB s = true) : s.underWay := by
  intro g hg
  simp only [underWayB, List.all_cons, List.all_nil, Bool.and_true, Bool.and_eq_true, Bool.or_eq_true, Bool.not_eq_true',
    decide_eq_true_eq] at h
  cases g <;> simp_all

/-- What `State.takes` asks. -/
def takesB (s : State) (h : HelmId) (t : Tag) (c : Cmd) : Bool :=
  s.live && settledB s && underWayB s && (s.helm h).svc.computes && decide (s.checkCmd (s.ctxOf h t) c = none)

theorem takes_of {s : State} {h : HelmId} {t : Tag} {c : Cmd} (e : takesB s h t c = true) : s.takes h t c := by
  simp only [takesB, Bool.and_eq_true, decide_eq_true_eq] at e
  exact ⟨e.1.1.1.1, settled_of e.1.1.1.2, underWay_of e.1.1.2, e.1.2, e.2⟩

/-- The holder is the sole actor. -/
theorem up_soleActor : up.soleActor .a := by
  unfold State.soleActor; decide +kernel

/-! ### States and operands that meet the statements' hypotheses -/

/-- MOORED, with what the toll keeper and the wake logic hold. -/
def upM (k : TkState) (w : Option (BitVec 4)) : State :=
  let s := inMode up .moored
  { s with toll := { s.toll with st := k }, rst := { s.rst with wakeSub := w, wakeTick := 5000 } }

theorem meets_EmptyQueueTicks : up.pending = [] ∧ up.mode ≠ .moored ∧ up.live = true ∧ (upM .idle (some 3)).pending = []
    ∧ (upM .idle (some 3)).live = true ∧ (upM .idle (some 3)).mode = .moored ∧ (upM .idle (some 3)).rst.wakeSub = some 3
    ∧ (upM .idle (some 3)).slipsOk = true ∧ up.toll.st = .idle ∧ (upM .opened none).toll.st ≠ .idle
    ∧ (upM .opened none).toll.st ≠ .mooring := by decide +kernel

/-- Strokes 239 and 255, and a FOLLOW that steps at stroke 255. -/
def upS (k : Nat) (stepping : Bool) : State := { up with tb := { up.tb with stroke := k, stepping := stepping } }

/-- A LEAD. -/
def upLead : State := both up (fun hs => { hs with charter := chU })

/-- Stroke 239 of a crossing whose passage has run, with no verdict that keeps it. -/
def upDrop : State := (upS 239 false).modHelm .a (fun x => { x with passNo := some 100 })

theorem meets_StrokesAndLandings : up.live = true ∧ up.tb.tides = true ∧ up.rst.started = true ∧ up.rst.firstGiven = true
    ∧ up.tb.counting = true ∧ ((upS 255 true).tb.stepping = true ∧ (upS 255 true).tb.stroke = 255)
    ∧ ¬((upS 255 false).tb.stepping = true ∧ (upS 255 false).tb.counting = true ∧ (upS 255 false).tb.stroke = 255)
    ∧ (upLead.syncRole = 1 ∧ upLead.rst.vddio = true) ∧ (upS 31 false).helmA.svc.inService = true
    ∧ ((upS 239 false).helmA.closing = false ∧ (upS 239 false).helmB.closing = false) ∧ (upS 239 false).keeps 100 = true
    ∧ (upS 239 false).leader = some .a ∧ upDrop.keeps upDrop.tb.crossing = false ∧ upDrop.tb.stroke = 239
    ∧ gives .stroke (upS 239 false) (·.tb.stroke) 240 = true ∧ gives .stroke (upS 255 false) (·.now) ⟨101, 0⟩ = true := by
  decide +kernel

/-- Stroke 239 of a landing that keeps its passage, for which something of every kind waits. -/
def upDue : State :=
  { upS 239 false with
    nvmDue := [⟨true, false, 5, [1]⟩, ⟨true, true, 6, [2]⟩]
    setups := some chT
    cuOps := [⟨3, 100, none⟩, ⟨3, 101, none⟩]
    toll := { up.toll with due := some ⟨⟨3, 100, 2000, 10, false, 0⟩, true, false⟩ }
    com := { ffDue := [recT] }
    tb := { up.tb with stroke := 239, w1c := 3, fresh := 1, refLost := true, syncLost := true, markDue := some 101 } }

/-- What a kept landing brings, and an RC count of 15 at most that was read at its limit, at 2, and not at all. -/
theorem meets_StrokesAndLandingsDue : upDue.keeps 100 = true ∧ upDue.tb.stroke = 239 ∧ upDue.live = true ∧ upDue.tb.counting = true
    ∧ upDue.setups = some chT ∧ up.setups = none ∧ (up.pont 0).running = true ∧ (up.pont 0).loaded = true
    ∧ upDue.toll.due.or upDue.toll.first = some ⟨⟨3, 100, 2000, 10, false, 0⟩, true, false⟩ ∧ up.toll.due.or up.toll.first = none
    ∧ upDue.leader = some .a
    ∧ rcKind ⟨0x025, 0⟩ = .count 15 ∧ (⟨0x025, 8⟩ : RcKey) ≠ ⟨0x025, 0⟩
    ∧ (let t (v : Int) : RcTag := ⟨7, 0x025, 1, [(⟨0x025, 0⟩, v)], []⟩
       let w (v : Int) : Window := { tags := [t v] }
       (w 15).tags.find? (fun t => t.id = 7) = some (t 15) ∧ (w 2).tags.find? (fun t => t.id = 7) = some (t 2)
         ∧ (2 : Int) ≠ (15 : Nat) ∧ ∀ t ∈ (w 2).tags, t.id ≠ 8) := by decide +kernel

/-- The tide selector in a state. -/
def upT (x : TideSt) : State := { up with tb := { up.tb with ts := x, cWin := List.replicate 16 32000 } }

theorem meets_TideChecks : up.live = true ∧ up.tb.both = true ∧ up.tb.ts = .agree ∧ up.tb.close = true
    ∧ (upT (.arbitrate 0)).tb.both = true ∧ (upT .split).tb.both = true ∧ (upT .split).tb.ts ≠ .agree
    ∧ (NearC (upT .split).tb.c 32080 ∧ ¬NearC (upT .split).tb.c 32081)
    ∧ (¬NearC (upT .split).tb.c 31919 ∧ NearC (upT .split).tb.c 31920)
    ∧ ((32000 : Int) - (32032 : Nat)).natAbs * 1000 ≤ 32000
    ∧ (1 < 2 ∧ (upT (.arbitrate 1)).tb.ts = .arbitrate 1) ∧ (upT (.arbitrate 2)).tb.ts = .arbitrate 2 := by
  unfold NearC; decide +kernel

theorem meets_TideLossAndRestart : up.live = true ∧ up.tb.tides = true ∧ up.tb.ts = .agree
    ∧ (upT .single).live = true ∧ (upT .single).tb.ts = .single ∧ ((upT .single).tb.selB = true ↔ TideId.a = .b)
    ∧ (upT .dead).tb.ts = .dead ∧ up.tb.ts ≠ .dead := by decide +kernel

theorem meets_ReferenceClockAndSync : up.live = true ∧ up.tb.tides = true ∧ up.rst.vddio = true
    ∧ bb (chBody up.inForce 0x02) 1 20 = true ∧ bb (chBody start0.inForce 0x02) 1 20 = true
    ∧ bb (chBody State.reset.inForce 0x02) 1 20 = false ∧ State.reset.live = true
    ∧ ({ up with tb := { up.tb with refLocked := true } } : State).tb.refLocked = true
    ∧ up.tb.counting = true ∧ up.syncRole = 2 ∧ 2000 < 2001 ∧ 2000 ≤ 2000 ∧ up.tb.stepped = false ∧ up.mode.running = false
    ∧ ¬(up.tb.stepping = true ∧ up.tb.stroke = 255) ∧ (upS 255 true).syncRole = 2 ∧ (upS 255 true).tb.stepping = true
    ∧ (inMode up .underway).mode.running = true ∧ (inMode up .underway).syncRole = 2
    ∧ 32768 < (33 : Int).natAbs * 1000 ∧ (16 : Int).natAbs * 1000 ≤ 16384 := by decide +kernel

/-- The toll keeper in a state, with a check-in waiting on HPA. -/
def upK (k : Toll) (l : List CheckIn) : State := { up with toll := k, hpa := { up.hpa with toll := l } }

theorem meets_TollKeeper : up.tollOrder = true
    ∧ (let k : Toll := { tollT with checked := 3 }
       k.st = .opened ∧ k.cur.roster &&& ~~~k.checked = 0 ∧ 0 < k.nextCur.closed + k.nextCur.opened)
    ∧ (∀ c ∈ (upK tollT [⟨3, .hpa, 6100, ⟨99, 5⟩⟩]).hpa.toll ++ (upK tollT []).hpb.toll, 6100 ≤ c.tick)
    ∧ tollT.cur.roster &&& ~~~tollT.checked ≠ 0 ∧ ({ tollT with st := .closed } : Toll).st = .closed ∧ up.toll.st ≠ .closed
    ∧ up.toll.st ≠ .opened ∧ ({ tollT with st := .pulse, moorAfter := true } : Toll).enabled = true ∧ up.toll.st ≠ .pulse
    ∧ (up.rst.landed = true ∧ ({ tollT with st := .idle } : Toll).enabled = true) ∧ up.toll.enabled = false := by decide +kernel

/-- The keeper disabled in a window, or in a pulse that ends at tick 5 001, at a mooring tick. -/
def upOff (k : TkState) (c : Byte) (n : Nat) : State :=
  { upK { tollT with st := k, enabled := false, checked := c, pulseEnd := 5001 } [] with rst := { up.rst with tick := n } }

theorem meets_TollKeeperOff : (upOff .opened 1 5000).toll.enabled = false ∧ (upOff .opened 1 5000).toll.st = .opened
    ∧ (∀ c ∈ (upOff .opened 1 5000).hpa.toll ++ (upOff .opened 1 5000).hpb.toll, 5000 ≤ c.tick)
    ∧ (upOff .opened 1 6099).rst.tick < tollT.w + tollT.cur.closed + tollT.cur.opened
    ∧ (upOff .opened 3 6100).rst.tick = tollT.w + tollT.cur.closed + tollT.cur.opened
    ∧ (upOff .opened 3 6100).toll.cur.roster &&& ~~~(upOff .opened 3 6100).toll.checked = 0
    ∧ (upOff .opened 1 6100).toll.cur.roster &&& ~~~(upOff .opened 1 6100).toll.checked ≠ 0
    ∧ 0 < (upOff .opened 3 6100).toll.nextCur.closed
    ∧ (upOff .pulse 1 5000).rst.tick < (upOff .pulse 1 5000).toll.pulseEnd ∧ (upOff .pulse 1 5000).toll.st = .pulse := by
  decide +kernel

/-- A closing tick whose instant was noted, and one still to come; the pulse of an expiry before its first tick and in it. -/
theorem meets_TollKeeperStamps :
    (let s : State := { upK { tollT with stamps := [(6100, ⟨99, 7⟩), (6099, ⟨99, 6⟩)] } [] with rst := { up.rst with tick := 6200 } }
     6100 ≤ s.rst.tick ∧ s.toll.stamps = (6100, ⟨99, 7⟩) :: [(6099, ⟨99, 6⟩)] ∧ s.toll.w + s.toll.cur.closed + s.toll.cur.opened = 6100)
    ∧ (upK tollT []).rst.tick < 6100
    ∧ (let k : Toll := { tollT with st := .pulse, wdp := .active, pulseAt := 5001, pulseEnd := 5330 }
       (upK k []).rst.vdd = true ∧ (upK k []).rst.vddio = true ∧ k.wdp = .active ∧ (upK k []).rst.tick < k.pulseAt
         ∧ ¬({ upK k [] with rst := { up.rst with tick := 5001 } } : State).rst.tick < k.pulseAt) := by decide +kernel

theorem meets_WakeSources : (upM .mooring none).toll.st = .mooring ∧ (upM .mooring none).mode = .moored
    ∧ (upM .mooring none).rst.wakeSub = none ∧ up.toll.st ≠ .mooring ∧ ((upM .idle none).port .hpa).opened = true
    ∧ (upM .idle none).portOn = true
    ∧ ((upM .idle (some 3)).rst.wakeSub = some 3 ∧ (upM .idle (some 3)).rst.wakeTick = (upM .idle (some 3)).rst.tick)
    ∧ up.mode ≠ .moored := by decide +kernel

/-- A select period on HPA. -/
def upR (s : State) : State := { s with hpa := { s.hpa with sel := true } }

theorem upR_receiving : (upR up).receiving .hpa ∧ (upR (inMode up .moored)).receiving .hpa := by
  unfold State.receiving; decide +kernel

theorem meets_Ul1Frames : (upR up).receiving .hpa ∧ (upR up).ul1On = true ∧ (ul1 0x01 0 0).length = 4
    ∧ (pb (ul1 0x01 0 0) 0).toNat < 0x80 ∧ crc8 ((upR up).fold ++ (ul1 0x01 0 0).take 3) = pb (ul1 0x01 0 0) 3
    ∧ (upR up).mode ≠ .moored ∧ (pb (ul1 0x01 0 0) 0).getLsbD 6 = false ∧ ((upR up).classic .hpa 1).isSome = true
    ∧ crc8 ((upR up).fold ++ [0x48, 0, 0]) ≠ pb [0x48, 0, 0, 0] 3
    ∧ (pb (ul1 0x48 0 5) 0).getLsbD 6 = true ∧ (pb (ul1 0x48 0 5) 0).toNat % 64 = 8
    ∧ crc8 ((upR up).fold ++ (ul1 0x48 0 5).take 3) = pb (ul1 0x48 0 5) 3 ∧ ((upR up).classic .hpa 8).isSome = true
    ∧ ((upR up).port .hpa).opened = true ∧ (upR up).holder = some .a ∧ (((upR up).hsOf .a).role .hpa).held = some .maker
    ∧ (upR up).noHelm = false ∧ (upR up).slipRoom .hpa = true := by
  refine ⟨upR_receiving.1, ?_⟩; decide +kernel

/-- Frames that wait on HPA, as many as fit. -/
def fullA (s : State) : State :=
  let e : Entered := ⟨tg, 1, [], ⟨99, 5⟩, 40, {}⟩
  { s with hpa := { s.hpa with slipA := [e, e] } }

theorem meets_Ul2Frames : (upR up).receiving .hpa ∧ (upR (inMode up .moored)).receiving .hpa
    ∧ pb (ul2 7 0x01 []) 0 = 0x96 ∧ pn (ul2 7 0x01 []) 3 1 ≤ 192 ∧ (ul2 7 0x01 []).length = 6 + pn (ul2 7 0x01 []) 3 1
    ∧ crc16 ((upR up).fold ++ ul2 7 0x01 []) = 0 ∧ ((upR up).port .hpa).opened = true
    ∧ pb (ul2 7 0x01 []) 1 = ((upR up).port .hpa).alive ∧ (upR up).slipRoom .hpa = true ∧ (upR up).mode ≠ .moored
    ∧ (upR up).noHelm = false ∧ crc16 ((upR up).fold ++ [0x96, 7, 1, 0, 0, 0]) ≠ 0
    ∧ ((upR { up with hpa := {} }).port .hpa).opened = false ∧ pb (ul2 8 0x01 []) 1 ≠ ((upR up).port .hpa).alive
    ∧ (upR (fullA up)).slipRoom .hpa = false ∧ crc16 ((upR up).fold ++ ul2 7 0x20 [2]) = 0 := by
  refine ⟨upR_receiving.1, upR_receiving.2, ?_⟩; decide +kernel

/-- A fetch buffer that holds the reply to frame 5. -/
def upF : State := upR { up with hpa := { up.hpa with fetch := .ready 5 ⟨.ok, 5, 9, [1, 2], none⟩ } }

theorem meets_Ul3Frames : upF.receiving .hpa
    ∧ (let f := up.withCrc16 [0xC2, 7, 0x03, 1, 0, 5, 2]
       0xC0 ≤ (pb f 0).toNat ∧ isFetch (pb f 0) = false ∧ (pb f 0).getLsbD 0 = false ∧ addrBytes (pb f 0) + pn f 3 1 ≤ 192
       ∧ f.length = 6 + addrBytes (pb f 0) + pn f 3 1 ∧ crc16 (upF.fold ++ f) = 0 ∧ pb f 1 = (upF.port .hpa).alive)
    ∧ upF.slipRoom .hpa = true ∧ upF.noHelm = false ∧ (upF.port .hpa).opened = true ∧ upF.mode ≠ .moored
    ∧ (let f := up.withCrc16 [0xE0, 7, 5]
       isFetch (pb f 0) = true ∧ (pb f 0).getLsbD 2 = false ∧ f.length = 5 ∧ crc16 (upF.fold ++ f) = 0
       ∧ (upF.port .hpa).fetch = .ready (pb f 2) ⟨.ok, 5, 9, [1, 2], none⟩)
    ∧ (let f := up.withCrc16 [0xE0, 7, 6]
       crc16 (upF.fold ++ f) = 0 ∧ (5 : Byte) ≠ pb f 2)
    ∧ (let g (x : Fetch) : State := upR { up with hpa := { up.hpa with fetch := x } }
       ((g .empty).port .hpa).fetch = .empty ∧ ((g (.pending 5 49 9)).port .hpa).fetch = .pending 5 49 9
         ∧ (g (.pending 5 49 9)).helmReply .hpa 49 = none
         ∧ (let s := (g (.pending 5 49 9)).modHelm .a (fun x => { x with slipA := [(49, ⟨.ok, 5, 9, [], none⟩)] })
            s.helmReply .hpa 49 = some ⟨.ok, 5, 9, [], none⟩))
    ∧ (crc16 (upF.fold ++ [0xE0, 7, 5, 0, 0]) ≠ 0 ∧ crc16 (upF.fold ++ [0xC2, 7, 0x03, 1, 0, 5, 2, 0, 0]) ≠ 0) := by
  refine ⟨by unfold State.receiving; decide +kernel, ?_⟩; decide +kernel

/-- A port whose reply to frame 49 is due, with or without a reply in the holder's slip. -/
def upD (l : List (Nat × Reply)) : State :=
  { up with hpa := { up.hpa with due := some (.helm 49 7 5) }, helmA := { up.helmA with slipA := l } }

theorem meets_SelectPeriods : up.portOn = true ∧ (up.port .hpa).sel = false ∧ (up.port .hpa).due = none
    ∧ (upD []).helmReply .hpa 49 = none ∧ (upD [(49, ⟨.ok, 7, 5, [], none⟩)]).helmReply .hpa 49 = some ⟨.ok, 7, 5, [], none⟩
    ∧ ((upR up).port .hpa).sel = true ∧ 2 < [1, 2, 3].length ∧ [1, 2, 3].length ≤ 3
    ∧ (upR up).framed [0x96, 7] = .unfinished ∧ genOf [0x96, 7] [] = .ul2 ∧ genOf [] [true, false] = .ul2
    ∧ ((upR up).port .hpa).head = [] ∧ ((upR up).port .hpa).clocked + 0 ≤ 2 ∧ ((upR up).port .hpa).sending = none := by
  decide +kernel

theorem meets_SessionAndToll : up.portOn = true ∧ (up.port .hpa).opened = true ∧ up.mode ≠ .moored
    ∧ (up.port .hpa).toll.length < 8 ∧ 8 ≤ ((upK up.toll (List.replicate 8 ⟨3, .hpa, 9, ⟨99, 5⟩⟩)).port .hpa).toll.length
    ∧ up.rst.landed = true ∧ start0.portOn = true
    ∧ ({ up with rst := { up.rst with landed := false } } : State).rst.landed = false ∧ (inMode up .moored).portOn = true ∧ (inMode up .moored).mode = .moored := by decide +kernel

theorem meets_Resets : up.slipsOk = true ∧ up.rst.vdd = true ∧ up.rst.testen = false ∧ up.live = true
    ∧ up.makerHeld = true ∧ start0.live = true ∧ start0.makerHeld = false ∧ (upM .idle none).live = true
    ∧ (upM .idle none).mode = .moored ∧ (upM .idle none).rst.wakeSub = none ∧ (upM .idle none).wakeMet .hpa = true
    ∧ (upM .idle none).wakeMet .moored = false ∧ (upM .idle (some 3)).wakeMet .moored = false
    ∧ (upM .idle (some 3)).rst.wakeSub = some 3 ∧ (upM .idle (some 3)).slipsOk = true ∧ up.mode ≠ .moored ∧ up.banksOk = true
    ∧ ({ up with rst := { up.rst with testen := true } } : State).rst.testen = true := by decide +kernel

theorem meets_VddAndVddio : up.rst.vdd = true ∧ (up.pont 3).running = true
    ∧ ((up.pont 0).running = true ∧ ((up.pont 0).lane 0 (1 : Fin 2)).1 = 3 ∧ ((up.pont 0).lane 0 (1 : Fin 2)).2 = (3 : Fin 8).val)
    ∧ ((up.pont 0).lane 0 (0 : Fin 2)).1 ≠ 3 ∧ ((p0 up Pont.lost).pont 0).running = false
    ∧ ((p0 up (fun x => x.modOut 3 (fun o => { o with held := true }))).pont 0).outs[(3 : Fin 8)].held = true
    ∧ ({ up with rst := { up.rst with vdd := false } } : State).rst.vdd = false := by decide +kernel

/-- MOORED since crossing 98, at stroke 255 of crossing 101, whose passage has run. -/
def stopS (k : TkState) : State :=
  let s := (inMode up .moored).modHelm .a (fun x => { x with passNo := some 101 })
  { both s (fun hs => { hs with modes := { hs.modes with since := 98 } }) with
    tb := { up.tb with crossing := 101, stroke := 255 }
    toll := { tollT with st := k, pulseEnd := 5001 } }

theorem meets_StartUpAndTidesStop : up.live = true ∧ up.rst.vddio = true ∧ State.reset.rst.addr = none ∧ up.rst.addr ≠ none
    ∧ State.reset.rst.held = false ∧ State.reset.rst.testen = false ∧ State.reset.rst.started = false
    ∧ State.reset.rst.mooringAlive = true ∧ State.reset.rst.powerOn = true ∧ State.reset.nvmA.mem = [] ∧ State.reset.nvmB.mem = []
    ∧ State.reset.com.take = none ∧ State.reset.com.powerFail = none ∧ up.rst.powerOn = false
    ∧ (∀ h, (State.reset.helm h).svc.inService = false) ∧ State.reset.banksOk = true ∧ up.rst.started = true
    ∧ [TkState.idle, .closed, .opened, .pulse].all (fun k => (stopS k).moorReady && (stopS k).tb.tides && (stopS k).live
        && decide ((stopS k).rst.tick < tollT.w + tollT.cur.closed + tollT.cur.opened)
        && decide ((stopS k).rst.tick < (stopS k).toll.pulseEnd)
        && ((stopS k).hpa.toll ++ (stopS k).hpb.toll).isEmpty) = true
    ∧ (stopS .idle).toll.st = .idle ∧ (stopS .opened).toll.st = .opened ∧ up.mode ≠ .moored ∧ up.toll.st ≠ .closed := by
  refine ⟨by decide +kernel, by decide +kernel, rfl, by decide +kernel, rfl, rfl, rfl, rfl, rfl, rfl, rfl, rfl, rfl,
    by decide +kernel, ?_, ?_⟩
  · intro h; cases h <;> rfl
  · decide +kernel

theorem meets_Banks : (Bank.wf {}) = true ∧ (Bank.wf { mem := [(0, 5), (0x0AAAA9, 0)] }) = true ∧ 0x0AAAA9 < bankWords
    ∧ (0 : Nat) ≠ 0x0AAAA9 ∧ (∀ a, Bank.read {} a = Bank.read {} a) :=
  ⟨by decide +kernel, by decide +kernel, by decide, by decide, fun _ => rfl⟩

/-- A commit engine. -/
def comT (c : Commit) : State := { up with com := c }

/-- The read-backs of a write. -/
def good (v : PairBack) (b : Bool) : Bool := if b then v.b1 || v.b2 else v.a1 || v.a2

theorem meets_Commits : (Commit.take { slipQ := [recT], slipA := [recT] }) = some (recT, { slipA := [recT] })
    ∧ (comT { slipQ := [recT] }).banksOk = true ∧ (comT { slipQ := [recT], slot := 43689 }).com.slot < ringSlots
    ∧ good ⟨true, false, false, true⟩ false = true ∧ good ⟨true, false, false, true⟩ true = true
    ∧ good ⟨false, true, false, false⟩ true = false ∧ (comT { slipA := [recT] }).com.holdUp = false
    ∧ (comT { slipA := [recT] }).com.slipQ.length ≤ 1
    ∧ (comT { slipQ := [recT] }).com.take = some (recT, {})
    ∧ ((comT { powerFail := some recT }).com.take = none ∧ (comT { powerFail := some recT }).com.powerFail = some recT)
    ∧ (recT.cls = clsFault ∧ (comT { ffFill := 255 }).com.ffFill < 256) ∧ ¬(comT { ffFill := 256 }).com.ffFill < 256
    ∧ ((comT { slipQ := [recT], holdUp := true }).com.holdUp = true ∧ (comT { slipQ := [recT], holdUp := true }).com.ffFill < 256) := by
  decide +kernel

theorem meets_HoldUpAndFirstFault : (comT { slipQ := [recT], holdUp := true }).com.holdUp = true
    ∧ (comT { slipQ := [recT], holdUp := true }).com.take = some (recT, { holdUp := true })
    ∧ (comT { slipQ := [recT], holdUp := true }).banksOk = true ∧ (comT { slot := 43689 }).com.slot < ringSlots
    ∧ ((⟨.complete, true, .corrupt⟩ : BankLeft).ring = .complete ∧ (⟨.old, true, .old⟩ : BankLeft).ring ≠ .complete)
    ∧ (recT.cls = clsFault ∧ (comT { slipQ := [recT], holdUp := true }).com.ffFill < 256)
    ∧ (comT { ffClear := [recT, recT] }).com.ffClear = recT :: [recT] := by decide +kernel

/-- Input 0 of Pontoon 0 at a level. -/
def upI (b : Bool) : State := p0 up (fun x => { x with ins := x.ins.set 0 { raw := b } })

theorem meets_ReflexesAndCounters : (up.pont 0).running = true ∧ ((upI false).pont 0).rxCond 0 0 = true
    ∧ (up.pont 0).rxCond 0 1 = false ∧ (up.pont 0).ins[(0 : Fin 8)].raw = false ∧ (up.pont 0).ins[(0 : Fin 8)].raw ≠ true
    ∧ ((up.pont 0).rxWord 0 0).getLsbD (10 + 0) = true ∧ ((up.pont 0).rxWord 0 0).getLsbD (10 + 7) = true
    ∧ (up.pont 0).dark = false
    ∧ (prefilterN (bf (up.pont 0).inRec 0 19 17) ≤ (List.replicate 32 (true, false)).length)
    ∧ (∀ v ∈ (List.replicate 32 true).zip (List.replicate 32 false), v.1 ≠ (up.pont 0).ins[(0 : Fin 8)].raw)
    ∧ (∀ v ∈ [false].zip [false], v = ((vat (up.pont 0).ins 0 {}).raw, (vat (up.pont 0).ins 1 {}).raw))
    ∧ (up.pont 0).ins[(0 : Fin 8)].cmp = (up.pont 0).ins[(0 : Fin 8)].raw ∧ ([] : List (Bool × Bool)).length < 1
    ∧ ((p0 up (fun x => { x with sag := 8 })).pont 0).dark = true := by decide +kernel

/-- Pontoon 0 with CT0 in a mode. -/
def upQuad (w : Word) : Pont := { pontT with setup := patch chT [(47, w)] }

/-- Samples that change one input of a pair, and both; a counter in each of its modes. -/
theorem meets_CounterEdges :
    (let d (k : Nat) := vat pontT.ins k {}
     let n (k : Nat) := prefilterN (bf pontT.inRec k 19 17)
     (n 2 = n 3 ∧ n 2 ≤ ((List.replicate 32 true).zip (List.replicate 32 true)).length ∧ (d 2).cmp = (d 2).raw ∧ (d 3).cmp = (d 3).raw
       ∧ ∀ v ∈ (List.replicate 32 true).zip (List.replicate 32 true), v.1 = !(d 2).raw ∧ v.2 = !(d 3).raw)
     ∧ (∀ v ∈ (List.replicate 32 true).zip (List.replicate 32 false), v.1 = !(d 2).raw ∧ v.2 = (d 3).raw)
     ∧ (∀ v ∈ [false].zip [false], v.1 = (d 2).raw ∧ v.2 = (d 3).raw))
    ∧ bf pontT.inRec 32 23 21 = 1 ∧ bf pontT.inRec 33 23 21 = 2 ∧ bf pontT.inRec 34 23 21 = 6 ∧ bitOf (pontT.inRec.getD 34 0) 20 = true
    ∧ bf (upQuad 0x600000).inRec 32 23 21 = 3 ∧ bf (upQuad 0x800000).inRec 32 23 21 = 4 ∧ bf (upQuad 0xA00000).inRec 32 23 21 = 5
    ∧ ((upI true).pont 0).ins[(0 : Fin 8)].raw = true ∧ pontT.running = true ∧ pontT.dark = false := by decide +kernel

theorem meets_SafenAndLanes : (up.pont 0).running = true ∧ ((p0 up Pont.lost).pont 0).running = false
    ∧ ((up.pont (pontOfLane 1)).lane (pontOfLane 1) (1 % 2)).1 = 3 ∧ ((up.pont (pontOfLane 1)).lane (pontOfLane 1) (1 % 2)).2 = 3
    ∧ ((up.pont (pontOfLane 0)).lane (pontOfLane 0) (0 % 2)).1 = 2 ∧ up.rst.vddio = true ∧ (upM .idle none).mode = .moored
    ∧ (upM .idle none).rst.wakeSub = none ∧ (bf (chBody (upM .idle none).inForce 0x04) 1 23 16).testBit 7 = true
    ∧ (bf (chBody up.inForce 0x04) 1 15 8).testBit 7 = false := by decide +kernel

theorem meets_ProportionalStages : (up.pont 0).running = true ∧ (up.pont 0).gridDue = false
    ∧ ((p0 up (fun x => { x with gridDue := true })).pont 0).gridDue = true ∧ (up.pont 0).regLocked = true ∧ (up.pont 0).level 0 = 5
    ∧ (vat (up.pont 0).pqs 0 {}).frozen = false ∧ ((p0 up (fun x => { x with sag := 8 })).pont 0).level 0 = 1
    ∧ ((p0 up (fun x => { x with regLocked := false })).pont 0).regLocked = false ∧ (up.pont 0).dark = false
    ∧ (vat (up.pont 0).outs 0 {}).shed = false ∧ (vat (up.pont 0).outs 0 {}).queued = false
    ∧ (vat ((p0 up (fun x => { x with pqs := x.pqs.set 0 { frozen := true } })).pont 0).pqs 0 {}).frozen = true := by
  decide +kernel

/-- Input 1 of Pontoon 0 with its shunt open. -/
def upShunt : State := p0 up (fun x => { x with ais := x.ais.set 1 { shunt := true } })

theorem meets_AnalogInputs : (up.pont 0).running = true ∧ (up.pont 0).regLocked = true ∧ (up.pont 0).aiEn 0 0 = true
    ∧ (up.pont 0).dark = false ∧ (vat (up.pont 0).ais 0 {}).shunt = false
    ∧ ((p0 up (fun x => { x with setup := [] })).pont 0).aiEn 0 0 = false
    ∧ (up.pont 0).aiEn 0 1 = true ∧ (up.pont 0).aiRange 0 1 = 2 ∧ (vat (upShunt.pont 0).ais 1 {}).shunt = true
    ∧ (up.pont 0).excOn 0 = true ∧ (up.pont 0).grp.excLim = false := by decide +kernel

/-- The references of Pontoon 0 in a state. -/
def upG (g : GrpSt) : State := p0 up (fun x => { x with grp := g })

/-- Unsettled, one still window behind. -/
def grpT : GrpSt := { wins := 5, minWins := 2, lastVref := some 250000, stable := 1 }

/-- Pontoon 0 with a snapshot asked for whose landing is made, and a free slot. -/
def upSnap : State := p0 up (fun x => { x with setup := patch chT [(255, 0xFFFFFF), (257, 0xFFFFFF), (259, 0xFFFFFF), (261, 0xFFFFFF), (260, 0xFFFFFF), (254, 0xFFFFFF), (256, 0xFFFFFF), (258, 0xFFFFFF)], grp := { x.grp with snaps := [(0, 99), (3, 100)] } })

theorem meets_ReferencesAndSnapshots : (up.pont 0).running = true ∧ (up.pont 0).dark = false ∧ (up.pont 0).grp.uns = false
    ∧ (up.pont 0).setup ≠ [] ∧ ((p0 up (fun x => { x with setup := [] })).pont 0).setup = []
    ∧ (grpT.uns = true ∧ grpT.minWins ≤ grpT.wins ∧ grpT.lastVref = some 250000 ∧ 1 ≤ grpT.stable
        ∧ ((250001 : Int) - (250000 : Nat)).natAbs * 10000 < 250000 ∧ ((250000 : Int) - (250000 : Nat)).natAbs * 200 ≤ 250000)
    ∧ ((upG grpT).pont 0).vNom 0 = 250000 ∧ ¬((0 : Int) - ((upG grpT).pont 0).vNom 0).natAbs * 200 ≤ ((upG grpT).pont 0).vNom 0
    ∧ (let g : GrpSt := { grpT with judge := .agree, aWin := [(1000, 1000)], run := 1 }
       g.judge = .agree ∧ g.aWin ≠ [] ∧ within 3 (1000, 996) (meanRatio g.aWin) = false ∧ 1 ≤ g.run)
    ∧ (let g : GrpSt := { grpT with judge := .judging, aWin := [(1000, 1000)] }
       g.judge = .judging ∧ within 1 (1000, 1000) (meanRatio g.aWin) = true)
    ∧ (grpT.changed = true ∧ grpT.uns = true) ∧ ((p0 up (fun x => { x with sag := 8 })).pont 0).dark = true
    ∧ ((p0 up Pont.lost).pont 0).running = false
    ∧ (upSnap.pont 0).grp.snaps = [(0, 99), (3, 100)] ∧ slotsOf ((upSnap.pont 0).rotation 0) 7 ≠ [] ∧ 99 ≤ (upSnap.pont 0).crossing
    ∧ (upSnap.pont 0).grp.slotsUsed = 0 ∧ (up.pont 0).grp.snaps = [] := by
  decide +kernel

/-- The beat slips of Pontoon 0. -/
def upB (l : List Beat) : State := p0 up (fun x => { x with gwA := { x.gwA with slip := l } })

/-- Pontoon 0 stopped for MOORED, with a beat of helm A that waits. -/
def upStop : State := p0 (upB [⟨.plain, 9⟩]) (fun x => { x with running := false, mooredStop := true })

theorem meets_BeatsAndSilence : (up.pont 0).running = true ∧ (((upB [⟨.sounding, 9⟩]).pont 0).gw .a).slip = ⟨.sounding, 9⟩ :: []
    ∧ (((upB [⟨.sounding, 9⟩]).pont 0).modGw .a (fun g => { g with slip := [], beats := min 64 (g.beats + 1) })).follows = .a
    ∧ ((up.pont 0).gw .b).slip = [] ∧ (up.pont 0).regBeats = 64
    ∧ (upStop.pont 0).mooredStop = true ∧ (upStop.pont 0).running = false ∧ upStop.tb.tides = true ∧ upStop.mode ≠ .moored
    ∧ (upStop.helm .a).svc.inService = true ∧ ((upStop.pont 0).gw .a).slip ≠ []
    ∧ ((p0 up (fun x => { x with regLocked := false })).pont 0).regLocked = false
    ∧ ((p0 up (fun x => { x with regBeats := 63 })).pont 0).regBeats ≠ 64
    ∧ ((up.pont 0).lastBeat < 9 ∧ 9 ≤ ({ pontT with lastBeat := 9 } : Pont).lastBeat)
    ∧ ((up.pont 0).gw .a).alive = false ∧ ((p0 up (fun x => { x with gwA := { gwT with alive := true } })).pont 0 |>.gw .a).alive = true
    ∧ ((up.pont 0).gw .a).up = true ∧ ((p0 up (fun x => { x with gwA := {} })).pont 0 |>.gw .a).up = false
    ∧ ((p0 up Pont.lost).pont 0).running = false ∧ ((p0 up Pont.lost).pont 0).mooredStop = false := by decide +kernel

theorem meets_Sounding : ((p0 up (fun x => { x with mark := .sounding })).pont 0).mark = .sounding
    ∧ (up.pont 0).running = true ∧ (up.pont 0).marked = true ∧ (up.pont 0).mark ≠ .sounding
    ∧ up.lanes.safenNow = false ∧ up.landingsRun = true
    ∧ ({ pontT with report := some repT, told := false } : Pont).told = false
    ∧ (∀ e ∈ [(101, 5)], up.now.lt ⟨(e : Nat × Nat).1, e.2⟩ = true)
    ∧ ¬(up.now.lt ⟨100, 50⟩ = true ∨ up.lanes.riseAt.any (fun u => !u.lt ⟨100, 50⟩) = true)
    ∧ ({ up with lanes := { up.lanes with safenNow := true } } : State).lanes.safenNow = true := by
  decide +kernel

/-- The manifests of both gangways. -/
def upV (a b : List (Nat × List Word)) : Pont := { pontT with gwA := { gwT with mans := a }, gwB := { gwT with mans := b } }

theorem meets_ManifestCompare : pontT.running = true ∧ pontT.marked = true
    ∧ (232 ≤ (upS 232 false).tb.stroke ∧ (upS 239 false).tb.stroke < 240 ∧ (upS 231 false).tb.stroke < 232)
    ∧ (upV [(100, [0x501000, 1])] []).gwA.manFor 100 = some [0x501000, 1] ∧ (upV [(99, [0x501000, 1])] []).gwA.manFor 100 = none
    ∧ manView [0x501000, 1] = some .a ∧ manView [0x901000, 1] = some .a ∧ manView [0xA01000, 1] = some .b
    ∧ ([0x501000, 1] : List Word).tail = ([0x901000, 1] : List Word).tail ∧ ([0x501000, 1] : List Word).tail ≠ ([0x981000, 2] : List Word).tail
    ∧ manView [0x981000, 2] = some .a ∧ manProving [0x981000, 2] = true ∧ manProving [0x901000, 2] = false
    ∧ ({ pontT with marked := false } : Pont).marked = false := by decide +kernel

theorem meets_Landing :
    (let x : Pont := { pontT with mark := .landing, chosen := some [0x503000, 0xFF, 5, 6], chosenBy := some .a }
     x.running = true ∧ x.marked = true ∧ x.mark = .landing ∧ x.chosen = some [0x503000, 0xFF, 5, 6]
       ∧ x.configuring = false ∧ x.orderDue = false ∧ x.stopDue = false)
    ∧ (let x : Pont := { pontT with mark := .landing, silence := true }
       x.chosen = none ∧ x.silence = true)
    ∧ (let x : Pont := { pontT with mark := .landing, orderDue := true }
       x.orderDue = true)
    ∧ (let x : Pont := { pontT with mark := .landing, stopDue := true }
       x.running = true ∧ x.marked = true ∧ x.mark = .landing ∧ x.stopDue = true)
    ∧ pontT.mark ≠ .landing := by decide +kernel

/-- A wake read of samples 0 and 1 of every pontoon is outstanding. -/
def readT : OutReq := { id := 49, tag := tg, ch := 0, off := 0, count := 2, doneAt := 100, eff := 9, total := 8 }

/-- The same, in both helms. -/
def upRead : State := both up (fun hs => { hs with wakeReads := Vector.replicate 4 [readT] })

theorem meets_FramesAtPontoons : (up.pont 0).running = true ∧ frPasses ⟨0, [], 0⟩ 2 100 false .a 0 = false
    ∧ ((up.pont 0).gw .a).discards < 3 ∧ (3 ≤ ({ gwT with discards := 3 } : GwPort).discards)
    ∧ frPasses (frame 2 100 false .a 0 (manBuild .a .a false false 5 6 7 [])) 2 100 false .a 0 = true
    ∧ manOk (manBuild .a .a false false 5 6 7 []) .a = true ∧ manOk [1, 2] .a = false
    ∧ up.tb.stroke < 232 ∧ 232 ≤ (upS 232 false).tb.stroke
    ∧ ((up.pont 0).gw .a).mans.length < 2 ∧ frPasses (frame 3 100 false .a 0 []) 3 100 false .a 0 = true
    ∧ (up.hsOf .a).charter ≠ [] ∧ (up.pont 0).setup ≠ [] ∧ ((p0 up (fun x => { x with setup := [] })).pont 0).setup = []
    ∧ frPasses (frame 4 100 false .a 0 [1]) 4 100 false .a 0 = true ∧ frPasses (frame 6 100 false .a 0 [1]) 6 100 false .a 0 = true
    ∧ (up.hsOf .a).wakeReads[(0 : Fin 4)] = [] ∧ (upRead.hsOf .a).wakeReads[(0 : Fin 4)] = readT :: []
    ∧ pontT.wake.st ≠ .complete ∧ ({ pontT with wake := { st := .complete, buf := [1, 2, 3] } } : Pont).wake.st = .complete
    ∧ (let f := frame 7 123 false .a 0 [0, 123]
       frPasses f 7 (setCrossingNo f) false .a 0 = true) := by decide +kernel

theorem meets_HelmFrames : (up.helm .a).svc.inService = true ∧ frPasses (frame 1 100 true .a 0 [1]) 1 up.tb.crossing true .a 0 = true
    ∧ ((p0 up (fun x => { x with report := some repT })).pont 0).report = some repT ∧ repT.crossing = up.tb.crossing
    ∧ ((up.helm .a).repSlips[(0 : Fin 4)]).length < 2 ∧ frPasses ⟨0, [], 0⟩ 1 up.tb.crossing true .a 0 = false
    ∧ frPasses (frame 5 100 true .a 0 [1, 2]) 5 up.tb.crossing true .a 0 = true
    ∧ frPasses ⟨0, [], 0⟩ 5 up.tb.crossing true .a 0 = false
    ∧ (up.helm .a).bulkSlip[(0 : Fin 4)].length + [(1 : Word), 2].length ≤ 64
    ∧ (let s := up.modHelm .a (fun x => { x with bulkSlip := Vector.replicate 4 (List.replicate 63 (0, 1)) })
       64 < (s.helm .a).bulkSlip[(0 : Fin 4)].length + [(1 : Word), 2].length ∧ (s.helm .a).svc.inService = true) := by
  decide +kernel

theorem meets_SagsAndFieldSupply : (up.pont 0).running = true ∧ (up.pont 0).sag.getLsbD 3 = false ∧ (up.pont 0).sag.getLsbD (Sag.ix .dark) = false
    ∧ ((p0 up (fun x => { x with sag := 8 })).pont 0).sag.getLsbD (Sag.ix .dark) = true ∧ (up.pont 0).vfOver = false
    ∧ ((p0 up Pont.lost).pont 0).running = false := by decide +kernel

/-- Helm B holds alone, with the halt of Helm A still to be applied. -/
def waitS : State :=
  (svcB (up.modHelm .a (fun x => { x with svc := .halted })) .holding).modHelm .b (fun x => { x with hs := { x.hs with
    evs := [{ at_ := ⟨100, 90⟩, ev := .helmHalt .a 4 }] } })

theorem meets_HaltsAndDebugClose : up.live = true ∧ (up.helm .b).svc ≠ .halted ∧ ((svcB up .halted).helm .b).svc = .halted
    ∧ (up.helm .a).svc.inService = true ∧ (up.helm .a).silent = false ∧ up.tb.counting = true
    ∧ ((up.modHelm .a (fun x => { x with tokenAt := 98 })).helm .a).tokenAt + 2 ≤ up.tb.crossing
    ∧ up.tb.crossing < (up.helm .a).tokenAt + 2 ∧ ((svcB up .debug).helm .b).svc = .debug
    ∧ (((svcB up .debug).helm .a).svc.inService = true)
    ∧ (((svcB up .debug).modHelm .a (fun x => { x with svc := .halted })).helm .a).svc.inService = false
    ∧ (up.helm .a).runs = true ∧ (waitS.helm .b).svc.inService = true ∧ (waitS.helm .a).svc.inService = false
    ∧ (waitS.helm .a).runs = false ∧ (waitS.helm .b).svc.computes = true ∧ ((svcB up .joining).helm .b).runs = false
    ∧ (waitS.helm .b).waitingHalts.filter (fun e => e.1 = .a) = [(.a, ⟨100, 90⟩, 4)] ∧ waitS.com.holdUp = false
    ∧ waitS.com.slipQ.length < 3 ∧ (waitS.helm .b).svc ≠ .halted ∧ waitS.live = true
    ∧ (up.helm .b).waitingHalts.filter (fun e => e.1 = .a) = [] := by decide +kernel

/-- In the first background window of a test passage. -/
def winS : State := { upS 215 false with outcomes := [{ key := (102, true) }] }

/-- A helm with a stroke token that waits. -/
def tok (s : State) (h : HelmId) (u k : Stamp) : State := s.modHelm h (fun x => { x with strokeReg := some u, strokeSlip := [k] })

theorem meets_StrokeTokensAndBackground : up.live = true ∧ (up.helm .a).svc ≠ .halted ∧ (up.helm .a).svc ≠ .debug
    ∧ ((tok up .a ⟨100, 98⟩ ⟨100, 100⟩).helm .a).strokeSlip = ⟨100, 100⟩ :: [] ∧ (⟨100, 100⟩ : Stamp) ≠ Stamp.nextStroke ⟨100, 98⟩
    ∧ (⟨100, 100⟩ : Stamp) = Stamp.nextStroke ⟨100, 99⟩ ∧ (⟨101, 0⟩ : Stamp) = Stamp.nextStroke ⟨100, 255⟩
    ∧ ((tok (svcB up .joining) .b ⟨100, 99⟩ ⟨100, 100⟩).helm .b).svc.inService = true
    ∧ ((tok (svcB up .joining) .b ⟨100, 99⟩ ⟨100, 100⟩).helm .b).svc.computes = false ∧ (up.helm .a).painterOk = true
    ∧ (let s := up.modHelm .b (fun x => { x with links := { x.links with painterSlip := [⟨false, 5⟩] } })
       (s.helm .b).links.painterSlip = [⟨false, 5⟩])
    ∧ ((up.modHelm .a (fun x => { x with waitA := List.replicate 3 (1, ⟨.ok, 3, 5, [], none⟩) })).helm .a).waiting .hpa ≠ []
    ∧ (⟨100, 100⟩ : Stamp).background = false ∧ (winS.modHelm .b (fun x => x)).testWindow .b = true
    ∧ ((tok start0 .a ⟨100, 99⟩ ⟨100, 100⟩).helm .a).svc.inService = false ∧ start0.com.holdUp = false
    ∧ ((tok up .a ⟨100, 99⟩ ⟨100, 100⟩).helm .a).svc.computes = true ∧ up.testWindow .b = false ∧ winS.testWindow .b = true
    ∧ (32 ≤ up.tb.stroke ∧ up.tb.stroke < 208) ∧ (upS 208 false).testWindow .b = false ∧ (upS 31 false).testWindow .b = false
    ∧ (208 ≤ (upS 208 false).tb.stroke ∧ (upS 31 false).tb.stroke < 32) ∧ (⟨100, 208⟩ : Stamp).background = true
    ∧ (up.helm .b).stepNow (up.lead .b) = 0 ∧ ((up.modHelm .a (fun x => { x with bgStep := 4 })).helm .a).stepNow (up.lead .a) = 4
    ∧ ((up.modHelm .b (fun x => { x with bgStep := 6 })).helm .b).stepNow (up.lead .b) = 6 := by decide +kernel

/-- A helm out of service whose self-test has failed. -/
def failed : State := start0.modHelm .b (fun x => { x with bistFail := true })

theorem meets_TestPassagesAndSelfTests : up.live = true ∧ (up.helm .a).svc.computes = true
    ∧ ((up.modHelm .a (fun x => { x with tests := [(99, true)] })).helm .a).tests = (99, true) :: []
    ∧ (208 ≤ (upS 208 false).tb.stroke ∨ (upS 208 false).tb.stroke < 32) ∧ (upS 31 false).tb.stroke < 32
    ∧ (up.com.holdUp = false ∧ (up.com.slip .a).length < 8 ∧ (up.helm .a).recQ = [] ∧ (up.helm .a).testRecs = [])
    ∧ (8 ≤ (({ up with com := { slipA := List.replicate 8 recT } } : State).com.slip .a).length)
    ∧ (let s := up.modHelm .a (fun x => { x with strokeSlip := [⟨100, 210⟩], testRecs := [(99, true)], recQ := [{ recT with code := 0x022 }] })
       (s.helm .a).strokeSlip = [⟨100, 210⟩] ∧ (s.helm .a).strokeReg = none ∧ (s.helm .a).testRecs = [(99, true)]
         ∧ (s.helm .a).recQ = [{ recT with code := 0x022 }])
    ∧ (up.helm .a).tests = [] ∧ winS.outcomes = { key := (102, true) } :: []
    ∧ (∀ r ∈ winS.outcomes, winS.tb.crossing < r.key.1 ∨ (winS.tb.crossing = r.key.1 ∧ winS.tb.stroke < 64))
    ∧ (100 < up.tb.crossing ∨ (100 = up.tb.crossing ∧ 64 ≤ (upS 64 false).tb.stroke)) ∧ up.outcomes = []
    ∧ start0.live = true ∧ (start0.helm .b).svc.inService = false
    ∧ ((start0.modHelm .b (fun x => { x with testing := true })).helm .b).testing = true ∧ (start0.helm .b).svc ≠ .debug ∧ ¬(start0.rst.cause = 7 ∧ start0.rst.firstGiven = false)
    ∧ (failed.helm .b).bistFail = true ∧ (failed.helm .b).joinable = true ∧ (failed.helm .b).testing = false
    ∧ (failed.helm .b).bistTries < (failed.helm .b).retries
    ∧ (failed.helm .b).retries ≤ ((failed.modHelm .b (fun x => { x with bistTries := 3 })).helm .b).bistTries := by
  decide +kernel

/-- A short charter, for copies. -/
def chS : List Word := [0x010002, 0x010000, 5, 0xFF0000]

/-- Another. -/
def chS2 : List Word := [0x010002, 0x010000, 6, 0xFF0000]

/-- Helm B has passed its self-test; three copies. -/
def copies (a b c : Option (List Word)) : State :=
  let w (s : State) (k : Nat) (x : Option (List Word)) : State := match x with | some ch => s.writeCopy k ch | none => s
  w (w (w ((svcB up .starting).modHelm .b (fun x => { x with loaded := false })) 0 a) 1 b) 2 c

theorem meets_TakingTheHelm : start0.live = true ∧ start0.rst.started = true ∧ (start0.helm .a).svc = .starting
    ∧ (start0.helm .a).testing = false ∧ (start0.helm .a).bistFail = false ∧ (start0.helm .a).loaded = true
    ∧ (failed.helm .b).bistFail = true ∧ ((svcB up .starting).helm .a).svc.inService = true
    ∧ ((svcB up .starting).helm .b).svc = .starting ∧ (start0.helm .b).svc.inService = false ∧ start0.rst.firstGiven = false
    ∧ firstPrimary (start0.helm .a).hs.charter = .a ∧ firstPrimary (start0.helm .b).hs.charter ≠ .b
    ∧ start0.rst.firstLate = false ∧ up.rst.firstGiven = true ∧ (start0.helm .a).recQ.length < 63
    ∧ (copies (some chS) (some chS) (some chS)).vote.code = none ∧ start0.helmA.outCause ≠ 8 ∧ start0.helmA.ready = true
    ∧ ((start0.modHelm .a (fun x => { x with ready := false })).helmA.ready = false ∧ start0.helmB.ready = true)
    ∧ ((both start0 (fun hs => { hs with charter := fallbackCharter })).hsOf .a).charter = fallbackCharter
    ∧ isFallback fallbackCharter = true
    ∧ start0.mode ≠ .anchored ∧ (let s := inMode start0 .anchored
       s.mode = .anchored ∧ (s.hsOf s.lastPassage).modes.mode = .anchored) := by decide +kernel

/-- Helm B joining. -/
def joinT (r : Resync) : State := (svcB up .joining).modHelm .b (fun x => { x with resync := r })

theorem meets_Joining : (joinT {}).live = true ∧ ((joinT {}).helm .b).svc = .joining ∧ ((joinT {}).helm .b).painterOk = true
    ∧ ((joinT { retryAt := 100 }).helm .b).resync.retryAt ≤ up.tb.crossing ∧ ((joinT {}).helm .a).svc.computes = true
    ∧ up.tb.crossing < ((joinT { retryAt := 101 }).helm .b).resync.retryAt
    ∧ (joinT { r := some 95, chunks := 4 }).joiner = some .b ∧ (4 < 12 ∧ 99 < (upS 208 false).tb.crossing)
    ∧ (208 ≤ (upS 208 false).tb.stroke ∧ (upS 31 false).tb.stroke < 32 ∧ 32 ≤ up.tb.stroke ∧ up.tb.stroke < 208) ∧ 1024 ≤ 1024 ∧ 1024 < 1025
    ∧ ((joinT { r := some 87, chunks := 12 }).helm .b).resync.chunks = 12 ∧ 87 + 13 ≤ up.tb.crossing ∧ 32 ≤ up.tb.stroke
    ∧ (((joinT { r := some 87, chunks := 12 }).modHelm .a (fun x => { x with passNo := some 100 })).helm .a).passNo
        = some up.tb.crossing
    ∧ ((joinT {}).helm .b).resync.chunks ≠ 12 := by decide +kernel

/-- The charter that a helm would load from three copies, and a state whose charter in force is in none, or in all. -/
def inForceS (ch : List Word) (a b c : Option (List Word)) : State := both (copies a b c) (fun hs => { hs with charter := ch })

/-- A pending charter. -/
def pendT : Pending := { words := chS, gen := 6, at_ := 120, ok := 1, port := .hpa, role := none }

/-- The same in force as pending. -/
def pendS : State := both up (fun hs => { hs with pend := some pendT })

theorem meets_ChartersInNvm :
    (let s := copies (some chS) (some chS) (some chS2)
     s.live = true ∧ (s.helm .b).svc = .starting ∧ (s.helm .b).testing = false ∧ (s.helm .b).loaded = false
       ∧ (s.helm .b).bistFail = false ∧ s.copyOk 0 = true ∧ s.copyOk 1 = true ∧ s.copyOk 2 = true ∧ s.copyWords 0 = s.copyWords 1
       ∧ s.copyWords 1 ≠ s.copyWords 2)
    ∧ (let s := copies (some chS) none none
       s.copyOk 0 = true ∧ s.copyOk 1 = false ∧ s.copyOk 2 = false)
    ∧ (let s := copies (some chS) (some chS2) none
       s.copyOk 0 = true ∧ s.copyOk 1 = true ∧ s.copyOk 2 = false ∧ s.copyWords 0 ≠ s.copyWords 1)
    ∧ (let s := copies (some chS) (some chS2) (some [0xFF0000])
       s.copyOk 2 = true ∧ s.copyWords 0 ≠ s.copyWords 1 ∧ s.copyWords 1 ≠ s.copyWords 2 ∧ s.copyWords 0 ≠ s.copyWords 2)
    ∧ ((copies none none none).toll.wdp = .hiz ∧ (copies none none none).win.landing = none ∧ (copies none none none).banksOk = true)
    ∧ (let s := { copies none none none with nvmA := Bank.writes {} imgBase (imgTableWords [0x000000, 0x800000, 2, 5, 6, 7, 0, 0, 0, 0, 0]) }
       bootOf s.imgTable .b < 2 ∧ imageIntact s.nvmA s.imgTable (bootOf s.imgTable .b) = false
         ∧ imageIntact s.nvmB s.imgTable (bootOf s.imgTable .b) = false)
    ∧ (up.helm .b).loaded = true ∧ (bootOf up.imgTable .b < 2 ∨ 2 ≤ bootOf up.imgTable .b) := by decide +kernel

/-- Copies to be written and to be checked. -/
theorem meets_ChartersInNvmCopies : pendS.leader = some .a ∧ pendS.banksOk = true
    ∧ ((pendS.hsOf .a).pending = some pendT ∧ 1 ≤ pendT.words.length ∧ pendT.words.length ≤ 8192)
    ∧ (pendT.ok.getLsbD 0 = true ∧ pendT.ok.getLsbD 1 = false ∧ pendT.ok.getLsbD 2 = false ∧ pendT.writer ≠ some .a)
    ∧ (let p : Pending := { pendT with wrote := 2, writer := some .a }
       (p.ok.getLsbD 1 || (decide (p.writer = some .a) && p.wrote.getLsbD 1)) = true)
    ∧ (let s := inForceS chS (some chS) (some chS2) none
       s.leader = some .a ∧ s.banksOk = true ∧ (s.hsOf .a).pending = none ∧ (s.hsOf .a).chSource ≠ 3
         ∧ 1 ≤ (s.hsOf .a).charter.length ∧ (s.hsOf .a).charter.length ≤ 8192
         ∧ (s.copyOk 1 = true ∧ s.copyWords 1 ≠ (s.hsOf .a).charter) ∧ s.copyOk 2 = false
         ∧ (s.copyOk 0 = true ∧ s.copyWords 0 = (s.hsOf .a).charter))
    ∧ (let s := inForceS chS (some chS) (some chS) (some chS)
       ∀ d : Fin 3, s.copyOk d = true ∧ s.copyWords d = (s.hsOf .a).charter) := by decide +kernel

theorem meets_Passage : up.live = true ∧ up.tb.counting = true ∧ 32 ≤ (upS 32 false).tb.stroke ∧ 208 < (upS 209 false).tb.stroke
    ∧ (up.helm .a).svc.computes = true ∧ (up.helm .a).passNo ≠ some up.tb.crossing ∧ (up.helm .a).hs.modes.mode ≠ .moored
    ∧ (upS 31 false).tb.stroke < 32 := by decide +kernel

/-- Helms that have not begun the crossing's frames, with reports of the landing before. -/
def atStart (s : State) (r : Option Report) : State :=
  let f (x : Helm) : Helm := { x with begun := some 99, reports := Vector.replicate 4 r, hs := { x.hs with taken := Vector.replicate 4 (some 99) } }
  { s with helmA := f s.helmA, helmB := f s.helmB }

/-- MOORED since a crossing. -/
def mooredS (k : Nat) : State :=
  both (atStart (inMode up .moored) (some repT)) (fun hs => { hs with modes := { hs.modes with since := k } })

/-- A frame of a command and a stamped event that wait. -/
def entT (p : Port) (id c k : Nat) : Entered := ⟨⟨p, 7, .ul2⟩, 0x01, [], ⟨c, k⟩, id, {}⟩

/-- A passage of crossing 99 that no pontoon's report shows landed. -/
def lateS : State :=
  let s := atStart up (some { repT with verdict := .late, hadMan := false })
  s.modHelm .a (fun x => { x with lastCmds := [entT .hpa 41 98 5], lastEvs := [{ at_ := ⟨98, 7⟩, ev := .heard .hpa }] })

theorem meets_PassageManifest :
    (up.helm .a).begun = some up.tb.crossing
    ∧ (let s := atStart up (some repT)
       (s.helm .a).begun ≠ some s.tb.crossing ∧ (s.openPassage .a).inMoored .a s.tb.crossing = false)
    ∧ up.live = true ∧ up.tb.counting = true ∧ 32 ≤ up.tb.stroke ∧ (up.helm .a).passNo ≠ some up.tb.crossing
    ∧ (up.hsOf .a).modes.mode.safe = false ∧ (up.hsOf .a).hl ≠ .lost ∧ ((inMode up .anchored).hsOf .a).modes.mode.safe = true
    ∧ chSafe chT 2 = 1 ∧ chSafe chT 3 = 2 ∧ chSafe chT 5 = 0 := by decide +kernel

theorem meets_PassageAfterMoored :
    [90, 99].all (fun k => decide (((mooredS k).helm .a).begun ≠ some (mooredS k).tb.crossing)
      && ((mooredS k).openPassage .a).inMoored .a (mooredS k).tb.crossing && ((mooredS k).openPassage .a).acts .a
      && !((mooredS k).openPassage .b).acts .b && decide (((mooredS k).helm .a).passNo ≠ some (mooredS k).tb.crossing)) = true
    ∧ (((mooredS 90).openPassage .a).hsOf .a).modes.since + 1 < 100 ∧ 100 ≤ (((mooredS 99).openPassage .a).hsOf .a).modes.since + 1 := by
  decide +kernel

/-- An order's first words: TYPE and target. -/
def ordT (ty t : Nat) (l : List Word) : List Word := wd (ty * 2 ^ 20 + t * 2 ^ 15) :: l ++ List.replicate 6 0

/-- Orders evaluated with outputs at 60 in the manifest and 40 landed, and a report of channel 0 at 30. -/
def runT (v : Bool) : OrdRun :=
  ⟨Vector.replicate 32 60, { hsT with
    reps := Vector.replicate 4 (some { repT with ai := List.replicate 4 { valid := v, latest := 30, uns := false } })
    landed := Vector.replicate 32 40, orders := Vector.replicate 64 { fresh := false, misses := 9, delay := [(99, some true)], changedAt := some 97 } }, false⟩

theorem meets_StandingOrders :
    chOrders (runT true).hs.charter = [(chOrders chT).getD 0 []] ++ [(chOrders chT).getD 1 []] ∧ chOrders fallbackCharter = []
    ∧ [0, 1, 2, 3, 4, 5, 6].all (fun k => bf (ordT k 2 []) 0 23 20 == k && bf (ordT k 2 []) 0 19 15 == 2) = true
    ∧ srcAi (bf (ordT 1 2 [0x210000]) 1 23 16) = false
    ∧ (srcAi (bf (ordT 1 2 [0x800000]) 1 23 16) = true ∧ bf (ordT 1 2 [0x800000]) 1 5 4 = 0)
    ∧ (runT true).hs.srcVal (bf (ordT 1 2 [0x800000]) 1 23 16 - 0x80) 0 = some 30 ∧ (runT false).hs.srcVal 0 0 = none
    ∧ vat (runT true).hs.landed 2 0 ≤ vat (runT true).m 2 0 ∧ vat (runT true).m 2 0 < vat ({ (runT true).hs with landed := Vector.replicate 32 70 } : HelmState).landed 2 0
    ∧ (30 ≤ bs (ordT 3 2 [0x800000, 30, 40]) 2 ∧ bs (ordT 3 2 [0x800000, 20, 30]) 2 < 30 ∧ bs (ordT 3 2 [0x800000, 20, 30]) 3 ≤ 30
        ∧ 30 < bs (ordT 3 2 [0x800000, 20, 40]) 3)
    ∧ (vat (runT true).hs.orders 0 {}).fresh = false ∧ decide ((0 : Int) < 40) ≠ (vat (runT true).hs.orders 0 {}).lastOn
    ∧ (bf (ordT 5 2 [0x008080]) 1 14 7 ≠ 0 ∧ bf (ordT 5 2 [0]) 1 14 7 = 0)
    ∧ (∀ r, vat (runT true).hs.reps (bf (ordT 6 2 []) 1 23 16 / 8) none = some r → r.hails = [])
    ∧ (bf (ordT 6 2 [0x002400]) 1 15 12 ≤ 9 ∧ bf (ordT 6 2 [0x002400]) 1 11 10 = 1 ∧ bf (ordT 6 2 [0x003800]) 1 11 10 = 2)
    ∧ (let e : HailHeard := ⟨0, 2, true, true⟩
       e.input = bf (ordT 6 2 []) 1 23 16 ∧ e.owner = 2 ∧ e.acted = true ∧ e.code = true) := by
  refine ⟨by decide +kernel, by decide +kernel, by decide +kernel, by decide +kernel, by decide +kernel, by decide +kernel,
    by decide +kernel, by decide +kernel, by decide +kernel, by decide +kernel, by decide +kernel, by decide +kernel,
    by decide +kernel, ?_, by decide +kernel, by decide +kernel⟩
  intro r e
  have : some { repT with ai := List.replicate 4 { valid := true, latest := 30, uns := false } } = some r := e
  cases this
  rfl

theorem meets_LandingOrder :
    (let hs := { hsT with cmds := [entT .hpb 42 98 5, entT .hpa 41 98 5, entT .hpa 43 101 5] }
     (hs.cmdsDue 100).map (·.id) = [41, 42])
    ∧ up.tb.stroke < 208 ∧ ((up.hsOf .a).modes.mode ≠ .moored) ∧ (lateS.helm .a).begun ≠ some lateS.tb.crossing
    ∧ (lateS.openPassage .a).inMoored .a 100 = false
    ∧ gives (.passage .a) lateS (fun t => (t.helm .a).svc.computes) true = true := by decide +kernel

theorem meets_DiscardAndRestore :
    (let w := (lateS.openPassage .a).takeReports .a 100
     (w.hsOf .a).discards = true ∧ (w.helm .a).passNo = some 99 ∧ w.acts .a = true ∧ w.keptAt ≠ some 99
       ∧ ({ w with keptAt := some 99 } : State).keptAt = some (100 - 1) ∧ w.acts .b = false
       ∧ (lateS.helm .a).lastCmds = [entT .hpa 41 98 5])
    ∧ (entT .hpa 41 98 5).isCollection = false ∧ (entT .hpa 41 98 5).at_.landing ≤ 100
    ∧ (let w := ((atStart up (some repT)).openPassage .a).takeReports .a 100
       (w.hsOf .a).discards = false)
    ∧ (lateS.helm .a).passNo ≠ some (101 - 1) := by decide +kernel

/-- Timers of which those of HPA and output 2 are due and those of HPB and output 9 are not. -/
def timers : State :=
  both up (fun hs => { hs with
    pulses := (hs.pulses.set 2 (some 100)).set 9 (some 101)
    roleA := { hs.roleA with chal := some ⟨.maker, [1], 0, 100⟩, lockedUntil := some 100, lastHeard := 0 }
    roleB := { chal := some ⟨.maker, [1], 0, 101⟩, lockedUntil := some 101 } })

/-- Host loss one crossing away, in UNDERWAY. -/
def losing : State := both (inMode up .underway) (fun hs => { hs with hlCount := 2 })

/-- A wake read of two samples that is outstanding, and what the bulk slips brought. -/
def wakeOut (k : Nat) (l : List (Nat × Word)) : State :=
  let r : OutReq := { id := 49, tag := tg, ch := 0, off := 0, count := 2, doneAt := k, eff := 9, total := 8 }
  (both up (fun hs => { hs with wakeReads := Vector.replicate 4 [r] })).modHelm .a
    (fun x => { x with bulk := Vector.replicate 4 l })

/-- The same long after. -/
def late : State :=
  let f (x : Helm) : Helm := { x with begun := some 700000 }
  { timers with tb := { timers.tb with crossing := 700000 }, helmA := f timers.helmA, helmB := f timers.helmB }

theorem meets_EventsOfPassages : timers.live = true ∧ (timers.helm .a).svc.computes = true
    ∧ (timers.hsOf .a).pulses[(2 : Fin 32)] = some 100 ∧ 100 ≤ timers.tb.crossing ∧ (timers.hsOf .a).pulses[(9 : Fin 32)] = some 101
    ∧ timers.tb.crossing < 101 ∧ ((timers.hsOf .a).role .hpa).chal = some ⟨.maker, [1], 0, 100⟩
    ∧ ((timers.hsOf .a).role .hpb).lockedUntil = some 101 ∧ bf (chBody (timers.hsOf .a).charter 0x04) 0 15 0 ≠ 0
    ∧ (timers.hsOf .a).heard = [] ∧ (timers.hsOf .a).evs = []
    ∧ (late.hsOf .a).crossings (bf (chBody (late.hsOf .a).charter 0x04) 0 15 0)
      ≤ late.tb.crossing - 2 - ((late.hsOf .a).role .hpa).lastHeard
    ∧ timers.tb.crossing - 2 - ((timers.hsOf .a).role .hpa).lastHeard
      < (timers.hsOf .a).crossings (bf (chBody (timers.hsOf .a).charter 0x04) 0 15 0)
    ∧ (both timers (fun hs => { hs with heard := [(.hpa, 97)] }) |>.hsOf .a).heard = [(.hpa, 97)] ∧ 97 + 2 ≤ 100 ∧ 100 < 97 + 4
    ∧ underWayB timers = true ∧ underWayB late = true := by
  decide +kernel

/-- Host loss, orders and wake reads. -/
theorem meets_EventsOfPassagesLater : underWayB losing = true ∧ underWayB up = true ∧ (losing.hsOf .a).hl = .watching ∧ (chHostLoss (losing.hsOf .a).charter).1 = true
    ∧ (losing.hsOf .a).modes.mode.running = true ∧ (chHostLoss (losing.hsOf .a).charter).2.2 < (losing.hsOf .a).hlCount + 1
    ∧ (up.hsOf .a).hlCount + 1 ≤ (chHostLoss (up.hsOf .a).charter).2.2
    ∧ bf ((chOrders (up.hsOf .a).charter).getD 0 []) 0 23 20 = 6 ∧ (vat (up.hsOf .a).orders 0 {}).failed = false
    ∧ (vat (up.hsOf .a).orders 0 {}).misses + 1 < bf ((chOrders (up.hsOf .a).charter).getD 0 []) 1 15 12
    ∧ bf ((chOrders (up.hsOf .a).charter).getD 0 []) 1 11 10 = 1 ∧ bf ((chOrders (up.hsOf .a).charter).getD 1 []) 1 11 10 = 2
    ∧ (let got (s : State) := (List.range 2).filterMap (fun j => assocGet (s.helm .a).bulk[(0 : Fin 4)] (0 + j))
       (got (wakeOut 100 [(0, 7), (1, 9), (2, 4)])).length = 2 ∧ (got (wakeOut 100 [(0, 7), (2, 4)])).length < 2)
    ∧ ((wakeOut 100 []).hsOf .a).wakeReads[(0 : Fin 4)].length = 1 ∧ 100 ≤ up.tb.crossing ∧ up.tb.crossing < 101
    ∧ ((wakeOut 100 []).hsOf .a).wakeReads[(0 : Fin 4)].all (fun r => r.off + r.count ≤ r.total && r.tag.gen != .ul1) = true := by
  decide +kernel

/-- Helm B holds in place of the primary, which stands by again. -/
def back : State :=
  { (both (up.modHelm .a (fun x => { x with svc := .standby })) (fun hs => { hs with
      red := { hs.red with view := some .b, svcA := .standby, svcB := .holding, retOn := true } })).modHelm .b
        (fun x => { x with svc := .holding }) with holder := some .b }

theorem meets_ProvenAndReturn :
    (let s := both (svcB up .proving) (fun hs => { hs with red := { hs.red with proveLeft := 1 } })
     s.live = true ∧ (s.helm .a).svc.computes = true ∧ (s.hsOf .a).red.svc .b = .proving ∧ (s.hsOf .a).red.proveLeft ≤ 1
       ∧ (s.hsOf .a).red.doubleFail = none)
    ∧ (up.hsOf .a).red.svc .b ≠ .proving ∧ chPrimary (back.hsOf .a).charter = some .a ∧ (back.hsOf .a).red.svc .a = .standby
    ∧ (back.hsOf .a).red.view = some (otherHelm .a) ∧ (back.hsOf .a).red.retOn = true ∧ (back.hsOf .a).red.retLeft = 0
    ∧ (back.hsOf .a).red.retHold = false ∧ (back.hsOf .a).red.arb = none ∧ (up.hsOf .a).red.retOn = false := by decide +kernel

theorem meets_StepKeepsBanks : up.banksOk = true ∧ (comT { slipQ := [recT] }).banksOk = true := by decide +kernel

theorem meets_StepKeepsSlips : up.slipsOk = true ∧ (fullA up).slipsOk = true
    ∧ (upK up.toll (List.replicate 8 ⟨3, .hpa, 9, ⟨99, 5⟩⟩)).slipsOk = true := by decide +kernel

theorem meets_LandedChangesOnlyAtLandings : (∃ t, exec (.overcurrent ⟨2, 2000⟩) up = .next t) ∧ Instr.overcurrent ⟨2, 2000⟩ ≠ .landing 0
    ∧ Instr.overcurrent ⟨2, 2000⟩ ≠ .logicStop 0 ∧ Instr.overcurrent ⟨2, 2000⟩ ≠ .pontoonRestart 0 ∧ (∀ h, Instr.overcurrent ⟨2, 2000⟩ ≠ .beat 0 h) :=
  ⟨⟨_, rfl⟩, by decide, by decide, by decide, fun _ => nofun⟩

/-- Output 2 in a protection state. -/
def upP (x : Prot) (n : Nat) : State := p0 up (fun y => y.modOut 2 (fun o => { o with prot := x, retry := n }))

theorem meets_OutputFlagsAndProtection : (up.pont (pontOf 2)).running = true ∧ isSwitch 2 = true ∧ isSwitch 1 = false
    ∧ 0 < (vat (up.pont 0).outs 2 {}).landed ∧ 1000 < 1001 ∧ (vat (up.pont 0).outs 2 {}).prot = .normal
    ∧ (vat ((upP .cooling 1).pont 0).outs 2 {}).prot = .cooling ∧ 0 < (vat ((upP .cooling 1).pont 0).outs 2 {}).retry
    ∧ (vat ((upP .cooling 0).pont 0).outs 2 {}).retry = 0 ∧ (up.pont (pontOf 1)).running = true := by decide +kernel

/-- Pontoon 0 in a hail crossing of output 2. -/
def upH : State := p0 up (fun x => { x with crossing := 66 })

theorem meets_HailSlots : (upH.pont 0).running = true ∧ bf (upH.pont 0).outRec 32 23 12 ≠ 0
    ∧ (upH.pont 0).crossing % bf (upH.pont 0).outRec 32 23 12 < 32 ∧ 2 ≤ (2 : Fin 8).val
    ∧ 8 * (0 : Fin 4).val + (2 : Fin 8).val = (upH.pont 0).crossing % bf (upH.pont 0).outRec 32 23 12
    ∧ bb (upH.pont 0).outRec 2 10 = true ∧ (upH.pont 0).level 2 = 5
    ∧ ((p0 up (fun x => { x with slotOf := some 2 })).pont 0).slotOf ≠ none ∧ (up.pont 0).slotOf = none := by decide +kernel

/-- An attachment whose closing instruction waits, with no helm in service, before a landing. -/
def closeS : State :=
  (((svcB (upS 239 false) .debug).modHelm .b (fun x => { x with closing := true })).modHelm .a (fun x => { x with svc := .halted }))

theorem meets_HaltsAndDebugCloseLater : closeS.tb.stroke = 239 ∧ (closeS.helm .b).closing = true ∧ (closeS.helm .a).closing = false
    ∧ (closeS.helm .a).svc.inService = false ∧ (closeS.helm .b).svc.inService = false ∧ closeS.tb.tides = true
    ∧ closeS.rst.started = true ∧ closeS.rst.firstGiven = true ∧ closeS.tb.counting = true ∧ closeS.tb.ts ≠ .dead ∧ closeS.live = true := by decide +kernel

/-- Both helms out of service after an attachment of both. -/
theorem meets_TakingTheHelmAfterDebug :
    (let s : State := { start0 with rst := up.rst, helmA := { start0.helmA with outCause := 8 }, helmB := { start0.helmB with outCause := 8 } }
     s.helmA.outCause = 8 ∧ s.helmB.outCause = 8 ∧ s.rst.firstGiven = true ∧ (s.helm .b).svc.inService = false
       ∧ (s.helm .a).svc = .starting ∧ s.live = true) := by decide +kernel

/-- The helm states changed and nothing else. -/
def hw (f : HelmState → HelmState) : State := both up f

/-- In host loss. -/
def lost : State := hw (fun hs => { hs with hl := .lost, hlCount := 4, landed := hs.landed.set 2 1, charter := chU })

theorem meets_HostCommandsComplete : up.takes .a tg .status ∧ (inMode up .berthed).takes .a tg (.charterDiscard) :=
  ⟨takes_of (by decide +kernel), takes_of (by decide +kernel)⟩

theorem modeStands_up (g : HelmId) : up.modeStands g := by
  unfold State.modeStands ModeSt.same; cases g <;> decide +kernel

theorem settled_up : up.settled := settled_of (by decide +kernel)

theorem meets_HostCommandsCompleteRefused : up.live = true ∧ settledB up = true ∧ underWayB up = true ∧ (up.helm .a).svc.computes = true
    ∧ up.checkCmd (up.ctxOf .a tg) (.readWindow 0 100) = some .lenOver
    ∧ (up.helm .b).svc.computes = true ∧ up.checkCmd (up.ctxOf .b tg) (.readWindow 0 100) = some .lenOver
    ∧ (let s := hw (fun hs => { hs with roleA := {} }); s.checkCmd (s.ctxOf .a tg) (.setMode 1) = some .roleDenied)
    ∧ (inMode up .underway).checkCmd ((inMode up .underway).ctxOf .a tg) (.setOutputs 1 4 4) = some .modeDenied := by
  decide +kernel

/-- Frames of alive values 3, answered, and 2, not yet. -/
def heldS : State := hw (fun hs => { hs with heldA := [⟨30, 3, 5, some ⟨.ok, 3, 5, [1], none⟩⟩, ⟨31, 2, 5, none⟩] })

theorem meets_ReadsAndCollection : up.takes .a tg .status ∧ up.takes .a tg (.readWindow 0 60)
    ∧ up.takes .a tg (.readWindow 0x7FF 2) ∧ up.takes .a tg (.charterRead 0 0 9) ∧ up.takes .a tg (.charterRead 0 8000 9)
    ∧ heldS.live = true ∧ (heldS.helm .a).svc.computes = true ∧ tg.gen = .ul2
    ∧ (let last (k : Byte) := (((((heldS.hsOf .a).hold ((heldS.waiting .a tg).getD ⟨tg, 0x01, [k], heldS.now, heldS.nextId, {}⟩)).held
        tg.port).filter (fun x => x.id ≠ heldS.nextId)).reverse.find? (fun x => x.alive = k))
       ({ heldS with tb := { heldS.tb with stroke := 215 } } : State).now.background = true ∧ heldS.now.background = false
         ∧ heldS.testWindow .a = false ∧ last 9 = none ∧ (last 2).map (·.reply) = some none ∧ (last 3).map (·.reply) = some (some ⟨.ok, 3, 5, [1], none⟩)) :=
  ⟨takes_of (by decide +kernel), takes_of (by decide +kernel), takes_of (by decide +kernel), takes_of (by decide +kernel),
    takes_of (by decide +kernel), by decide +kernel⟩

/-- In the first background window of a test passage of both helms. -/
theorem meets_ReadsAndCollectionInWindow :
    (let s : State := { upS 215 false with outcomes := [{ key := (102, true), nameA := true, nameB := true }] }
     s.testWindow .a = true ∧ s.live = true ∧ (s.helm .a).svc.computes = true) := by decide +kernel

theorem meets_WindowWrites : up.takes .a tg (.writeWindow 0x7FF [1, 2]) ∧ (1 < [(1 : Word), 2].length ∧ 0x7FF < 0x7FF + 1)
    ∧ (∀ i, i < [(1 : Word)].length → 0x7FE + i ≤ 0x7FF) ∧ winDefined 0x7FE = false ∧ up.takes .a tg (.writeWindow 0x7FE [1])
    ∧ up.takes .a tg (.writeWindow 0x030 [1, 0xFFFE00])
    ∧ (∀ i, i < [(1 : Word), 0xFFFE00].length → 0x030 + i ≤ 0x7FF ∧ winDefined (0x030 + i) = true)
    ∧ up.takes .a tg (.writeWindow 0x030 [5]) ∧ up.soleActor .a ∧ up.takes .a tg (.writeWindow 0x020 [0xFFFFFF])
    ∧ up.takes .a tg (.writeWindow 0x026 [0xFFFFFF]) ∧ up.takes .a tg (.writeWindow 0x031 [0xFFFFFF])
    ∧ up.takes .a tg (.writeWindow (0x130 + (15 : Fin 16).val) [oneBit 20]) ∧ up.landingsRun = true
    ∧ (up.tb.w1c = 0 ∧ up.tb.fresh = 0) :=
  ⟨takes_of (by decide +kernel), by decide, by decide, by decide +kernel, takes_of (by decide +kernel),
    takes_of (by decide +kernel), by decide +kernel, takes_of (by decide +kernel),
    up_soleActor, takes_of (by decide +kernel), takes_of (by decide +kernel), takes_of (by decide +kernel),
    takes_of (by decide +kernel), by decide +kernel, by decide +kernel⟩

theorem meets_OutputAndPropCommands : (up.hsOf .a).hl = .watching ∧ chOutAuth (up.hsOf .a).charter = 2
    ∧ (up.hsOf .a).auth = some tg.port ∧ (up.hsOf .a).takeover = none ∧ up.takes .a tg (.setOutputs 0 0xFCFCFCFC 5)
    ∧ up.takes .a tg (.setOutputs 1 4 4) ∧ up.takes .a tg (.setOutputs 2 4 4) ∧ up.takes .a tg (.pulse 31 100)
    ∧ up.takes .a tg (.setProp [⟨BitVec.ofNat 8 (0 + (7 : Fin 8).val), 0x1000⟩])
    ∧ up.takes .a tg (.setProp [⟨BitVec.ofNat 8 (128 + (0 : Fin 8).val), 0x1000⟩])
    ∧ up.takes .a tg (.setProp [⟨BitVec.ofNat 8 (64 + (0 : Fin 8).val), 0x1000⟩])
    ∧ (lost.hsOf .a).hl ≠ .watching ∧ chOutAuth (lost.hsOf .a).charter ≠ 2 ∧ lost.takes .a tg (.setOutputs 0 4 4) :=
  ⟨by decide +kernel, by decide +kernel, by decide +kernel, by decide +kernel, takes_of (by decide +kernel),
    takes_of (by decide +kernel), takes_of (by decide +kernel), takes_of (by decide +kernel), takes_of (by decide +kernel),
    takes_of (by decide +kernel), takes_of (by decide +kernel), by decide +kernel, by decide +kernel,
    takes_of (by decide +kernel)⟩

/-- BERTHED with MOORED_EN in the charter. -/
def moorS : State := both (inMode up .berthed) (fun hs => { hs with charter := patch chT [(9, 0x800000)] })

theorem meets_SetMode : up.takes .a tg (.setMode 1) ∧ up.modeMove .a up.tb.crossing (1 : Byte).toNat = some (some .berthed)
    ∧ Mode.berthed ≠ .moored ∧ ((up.hsOf .a).modes.openAt up.tb.crossing).old = (up.hsOf .a).modes.mode
    ∧ up.takes .a tg (.setMode 3) ∧ up.takes .a tg (.setMode 2)
    ∧ (∀ g : HelmId, up.checkCmd (up.ctxOf g tg) (.setMode 3) = none ∧ up.modeMove g up.tb.crossing (3 : Byte).toNat = none)
    ∧ (∀ g : HelmId, up.checkCmd (up.ctxOf g tg) (.setMode 2) = none ∧ up.modeMove g up.tb.crossing (2 : Byte).toNat = some none)
    ∧ (∀ g : HelmId, (up.helm g).svc.computes = true → up.modeStands g)
    ∧ moorS.takes .a tg (.setMode 0) ∧ moorS.modeMove .a moorS.tb.crossing (0 : Byte).toNat = some (some .moored)
    ∧ ((moorS.hsOf .a).modes.openAt moorS.tb.crossing).old = (moorS.hsOf .a).modes.mode :=
  ⟨takes_of (by decide +kernel), by decide +kernel, by decide, by decide +kernel, takes_of (by decide +kernel),
    takes_of (by decide +kernel), fun g => by cases g <;> decide +kernel, fun g => by cases g <;> decide +kernel,
    fun g _ => modeStands_up g, takes_of (by decide +kernel), by decide +kernel, by decide +kernel⟩

/-- A challenge for INSTALLER on HPA, two failures before. -/
def chalS : State := hw (fun hs => { hs with roleA := { hs.roleA with chal := some ⟨.installer, [1], 0, 900⟩, fails := 2 } })

/-- A response of 32 bytes passes the checks, whatever its bytes. -/
theorem chalS_takes {r : List Byte} (h : r.length = 32) : chalS.takes .a tg (.roleResponse r) := by
  have e : chalS.takes .a tg (.roleResponse (List.replicate 32 0)) := takes_of (by decide +kernel)
  have b : (Cmd.roleResponse r).paramBad = (Cmd.roleResponse (List.replicate 32 0)).paramBad := by simp [Cmd.paramBad, h]
  have k := e.2.2.2.2
  refine ⟨e.1, e.2.1, e.2.2.1, e.2.2.2.1, ?_⟩
  unfold State.checkCmd at k ⊢
  rw [b]
  exact k

theorem meets_RoleCommands : up.takes .a tg (.roleChallenge 2) ∧ ((up.hsOf .a).role tg.port).lockedUntil = none
    ∧ (roleKey (up.hsOf .a).charter (roleOf 2)).isSome = true
    ∧ (∃ c key resp, chalS.takes .a tg (.roleResponse resp) ∧ ((chalS.hsOf .a).role tg.port).chal = some c
        ∧ roleKey (chalS.hsOf .a).charter c.role = some key ∧ hmac256 key (roleMsg c tg.port) = resp)
    ∧ (∃ c key resp, chalS.takes .a tg (.roleResponse resp) ∧ ((chalS.hsOf .a).role tg.port).chal = some c
        ∧ roleKey (chalS.hsOf .a).charter c.role = some key ∧ hmac256 key (roleMsg c tg.port) ≠ resp
        ∧ 3 ≤ ((chalS.hsOf .a).role tg.port).fails + 1 ∧ ((chalS.hsOf .a).role tg.port).lockedUntil = none)
    ∧ up.takes .a tg .roleDrop := by
  obtain ⟨key, hk⟩ := Option.isSome_iff_exists.mp
    (by decide +kernel : (roleKey (chalS.hsOf .a).charter .installer).isSome = true)
  refine ⟨takes_of (by decide +kernel), by decide +kernel, by decide +kernel,
    ⟨⟨.installer, [1], 0, 900⟩, key, _, chalS_takes (hmac256_length _ _), by decide +kernel, hk, rfl⟩, ?_,
    takes_of (by decide +kernel)⟩
  by_cases e : hmac256 key (roleMsg ⟨.installer, [1], 0, 900⟩ tg.port) = List.replicate 32 0
  · exact ⟨⟨.installer, [1], 0, 900⟩, key, List.replicate 32 1, chalS_takes rfl, by decide +kernel, hk,
      by rw [e]; decide, by decide +kernel, by decide +kernel⟩
  · exact ⟨⟨.installer, [1], 0, 900⟩, key, List.replicate 32 0, chalS_takes rfl, by decide +kernel, hk, e,
      by decide +kernel, by decide +kernel⟩

/-- A draft of HPA. -/
def draftS : State := hw (fun hs => { hs with draft := some ⟨.hpa, patch fallbackCharter [(2, 6)]⟩ })

/-- A draft of HPB. -/
def draftB : State := hw (fun hs => { hs with draft := some ⟨.hpb, [1]⟩ })

/-- The crossing of the landing that brings the draft. -/
def commitAt : Nat := 100 + commitDelay chT

theorem meets_CharterCommands : up.takes .a tg (.charterWrite 0 [1, 2]) ∧ (up.hsOf .a).pend = none
    ∧ (up.hsOf .a).foreignDraft tg.port = false ∧ draftB.takes .a tg (.charterWrite 0 [1, 2])
    ∧ (draftB.hsOf .a).foreignDraft tg.port = true ∧ draftS.takes .a tg .charterDiscard
    ∧ (let d : Draft := ⟨.hpa, patch fallbackCharter [(2, 6)]⟩
       let hs := draftS.hsOf .a
       draftS.takes .a tg (.charterCommit 6 (wd commitAt) (chCrc (chTrim d.words))) ∧ hs.pend = none ∧ hs.draft = some d
       ∧ d.owner = tg.port ∧ atLanding ((draftS.ctxOf .a tg).L + commitDelay hs.charter) (wd commitAt) = some commitAt
       ∧ (6 : Word) = nextGen (chGen hs.charter) ∧ chGen (chTrim d.words) = 6
       ∧ judgeDraft d.words hs.charter (decide ((hs.role tg.port).held = some .maker)) = none
       ∧ budgetOver (chTrim d.words) = false)
    ∧ draftB.takes .a tg .charterDiscard ∧ draftB.takes .a tg (.charterCommit 6 0 0) ∧ pendS.takes .a tg (.charterWrite 0 [1])
    ∧ pendS.takes .a tg .charterDiscard ∧ pendS.takes .a tg (.charterCommit 6 0 0) ∧ (pendS.hsOf .a).pend ≠ none :=
  ⟨takes_of (by decide +kernel), by decide +kernel, by decide +kernel, takes_of (by decide +kernel), by decide +kernel,
    takes_of (by decide +kernel), ⟨takes_of (by decide +kernel), by decide +kernel⟩, takes_of (by decide +kernel),
    takes_of (by decide +kernel), takes_of (by decide +kernel), takes_of (by decide +kernel), takes_of (by decide +kernel),
    by decide +kernel⟩

theorem meets_QuayAndBlackboxCommands : up.soleActor .a ∧ up.takes .a tg (.tollConfig 1 0x1000 0x1000 10 0)
    ∧ up.takes .a tg .syncIssue ∧ up.takes .a tg (.hostMark 1 2 3) ∧ (inMode up .berthed).takes .a tg .markClear ∧ (inMode up .berthed).soleActor .a
    ∧ up.takes .a tg (.checkConfig 3 1 8 1 7 0 0) ∧ up.takes .a tg (.checkRead 3 1)
    ∧ up.takes .a tg (.blackboxRead 0 0xFFFF 7) ∧ up.takes .a tg (.blackboxRead 1 3 1) ∧ HelmId.a = .a :=
  ⟨up_soleActor, takes_of (by decide +kernel), takes_of (by decide +kernel), takes_of (by decide +kernel),
    takes_of (by decide +kernel),
    by unfold State.soleActor; decide +kernel, takes_of (by decide +kernel),
    takes_of (by decide +kernel), takes_of (by decide +kernel), takes_of (by decide +kernel), rfl⟩

/-- Reports of every pontoon, and room in the schedule for a snapshot. -/
def repS : State :=
  hw (fun hs => { hs with reps := Vector.replicate 4 (some repT), charter := patch chT [(196 + 65, 0xFFFFFF)] })

/-- A capture that has not ended, and a converter fault. -/
def fillS : State := hw (fun hs => { hs with reps := Vector.replicate 4 (some { repT with wake := .filling, ckFault := true }) })

/-- Four reads of a complete capture outstanding. -/
def fullS : State := both repS (fun hs => { hs with wakeReads := Vector.replicate 4 (List.replicate 4 readT) })

theorem meets_MeasureCommands : repS.takes .a tg (.analogSnapshot 15)
    ∧ freeSlot ((repS.hsOf .a).charterAt ((repS.ctxOf .a tg).L + 1)) (15 / 4) = true
    ∧ (vat (repS.hsOf .a).snaps (15 / 4) []).length < 2 ∧ vat (repS.hsOf .a).reps (15 / 4) none = some repT
    ∧ repT.ckFault = false ∧ (repT.ai[15 % 4]?).map (·.uns) = some false
    ∧ up.takes .a tg (.wakeArm 3 1 0 0 0 100) ∧ (0 : Byte) ≠ 0xFF ∧ wakeBad (up.hsOf .a).charter 3 1 0 0 100 = false
    ∧ up.takes .a tg (.wakeArm 3 0 0xFF 0 0 1) ∧ repS.takes .a tg (.wakeRead 3 0 1) ∧ repT.wake = .complete
    ∧ (vat (repS.hsOf .a).wakeReads 3 []).length < 4 ∧ up.takes .a tg (.wakeRead 3 0 1)
    ∧ vat (up.hsOf .a).reps 3 none = none
    ∧ (∀ r, vat (fillS.hsOf .a).reps 3 none = some r → r.wake ≠ .complete) ∧ fillS.takes .a tg (.wakeRead 3 0 1)
    ∧ fillS.takes .a tg (.analogSnapshot 15) ∧ (∃ r, vat (fillS.hsOf .a).reps 3 none = some r ∧ r.ckFault = true)
    ∧ 4 ≤ (vat (fullS.hsOf .a).wakeReads 3 []).length ∧ fullS.takes .a tg (.wakeRead 3 0 1) :=
  ⟨takes_of (by decide +kernel), by decide +kernel, by decide +kernel, by decide +kernel, by decide +kernel,
    by decide +kernel, takes_of (by decide +kernel), by decide, by decide +kernel, takes_of (by decide +kernel),
    takes_of (by decide +kernel), by decide +kernel, by decide +kernel, takes_of (by decide +kernel), by decide +kernel,
    by intro r e; cases (e : some { repT with wake := .filling, ckFault := true } = some r); decide, takes_of (by decide +kernel),
    takes_of (by decide +kernel), ⟨_, rfl, rfl⟩, by decide +kernel, takes_of (by decide +kernel)⟩

/-- Image slot 0 in a state; both helms have booted from the fallback image. -/
def imgS (w : Word) : State := hw (fun hs => { hs with imgTab := [0xF00000, w, 5, 6, 7, 8, 0, 0, 0, 0, 0] })

theorem meets_FirmwareCommands : (imgS 0x400000).takes .a tg (.stageData 5 [1, 2])
    ∧ (((imgS 0x400000).hsOf .a).staging tg.port).toOption = some 0 ∧ slotState ((imgS 0x400000).hsOf .a).imgTab 0 = 1
    ∧ (imgS 0).takes .a tg (.stageData 5 [1, 2]) ∧ slotState ((imgS 0).hsOf .a).imgTab 0 ≠ 1
    ∧ (((imgS 0).hsOf .a).staging tg.port).toOption = some 0 ∧ (imgS 0x400000).soleActor .a ∧ (imgS 0).soleActor .a
    ∧ (imgS 0x400000).takes .a tg (.stageFinish 3 0 1)
    ∧ (imgS 0x800000).takes .a tg (.fwSwap 2) ∧ helmOf 2 = some .b ∧ ((imgS 0x800000).hsOf .a).red.view ≠ some .b
    ∧ ((imgS 0x800000).hsOf .a).red.svc .b = .standby
    ∧ (let t := ((imgS 0x800000).hsOf .a).imgTab
       bootOf t .a = bootOf t .b ∧ (stagingSlot t).getD 3 = 0 ∧ slotState t 0 = 2 ∧ bootFormat t 0 = bootFormat t ((imgS 0x800000).helm (otherHelm .b)).boot.toNat) :=
  ⟨takes_of (by decide +kernel), by decide +kernel, by decide +kernel, takes_of (by decide +kernel), by decide +kernel,
    by decide +kernel, by unfold State.soleActor; decide +kernel, by unfold State.soleActor; decide +kernel,
    takes_of (by decide +kernel), takes_of (by decide +kernel), by decide +kernel, by decide +kernel,
    by decide +kernel, by decide +kernel⟩

/-- One write that waits for a landing that keeps its passage. -/
def upWrite : State := { upDue with pending := [.stroke], nvmDue := [⟨true, true, 6, [2, 3]⟩] }

theorem meets_FirmwareCommandsLanding : upWrite.pending = [.stroke] ∧ upWrite.keeps upWrite.tb.crossing = true ∧ upWrite.banksOk = true
    ∧ upWrite.tb.stroke = 239 ∧ upWrite.helmA.closing = false ∧ upWrite.live = true ∧ upWrite.nvmDue = [⟨true, true, 6, [2, 3]⟩]
    ∧ 6 + [(2 : Word), 3].length ≤ bankWords ∧ 1 < [(2 : Word), 3].length := by decide +kernel

/-- Helm B in STARTING with its self-test failed. -/
def failB : State := (svcB up .starting).modHelm .b (fun x => { x with bistFail := true })

theorem meets_HelmCommandsLater : failB.takes .a tg (.selftest 2 2) ∧ (failB.hsOf .a).red.svc .b = .starting
    ∧ (failB.helm .b).bistFail = true ∧ (∀ r ∈ up.outcomes, r.key ≠ ((up.ctxOf .a tg).L + 2, true))
    ∧ (inMode (svcB up .halted) .berthed).takes .a tg (.debug 3 1) ∧ helmOfCode (3 : Byte).toNat = none
    ∧ ((inMode (svcB up .halted) .berthed).hsOf .a).red.svc .b ≠ .standby :=
  ⟨takes_of (by decide +kernel), by decide +kernel, by decide +kernel, by decide +kernel, takes_of (by decide +kernel),
    by decide +kernel, by decide +kernel⟩

theorem meets_HelmCommands : up.takes .a tg (.handover 2) ∧ helmOf 2 = some .b ∧ (up.hsOf .a).red.view ≠ some .b
    ∧ (up.hsOf .a).red.svc .b = .standby ∧ (up.hsOf .a).red.arb = none ∧ up.takes .a tg (.returnHold 1)
    ∧ up.takes .a tg (.returnHold 0) ∧ up.takes .a tg (.selftest 3 1) ∧ up.soleActor .a ∧ ((3 : Byte).toNat = 3)
    ∧ up.takes .a tg (.selftest 2 2) ∧ helmOfCode (2 : Byte).toNat = some .b ∧ up.takes .a tg (.debug 2 1)
    ∧ (svcB up .debug).takes .a tg (.debug 2 0) ∧ (2 : Byte).toNat = helmCode .b ∧ HelmId.b ≠ .a
    ∧ ((svcB up .debug).hsOf .a).red.svc .b = .debug :=
  ⟨takes_of (by decide +kernel), by decide +kernel, by decide +kernel, by decide +kernel, by decide +kernel,
    takes_of (by decide +kernel), takes_of (by decide +kernel), takes_of (by decide +kernel), up_soleActor, by decide,
    takes_of (by decide +kernel), by decide +kernel, takes_of (by decide +kernel), takes_of (by decide +kernel),
    by decide +kernel, by decide, by decide +kernel⟩

/-! ### Single commands against the spec's worked examples -/

/-- The CRC-16 of the worked example beside R105: after the fold byte, after the marker, and the whole frame. -/
theorem test_crc16_table : crc16 [0x04] = 0xA174 ∧ crc16 [0x04, 0x96] = 0x32B4 ∧ crc16 [0x04, 0x96, 0x01, 0x01, 0x00] = 0x7D0D
    ∧ crc16 [0x04, 0x96, 0x01, 0x01, 0x00, 0x7D, 0x0D] = 0 ∧ crc16 [0x05, 0x96, 0x01, 0x01, 0x00, 0x7D, 0x0D] ≠ 0 := by
  decide +kernel

/-- The cut-off example beside R56. -/
theorem test_cut_off : (Stamp.landing ⟨5000000, 159⟩) = 5000001 ∧ (Stamp.landing ⟨5000000, 160⟩) = 5000002 := by decide

/-- HPA expects an alive value. -/
def expecting (k : Byte) : State := { up with hpa := { up.hpa with alive := k, sel := true } }

/-- Frames F1, F2 and F4 of the table beside R113. -/
theorem test_alive_table : gives (.ul2Frame .hpa (ul2 0x10 0x01 [])) (expecting 0x10) (·.hpa.alive) 0x11 = true
    ∧ gives (.ul2Frame .hpa [0x96, 0x11, 0x01, 0x00, 0x00, 0x00]) (expecting 0x11) (·.hpa.alive) 0x12 = true
    ∧ gives (.ul2Frame .hpa (ul2 0x14 0x01 [])) (expecting 0x13) (·.hpa.alive) 0x15 = true
    ∧ gives (.ul2Frame .hpa (ul2 0x14 0x01 [])) (expecting 0x13) (·.hpa.slipA.length) 0 = true
    ∧ gives (.ul2Frame .hpa (ul2 0x10 0x01 [])) (expecting 0x10) (·.hpa.slipA.length) 1 = true := by decide +kernel

/-- Window 2 of section 13's worked example: tasks 0 and 1 have checked in, and task 1 checks in again at tick 107 400. -/
def turn2 : State :=
  upK { st := .opened, w := 104915, cur := { roster := 7, closed := 1638, opened := 3277, pulse := 100, pol := false }
        enabled := true, wdp := .inactive, checked := 3 } [⟨0xC0A571, .hpa, 107400, ⟨6000000, 100⟩⟩]

/-- The same at 6 000 000:100, power-on being the only reset event before. -/
def turn2At : State :=
  { turn2 with tb := { turn2.tb with crossing := 6000000, stroke := 100 }
               rst := { turn2.rst with tick := 107400, cause := 1, sub := 0, task := 0, count := 1 } }

/-- The double check-in of section 13's worked example: the cause word, PREV_CAUSE, the tick, the pulse and the record. -/
theorem test_toll_double :
    gives .tollCheckIn turn2At (·.rst.causeWord) 0x822002 = true
    ∧ gives .tollCheckIn turn2At (·.rst.prev) 0x100 = true
    ∧ gives .tollCheckIn turn2At (fun s => (s.rst.atC, s.rst.atS, s.rst.atT)) (6000000, 100, 107400) = true
    ∧ gives .tollCheckIn turn2At (fun s => s.com.slipQ.map (fun r => (r.code, r.d0, r.d1, r.d2)))
        [(0x003, 0x240703, 0xC0A571, 0x01A388)] = true
    ∧ gives .tollCheckIn turn2At (fun s => (s.toll.st, s.toll.wdp)) (.pulse, .active) = true := by decide +kernel

/-- The turn of section 13's worked example: complete at the closing tick, and the next window begins there. -/
theorem test_toll_turn :
    gives .tkClosingTick (upK { turn2.toll with w := 100000, checked := 7 } [])
      (fun s => (s.toll.st, s.toll.w, s.toll.checked)) (.closed, 104915, 0) = true := by decide +kernel

/-- The pulse of section 13's worked example, begun at 107 401, ends with tick 110 677, and the next window begins one tick later. -/
theorem test_toll_pulse_end :
    gives .wdpPulseEnd { turn2At with toll := { turn2.toll with st := .pulse, wdp := .active, pulseEnd := 110678 } }
      (fun s => (s.toll.st, s.toll.w, s.toll.wdp)) (.closed, 110678, .inactive) = true := by decide +kernel

/-- The arbitration of section 1's worked example: C = 32 587, tide B 0.8 % fast. -/
theorem test_tide_arbitration :
    (let s : State := { up with tb := { up.tb with cWin := List.replicate 16 32587 } }
     gives (.tideCrossCheck 66060) s (·.tb.ts) (.arbitrate 0) = true
     ∧ gives (.tideArbitration 32586 32847) { s with tb := { s.tb with ts := .arbitrate 0 } }
        (fun t => (t.tb.ts, t.tb.selB)) (.single, false) = true) := by decide +kernel

/-- Helm A in PROVING with one landing to go, Helm B holding, and the reports of a landing that all agree. -/
def proving1 : State :=
  let r : Vector (Option Report) 4 := Vector.replicate 4 (some repT)
  let hs (hs : HelmState) : HelmState := { hs with
    modes := { hs.modes with mode := .singleHanded, old := .singleHanded, prev := .underway, shHelm := true, since := 5 }
    red := { hs.red with view := some .b, svcA := .proving, svcB := .holding, proveLeft := 1 } }
  { up with
    helmA := { up.helmA with svc := .proving, begun := some 99, hs := hs hsT, reports := r }
    helmB := { up.helmB with svc := .holding, begun := some 99, hs := hs hsT, reports := r }
    holder := some .b }

/-- The 1 000th agreed landing of section 5's worked example: the primary stands by and the mode is UNDERWAY from that
landing on, and RETURN_LEFT, set to HOLDOFF there, is first decreased in the passage that judges it. -/
theorem test_proven :
    gives (.passage .b) proving1 (fun s =>
      ((s.hsOf .b).modes.mode, (s.hsOf .b).modes.since, (s.hsOf .b).red.svcA, (s.hsOf .b).red.retLeft))
      (.underway, 99, .standby, 9999) = true := by decide +kernel

/-- The RAMP and LIMIT of section 2's worked example, at landings n, n+1 and n+2. -/
theorem test_ramp_limit :
    (let l : List Word := [0, 0, wd 400000, wd 500000, wd 640000, wd 280000]
     [452000, 460000, 430000].map (fun v => limitCap l (some v)) = [452800, 424000, 532000])
    ∧ (let r : List Word := [0, wd 2000, wd 8000]
       [500000, 452800, 424000].map (fun v => (ramp r {} 640000 v).value) = [502000, 454800, 426000]
       ∧ (ramp r {} 424000 452800).value = 444800) := by decide +kernel

/-- Calibration of section 9's worked example: the 20 mA point and a raw sample of 437 500. -/
theorem test_analog_calibration : aiCorrect 0xFFFB1E 0x3FCD0A 1001870 = 999999 ∧ aiCorrect 0xFFFB1E 0x3FCD0A (-1250) = 0
    ∧ aiCorrect 0xFFFB1E 0x3FCD0A 437500 = 437385 ∧ ofSc 437385 = 0x06AC89 := by decide +kernel

/-- The counter words of section 6's worked example, one metre past the mark. -/
theorem test_counter_words : countWords (BitVec.ofInt 46 (-95493)) = (0x7FFFFF, 0x7E8AFB)
    ∧ countWords (BitVec.ofNat 46 18492220) = (0x000002, 0x1A2B3C) := by decide +kernel

/-- DMAX of section 8's worked example, and the pulse of WDP_PULSE 100. -/
theorem test_dmax : dmaxOf 2048 = 64896 ∧ pulseTicks 100 = 3277 := by decide

/-- A charter vote after a loss of power while copy 2 was written (section 14's worked example, in short copies). -/
theorem test_vote_power_loss :
    (let s := copies (some chS2) none (some chS)
     (s.vote.charter, s.vote.source, wd (s.vote.intact * 2 ^ 21 + s.vote.rewrite * 2 ^ 18 + s.vote.winner * 2 ^ 16))
       = (chS2, 2, 0xB90000) ∧ s.voteD2 s.vote = 5 ∧ chGen s.vote.charter = 6)
    ∧ (copies (some chS2) (some chS) (some chS)).vote.source = 1
    ∧ (copies (some chS2) (some chS) (some chS)).vote.charter = chS := by decide +kernel

/-- Three check-ins of one tick, the first of which expires. -/
def dbl : State :=
  { turn2At with
    hpa := { turn2At.hpa with toll := [⟨0xC0A571, .hpa, 107400, ⟨6000000, 100⟩⟩, ⟨0xC0A572, .hpa, 107400, ⟨6000000, 100⟩⟩] }
    hpb := { turn2At.hpb with toll := [⟨0xC0A570, .hpb, 107400, ⟨6000000, 100⟩⟩] } }

theorem meets_CheckInVerdicts :
    (dbl.nextCheckIn.map (·.1)) = some ⟨0xC0A571, .hpa, 107400, ⟨6000000, 100⟩⟩ ∧ dbl.tollOrder = true
    ∧ (dbl.toll.st = .opened ∧ dbl.toll.w ≤ 107400 ∧ 107400 < dbl.toll.w + dbl.toll.cur.closed + dbl.toll.cur.opened)
    ∧ gives .tollCheckIn dbl (fun u => (u.toll.st, (u.nextCheckIn.map (fun x => (x.1.param, x.1.tick)))))
        (.pulse, some (0xC0A572, 107400)) = true
    ∧ (∀ b ∈ (upK tollT []).hpb.toll.head?, 4500 ≤ b.tick)
    ∧ ((∀ b ∈ up.hpb.toll.head?, 4500 ≤ b.tick) ∧ (∀ a ∈ up.hpa.toll.head?, 4500 < a.tick))
    ∧ (up.toll.st = .idle ∧ (upK up.toll [⟨5, .hpa, 9, ⟨9, 9⟩⟩]).nextCheckIn = some (⟨5, .hpa, 9, ⟨9, 9⟩⟩, up)
        ∧ (upK up.toll [⟨5, .hpa, 9, ⟨9, 9⟩⟩]).tollOrder = true)
    ∧ (let k : Toll := { tollT with st := .pulse, pulseEnd := 4501 }
       k.st = .pulse ∧ 4500 < k.pulseEnd)
    ∧ (0xC0A571 / 16 = 0xC0A57 ∧ tollT.cur.roster.getLsbD 1 = true ∧ tollT.cur.roster.getLsbD 2 = false
        ∧ 4099 < tollT.w + tollT.cur.closed ∧ tollT.w + tollT.cur.closed ≤ 4100 ∧ tollT.w ≤ 4000
        ∧ 6099 < tollT.w + tollT.cur.closed + tollT.cur.opened
        ∧ tollT.checked.getLsbD 0 = true ∧ tollT.checked.getLsbD 1 = false)
    ∧ (tollT.w + tollT.cur.closed + tollT.cur.opened ≤ 6100 ∧ tollT.cur.roster &&& ~~~tollT.checked ≠ 0
        ∧ 6100 < 6100 + (tollT.cur.pulse * 32768 + 999) / 1000)
    ∧ (let k : Toll := { tollT with checked := 3 }
       k.cur.roster &&& ~~~k.checked = 0 ∧ 6100 < 6100 + k.nextCur.closed ∧ k.nextCur.roster.getLsbD 1 = true)
    ∧ ({ upK tollT [⟨5, .hpa, 6100, ⟨9, 9⟩⟩] with rst := { up.rst with tick := 6100 } } : State).tollOrder = true
    ∧ up.nextCheckIn = none := by decide +kernel

end Sys2Proof.Tests
end

section
/-! PROOFS. The CRC-16 of the ports (R104): the register of a CRC that takes bits at the top, as a bit vector, then the one of UL2 and UL3. -/

namespace Sys2Proof.Machine

/-! ### The register of a CRC, most significant bit first, as a bit vector -/

/-- One bit through a CRC register (R104): shifted out at the top, the polynomial added where that bit and the data bit differ. -/
def crcStep {w : Nat} (poly r : BitVec w) (b : Bool) : BitVec w :=
  if r.getLsbD (w - 1) = b then r <<< 1 else (r <<< 1) ^^^ poly

theorem crcBit_eq_crcStep {w : Nat} (poly r : BitVec w) (b : Bool) :
    crcBit w poly.toNat r.toNat b = (crcStep poly r b).toNat := by
  unfold crcBit crcStep
  by_cases h : r.getLsbD (w - 1) = b <;> simp [BitVec.testBit_toNat, h]

theorem crcByte_eq_crcStep {w : Nat} (poly r : BitVec w) (b : Byte) :
    crcByte w poly.toNat false r.toNat b = ((bitsOfByte b).foldl (crcStep poly) r).toNat :=
  List.foldl_hom BitVec.toNat fun r b => crcBit_eq_crcStep poly r b

theorem crcRun_eq_crcStep {w : Nat} (poly r : BitVec w) (bs : List Byte) :
    crcRun w poly.toNat false r.toNat bs = ((bs.flatMap bitsOfByte).foldl (crcStep poly) r).toNat := by
  rw [List.foldl_flatMap]
  exact List.foldl_hom BitVec.toNat fun r b => crcByte_eq_crcStep poly r b

/-- A polynomial with its lowest bit set is noticed there, so that the register before a plain shift is known from the one after. -/
theorem crcStep_eq_shiftLeft_iff {w : Nat} {poly : BitVec w} (odd : poly.getLsbD 0 = true) (r x : BitVec w) :
    crcStep poly r (x.getLsbD (w - 1)) = x <<< 1 ↔ r = x := by
  have hw : 0 < w := BitVec.lt_of_getLsbD odd
  unfold crcStep
  constructor
  · intro h
    split at h
    · next top =>
      apply BitVec.eq_of_getLsbD_eq
      intro i hi
      by_cases last : i = w - 1
      · rw [last, top]
      · have := congrArg (BitVec.getLsbD · (i + 1)) h
        simpa [show i + 1 < w by omega, BitVec.getLsbD_eq_getElem hi] using this
    · have := congrArg (BitVec.getLsbD · 0) h
      simp [odd] at this
  · rintro rfl
    simp

/-- The register is 0 after the lowest `n` bits of `d`, most significant first, only where it began with these bits. -/
theorem foldl_crcStep_eq_zero_iff {w : Nat} {poly : BitVec w} (odd : poly.getLsbD 0 = true) (d : BitVec w) :
    ∀ (n : Nat) (r : BitVec w), n ≤ w →
      (((List.range n).map fun i => d.getLsbD (n - 1 - i)).foldl (crcStep poly) r = 0 ↔ r = d <<< (w - n))
  | 0, r, _ => by simp
  | n + 1, r, hn => by
    have rest : (List.range (n + 1)).map (fun i => d.getLsbD (n + 1 - 1 - i))
        = d.getLsbD n :: (List.range n).map (fun i => d.getLsbD (n - 1 - i)) := by
      simp [List.range_succ_eq_map, Function.comp_def, Nat.sub_sub, Nat.add_comm]
    have top : (d <<< (w - (n + 1))).getLsbD (w - 1) = d.getLsbD n := by
      rw [BitVec.getLsbD_shiftLeft, show w - 1 - (w - (n + 1)) = n by omega]
      simp [show w - 1 < w by omega, show ¬ w - 1 < w - (n + 1) by omega]
    have shift : d <<< (w - n) = d <<< (w - (n + 1)) <<< 1 := by
      rw [← BitVec.shiftLeft_add, show w - (n + 1) + 1 = w - n by omega]
    rw [rest, List.foldl_cons, foldl_crcStep_eq_zero_iff odd d n _ (by omega), shift, ← top]
    exact crcStep_eq_shiftLeft_iff odd r _

/-! ### CRC-16 and its two bytes (R104) -/

theorem crc16_eq_crcStep (bs : List Byte) : crc16 bs = (bs.flatMap bitsOfByte).foldl (crcStep 0x1021) 0xFFFF := by
  unfold crc16
  rw [show crcRun 16 0x1021 false 0xFFFF bs = _ from crcRun_eq_crcStep (0x1021 : BitVec 16) 0xFFFF bs]
  rw [BitVec.ofNat_toNat, BitVec.setWidth_eq]

theorem crc16_append (bs cs : List Byte) :
    crc16 (bs ++ cs) = (cs.flatMap bitsOfByte).foldl (crcStep 0x1021) (crc16 bs) := by
  simp only [crc16_eq_crcStep, List.flatMap_append, List.foldl_append]

/-- The two bytes of a CRC-16 as sent, most significant first. -/
def crc16Bytes (d : BitVec 16) : List Byte := [(d >>> 8).setWidth 8, d.setWidth 8]

theorem bitsOfByte_eq_map (b : Byte) : bitsOfByte b = (List.range 8).map fun i => b.getLsbD (7 - i) := rfl

theorem bits_crc16Bytes (d : BitVec 16) :
    (crc16Bytes d).flatMap bitsOfByte = (List.range 16).map fun i => d.getLsbD (15 - i) := by
  simp [crc16Bytes, bitsOfByte, List.range_succ]

theorem crc16_append_crc16Bytes_eq_zero_iff (bs : List Byte) (d : BitVec 16) :
    crc16 (bs ++ crc16Bytes d) = 0 ↔ d = crc16 bs := by
  rw [crc16_append, bits_crc16Bytes, foldl_crcStep_eq_zero_iff (by decide) d 16 _ le_rfl, BitVec.shiftLeft_zero]
  exact eq_comm

theorem bytesOfNat_two_toNat (d : BitVec 16) : bytesOfNat 2 d.toNat = crc16Bytes d := by
  have high : BitVec.ofNat 8 (d.toNat / 256) = (d >>> 8).setWidth 8 :=
    BitVec.eq_of_toNat_eq (by simp [Nat.shiftRight_eq_div_pow])
  simp [bytesOfNat, crc16Bytes, List.range_succ, high]

theorem withCrc16_eq (s : State) (bs : List Byte) : s.withCrc16 bs = bs ++ crc16Bytes (crc16 (s.fold ++ bs)) := by
  rw [State.withCrc16, bytesOfNat_two_toNat]

theorem take_withCrc16 (s : State) (bs : List Byte) :
    (s.withCrc16 bs).take ((s.withCrc16 bs).length - 2) = bs := by
  simp [State.withCrc16]

/-- Settles O11: the register shifts bit by bit, and since the polynomial has its lowest bit set, only the bits that stand
in the register bring it to 0. -/
theorem checksAccept : Obligations.ChecksAccept := by
  refine ⟨rfl, fun bs b => ?_, fun s bs => ⟨withCrc16_eq s bs, fun d => ?_⟩, fun s r => ⟨?_, ?_⟩⟩
  · rw [crc16_append, List.flatMap_singleton, bitsOfByte_eq_map, List.foldl_map]
    rfl
  · rw [← List.append_assoc]
    exact crc16_append_crc16Bytes_eq_zero_iff (s.fold ++ bs) d
  · rw [State.ul2Bytes, take_withCrc16]
  · rw [State.ul3Bytes, take_withCrc16]

end Sys2Proof.Machine
end

section
/-! PROOFS. The commit engine (R32, R441, R443): a bank read after a write, one write into both banks with its NVM_FAULT records, the
commit of one record, and the order in which the engine takes the records. -/

namespace Sys2Proof.Machine

/-! ### A bank read after a write (R434) -/

theorem nvmFind_nvmInsert_same (a : Nat) (w : Word) : ∀ l, nvmFind (nvmInsert l a w) a = some w
  | [] => by simp [nvmInsert, nvmFind]
  | e :: l => by
    unfold nvmInsert
    split
    · simp [nvmFind]
    · split
      · simp [nvmFind]
      · next h => simp [nvmFind, Ne.symm h, nvmFind_nvmInsert_same a w l]

theorem nvmFind_nvmInsert_other {a c : Nat} (w : Word) (h : c ≠ a) : ∀ l, nvmFind (nvmInsert l a w) c = nvmFind l c
  | [] => by simp [nvmInsert, nvmFind, Ne.symm h]
  | e :: l => by
    unfold nvmInsert
    split
    · simp [nvmFind, Ne.symm h]
    · split
      · next ha => simp [nvmFind, Ne.symm h, ← ha]
      · simp [nvmFind, nvmFind_nvmInsert_other w h l]

theorem nvmErase_cons (e : Nat × Word) (l : List (Nat × Word)) (a : Nat) :
    nvmErase (e :: l) a = if e.1 = a then nvmErase l a else e :: nvmErase l a := by
  by_cases h : e.1 = a <;> simp [nvmErase, h]

theorem nvmFind_nvmErase_same (a : Nat) : ∀ l, nvmFind (nvmErase l a) a = none
  | [] => rfl
  | e :: l => by
    rw [nvmErase_cons]
    split
    · exact nvmFind_nvmErase_same a l
    · next h => simp [nvmFind, h, nvmFind_nvmErase_same a l]

theorem nvmFind_nvmErase_other {a c : Nat} (h : c ≠ a) : ∀ l, nvmFind (nvmErase l a) c = nvmFind l c
  | [] => rfl
  | e :: l => by
    rw [nvmErase_cons]
    split
    · next ha => simp [nvmFind, ha, Ne.symm h, nvmFind_nvmErase_other h l]
    · simp [nvmFind, nvmFind_nvmErase_other h l]

theorem Bank.read_write_same (b : Bank) {a : Nat} (w : Word) (h : a < bankWords) : (b.write a w).read a = w := by
  unfold Bank.write Bank.read
  rw [if_neg (Nat.not_le.2 h)]
  split
  · next hw => rw [nvmFind_nvmErase_same, hw]; rfl
  · rw [nvmFind_nvmInsert_same]; rfl

theorem Bank.read_write_other (b : Bank) {a c : Nat} (w : Word) (h : c ≠ a) : (b.write a w).read c = b.read c := by
  unfold Bank.write Bank.read
  split
  · rfl
  · split
    · rw [nvmFind_nvmErase_other h]
    · rw [nvmFind_nvmInsert_other w h]

theorem Bank.read_writes_other {c : Nat} : ∀ (ws : List Word) (b : Bank) {a : Nat}, ¬(a ≤ c ∧ c < a + ws.length) →
    (b.writes a ws).read c = b.read c
  | [], _, _, _ => rfl
  | w :: ws, b, a, h => by
    rw [List.length_cons] at h
    rw [Bank.writes, Bank.read_writes_other ws _ (by omega), Bank.read_write_other b w (by omega)]

theorem Bank.reads_succ (b : Bank) (a n : Nat) : b.reads a (n + 1) = b.read a :: b.reads (a + 1) n := by
  simp [Bank.reads, List.range_succ_eq_map, Function.comp_def, Nat.add_assoc, Nat.add_comm 1]

theorem Bank.reads_writes : ∀ (ws : List Word) (b : Bank) {a : Nat}, a + ws.length ≤ bankWords →
    (b.writes a ws).reads a ws.length = ws
  | [], _, _, _ => rfl
  | w :: ws, b, a, h => by
    rw [List.length_cons] at h
    rw [List.length_cons, Bank.reads_succ, Bank.writes, Bank.reads_writes ws _ (by omega),
      Bank.read_writes_other ws _ (by omega), Bank.read_write_same b w (by omega)]

theorem Bank.reads_congr {x y : Bank} {a n : Nat} (h : ∀ c, a ≤ c → c < a + n → x.read c = y.read c) :
    x.reads a n = y.reads a n :=
  List.map_congr_left fun k hk => h _ (Nat.le_add_right a k) (Nat.add_lt_add_left (List.mem_range.1 hk) a)

/-! ### A record and its journal entry put into one bank (R441) -/

@[simp] theorem freeWords_length (n k : Nat) : (freeWords n k).length = n := by simp [freeWords]

@[simp] theorem Rec.words_length (r : Rec) : r.words.length = 8 := rfl

theorem Bank.put_wf {x : Bank} (addr : Nat) (ws : List Word) (journal : Option (Nat × Word)) (ok : Bool) (n : Nat)
    (h : x.wf = true) : (x.put addr ws journal ok n).wf = true := by
  cases journal with
  | none => exact Bank.writes_wf _ _ h
  | some e => exact Bank.write_wf _ _ (Bank.writes_wf _ _ h)

theorem Bank.read_put_other (x : Bank) {addr c : Nat} (r : Rec) (journal : Option (Nat × Word)) (ok : Bool) (n : Nat)
    (span : ¬(addr ≤ c ∧ c < addr + 8)) (entry : ∀ e ∈ journal, c ≠ e.1) :
    (x.put addr r.words journal ok n).read c = x.read c := by
  have len : (if ok then r.words else freeWords 8 n).length = 8 := by split <;> simp
  have rest := Bank.read_writes_other (if ok then r.words else freeWords 8 n) x (len.symm ▸ span)
  cases journal with
  | none => exact rest
  | some e => exact (Bank.read_write_other _ _ (entry e rfl)).trans rest

theorem Bank.reads_put_ok (x : Bank) {addr : Nat} (r : Rec) (journal : Option (Nat × Word)) (n : Nat)
    (inside : addr + 8 ≤ bankWords) (apart : ∀ e ∈ journal, addr + 8 ≤ e.1) :
    (x.put addr r.words journal true n).reads addr 8 = r.words := by
  have copy : (x.writes addr r.words).reads addr 8 = r.words := Bank.reads_writes r.words x inside
  cases journal with
  | none => exact copy
  | some e =>
    have apart := apart e rfl
    exact (Bank.reads_congr fun c _ hc => Bank.read_write_other _ _ (by omega)).trans copy

/-! ### One write into both banks (R441) -/

/-- Whether a bank reads back what was written, at the first read-back or at the one after the rewrite. -/
def bankGood (v : PairBack) (b : Bool) : Bool := if b then v.b1 || v.b2 else v.a1 || v.a2

/-- The NVM_FAULT record of a write at an address whose two read-backs differ in a bank (R441). -/
def State.nvmFault (s : State) (addr : Nat) (b : Bool) : Rec := ⟨s.now, 0xB, clsFault, 0x00A, 0, wd (bn b), wd addr⟩

/-- What a bank with such read-backs hands the engine: its NVM_FAULT record, or nothing. -/
def State.nvmFaultOf (s : State) (addr : Nat) (b ok : Bool) : List Rec := if ok then [] else [s.nvmFault addr b]

/-- The NVM_FAULT records of a write into both banks, that of NVM-A first. -/
def State.nvmFaults (s : State) (addr : Nat) (v : PairBack) : List Rec :=
  s.nvmFaultOf addr false (bankGood v false) ++ s.nvmFaultOf addr true (bankGood v true)

theorem State.nvmFaultOf_length_le (s : State) (addr : Nat) (b ok : Bool) : (s.nvmFaultOf addr b ok).length ≤ 1 := by
  cases ok <;> simp [State.nvmFaultOf]

theorem State.nvmFaults_length_le (s : State) (addr : Nat) (v : PairBack) : (s.nvmFaults addr v).length ≤ 2 := by
  have a := s.nvmFaultOf_length_le addr false (bankGood v false)
  have b := s.nvmFaultOf_length_le addr true (bankGood v true)
  rw [State.nvmFaults, List.length_append]
  omega

theorem State.mem_nvmFaults (s : State) (addr : Nat) {v : PairBack} {b : Bool} (h : bankGood v b = false) :
    s.nvmFault addr b ∈ s.nvmFaults addr v := by
  cases b <;> simp [State.nvmFaults, State.nvmFaultOf, h]

theorem State.quayRec_slipQ {s : State} (r : Rec) (up : s.com.holdUp = false) (room : s.com.slipQ.length < 4) :
    (s.quayRec r).com.slipQ = s.com.slipQ ++ [r] := by
  simp [State.quayRec, up, room]

theorem State.quayRec_com (s : State) (r : Rec) : ∃ q, (s.quayRec r).com = { s.com with slipQ := q } := by
  rcases s.quayRec_cases r with ⟨-, e⟩ | ⟨-, -, e⟩ | ⟨-, -, e⟩ <;> rw [e] <;> exact ⟨_, rfl⟩

/-- Nothing but the banks, the engine, the RC fields and the count of free values differs. -/
def OnlyWritten (s t : State) : Prop :=
  t = { s with com := t.com, nvmA := t.nvmA, nvmB := t.nvmB, win := t.win, free := t.free }

theorem OnlyWritten.trans {s t u : State} (h : OnlyWritten s t) (k : OnlyWritten t u) : OnlyWritten s u := by
  unfold OnlyWritten at *
  rw [k, h]

section
variable (s : State) (b : Bool) (addr : Nat) (ws : List Word) (journal : Option (Nat × Word)) (ok : Bool) (v : PairBack)

theorem State.putBank_onlyWritten : OnlyWritten s (s.putBank b addr ws journal ok) := by
  cases b <;> rfl

theorem State.putBank_com : (s.putBank b addr ws journal ok).com
    = if ok then s.com else (s.quayRec (s.nvmFault addr b)).com :=
  State.modBank_com ..

theorem State.putBank_com_slipQ : ∃ q, (s.putBank b addr ws journal ok).com = { s.com with slipQ := q } := by
  rw [State.putBank_com]
  split
  · exact ⟨s.com.slipQ, rfl⟩
  · exact s.quayRec_com _

theorem State.putBank_bank : (s.putBank b addr ws journal ok).bank b = (s.bank b).put addr ws journal ok s.free := by
  cases b <;> rfl

theorem State.putBank_bank_other : (s.putBank b addr ws journal ok).bank (!b) = s.bank (!b) := by
  cases b <;> rfl

theorem State.putBank_ok : (s.putBank b addr ws journal true).win = s.win ∧ (s.putBank b addr ws journal true).free = s.free := by
  simp [State.putBank]

theorem State.putBank_slipQ (up : s.com.holdUp = false) (room : s.com.slipQ.length < 4) :
    (s.putBank b addr ws journal ok).com.slipQ = s.com.slipQ ++ s.nvmFaultOf addr b ok := by
  rw [State.putBank_com]
  cases ok with
  | true => exact (List.append_nil _).symm
  | false => exact State.quayRec_slipQ _ up room

theorem State.writeBoth_onlyWritten : OnlyWritten s (s.writeBoth addr ws journal v) :=
  (s.putBank_onlyWritten ..).trans (State.putBank_onlyWritten ..)

theorem State.writeBoth_com : ∃ q, (s.writeBoth addr ws journal v).com = { s.com with slipQ := q } := by
  obtain ⟨p, hp⟩ := s.putBank_com_slipQ false addr ws journal (v.a1 || v.a2)
  obtain ⟨q, hq⟩ := (s.putBank false addr ws journal (v.a1 || v.a2)).putBank_com_slipQ true addr ws journal (v.b1 || v.b2)
  exact ⟨q, by rw [State.writeBoth, hq, hp]⟩

theorem State.writeBoth_bank :
    ∃ n, (s.writeBoth addr ws journal v).bank b = (s.bank b).put addr ws journal (bankGood v b) n := by
  unfold State.writeBoth
  cases b with
  | false => exact ⟨_, (State.putBank_bank_other _ true ..).trans (State.putBank_bank ..)⟩
  | true => exact ⟨_, (State.putBank_bank ..).trans (congrArg (Bank.put · ..) (State.putBank_bank_other _ false ..))⟩

theorem State.writeBoth_good (hv : ∀ b, bankGood v b = true) :
    (s.writeBoth addr ws journal v).win = s.win ∧ (s.writeBoth addr ws journal v).free = s.free := by
  have ha : (v.a1 || v.a2) = true := hv false
  have hb : (v.b1 || v.b2) = true := hv true
  simp [State.writeBoth, ha, hb, State.putBank_ok]

theorem State.writeBoth_slipQ (up : s.com.holdUp = false) (room : s.com.slipQ.length ≤ 2) :
    (s.writeBoth addr ws journal v).com.slipQ = s.com.slipQ ++ s.nvmFaults addr v := by
  have fault := s.nvmFaultOf_length_le addr false (v.a1 || v.a2)
  have slipA := s.putBank_slipQ false addr ws journal (v.a1 || v.a2) up (by omega)
  obtain ⟨q, hq⟩ := s.putBank_com_slipQ false addr ws journal (v.a1 || v.a2)
  have slipB := (s.putBank false addr ws journal (v.a1 || v.a2)).putBank_slipQ true addr ws journal (v.b1 || v.b2)
    (by rw [hq]; exact up) (by rw [slipA, List.length_append]; omega)
  rw [State.writeBoth, slipB, slipA, List.append_assoc]
  rfl
end

/-! ### A cause of the bell that the Quay raises (R60, R128) -/

section
variable (s : State) (k : Nat)

@[simp] theorem State.quayCause_com : (s.quayCause k).com = s.com := State.ringEv_com s k

@[simp] theorem State.quayCause_bank (b : Bool) : (s.quayCause k).bank b = s.bank b := by
  cases b
  · exact State.ringEv_nvmA s k
  · exact State.ringEv_nvmB s k

@[simp] theorem State.quayCause_win : (s.quayCause k).win = s.win := State.ringEv_win s k

@[simp] theorem State.quayCause_free : (s.quayCause k).free = s.free := State.ringEv_free s k

theorem State.quayCause_frame : s.quayCause k
    = { s with bell := (s.quayCause k).bell, helmA := (s.quayCause k).helmA, helmB := (s.quayCause k).helmB } := by
  unfold State.quayCause State.ringEv
  split
  · rfl
  · rcases s.ring_cases k with ⟨-, e⟩ | ⟨-, e⟩ <;> rw [e] <;> rfl

theorem State.quayCause_rungByEvent : RungByEvent s (s.quayCause k) k := by
  show (s.ringEv k).bell = _
  unfold State.ringEv
  split
  · rfl
  · next h => simp [State.ring, h]

theorem State.quayCause_received : Received s (s.quayCause k) s.now (.cause k) := by
  intro h
  cases h with
  | a => cases e : s.helmA.svc.inService <;> simp [State.quayCause, State.raiseEv, State.helm, e]
  | b => cases e : s.helmB.svc.inService <;> simp [State.quayCause, State.raiseEv, State.helm, e]
end

/-! ### The commit of one record (R441, R443) -/

/-- Whether the first-fault area takes a record: it is of class FAULT, and the area is not full (R441). -/
abbrev Commit.takesFault (c : Commit) (r : Rec) : Prop := r.cls = clsFault ∧ c.ffFill < 256

/-- The first word of the ring slot that the next record goes into. -/
abbrev Commit.slotAddr (c : Commit) : Nat := 8 * c.slot

/-- The first word of the next empty slot of the first-fault area. -/
abbrev Commit.ffAddr (c : Commit) : Nat := ffBase + 8 * c.ffFill

/-- The journal entry of the next commit: its place and its word. -/
abbrev Commit.entry (c : Commit) : Nat × Word := (journalBase + c.total % 8192, wd (c.lap % 256 * 65536 + c.slot))

/-- A ring slot lies before the journal, the journal before the first-fault area, and this within the bank (R434). -/
theorem Commit.slotAddr_le {c : Commit} (h : c.slot < ringSlots) : c.slotAddr + 8 ≤ journalBase := by
  unfold Commit.slotAddr journalBase ringSlots at *
  omega

theorem Commit.journalBase_le_entry (c : Commit) : journalBase ≤ c.entry.1 := Nat.le_add_right ..

theorem Commit.entry_lt (c : Commit) : c.entry.1 < ffBase := by
  unfold Commit.entry journalBase ffBase
  omega

theorem Commit.ffAddr_le {c : Commit} (h : c.ffFill < 256) : c.ffAddr + 8 ≤ bankWords := by
  unfold Commit.ffAddr ffBase bankWords
  omega

theorem journalBase_lt_ffBase : journalBase < ffBase := by decide

theorem ffBase_lt_bankWords : ffBase < bankWords := by decide

/-- The engine moves on to the next slot and the next journal word. -/
def State.advanced (s : State) (r : Rec) : State :=
  { s with com := { s.com with
      recent := s.recall (s.undoOf r)
      slot := if s.com.slot + 1 < ringSlots then s.com.slot + 1 else 0
      lap := if s.com.slot + 1 < ringSlots then s.com.lap else (s.com.lap + 1) % 256
      total := (s.com.total + 1) % 8192 } }

/-- The record and its journal entry in both banks. -/
def State.ringWritten (s : State) (r : Rec) (v : ReadBack) : State :=
  (s.advanced r).writeBoth s.com.slotAddr r.words (some s.com.entry) v.ring

/-- Then its copy in the first-fault area of both. -/
def State.faultWritten (s : State) (r : Rec) (v : ReadBack) : State :=
  let u := (s.ringWritten r v).writeBoth s.com.ffAddr r.words none v.ff
  { u with com := { u.com with ffFill := s.com.ffFill + 1 } }

/-- All that a commit writes. -/
def State.recWritten (s : State) (r : Rec) (v : ReadBack) : State :=
  if s.com.takesFault r then s.faultWritten r v else s.ringWritten r v

/-- A bank after the commit of a record, the free values of its bad copies being given. -/
def Bank.commit (x : Bank) (c : Commit) (r : Rec) (ring ff : Bool) (n m : Nat) : Bank :=
  let y := x.put c.slotAddr r.words (some c.entry) ring n
  if c.takesFault r then y.put c.ffAddr r.words none ff m else y

section
variable (s : State) (r : Rec) (v : ReadBack) (b : Bool)

theorem State.ringWritten_onlyWritten : OnlyWritten s (s.ringWritten r v) :=
  OnlyWritten.trans (t := s.advanced r) rfl (State.writeBoth_onlyWritten ..)

theorem State.faultWritten_onlyWritten : OnlyWritten s (s.faultWritten r v) :=
  (s.ringWritten_onlyWritten r v).trans
    (OnlyWritten.trans (t := (s.ringWritten r v).writeBoth s.com.ffAddr r.words none v.ff)
      (State.writeBoth_onlyWritten ..) rfl)

theorem State.recWritten_onlyWritten : OnlyWritten s (s.recWritten r v) := by
  unfold State.recWritten
  split
  · exact s.faultWritten_onlyWritten r v
  · exact s.ringWritten_onlyWritten r v

theorem State.ringWritten_com : ∃ q, (s.ringWritten r v).com = { (s.advanced r).com with slipQ := q } :=
  State.writeBoth_com ..

theorem State.recWritten_com : ∃ q, (s.recWritten r v).com = { (s.advanced r).com with
    slipQ := q, ffFill := if s.com.takesFault r then s.com.ffFill + 1 else s.com.ffFill } := by
  obtain ⟨p, hp⟩ := s.ringWritten_com r v
  unfold State.recWritten
  split
  · obtain ⟨q, hq⟩ := (s.ringWritten r v).writeBoth_com s.com.ffAddr r.words none v.ff
    exact ⟨q, by rw [State.faultWritten, hq, hp]⟩
  · exact ⟨p, hp⟩

theorem State.recWritten_bank : ∃ n m, (s.recWritten r v).bank b
    = (s.bank b).commit s.com r (bankGood v.ring b) (bankGood v.ff b) n m := by
  obtain ⟨n, hn⟩ := (s.advanced r).writeBoth_bank b s.com.slotAddr r.words (some s.com.entry) v.ring
  obtain ⟨m, hm⟩ := (s.ringWritten r v).writeBoth_bank b s.com.ffAddr r.words none v.ff
  refine ⟨n, m, ?_⟩
  unfold State.recWritten Bank.commit
  split
  · exact hm.trans (congrArg (Bank.put · ..) hn)
  · exact hn

/-- The NVM_FAULT records of a commit stand in the slip of the Quay, which has room for all of them. -/
theorem State.recWritten_slipQ (up : s.com.holdUp = false) (empty : s.com.slipQ = []) :
    (s.recWritten r v).com.slipQ = s.nvmFaults s.com.slotAddr v.ring
      ++ if s.com.takesFault r then s.nvmFaults s.com.ffAddr v.ff else [] := by
  have ring : (s.ringWritten r v).com.slipQ = s.nvmFaults s.com.slotAddr v.ring := by
    have h := (s.advanced r).writeBoth_slipQ s.com.slotAddr r.words (some s.com.entry) v.ring up (by simp [State.advanced, empty])
    rw [State.ringWritten, h, show (s.advanced r).com.slipQ = [] from empty]
    rfl
  unfold State.recWritten
  split
  · obtain ⟨q, hq⟩ := s.ringWritten_com r v
    have ff := (s.ringWritten r v).writeBoth_slipQ s.com.ffAddr r.words none v.ff (by rw [hq]; exact up)
      (by rw [ring]; exact s.nvmFaults_length_le _ _)
    rw [ring, s.ringWritten_onlyWritten r v] at ff
    exact ff
  · rw [ring, List.append_nil]

theorem State.recWritten_good (ring : ∀ b, bankGood v.ring b = true)
    (ff : s.com.takesFault r → ∀ b, bankGood v.ff b = true) :
    (s.recWritten r v).win = s.win ∧ (s.recWritten r v).free = s.free := by
  obtain ⟨win, free⟩ := (s.advanced r).writeBoth_good s.com.slotAddr r.words (some s.com.entry) v.ring ring
  unfold State.recWritten
  split
  · next first =>
    obtain ⟨win', free'⟩ := (s.ringWritten r v).writeBoth_good s.com.ffAddr r.words none v.ff (ff first)
    exact ⟨win'.trans win, free'.trans free⟩
  · exact ⟨win, free⟩

/-- The commit writes, and then rings the bell for a copy in the first-fault area, but in hold-up (R443, R446). -/
theorem State.commitOne_eq : s.commitOne r v = if s.com.takesFault r ∧ s.com.holdUp = false
    then (s.recWritten r v).quayCause bellBlackbox else s.recWritten r v := by
  by_cases first : s.com.takesFault r
  · have e : s.commitOne r v
        = if s.com.holdUp then s.faultWritten r v else (s.faultWritten r v).quayCause bellBlackbox :=
      if_pos (by simpa using first)
    rw [e, State.recWritten, if_pos first]
    cases s.com.holdUp <;> simp [first]
  · have e : s.commitOne r v = s.ringWritten r v := if_neg (by simpa using first)
    rw [e, State.recWritten, if_neg first, if_neg (fun h => first h.1)]

@[simp] theorem State.commitOne_com : (s.commitOne r v).com = (s.recWritten r v).com := by
  rw [State.commitOne_eq]; split <;> simp

@[simp] theorem State.commitOne_bank : (s.commitOne r v).bank b = (s.recWritten r v).bank b := by
  rw [State.commitOne_eq]; split <;> simp

@[simp] theorem State.commitOne_win : (s.commitOne r v).win = (s.recWritten r v).win := by
  rw [State.commitOne_eq]; split <;> simp

@[simp] theorem State.commitOne_free : (s.commitOne r v).free = (s.recWritten r v).free := by
  rw [State.commitOne_eq]; split <;> simp

theorem State.commitOne_rings (first : s.com.takesFault r) (up : s.com.holdUp = false) :
    RungByEvent s (s.commitOne r v) bellBlackbox ∧ Received s (s.commitOne r v) s.now (.cause bellBlackbox) := by
  rw [State.commitOne_eq, if_pos ⟨first, up⟩, s.recWritten_onlyWritten r v]
  exact ⟨State.quayCause_rungByEvent _ _, State.quayCause_received _ _⟩

theorem State.commitOne_silent (h : ¬(s.com.takesFault r ∧ s.com.holdUp = false)) :
    (s.commitOne r v).bell = s.bell ∧ (s.commitOne r v).helmA = s.helmA ∧ (s.commitOne r v).helmB = s.helmB := by
  rw [State.commitOne_eq, if_neg h, s.recWritten_onlyWritten r v]
  exact ⟨rfl, rfl, rfl⟩

theorem State.mem_commitOne_slipQ_of_ring (up : s.com.holdUp = false) (empty : s.com.slipQ = [])
    (bad : bankGood v.ring b = false) : s.nvmFault s.com.slotAddr b ∈ (s.commitOne r v).com.slipQ := by
  rw [State.commitOne_com, s.recWritten_slipQ r v up empty]
  exact List.mem_append_left _ (s.mem_nvmFaults _ bad)

theorem State.mem_commitOne_slipQ_of_copy (up : s.com.holdUp = false) (empty : s.com.slipQ = [])
    (first : s.com.takesFault r) (bad : bankGood v.ff b = false) :
    s.nvmFault s.com.ffAddr b ∈ (s.commitOne r v).com.slipQ := by
  rw [State.commitOne_com, s.recWritten_slipQ r v up empty, if_pos first]
  exact List.mem_append_right _ (s.mem_nvmFaults _ bad)

theorem State.commitOne_frame : s.commitOne r v = { s with
    com := (s.commitOne r v).com, nvmA := (s.commitOne r v).nvmA, nvmB := (s.commitOne r v).nvmB
    bell := (s.commitOne r v).bell, win := (s.commitOne r v).win, free := (s.commitOne r v).free
    helmA := (s.commitOne r v).helmA, helmB := (s.commitOne r v).helmB } := by
  rw [State.commitOne_eq]
  split
  · rw [State.quayCause_frame, s.recWritten_onlyWritten r v]
  · rw [s.recWritten_onlyWritten r v]

end

/-! ### A bank after the commit of a record (R441) -/

section
variable (x : Bank) {c : Commit} (r : Rec) (ring ff : Bool) (n m : Nat)

theorem Bank.commit_wf (h : x.wf = true) : (x.commit c r ring ff n m).wf = true := by
  unfold Bank.commit
  split
  · exact Bank.put_wf _ _ _ _ _ (Bank.put_wf _ _ _ _ _ h)
  · exact Bank.put_wf _ _ _ _ _ h

/-- Below the first-fault area a commit leaves what it wrote into the ring and the journal. -/
theorem Bank.read_commit_below {a : Nat} (h : a < ffBase) :
    (x.commit c r ring ff n m).read a = (x.put c.slotAddr r.words (some c.entry) ring n).read a := by
  unfold Bank.commit
  split
  · exact Bank.read_put_other _ _ _ _ _ (fun k => absurd (Nat.le_trans (Nat.le_add_right ..) k.1) (Nat.not_le.2 h)) (by simp)
  · rfl

theorem Bank.read_commit_other {a : Nat} (slot : ¬(c.slotAddr ≤ a ∧ a < c.slotAddr + 8)) (entry : a ≠ c.entry.1)
    (copy : ¬(c.takesFault r ∧ c.ffAddr ≤ a ∧ a < c.ffAddr + 8)) : (x.commit c r ring ff n m).read a = x.read a := by
  have rest := Bank.read_put_other x r (some c.entry) ring n slot (by simpa using entry)
  unfold Bank.commit
  split
  · next first => exact (Bank.read_put_other _ _ _ _ _ (fun h => copy ⟨first, h⟩) (by simp)).trans rest
  · exact rest

theorem Bank.reads_commit_slot (h : c.slot < ringSlots) :
    (x.commit c r true ff n m).reads c.slotAddr 8 = r.words := by
  have slot : c.slotAddr + 8 ≤ journalBase := Commit.slotAddr_le h
  have inside : c.slotAddr + 8 ≤ bankWords := slot.trans (journalBase_lt_ffBase.trans ffBase_lt_bankWords).le
  have apart : ∀ e ∈ some c.entry, c.slotAddr + 8 ≤ e.1 := by simpa using slot.trans c.journalBase_le_entry
  have below (a : Nat) (ha : a < c.slotAddr + 8) : a < ffBase := (ha.trans_le slot).trans journalBase_lt_ffBase
  exact (Bank.reads_congr fun a _ ha => Bank.read_commit_below x r true ff n m (below a ha)).trans
    (Bank.reads_put_ok x r (some c.entry) n inside apart)

theorem Bank.read_commit_entry : (x.commit c r true ff n m).read c.entry.1 = c.entry.2 :=
  (Bank.read_commit_below x r true ff n m c.entry_lt).trans
    (Bank.read_write_same _ _ (c.entry_lt.trans ffBase_lt_bankWords))

theorem Bank.reads_commit_copy (first : c.takesFault r) :
    (x.commit c r ring true n m).reads c.ffAddr 8 = r.words := by
  rw [Bank.commit, if_pos first]
  exact Bank.reads_put_ok _ r none m (Commit.ffAddr_le first.2) (by simp)
end

theorem State.banksOk_iff (s : State) : s.banksOk = true ↔ ∀ b, (s.bank b).wf = true := by
  simp [State.banksOk, State.bank]

theorem State.commitOne_banksOk (s : State) (r : Rec) (v : ReadBack) (ok : s.banksOk = true) :
    (s.commitOne r v).banksOk = true := by
  refine (State.banksOk_iff _).2 fun b => ?_
  obtain ⟨n, m, e⟩ := s.recWritten_bank r v b
  rw [State.commitOne_bank, e]
  exact Bank.commit_wf _ _ _ _ _ _ ((State.banksOk_iff s).1 ok b)

/-! ### The order in which the engine takes the records (R32) -/

/-- Taking a record shortens a slip, that of the Quay first; but for the turn of the helms, nothing else of the engine changes. -/
theorem Commit.take_frame {c d : Commit} {r : Rec} (h : c.take = some (r, d)) :
    d = { c with slipA := d.slipA, slipB := d.slipB, slipQ := c.slipQ.tail, turnB := d.turnB } := by
  cases hq : c.slipQ with
  | cons x l =>
    rw [Commit.take, hq] at h
    cases h
    rfl
  | nil =>
    simp only [Commit.take, hq] at h
    split at h
    · split at h <;> (cases h; rfl)
    · cases h; rfl
    · cases h; rfl
    · cases h

theorem Commit.slipQ_eq_nil_of_take {c : Commit} (h : c.take = none) : c.slipQ = [] := by
  cases e : c.slipQ with
  | nil => rfl
  | cons r l => simp [Commit.take, e] at h

/-- The slips of the helms, the turn and the POWER_FAIL record as given, and the slip of the Quay one record shorter. -/
def State.afterTake (s : State) (a b : List Rec) (turn : Bool) (p : Option Rec) : State :=
  { s with com := { s.com with slipA := a, slipB := b, slipQ := s.com.slipQ.tail, turnB := turn, powerFail := p } }

/-- RECORD_COMMIT commits the record taken, or the POWER_FAIL record once none is left (R446). -/
theorem exec_recordCommit {s : State} {r : Rec} (v : ReadBack)
    (h : (∃ d, s.com.take = some (r, d)) ∨ (s.com.take = none ∧ s.com.powerFail = some r)) :
    ∃ a b turn p, exec (.recordCommit v) s = .next ((s.afterTake a b turn p).commitOne r v) := by
  show ∃ a b turn p, execRecordCommit v s = _
  unfold execRecordCommit
  rcases h with ⟨d, h⟩ | ⟨h, last⟩
  · refine ⟨d.slipA, d.slipB, d.turnB, s.com.powerFail, ?_⟩
    rw [h, Commit.take_frame h, State.afterTake]
  · refine ⟨s.com.slipA, s.com.slipB, s.com.turnB, none, ?_⟩
    simp [h, last, State.afterTake, Commit.slipQ_eq_nil_of_take h]

/-- The order of R32. -/
theorem Commit.take_order (c : Commit) :
    (∀ r l, c.slipQ = r :: l → c.take = some (r, { c with slipQ := l }))
    ∧ (∀ a b l m, c.slipQ = [] → c.slipA = a :: l → c.slipB = b :: m → ∃ d, c.take
        = some (if c.turnB = true then b else a, d) ∧ d.turnB = !c.turnB)
    ∧ (∀ a l, c.slipQ = [] → c.slipA = a :: l → c.slipB = [] → ∃ d, c.take = some (a, d) ∧ d.slipA = l)
    ∧ (∀ b m, c.slipQ = [] → c.slipA = [] → c.slipB = b :: m → ∃ d, c.take = some (b, d) ∧ d.slipB = m)
    ∧ (c.slipQ = [] → c.slipA = [] → c.slipB = [] → c.take = none) := by
  refine ⟨fun r l hq => ?_, fun a b l m hq ha hb => ?_, fun a l hq ha hb => ?_, fun b m hq ha hb => ?_, fun hq ha hb => ?_⟩
  · simp [Commit.take, hq]
  · cases turn : c.turnB <;> simp [Commit.take, hq, ha, hb, turn]
  · simp [Commit.take, hq, ha, hb]
  · simp [Commit.take, hq, ha, hb]
  · simp [Commit.take, hq, ha, hb]

/-- Settles O21: RECORD_COMMIT commits one record in a state whose slips are shorter by it; each bank then is the one that
`Bank.commit` describes, and the slip of the Quay holds the NVM_FAULT record of each bad write. -/
theorem commits : Obligations.Commits := by
  refine ⟨Commit.take_order, fun s r v ok slot h => ?_⟩
  intro k j ff first one good goodFf
  obtain ⟨qa, qb, turn, p, e⟩ := exec_recordCommit v h
  let u := s.afterTake qa qb turn p
  have taken (hl : s.com.slipQ.length ≤ 1) : u.com.slipQ = [] :=
    List.eq_nil_of_length_eq_zero (List.length_tail.trans (Nat.sub_eq_zero_of_le hl))
  obtain ⟨q, com⟩ := u.recWritten_com r v
  rw [← State.commitOne_com] at com
  refine ⟨u.commitOne r v, e, u.commitOne_frame r v, by rw [com]; rfl, by rw [com]; rfl, by rw [com]; rfl,
    u.commitOne_banksOk r v ok, fun b => ?_, fun hf => ⟨?_, fun up => u.commitOne_rings r v hf up, fun held => ?_⟩,
    fun hf => ⟨?_, ?_⟩, fun goodB goodA goodF => ?_⟩
  · obtain ⟨n, m, bank⟩ : ∃ n m, (u.commitOne r v).bank b = (s.bank b).commit u.com r (good b) (goodFf b) n m :=
      (u.commitOne_bank r v b).symm ▸ u.recWritten_bank r v b
    refine ⟨fun hg => ?_, fun hf hg => ?_, fun hg up hl => u.mem_commitOne_slipQ_of_ring r v b up (taken hl) hg,
      fun hf hg up hl => u.mem_commitOne_slipQ_of_copy r v b up (taken hl) hf hg, fun a ha hj hf => ?_⟩
    · rw [bank, hg]
      exact ⟨Bank.reads_commit_slot _ r _ n m slot, Bank.read_commit_entry _ r _ n m⟩
    · rw [bank, hg]
      exact Bank.reads_commit_copy _ r _ n m hf
    · rw [bank]
      exact Bank.read_commit_other _ r _ _ n m ha hj hf
  · rw [com]
    exact if_pos hf
  · exact u.commitOne_silent r v fun h => Bool.noConfusion (held.symm.trans h.2)
  · rw [com]
    exact if_neg hf
  · exact u.commitOne_silent r v fun h => hf h.1
  · rw [State.commitOne_win, State.commitOne_free]
    exact u.recWritten_good r v (Bool.forall_bool.2 ⟨goodA, goodB⟩) fun hf => Bool.forall_bool.2 (goodF hf).symm

end Sys2Proof.Machine
end

section
/-! PROOFS. What the operations of a pontoon leave of its outputs, and of their landed values (R55, R260). -/

namespace Sys2Proof.Machine

/-! ### Operations that leave the outputs alone -/

/-- A fold of steps that each leave the outputs leaves them. -/
theorem Pont.foldl_outs {α : Type} (f : Pont → α → Pont) (hf : ∀ x a, (f x a).outs = x.outs) (l : List α) (x : Pont) :
    (l.foldl f x).outs = x.outs := by
  induction l generalizing x with
  | nil => rfl
  | cons a l ih => rw [List.foldl_cons, ih, hf]

@[simp] theorem Pont.rcIn_outs (x : Pont) (addr lo : Nat) (n : Int) : (x.rcIn addr lo n).outs = x.outs := rfl
@[simp] theorem Pont.bellIn_outs (x : Pont) (k : Nat) : (x.bellIn k).outs = x.outs := rfl
@[simp] theorem Pont.recIn_outs (x : Pont) (code cls : Nat) (d0 d1 d2 : Word) :
    (x.recIn code cls d0 d1 d2).outs = x.outs := rfl
@[simp] theorem Pont.modAi_outs (x : Pont) (i : Nat) (f : AiSt → AiSt) : (x.modAi i f).outs = x.outs := rfl
@[simp] theorem Pont.forgetJudge_outs (x : Pont) : x.forgetJudge.outs = x.outs := by
  simp only [Pont.forgetJudge]; split <;> rfl
@[simp] theorem Pont.noBeats_outs (x : Pont) : x.noBeats.outs = x.outs := rfl
@[simp] theorem Pont.pushBeat_outs (x : Pont) (a b : Bool) (m : Beat) : (x.pushBeat a b m).outs = x.outs := rfl
@[simp] theorem Pont.newCrossing_outs (x : Pont) (t : Timebase) : (x.newCrossing t).outs = x.outs := rfl
@[simp] theorem Pont.startGrid_outs (x : Pont) (p n : Nat) : (x.startGrid p n).outs = x.outs := rfl
@[simp] theorem Pont.endCrossing_outs (x : Pont) (n : Nat) : (x.endCrossing n).outs = x.outs := rfl
@[simp] theorem Pont.landPq_outs (x : Pont) (p j : Nat) (o : Int) (v : Bool) : (x.landPq p j o v).outs = x.outs := rfl
@[simp] theorem Pont.takeSnaps_outs (x : Pont) (p i : Nat) (pos : Int) (d : Nat) (r : Option (Int × Int × Bool)) :
    (x.takeSnaps p i pos d r).outs = x.outs := rfl
@[simp] theorem Pont.soundSnaps_outs (x : Pont) (p : Nat) : (x.soundSnaps p).outs = x.outs := rfl
@[simp] theorem Pont.markSettle_outs (x : Pont) (p i : Nat) : (x.markSettle p i).outs = x.outs := rfl
@[simp] theorem Pont.markGaps_outs (x : Pont) : x.markGaps.outs = x.outs := rfl
@[simp] theorem Pont.regulate_outs (x : Pont) (p j : Nat) (q : PqSt) (r i : Int) (v : Nat) :
    (x.regulate p j q r i v).outs = x.outs := rfl
@[simp] theorem Pont.soundPq_outs (x : Pont) (p j : Nat) : (x.soundPq p j).1.outs = x.outs := by
  simp only [Pont.soundPq]; split <;> rfl

@[simp] theorem Pont.fastDecay_outs (x : Pont) (p j : Nat) (q : PqSt) : (x.fastDecay p j q).outs = x.outs := by
  simp only [Pont.fastDecay]; split <;> rfl

@[simp] theorem Pont.loopStep_outs (x : Pont) (p j : Nat) (i : Int) (v : Nat) : (x.loopStep p j i v).outs = x.outs := by
  simp only [Pont.loopStep]
  split
  · rfl
  · simp only [apply_ite Pont.outs, fastDecay_outs, regulate_outs, ite_self]

@[simp] theorem Pont.openBoth_outs (x : Pont) (p j : Nat) : (x.openBoth p j).outs = x.outs := by
  simp only [Pont.openBoth]; split <;> simp

@[simp] theorem Pont.react_outs (x : Pont) (p : Nat) (old : Pont) : (x.react p old).outs = x.outs :=
  Pont.foldl_outs _ (fun x j => by
    simp only [apply_ite Pont.outs, openBoth_outs, loopStep_outs, ite_self]) _ x

@[simp] theorem Pont.judgeRx_outs (x : Pont) (p j : Nat) : (x.judgeRx p j).outs = x.outs := by
  simp only [Pont.judgeRx]; split <;> rfl

@[simp] theorem Pont.countEdge_outs (x : Pont) (p i : Nat) (rising : Bool) : (x.countEdge p i rising).outs = x.outs := by
  simp only [Pont.countEdge]
  split
  · rfl
  · split
    · rfl
    · split <;> rfl

@[simp] theorem Pont.soundInputs_outs (x : Pont) (p : Nat) (m : SoundingMeas) : (x.soundInputs p m).outs = x.outs :=
  Pont.foldl_outs _ (fun x i => by simp only [apply_ite Pont.outs, rcIn_outs, ite_self]) _ x

@[simp] theorem Pont.soundCounter_outs (x : Pont) (p i : Nat) : (x.soundCounter p i).1.outs = x.outs := by
  simp only [Pont.soundCounter, apply_ite Pont.outs, rcIn_outs, ite_self]

@[simp] theorem Pont.outFault_outs (x : Pont) (q : Nat) (old now : Word) (news always : Nat) :
    (x.outFault q old now news always).outs = x.outs := by
  simp only [Pont.outFault]; split <;> rfl

@[simp] theorem Pont.enterLatch_outs (x : Pont) (p j : Nat) (thermal : Bool) : (x.enterLatch p j thermal).outs = x.outs := by
  simp only [Pont.enterLatch, outFault_outs, apply_ite Pont.outs, rcIn_outs, ite_self]

@[simp] theorem Pont.pwmPeriod_outs (x : Pont) (p j : Nat) (i : Int) (v : Nat) : (x.pwmPeriod p j i v).outs = x.outs := by
  simp [Pont.pwmPeriod]

@[simp] theorem Pont.releasePq_outs (x : Pont) (p j : Nat) : (x.releasePq p j).outs = x.outs := by
  simp only [Pont.releasePq]; split <;> rfl

@[simp] theorem Pont.newPq_outs (x : Pont) (p : Nat) (old : Pont) (n : Nat) : (x.newPq p old n).outs = x.outs := by
  simp only [Pont.newPq]; split <;> rfl

@[simp] theorem Pont.markUns_outs (x : Pont) (p : Nat) (old : Pont) : (x.markUns p old).outs = x.outs :=
  Pont.foldl_outs _ (fun y i => by split <;> simp) _ x

@[simp] theorem Pont.judgeSample_outs (x : Pont) (p i : Nat) (d : Int) (b : Bool) : (x.judgeSample p i d b).outs = x.outs := by
  simp only [Pont.judgeSample]
  split
  · rfl
  · split <;> simp

@[simp] theorem Pont.overRange_outs (x : Pont) (p i : Nat) (s : Int) : (x.overRange p i s).outs = x.outs := by
  simp only [Pont.overRange, apply_ite Pont.outs, recIn_outs, bellIn_outs, rcIn_outs, modAi_outs, ite_self]

@[simp] theorem Pont.aiSample_outs (x : Pont) (p i : Nat) (bits : List Bool) (cks : List CkConv) :
    (x.aiSample p i bits cks).outs = x.outs := by
  simp only [Pont.aiSample, takeSnaps_outs, apply_ite Pont.outs, rcIn_outs, modAi_outs, judgeSample_outs, overRange_outs,
    ite_self]

@[simp] theorem Pont.refWatch_outs (x : Pont) (p v : Nat) : (x.refWatch p v).outs = x.outs := by
  simp only [Pont.refWatch, apply_ite Pont.outs, recIn_outs, bellIn_outs, rcIn_outs, ite_self]

@[simp] theorem Pont.refWait_outs (x : Pont) : x.refWait.outs = x.outs := by
  simp only [Pont.refWait]; split <;> rfl

@[simp] theorem Pont.refJudgeStep_outs (x : Pont) (p : Nat) (a sm : Nat × Nat) : (x.refJudgeStep p a sm).outs = x.outs := by
  simp only [Pont.refJudgeStep]
  split <;> simp only [apply_ite Pont.outs, recIn_outs, bellIn_outs, ite_self]

@[simp] theorem Pont.resetDecim_outs (x : Pont) (p i : Nat) : (x.resetDecim p i).outs = x.outs := by
  simp only [Pont.resetDecim]; split <;> simp

@[simp] theorem Pont.soundAi_outs (x : Pont) (p i : Nat) (sat : Bool) : (x.soundAi p i sat).1.outs = x.outs := by
  simp only [Pont.soundAi, modAi_outs, apply_ite Pont.outs, recIn_outs, ite_self]

@[simp] theorem Pont.soundExc_outs (x : Pont) (p : Nat) (m : SoundingMeas) : (x.soundExc p m).outs = x.outs := by
  simp only [Pont.soundExc]; split <;> rfl

@[simp] theorem Pont.newAnalog_outs (x : Pont) (p : Nat) (old : Pont) : (x.newAnalog p old).outs = x.outs := by
  simp only [Pont.newAnalog, apply_ite Pont.outs, markUns_outs, ite_self]
  rw [Pont.foldl_outs]
  · simp only [apply_ite Pont.outs, ite_self]
  · intro x i
    simp only [apply_ite Pont.outs, markSettle_outs, modAi_outs, ite_self]

@[simp] theorem Pont.modGw_outs (x : Pont) (h : HelmId) (f : GwPort → GwPort) : (x.modGw h f).outs = x.outs := by
  cases h <;> rfl

@[simp] theorem Pont.setGwDown_outs (x : Pont) (p : Nat) (h : HelmId) : (x.setGwDown p h).outs = x.outs := by
  simp only [Pont.setGwDown]; split <;> simp

@[simp] theorem Pont.rxFrame_outs (x : Pont) (p : Nat) (h : HelmId) (f : RxFrame) (t n : Nat) :
    (x.rxFrame p h f t n).2.outs = x.outs := by
  simp only [Pont.rxFrame]
  split <;> simp only [apply_ite Pont.outs, rcIn_outs, modGw_outs, setGwDown_outs, ite_self]

@[simp] theorem Pont.beat_outs (x : Pont) (h : HelmId) : (x.beat h).outs = x.outs := by
  simp only [Pont.beat]
  split
  · rfl
  · split
    · simp
    · split <;> simp

@[simp] theorem Pont.soundResets_outs (x : Pont) (p : Nat) (all : Bool) : (x.soundResets p all).outs = x.outs := by
  simp only [Pont.soundResets, apply_ite Pont.outs, startGrid_outs, ite_self]
  exact Pont.foldl_outs _ (fun x i => by split <;> simp) _ x

@[simp] theorem Pont.takeLanes_outs (x : Pont) (p : Nat) (pins : BitVec 2) : (x.takeLanes p pins).outs = x.outs := by
  unfold Pont.takeLanes
  exact Pont.foldl_outs _ (fun x l => by rfl) _ x

@[simp] theorem Pont.beatsMissing_outs (x : Pont) (p : Nat) (h : HelmId) : (x.beatsMissing p h).outs = x.outs := by
  simp only [Pont.beatsMissing]; split <;> simp

@[simp] theorem Pont.readout_outs (x : Pont) (q : OutReq) : (x.readout q).outs = x.outs := by
  simp only [Pont.readout]; split <;> rfl

/-! ### Operations that change outputs, but no landed value -/

/-- The landed values of a pontoon's outputs. -/
def Pont.landeds (x : Pont) : Vector Int 8 := x.outs.map (·.landed)

theorem Pont.landeds_of_outs {x y : Pont} (h : y.outs = x.outs) : y.landeds = x.landeds := by
  simp only [Pont.landeds, h]

/-- Outputs changed one by one keep their landed values when each change does. -/
theorem landed_ofFn (v : Vector OutSt 8) (f : Fin 8 → OutSt) (h : ∀ i, (f i).landed = v[i].landed) :
    (Vector.ofFn f).map (·.landed) = v.map (·.landed) := by
  ext i hi
  simpa using h ⟨i, hi⟩

theorem landed_map (v : Vector OutSt 8) (f : OutSt → OutSt) (h : ∀ o, (f o).landed = o.landed) :
    (v.map f).map (·.landed) = v.map (·.landed) := by
  ext i hi
  simp [h]

theorem landed_vmod (v : Vector OutSt 8) (i : Nat) (f : OutSt → OutSt) (h : (f (vat v i {})).landed = (vat v i {}).landed) :
    (vmod v i f).map (·.landed) = v.map (·.landed) := by
  ext k hk
  simp only [vmod]
  split
  · rename_i hi
    simp only [vat, hi, dif_pos] at h
    by_cases hk' : i = k
    · subst hk'; simpa using h
    · simp [hk']
  · rfl

theorem vset_eq_vmod {α : Type} {n : Nat} (v : Vector α n) (i : Nat) (a : α) : vset v i a = vmod v i (fun _ => a) := rfl

theorem Pont.foldl_landeds {α : Type} (f : Pont → α → Pont) (hf : ∀ x a, (f x a).landeds = x.landeds) (l : List α) (x : Pont) :
    (l.foldl f x).landeds = x.landeds := by
  induction l generalizing x with
  | nil => rfl
  | cons a l ih => rw [List.foldl_cons, ih, hf]

/-- An output's change that keeps the landed value keeps those of the pontoon. -/
theorem Pont.modOut_landeds (x : Pont) (i : Nat) (f : OutSt → OutSt) (h : ∀ o, (f o).landed = o.landed) :
    (x.modOut i f).landeds = x.landeds := landed_vmod _ _ _ (h _)

@[simp] theorem Pont.rcIn_landeds (x : Pont) (addr lo : Nat) (n : Int) : (x.rcIn addr lo n).landeds = x.landeds := rfl
@[simp] theorem Pont.soundSnaps_landeds (x : Pont) (p : Nat) : (x.soundSnaps p).landeds = x.landeds := rfl

@[simp] theorem Pont.soundInputs_landeds (x : Pont) (p : Nat) (m : SoundingMeas) : (x.soundInputs p m).landeds = x.landeds :=
  landeds_of_outs (x.soundInputs_outs p m)

@[simp] theorem Pont.soundCounter_landeds (x : Pont) (p i : Nat) : (x.soundCounter p i).1.landeds = x.landeds :=
  landeds_of_outs (x.soundCounter_outs p i)

@[simp] theorem Pont.soundPq_landeds (x : Pont) (p j : Nat) : (x.soundPq p j).1.landeds = x.landeds :=
  landeds_of_outs (x.soundPq_outs p j)

@[simp] theorem Pont.soundExc_landeds (x : Pont) (p : Nat) (m : SoundingMeas) : (x.soundExc p m).landeds = x.landeds :=
  landeds_of_outs (x.soundExc_outs p m)

@[simp] theorem Pont.react_landeds (x : Pont) (p : Nat) (old : Pont) : (x.react p old).landeds = x.landeds :=
  landeds_of_outs (x.react_outs p old)

@[simp] theorem Pont.refreshHolds_landeds (x : Pont) (p : Nat) : (x.refreshHolds p).landeds = x.landeds :=
  landed_ofFn _ _ fun _ => rfl

@[simp] theorem Pont.track_landeds (x : Pont) (p age : Nat) : (x.track p age).landeds = x.landeds :=
  landed_ofFn _ _ fun i => by simp only; split <;> rfl

@[simp] theorem Pont.shedNow_landeds (x : Pont) (p : Nat) : (x.shedNow p).landeds = x.landeds :=
  landed_ofFn _ _ fun i => by simp only; split <;> rfl

@[simp] theorem Pont.unshed_landeds (x : Pont) (p : Nat) : (x.unshed p).landeds = x.landeds :=
  landed_ofFn _ _ fun i => by simp only; split <;> rfl

@[simp] theorem Pont.judgeAllRx_landeds (x : Pont) (p : Nat) : (x.judgeAllRx p).landeds = x.landeds := by
  rw [Pont.judgeAllRx, refreshHolds_landeds]
  exact landeds_of_outs (foldl_outs _ (fun x j => x.judgeRx_outs p j) _ x)

@[simp] theorem Pont.soundRx_landeds (x : Pont) (p : Nat) : (x.soundRx p).1.landeds = x.landeds :=
  x.judgeAllRx_landeds p

@[simp] theorem Pont.hailSlot_landeds (x : Pont) (p : Nat) (v : List PinV) : (x.hailSlot p v).landeds = x.landeds := by
  simp only [Pont.hailSlot]
  split
  · rfl
  · exact landed_ofFn _ _ fun _ => rfl

@[simp] theorem Pont.hailJudge_landeds (x : Pont) (p m : Nat) (lo hi : List PinV) (i : Nat) :
    (x.hailJudge p m lo hi i).landeds = x.landeds := by
  have missing (b : Bool) : (x.modOut i (fun o => { o with hailMissing := b })).landeds = x.landeds :=
    x.modOut_landeds _ _ fun _ => rfl
  have foreign : ((x.modOut i (fun o => { o with hailFrom := m })).rcIn (0x210 + (8 * p + i)) 15 1).landeds = x.landeds :=
    x.modOut_landeds _ _ fun _ => rfl
  simp only [Pont.hailJudge, apply_ite Pont.landeds, missing, foreign, ite_self]

@[simp] theorem Pont.hailSlotEnd_landeds (x : Pont) (p : Nat) (lo hi : List PinV) (acted : Bool) :
    (x.hailSlotEnd p lo hi acted).landeds = x.landeds := by
  simp only [Pont.hailSlotEnd]
  split
  · rfl
  · rename_i m _
    refine (landed_map _ _ ?_).trans ?_
    · exact fun _ => rfl
    · show Pont.landeds (if _ then _ else _) = _
      rw [apply_ite Pont.landeds, foldl_landeds _ (fun x i => x.hailJudge_landeds p m lo hi i), ite_self]

@[simp] theorem Pont.permitDown_landeds (x : Pont) (p l : Nat) : (x.permitDown p l).landeds = x.landeds := by
  simp only [Pont.permitDown]; split
  · exact refreshHolds_landeds _ p
  · rfl

@[simp] theorem Pont.cooled_landeds (x : Pont) (q : Fin 32) : (x.cooled q).landeds = x.landeds := by
  simp only [Pont.cooled]
  split
  · rfl
  · split
    · exact x.modOut_landeds _ _ fun _ => rfl
    · exact landed_vmod _ _ _ rfl

@[simp] theorem Pont.soundSwitch_landeds (x : Pont) (p i : Nat) (m : SoundingMeas) :
    (x.soundSwitch p i m).1.landeds = x.landeds := by
  simp only [Pont.soundSwitch, Pont.landeds, vset_eq_vmod]
  exact landed_vmod _ _ _ rfl

@[simp] theorem Pont.soundLines_landeds (x : Pont) (p : Nat) (m : SoundingMeas) (v : Bool) :
    (x.soundLines p m v).landeds = x.landeds := by
  simp only [Pont.soundLines, refreshHolds_landeds]
  refine landeds_of_outs ((foldl_outs _ (fun x l => ?_) _ _).trans rfl)
  split <;> rfl

theorem soundFold_landeds (f : Pont → Nat → Pont × List (Nat × Word)) (hf : ∀ x i, (f x i).1.landeds = x.landeds)
    (l : List Nat) (x : Pont) : (soundFold x l f).1.landeds = x.landeds := by
  suffices h : ∀ a : Pont × List (Nat × Word),
      (l.foldl (fun a i => let r := f a.1 i; (r.1, a.2 ++ r.2)) a).1.landeds = a.1.landeds from h (x, [])
  induction l with
  | nil => exact fun _ => rfl
  | cons i l ih => exact fun a => (ih _).trans (hf _ _)

@[simp] theorem Pont.soundAis_landeds (x : Pont) (p : Nat) (m : SoundingMeas) : (x.soundAis p m).1.landeds = x.landeds := by
  suffices h : ∀ (l : List Nat) (a : Pont × List (Nat × Word) × List AiRep),
      (l.foldl (fun a i => let r := a.1.soundAi p i (m.ckSat.getLsbD i)
        (r.1, a.2.1 ++ r.2.1, a.2.2 ++ [r.2.2])) a).1.landeds = a.1.landeds from h _ (x, [], [])
  intro l
  induction l with
  | nil => exact fun _ => rfl
  | cons i l ih => exact fun a => (ih _).trans (landeds_of_outs (Pont.soundAi_outs a.1 p i (m.ckSat.getLsbD i)))

@[simp] theorem Pont.sound_landeds (x : Pont) (p : Nat) (m : SoundingMeas) (v all carry : Bool) :
    (x.sound p m v all carry).landeds = x.landeds := by
  simp only [Pont.sound]
  rw [landeds_of_outs (soundResets_outs ..)]
  show Pont.landeds (if _ then _ else _) = _
  rw [apply_ite Pont.landeds]
  simp only [rcIn_landeds, ite_self, soundAis_landeds, soundSnaps_landeds, soundExc_landeds]
  rw [soundFold_landeds _ fun y j => y.soundPq_landeds p j, soundFold_landeds _ fun y i => y.soundSwitch_landeds p i m,
    soundRx_landeds, soundFold_landeds _ fun y i => y.soundCounter_landeds p i, soundInputs_landeds, soundLines_landeds]
  rfl

@[simp] theorem Pont.takeSetup_landeds (x : Pont) (p : Nat) (ch : List Word) (pins : BitVec 2) (n : Nat) :
    (x.takeSetup p ch pins n).landeds = x.landeds := by
  simp only [Pont.takeSetup, unshed_landeds, shedNow_landeds, judgeAllRx_landeds]
  rw [landeds_of_outs (newPq_outs ..), landeds_of_outs (newAnalog_outs ..), landeds_of_outs (takeLanes_outs ..)]
  exact landed_ofFn x.outs _ fun _ => rfl

@[simp] theorem Pont.sagOn_landeds (x : Pont) (p : Nat) (c : Sag) : (x.sagOn p c).landeds = x.landeds := by
  simp only [Pont.sagOn, shedNow_landeds]
  cases c <;> rfl

@[simp] theorem Pont.sagOff_landeds (x : Pont) (p : Nat) (c : Sag) : (x.sagOff p c).landeds = x.landeds := by
  simp only [Pont.sagOff, unshed_landeds]
  cases c
  case dark =>
    refine landeds_of_outs ?_
    simp only
    split <;> simp only [markUns_outs, apply_ite Pont.outs, ite_self]
  all_goals rfl

end Sys2Proof.Machine
end

section
/-! PROOFS. What every step keeps, gathered operation by operation: the canonical form of the banks (R434), the depths of the slips
(R27), the order of the check-ins (R25), and the landed values of pontoons (R55, R260). -/

namespace Sys2Proof.Machine

/-! ### The relation -/

/-- A state reached from another has lost none of its invariants, and no landed value of a pontoon for which `P` holds has changed. -/
structure Keeps (P : Fin 4 → Prop) (s t : State) : Prop where
  banks : s.banksOk = true → t.banksOk = true
  slips : s.slipsOk = true → t.slipsOk = true
  order : s.tollOrder = true → t.tollOrder = true
  landed : ∀ p, P p → (t.pont p).landeds = (s.pont p).landeds

/-- What the invariants and the landed values are read from. -/
abbrev State.core (s : State) :=
  (s.nvmA, s.nvmB, (s.hpa.slipA, s.hpa.slipB, s.hpb.slipA, s.hpb.slipB), (s.hpa.toll, s.hpb.toll, s.rst.tick),
    (s.com.slipA, s.com.slipB, s.com.slipQ), s.ponts)

/-- The depths of R27, one by one. -/
structure State.Depths (s : State) : Prop where
  hpaA : s.hpa.slipA.length ≤ 2
  hpaB : s.hpa.slipB.length ≤ 2
  hpbA : s.hpb.slipA.length ≤ 2
  hpbB : s.hpb.slipB.length ≤ 2
  tollA : s.hpa.toll.length ≤ 8
  tollB : s.hpb.toll.length ≤ 8
  recA : s.com.slipA.length ≤ 8
  recB : s.com.slipB.length ≤ 8
  recQ : s.com.slipQ.length ≤ 4

theorem State.slipsOk_iff (s : State) : s.slipsOk = true ↔ s.Depths := by
  simp only [State.slipsOk, Bool.and_eq_true, decide_eq_true_eq]
  exact ⟨fun ⟨⟨⟨⟨⟨⟨⟨⟨a, b⟩, c⟩, d⟩, e⟩, f⟩, g⟩, h⟩, i⟩ => ⟨a, b, c, d, e, f, g, h, i⟩,
    fun ⟨a, b, c, d, e, f, g, h, i⟩ => ⟨⟨⟨⟨⟨⟨⟨⟨a, b⟩, c⟩, d⟩, e⟩, f⟩, g⟩, h⟩, i⟩⟩

section
variable {P : Fin 4 → Prop} {s t u : State}

theorem Keeps.refl : Keeps P s s := ⟨id, id, id, fun _ _ => rfl⟩

theorem Keeps.trans (h : Keeps P s t) (k : Keeps P t u) : Keeps P s u :=
  ⟨k.banks ∘ h.banks, k.slips ∘ h.slips, k.order ∘ h.order, fun p hp => (k.landed p hp).trans (h.landed p hp)⟩

theorem Keeps.of_core (e : u.core = t.core) : Keeps P t u := by
  simp only [State.core, Prod.mk.injEq] at e
  obtain ⟨nvmA, nvmB, ⟨aA, aB, bA, bB⟩, ⟨tollA, tollB, tick⟩, ⟨recA, recB, recQ⟩, ponts⟩ := e
  refine ⟨fun h => ?_, fun h => ?_, fun h => ?_, fun p _ => ?_⟩
  · rwa [State.banksOk, nvmA, nvmB]
  · rwa [State.slipsOk, aA, aB, bA, bB, tollA, tollB, recA, recB, recQ]
  · rwa [State.tollOrder, tollA, tollB, tick]
  · rw [State.pont, State.pont, ponts]

/-- A change of what neither an invariant nor a landed value is read from. -/
theorem Keeps.same (h : Keeps P s t) (e : u.core = t.core) : Keeps P s u := h.trans (.of_core e)

theorem Keeps.ite {c : Prop} [Decidable c] (h : Keeps P s t) (k : Keeps P s u) : Keeps P s (if c then t else u) := by
  split
  · exact h
  · exact k

theorem Keeps.foldl {α : Type} {f : State → α → State} (hf : ∀ t a, Keeps P s t → Keeps P s (f t a)) (l : List α)
    (h : Keeps P s t) : Keeps P s (l.foldl f t) := by
  induction l generalizing t with
  | nil => exact h
  | cons a l ih => exact ih (hf _ _ h)

/-! ### Parts of the state -/

theorem Keeps.modHelm {g : HelmId} {f : Helm → Helm} (h : Keeps P s t) : Keeps P s (t.modHelm g f) :=
  h.same (by cases g <;> rfl)

theorem Keeps.modHs {g : HelmId} {f : HelmState → HelmState} (h : Keeps P s t) : Keeps P s (t.modHs g f) := h.modHelm

theorem Keeps.modAllHs {f : HelmState → HelmState} (h : Keeps P s t) : Keeps P s (t.modAllHs f) := h.same rfl

theorem Keeps.setDecided {g : HelmId} {v : Svc} (h : Keeps P s t) : Keeps P s (t.setDecided g v) := h.same rfl

/-- A change of a front end that leaves its command and toll slips. -/
theorem Keeps.modPort {p : Port} {f : PortFE → PortFE} (h : Keeps P s t)
    (e : ∀ x, ((f x).slipA, (f x).slipB, (f x).toll) = (x.slipA, x.slipB, x.toll) := by exact fun _ => rfl) :
    Keeps P s (t.modPort p f) := by
  refine h.same ?_
  have ea := e t.hpa
  have eb := e t.hpb
  simp only [Prod.mk.injEq] at ea eb
  cases p <;> simp [State.core, State.modPort, ea, eb]

/-- A change of the pontoons that leaves the landed values asked for. -/
theorem Keeps.ponts {v : Vector Pont 4} (h : Keeps P s t) (e : ∀ p, P p → v[p].landeds = (t.pont p).landeds) :
    Keeps P s { t with ponts := v } :=
  h.trans ⟨id, id, id, e⟩

theorem Keeps.modPont_of {p : Fin 4} {f : Pont → Pont} (h : Keeps P s t) (e : P p → (f (t.pont p)).landeds = (t.pont p).landeds) :
    Keeps P s (t.modPont p f) := by
  refine h.ponts fun q hq => ?_
  by_cases hpq : p = q
  · subst hpq
    simpa [State.pont] using e hq
  · have : (p : Nat) ≠ q := fun e => hpq (Fin.ext e)
    simp [State.pont, this]

theorem Keeps.modPont {p : Fin 4} {f : Pont → Pont} (h : Keeps P s t)
    (e : ∀ x, (f x).landeds = x.landeds := by exact fun _ => rfl) : Keeps P s (t.modPont p f) :=
  h.modPont_of fun _ => e _

theorem Keeps.modField_of {p : Fin 4} {f : Pont → Pont} (h : Keeps P s t) (e : P p → (f (t.pont p)).landeds = (t.pont p).landeds) :
    Keeps P s (t.modField p f) :=
  h.modPont_of fun hp => by rw [Pont.track_landeds, Pont.react_landeds, e hp]

theorem Keeps.modField {p : Fin 4} {f : Pont → Pont} (h : Keeps P s t) (e : ∀ x, (f x).landeds = x.landeds) :
    Keeps P s (t.modField p f) :=
  h.modField_of fun _ => e _

theorem Keeps.mapPonts {f : Nat → Pont → Pont} (h : Keeps P s t) (e : ∀ p x, (f p x).landeds = x.landeds) :
    Keeps P s (t.mapPonts f) :=
  h.ponts fun p _ => by simpa [State.pont] using e p _

theorem Keeps.map_ponts {f : Pont → Pont} (h : Keeps P s t) (e : ∀ x, (f x).landeds = x.landeds) :
    Keeps P s { t with ponts := t.ponts.map f } :=
  h.ponts fun p _ => by simpa [State.pont] using e _

/-! ### Ticks and check-ins (R25) -/

theorem ticksOk_le {m n : Nat} (h : m ≤ n) : ∀ {l : List Nat}, ticksOk l m = true → ticksOk l n = true
  | [], _ => rfl
  | a :: l, e => by
    simp only [ticksOk, Bool.and_eq_true, decide_eq_true_eq] at e ⊢
    obtain ⟨⟨le, all⟩, rest⟩ := e
    exact ⟨⟨le.trans h, all⟩, ticksOk_le h rest⟩

theorem le_of_ticksOk {m : Nat} : ∀ {l : List Nat}, ticksOk l m = true → ∀ a ∈ l, a ≤ m
  | a :: l, e, b, hb => by
    simp only [ticksOk, Bool.and_eq_true, decide_eq_true_eq] at e
    obtain ⟨⟨le, -⟩, rest⟩ := e
    rcases List.mem_cons.1 hb with rfl | hb
    · exact le
    · exact le_of_ticksOk rest b hb

theorem ticksOk_tail {a m : Nat} {l : List Nat} (h : ticksOk (a :: l) m = true) : ticksOk l m = true := by
  simp only [ticksOk, Bool.and_eq_true] at h
  exact h.2

/-- A check-in of the present tick stands last in order. -/
theorem ticksOk_concat {m : Nat} : ∀ {l : List Nat}, ticksOk l m = true → ticksOk (l ++ [m]) m = true
  | [], _ => by simp [ticksOk]
  | a :: l, e => by
    simp only [ticksOk, Bool.and_eq_true, decide_eq_true_eq, List.cons_append, List.all_append] at e ⊢
    obtain ⟨⟨le, all⟩, rest⟩ := e
    exact ⟨⟨le, all, by simpa using le⟩, ticksOk_concat rest⟩

/-- The count of ticks only rises. -/
theorem Keeps.tick {n : Nat} (h : Keeps P s t) (hn : t.rst.tick ≤ n) :
    Keeps P s { t with rst := { t.rst with tick := n } } := by
  refine h.trans ⟨id, id, fun o => ?_, fun _ _ => rfl⟩
  simp only [State.tollOrder, Bool.and_eq_true] at o ⊢
  exact ⟨ticksOk_le hn o.1, ticksOk_le hn o.2⟩

theorem Keeps.atTick {n : Nat} (h : Keeps P s t) : Keeps P s (t.atTick n) := h.tick (le_max_left ..)

theorem Keeps.mooringTick (h : Keeps P s t) : Keeps P s t.mooringTick :=
  (h.tick (Nat.le_succ _)).same rfl

/-- The oldest check-in taken leaves the others in order. -/
theorem keeps_nextCheckIn {c : CheckIn} (e : t.nextCheckIn = some (c, u)) : Keeps P t u := by
  have fewer {l l' : List CheckIn} {a : CheckIn} (hl : l = a :: l') : l'.length ≤ l.length := by rw [hl]; exact Nat.le_succ _
  have tail {l l' : List CheckIn} {a : CheckIn} (hl : l = a :: l') (m : Nat) (o : ticksOk (l.map (·.tick)) m = true) :
      ticksOk (l'.map (·.tick)) m = true := by rw [hl] at o; exact ticksOk_tail o
  have first {l : List CheckIn} {a : CheckIn} (hl : t.hpa.toll = a :: l) :
      Keeps P t { t with hpa := { t.hpa with toll := l } } := by
    refine ⟨id, fun d => ?_, fun o => ?_, fun _ _ => rfl⟩
    · rw [State.slipsOk_iff] at d ⊢
      exact { d with tollA := (fewer hl).trans d.tollA }
    · simp only [State.tollOrder, Bool.and_eq_true] at o ⊢
      exact ⟨tail hl _ o.1, o.2⟩
  have second {l : List CheckIn} {a : CheckIn} (hl : t.hpb.toll = a :: l) :
      Keeps P t { t with hpb := { t.hpb with toll := l } } := by
    refine ⟨id, fun d => ?_, fun o => ?_, fun _ _ => rfl⟩
    · rw [State.slipsOk_iff] at d ⊢
      exact { d with tollB := (fewer hl).trans d.tollB }
    · simp only [State.tollOrder, Bool.and_eq_true] at o ⊢
      exact ⟨o.1, tail hl _ o.2⟩
  unfold State.nextCheckIn at e
  split at e
  · split at e <;> cases e
    · exact first ‹_›
    · exact second ‹_›
  · cases e; exact first ‹_›
  · cases e; exact second ‹_›
  · cases e

/-! ### Events, RC fields, the bell, records -/

theorem Keeps.rcAdd {addr lo : Nat} {n : Int} (h : Keeps P s t) : Keeps P s (t.rcAdd addr lo n) := h.same rfl

theorem Keeps.rcAdds {es : List RcInc} (h : Keeps P s t) : Keeps P s (t.rcAdds es) := h.same rfl

theorem Keeps.ring {k : Nat} (h : Keeps P s t) : Keeps P s (t.ring k) := .ite (h.same rfl) (h.same rfl)

theorem Keeps.ringEv {k : Nat} (h : Keeps P s t) : Keeps P s (t.ringEv k) := .ite h h.ring

theorem Keeps.ringDue {k : Nat} (h : Keeps P s t) : Keeps P s (t.ringDue k) := .ite (h.same rfl) h.ring

theorem Keeps.raiseEv {at_ : Stamp} {e : Ev} (h : Keeps P s t) : Keeps P s (t.raiseEv at_ e) := h.same rfl

theorem Keeps.quayCause {k : Nat} (h : Keeps P s t) : Keeps P s (t.quayCause k) := h.ringEv.raiseEv

/-- Another record slip of the Quay within its depth. -/
theorem Keeps.slipQ {q : List Rec} (h : Keeps P s t) (hq : t.com.slipQ.length ≤ 4 → q.length ≤ 4) :
    Keeps P s { t with com := { t.com with slipQ := q } } := by
  refine h.trans ⟨id, fun d => ?_, id, fun _ _ => rfl⟩
  rw [State.slipsOk_iff] at d ⊢
  exact { d with recQ := hq d.recQ }

theorem Keeps.quayRec {r : Rec} (h : Keeps P s t) : Keeps P s (t.quayRec r) := by
  rcases t.quayRec_cases r with ⟨-, e⟩ | ⟨-, room, e⟩ | ⟨-, -, e⟩ <;> rw [e]
  · exact h
  · exact h.slipQ fun _ => by simpa using room
  · exact h.rcAdd

theorem Keeps.tideRec {cls code : Nat} (h : Keeps P s t) : Keeps P s (t.tideRec cls code) := h.quayRec

theorem Keeps.helmRec {g : HelmId} {at_ : Stamp} {cls code : Nat} {d0 d1 d2 : Word} (h : Keeps P s t) :
    Keeps P s (t.helmRec g at_ cls code d0 d1 d2) := h.modHelm

theorem Keeps.sharedRec {g : HelmId} {at_ : Stamp} {cls code : Nat} {d0 d1 d2 : Word} (h : Keeps P s t) :
    Keeps P s (t.sharedRec g at_ cls code d0 d1 d2) := h.modHelm

theorem Keeps.sureRec {g : HelmId} {at_ : Stamp} {cls code : Nat} {d0 d1 d2 : Word} (h : Keeps P s t) :
    Keeps P s (t.sureRec g at_ cls code d0 d1 d2) := h.modHelm

theorem Keeps.handOn {g : HelmId} (h : Keeps P s t) : Keeps P s (t.handOn g) := h.modHelm

theorem Keeps.painterTime {g : HelmId} (h : Keeps P s t) : Keeps P s (t.painterTime g) := .ite h h.modHelm.modHelm

theorem Keeps.dropTest {k : TestKey} (h : Keeps P s t) : Keeps P s (t.dropTest k) := h.same rfl

theorem Keeps.results {g : HelmId} {l : List Rec} (h : Keeps P s t) : Keeps P s (t.results g l) := by
  induction l generalizing t with
  | nil => exact h
  | cons r l ih =>
    unfold State.results
    split
    · exact .ite (ih h) (ih (Keeps.modHelm (h.same rfl)))
    · exact h

theorem Keeps.offerRecords {g : HelmId} (h : Keeps P s t) : Keeps P s (t.offerRecords g) := by
  refine .ite h (Keeps.results (Keeps.modHelm (h.trans ⟨id, fun d => ?_, id, fun _ _ => rfl⟩)))
  rw [State.slipsOk_iff] at d ⊢
  have enters {l q : List Rec} (hl : l.length ≤ 8) : (l ++ q.take (8 - l.length)).length ≤ 8 := by
    simp only [List.length_append, List.length_take]; omega
  cases g
  · exact { d with recA := enters d.recA }
  · exact { d with recB := enters d.recB }

/-! ### Resets -/

theorem Keeps.recordCauseAt {c b : BitVec 4} {k : BitVec 3} {at_ : Stamp} {n : Nat} (h : Keeps P s t) :
    Keeps P s (t.recordCauseAt c b k at_ n) := h.same rfl

theorem Keeps.recordCause {c b : BitVec 4} {k : BitVec 3} (h : Keeps P s t) : Keeps P s (t.recordCause c b k) := h.same rfl

/-- New front ends have nothing in their slips. -/
theorem Keeps.noPorts (h : Keeps P s t) : Keeps P s { t with hpa := {}, hpb := {} } := by
  refine h.trans ⟨id, fun d => ?_, fun _ => rfl, fun _ _ => rfl⟩
  rw [State.slipsOk_iff] at d ⊢
  exact { d with hpaA := Nat.zero_le _, hpaB := Nat.zero_le _, hpbA := Nat.zero_le _, hpbB := Nat.zero_le _
                 tollA := Nat.zero_le _, tollB := Nat.zero_le _ }

theorem Keeps.resetLogic (h : Keeps P s t) : Keeps P s t.resetLogic :=
  (h.noPorts.map_ponts (f := fun x => x.forgetJudge.noBeats) fun x => Pont.landeds_of_outs (by simp)).same rfl

theorem Keeps.resetWith {c b : BitVec 4} (h : Keeps P s t) : Keeps P s (t.resetWith c b) := h.recordCause.resetLogic

/-! ### Timebase and toll keeper -/

theorem Keeps.snoop {i : SnoopItem} (h : Keeps P s t) : Keeps P s (t.snoop i) := h.same rfl

theorem Keeps.restartCus {n : Nat} (h : Keeps P s t) : Keeps P s (t.restartCus n) := h.same rfl

theorem Keeps.discardTide {b : Bool} (h : Keeps P s t) : Keeps P s (t.discardTide b) :=
  Keeps.raiseEv (Keeps.ringEv (Keeps.tideRec (h.same rfl)))

theorem Keeps.expire {te : Nat} {at_ : Stamp} {sub : BitVec 4} {task port : Nat} {param : Word} {lo : Nat} (h : Keeps P s t) :
    Keeps P s (t.expire te at_ sub task port param lo) := by
  unfold State.expire
  extract_lets toll _ pulse caused recorded rung
  have k : Keeps P s pulse := h.atTick.same rfl
  have rung : Keeps P s rung := k.recordCauseAt.quayRec.rcAdd.ringEv
  exact .ite rung.raiseEv (rung.same rfl)

theorem Keeps.judge {c : CheckIn} (h : Keeps P s t) : Keeps P s (t.judge c) :=
  .ite h.rcAdd (.ite h.expire (.ite h.expire (.ite h.expire (h.same rfl))))

theorem Keeps.closeWindow (h : Keeps P s t) : Keeps P s t.closeWindow := by
  unfold State.closeWindow
  extract_lets toll te at_ now
  have now : Keeps P s now := h.atTick
  exact .ite (now.same rfl) now.expire

theorem Keeps.pulseOver (h : Keeps P s t) : Keeps P s t.pulseOver := h.atTick.same rfl

theorem Keeps.tollEvent (h : Keeps P s t) : Keeps P s t.tollEvent := by
  unfold State.tollEvent
  split
  · exact h.closeWindow
  · exact h.closeWindow
  · exact h.pulseOver
  · exact h

theorem Keeps.tollTo {lim : Nat} : ∀ (n : Nat) {t : State}, Keeps P s t → Keeps P s (State.tollTo n lim t)
  | 0, _, h => h
  | n + 1, t, h => by
    unfold State.tollTo
    split
    · have next := h.trans (keeps_nextCheckIn ‹_›)
      exact .ite (.ite (Keeps.tollTo n next.judge) h) (.ite (Keeps.tollTo n h.tollEvent) h)
    · exact .ite (Keeps.tollTo n h.tollEvent) h
    · exact .ite (Keeps.tollTo n (h.trans (keeps_nextCheckIn ‹_›)).judge) h
    · exact h

theorem Keeps.tollAt {n : Nat} (h : Keeps P s t) : Keeps P s (t.tollAt n) :=
  .ite ((Keeps.tollTo _ h).same rfl) (Keeps.tollTo _ h)

theorem Keeps.wakeBy {c : BitVec 4} (h : Keeps P s t) : Keeps P s (t.wakeBy c) := by
  unfold State.wakeBy
  split
  · split
    · exact .ite (h.same rfl) h
    · exact h.same rfl
  · exact h

end

end Sys2Proof.Machine
end

section
/-! PROOFS. What every step keeps: the banks and the commit engine, the landing, and the front ends of the ports. -/

namespace Sys2Proof.Machine

section
variable {P : Fin 4 → Prop} {s t u : State}

/-! ### The banks and the commit engine -/

/-- Other banks, in canonical form where those before were. -/
theorem Keeps.nvm {a b : Bank} (h : Keeps P s t) (ha : t.nvmA.wf = true → a.wf = true) (hb : t.nvmB.wf = true → b.wf = true) :
    Keeps P s { t with nvmA := a, nvmB := b } := by
  refine h.trans ⟨fun k => ?_, id, id, fun _ _ => rfl⟩
  simp only [State.banksOk, Bool.and_eq_true] at k ⊢
  exact ⟨ha k.1, hb k.2⟩

theorem Keeps.modBank {b : Bool} {f : Bank → Bank} (h : Keeps P s t) (hf : ∀ k : Bank, k.wf = true → (f k).wf = true) :
    Keeps P s (t.modBank b f) := by
  cases b
  · exact h.nvm (hf _) id
  · exact h.nvm id (hf _)

theorem Keeps.delivered {b : Bool} {addr n : Nat} {ws : List Word} (h : Keeps P s t) : Keeps P s (t.delivered b addr ws n) :=
  h.snoop

theorem Keeps.askRead {g : HelmId} {r : NvmRead} (h : Keeps P s t) : Keeps P s (t.askRead g r) := h.modHelm

theorem Keeps.servePorts : ∀ (n : Nat) {t : State}, Keeps P s t → Keeps P s (State.servePorts n t)
  | 0, _, h => h
  | n + 1, t, h => by
    unfold State.servePorts
    split
    · exact h
    · extract_lets asked bit
      have asked : Keeps P s asked := h.modHelm
      exact Keeps.servePorts n (Keeps.delivered (asked.same rfl))

theorem Keeps.serveReads (h : Keeps P s t) : Keeps P s t.serveReads := Keeps.servePorts _ h.modHelm.modHelm

theorem Keeps.readWords {b : Bool} {addr n : Nat} (h : Keeps P s t) : Keeps P s (t.readWords b addr n) := h.delivered

theorem Keeps.resumeRings (h : Keeps P s t) : Keeps P s t.resumeRings :=
  h.same (by
    unfold State.resumeRings
    split <;> rfl)

theorem Keeps.putBank {b : Bool} {addr : Nat} {ws : List Word} {journal : Option (Nat × Word)} {ok : Bool} (h : Keeps P s t) :
    Keeps P s (t.putBank b addr ws journal ok) := by
  refine Keeps.modBank ?_ fun _ => Bank.put_wf _ _ _ _ _
  cases ok
  · exact (h.quayRec (r := t.nvmFault addr b)).same (by simp [State.core, State.nvmFault])
  · exact h.same rfl

theorem Keeps.writeBoth {addr : Nat} {ws : List Word} {journal : Option (Nat × Word)} {v : PairBack} (h : Keeps P s t) :
    Keeps P s (t.writeBoth addr ws journal v) := h.putBank.putBank

theorem Keeps.commitOne {r : Rec} {v : ReadBack} (h : Keeps P s t) : Keeps P s (t.commitOne r v) := by
  unfold State.commitOne
  extract_lets c moved written again _ filled
  have moved : Keeps P s moved := h.same rfl
  have written : Keeps P s written := moved.writeBoth
  have again : Keeps P s again := written.writeBoth
  have filled : Keeps P s filled := again.same rfl
  exact .ite (.ite filled filled.quayCause) written

theorem Keeps.commitOwn {r : Rec} (h : Keeps P s t) : Keeps P s (t.commitOwn r) := Keeps.commitOne (h.same rfl)

/-- Fewer records in the slips. -/
theorem Keeps.fewer {c : Commit} (h : Keeps P s t) (hA : c.slipA.length ≤ t.com.slipA.length)
    (hB : c.slipB.length ≤ t.com.slipB.length) (hQ : c.slipQ.length ≤ t.com.slipQ.length) : Keeps P s { t with com := c } := by
  refine h.trans ⟨id, fun d => ?_, id, fun _ _ => rfl⟩
  rw [State.slipsOk_iff] at d ⊢
  exact { d with recA := hA.trans d.recA, recB := hB.trans d.recB, recQ := hQ.trans d.recQ }

theorem Commit.take_fewer {c d : Commit} {r : Rec} (e : c.take = some (r, d)) :
    d.slipA.length ≤ c.slipA.length ∧ d.slipB.length ≤ c.slipB.length ∧ d.slipQ.length ≤ c.slipQ.length := by
  unfold Commit.take at e
  split at e
  · cases e; simp_all
  · split at e
    · split at e <;> cases e <;> simp_all
    · cases e; simp_all
    · cases e; simp_all
    · cases e

theorem Commit.after_fewer : ∀ (n : Nat) (c : Commit), (c.after n).slipA.length ≤ c.slipA.length
    ∧ (c.after n).slipB.length ≤ c.slipB.length ∧ (c.after n).slipQ.length ≤ c.slipQ.length
  | 0, _ => ⟨le_rfl, le_rfl, le_rfl⟩
  | n + 1, c => by
    unfold Commit.after
    split
    · obtain ⟨a, b, q⟩ := Commit.take_fewer ‹_›
      obtain ⟨a', b', q'⟩ := Commit.after_fewer n _
      exact ⟨a'.trans a, b'.trans b, q'.trans q⟩
    · exact ⟨le_rfl, le_rfl, le_rfl⟩

theorem Keeps.take {c : Commit} {r : Rec} (h : Keeps P s t) (e : t.com.take = some (r, c)) : Keeps P s { t with com := c } :=
  have f := Commit.take_fewer e
  h.fewer f.1 f.2.1 f.2.2

theorem Keeps.drainEngine (h : Keeps P s t) : Keeps P s t.drainEngine :=
  have f := Commit.after_fewer 20 t.com
  Keeps.foldl (fun _ _ k => k.commitOwn) _ (h.fewer f.1 f.2.1 f.2.2)

theorem Keeps.finishHoldUp (h : Keeps P s t) : Keeps P s t.finishHoldUp := by
  unfold State.finishHoldUp
  extract_lets drained
  have drained : Keeps P s drained := h.drainEngine
  split
  · exact Keeps.commitOwn (drained.same rfl)
  · exact drained

theorem Keeps.clearFf {r : Rec} (h : Keeps P s t) : Keeps P s (t.clearFf r) := by
  unfold State.clearFf
  extract_lets wipe _ wiped later
  have k : Keeps P s wiped :=
    (h.nvm (a := wipe t.nvmA) (b := wipe t.nvmB) (Bank.writes_wf _ _) (Bank.writes_wf _ _)).same rfl
  clear_value wiped
  have k : Keeps P s later := k.same rfl
  exact k.writeBoth.commitOne

theorem Keeps.readSlots {v : State} {g : HelmId} {ff : Bool} {l : List Nat} {n : Nat} (h : Keeps P s t) :
    Keeps P s (t.readSlots v g ff l n) :=
  Keeps.foldl (fun _ _ k => k.askRead.askRead) _ h

theorem Keeps.queueNvm {a b : Bool} {addr : Nat} {ws : List Word} (h : Keeps P s t) : Keeps P s (t.queueNvm a b addr ws) :=
  .ite (h.same rfl) h

theorem Keeps.queueCopy {c : Nat} {ch : List Word} (h : Keeps P s t) : Keeps P s (t.queueCopy c ch) := h.queueNvm

theorem Keeps.readTable (h : Keeps P s t) : Keeps P s t.readTable := .ite h.readWords h.readWords.readWords

theorem Keeps.writeImgTable {ws : List Word} (h : Keeps P s t) : Keeps P s (t.writeImgTable ws) :=
  h.nvm (Bank.writes_wf _ _) (Bank.writes_wf _ _)

theorem Keeps.readImage {ws : List Word} {k : Nat} (h : Keeps P s t) : Keeps P s (t.readImage ws k) :=
  .ite h.readWords h.readWords.readWords

theorem Keeps.loadImage {g : HelmId} {ws : List Word} (h : Keeps P s t) : Keeps P s (t.loadImage g ws) := by
  unfold State.loadImage
  extract_lets b read
  have read : Keeps P s read := .ite h.readImage h
  exact .ite read.modHelm.helmRec.offerRecords read.modHelm

/-! ### Strokes and the landing at the Quay -/

theorem Keeps.nvmWrite {d : NvmDue} (h : Keeps P s t) : Keeps P s (d.write t) := by
  refine h.nvm (fun k => ?_) fun k => ?_
  · split
    · exact Bank.writes_wf _ _ k
    · exact k
  · split
    · exact Bank.writes_wf _ _ k
    · exact k

theorem Keeps.landEffects {n : Nat} (h : Keeps P s t) : Keeps P s (t.landEffects n) := by
  unfold State.landEffects
  extract_lets written _
  have k : Keeps P s written := (Keeps.foldl (fun _ d k => k.nvmWrite (d := d)) _ h).modAllHs
  refine (k.ponts (v := match written.setups with
    | some ch => written.ponts.map (fun x => if x.running && x.loaded then { x with nextSetup := some (n, ch) } else x)
    | none => written.ponts) fun p _ => ?_).same rfl
  split
  · simp only [State.pont, Fin.getElem_fin, Vector.getElem_map]
    split <;> rfl
  · rfl

theorem Keeps.dropEffects {n : Nat} (h : Keeps P s t) : Keeps P s (t.dropEffects n) := h.same rfl

theorem Keeps.landRecords {n : Nat} (h : Keeps P s t) : Keeps P s (t.landRecords n) := h.same rfl

theorem Keeps.closeAttached {g : HelmId} (h : Keeps P s t) : Keeps P s (t.closeAttached g) := by
  unfold State.closeAttached
  extract_lets closed noted
  have noted : Keeps P s noted := h.setDecided.modHelm.quayRec
  exact .ite h (noted.same rfl)

theorem Keeps.atLanding {n : Nat} (h : Keeps P s t) : Keeps P s (t.atLanding n) := by
  unfold State.atLanding
  extract_lets served kept leader recs landed
  have served : Keeps P s served := h.closeAttached.closeAttached.serveReads
  have recs : Keeps P s recs := (Keeps.ite served.landEffects.restartCus served).landRecords
  exact recs.same rfl

theorem Keeps.atStroke (h : Keeps P s t) : Keeps P s t.atStroke := by
  unfold State.atStroke
  extract_lets now pushed st marked _ later
  have later : Keeps P s later := h.same rfl
  exact .ite (h.same rfl) (.ite (h.same rfl) (.ite later.atLanding later))

theorem Keeps.advanceStroke (h : Keeps P s t) : Keeps P s t.advanceStroke :=
  .ite (Keeps.atStroke (h.same rfl)) (.ite (Keeps.atStroke (h.same rfl)) (Keeps.atStroke (h.same rfl)))

theorem Keeps.heldStroke (h : Keeps P s t) : Keeps P s t.heldStroke := h.same rfl

theorem Keeps.resetSounded {n : Nat} (h : Keeps P s t) : Keeps P s (t.resetSounded n) :=
  h.mapPonts fun p x => by
    split
    · split
      · exact Pont.landeds_of_outs (by simp)
      · rfl
    · rfl

theorem Keeps.markedEdge {n : Nat} (h : Keeps P s t) : Keeps P s (t.markedEdge n) :=
  .ite h (.ite (Keeps.resetSounded (h.same rfl)) (h.same rfl))

theorem Keeps.syncMismatch (h : Keeps P s t) : Keeps P s t.syncMismatch :=
  .ite (h.same rfl) (Keeps.quayCause (h.same rfl))

/-! ### The front ends of the ports -/

theorem Keeps.countReject {p : Port} {st : Status} (h : Keeps P s t) : Keeps P s (t.countReject p st) := by
  unfold State.countReject
  split
  · exact h.rcAdd
  · exact .ite h.rcAdd h

theorem Keeps.drainReplies {p : Port} (h : Keeps P s t) : Keeps P s (t.drainReplies p) := h.same rfl

theorem Keeps.heardNow {p : Port} (h : Keeps P s t) : Keeps P s (t.heardNow p) := .ite h h.modPort.raiseEv

theorem Keeps.feReply {p : Port} {g : Gen} {r : Reply} (h : Keeps P s t) : Keeps P s (t.feReply p g r) :=
  (h.modPort fun _ => by cases g <;> rfl).drainReplies

theorem Keeps.ul1Reply {p : Port} {bs : List Byte} (h : Keeps P s t) : Keeps P s (t.ul1Reply p bs) := h.modPort.drainReplies

theorem Keeps.setAlive {p : Port} {a : Byte} (h : Keeps P s t) : Keeps P s (t.setAlive p a) := h.modPort

theorem Keeps.rejectFrame {p : Port} {g : Gen} {st : Status} {a b : Byte} (h : Keeps P s t) :
    Keeps P s (t.rejectFrame p g st a b) := h.countReject.feReply.setAlive

/-- Command slips of a port within their depth, and its toll slip as it was. -/
theorem Keeps.modSlips {p : Port} {f : PortFE → PortFE} (h : Keeps P s t)
    (hA : (t.port p).slipA.length ≤ 2 → (f (t.port p)).slipA.length ≤ 2)
    (hB : (t.port p).slipB.length ≤ 2 → (f (t.port p)).slipB.length ≤ 2)
    (toll : (f (t.port p)).toll = (t.port p).toll) : Keeps P s (t.modPort p f) := by
  refine h.trans ⟨fun k => ?_, fun d => ?_, fun o => ?_, fun q _ => ?_⟩
  · cases p <;> exact k
  · rw [State.slipsOk_iff] at d ⊢
    cases p
    · exact { d with hpaA := hA d.hpaA, hpaB := hB d.hpaB, tollA := toll ▸ d.tollA }
    · exact { d with hpbA := hA d.hpbA, hpbB := hB d.hpbB, tollB := toll ▸ d.tollB }
  · cases p
    · exact (congrArg (fun l => ticksOk (List.map _ l) _ && _) toll).trans o
    · exact (congrArg (fun l => _ && ticksOk (List.map _ l) _) toll).trans o
  · cases p <;> rfl

/-- A frame enters where there is room. -/
theorem Keeps.enter {p : Port} {g : Gen} {alive op : Byte} {prm bytes : List Byte} (h : Keeps P s t) (room : t.slipRoom p = true) :
    Keeps P s (t.enter p g alive op prm bytes) := by
  simp only [State.slipRoom, Bool.and_eq_true, Bool.or_eq_true, decide_eq_true_eq] at room
  obtain ⟨roomA, roomB⟩ := room
  have entered : Keeps P s (t.modPort p (fun f => { f with
      slipA := if t.helmA.svc.inService then f.slipA ++ [⟨⟨p, alive, g⟩, op, prm, t.now, t.nextId, {}⟩] else f.slipA
      slipB := if t.helmB.svc.inService then f.slipB ++ [⟨⟨p, alive, g⟩, op, prm, t.now, t.nextId, {}⟩] else f.slipB })) := by
    refine h.modSlips (fun d => ?_) (fun d => ?_) rfl
    · cases e : t.helmA.svc.inService
      · simpa using d
      · simp [e] at roomA ⊢; omega
    · cases e : t.helmB.svc.inService
      · simpa using d
      · simp [e] at roomB ⊢; omega
  exact Keeps.snoop (entered.same rfl)

theorem Keeps.sessionIn {p : Port} {a : Byte} (h : Keeps P s t) : Keeps P s (t.sessionIn p a) :=
  (h.modSlips (fun _ => Nat.zero_le _) (fun _ => Nat.zero_le _) rfl).feReply.heardNow.raiseEv

/-- A check-in of the present tick enters the toll slip where there is room. -/
theorem Keeps.checkIn {p : Port} {c : CheckIn} (h : Keeps P s t) (room : (t.port p).toll.length < 8) (now : c.tick = t.rst.tick) :
    Keeps P s (t.modPort p (fun f => { f with toll := f.toll ++ [c] })) := by
  refine h.trans ⟨fun k => ?_, fun d => ?_, fun o => ?_, fun q _ => ?_⟩
  · cases p <;> exact k
  · rw [State.slipsOk_iff] at d ⊢
    have more : ((t.port p).toll ++ [c]).length ≤ 8 := by simpa using room
    cases p
    · exact { d with tollA := more }
    · exact { d with tollB := more }
  · simp only [State.tollOrder, Bool.and_eq_true] at o ⊢
    have last {l : List CheckIn} (hl : ticksOk (l.map (·.tick)) t.rst.tick = true) :
        ticksOk ((l ++ [c]).map (·.tick)) t.rst.tick = true := by
      rw [List.map_append, List.map_singleton, now]
      exact ticksOk_concat hl
    cases p
    · exact ⟨last o.1, o.2⟩
    · exact ⟨o.1, last o.2⟩
  · cases p <;> rfl

theorem Keeps.tollIn {p : Port} {g : Gen} {alive : Byte} {prm : List Byte} (h : Keeps P s t) :
    Keeps P s (t.tollIn p g alive prm) := by
  unfold State.tollIn
  extract_lets st entered eff
  have entered : Keeps P s entered := by
    unfold entered
    split
    · rename_i ok
      refine h.checkIn ?_ rfl
      by_contra full
      unfold st at ok
      rw [if_pos (Nat.le_of_not_lt full)] at ok
      split at ok <;> cases ok
    · exact h
  exact entered.feReply.setAlive.heardNow

theorem Keeps.acceptFrame {p : Port} {g : Gen} {alive op : Byte} {prm bytes : List Byte} (h : Keeps P s t)
    (room : op = 0x40 ∨ t.slipRoom p = true) : Keeps P s (t.acceptFrame p g alive op prm bytes) := by
  unfold State.acceptFrame
  extract_lets L own id entered
  have own (st : Status) (eff : Word) : Keeps P s (own st eff) := h.feReply.setAlive.heardNow
  refine .ite (own ..) (.ite (.ite (own ..).wakeBy (own ..)) ?_)
  split
  · exact .ite h.tollIn (own ..)
  · next other =>
    have room := room.resolve_left other
    have entered : Keeps P s entered := (h.enter room).modPort fun _ => by cases g <;> rfl
    exact .ite (own ..) entered.drainReplies.setAlive.heardNow

theorem Keeps.packetIn {p : Port} {g : Gen} {alive op : Byte} {prm bytes : List Byte} {good : Bool} (h : Keeps P s t) :
    Keeps P s (t.packetIn p g alive op prm bytes good) := by
  unfold State.packetIn
  refine .ite h.rejectFrame (.ite h.sessionIn (.ite h.rejectFrame (.ite h.rejectFrame ?_)))
  split
  · exact h.rejectFrame
  · next room => exact h.acceptFrame (.inr (by simpa using room))

theorem Keeps.ul1In {p : Port} {f : List Byte} (h : Keeps P s t) : Keeps P s (t.ul1In p f) := by
  unfold State.ul1In
  extract_lets b0 a err val
  have err (st : Status) : Keeps P s (err st) := h.ul1Reply
  refine .ite (err _).rcAdd (.ite (err _) (.ite (err _).heardNow ?_))
  split
  · exact (err _).heardNow
  · refine .ite h.ul1Reply.heardNow (.ite h.ul1Reply.heardNow (.ite (err _).heardNow (.ite (err _).heardNow ?_)))
    split
    · exact (err _).countReject.heardNow
    · next room => exact (h.enter (by simpa using room)).ul1Reply.heardNow

theorem Keeps.fetchIn {p : Port} {a b : Byte} {good : Bool} (h : Keeps P s t) : Keeps P s (t.fetchIn p a b good) := by
  unfold State.fetchIn
  extract_lets x send rej heard
  have send {u : State} (k : Keeps P s u) (r : Reply) : Keeps P s (send u r) := k.modPort
  have rej (st : Status) (a b : Byte) : Keeps P s (rej st a b) := send h.countReject.setAlive _
  have heard : Keeps P s heard := h.setAlive.heardNow
  refine .ite (rej ..) (.ite (rej ..) (.ite (rej ..) ?_))
  split
  · exact .ite (send heard _) (send heard _)
  · refine .ite (send heard _) ?_
    split
    · exact send heard.modPort.drainReplies _
    · exact send heard _
  · exact send heard _

theorem Keeps.selDown {p : Port} (h : Keeps P s t) : Keeps P s (t.selDown p) := by
  unfold State.selDown
  exact h.modPort

theorem Keeps.keepDue {p : Port} (h : Keeps P s t) : Keeps P s (t.keepDue p) := h.modPort

theorem Keeps.badFrame {p : Port} {f : List Byte} {st : Status} (h : Keeps P s t) : Keeps P s (t.badFrame p f st) := by
  unfold State.badFrame
  extract_lets x next kept
  split
  · exact h.ul1Reply.countReject
  · exact h.rejectFrame
  · exact .ite h.keepDue.countReject h.keepDue.rejectFrame

theorem Keeps.clockOut {p : Port} {n : Nat} (h : Keeps P s t) : Keeps P s (t.clockOut p n) := by
  unfold State.clockOut
  extract_lets c clocked
  have clocked : Keeps P s clocked := h.modPort
  split
  · exact .ite clocked.modPort.raiseEv clocked
  · exact clocked

theorem Keeps.clockTo {p : Port} {n : Nat} (h : Keeps P s t) : Keeps P s (t.clockTo p n) := h.clockOut

theorem Keeps.bytesIn {p : Port} {f : List Byte} (h : Keeps P s t) : Keeps P s (t.bytesIn p f) := by
  unfold State.bytesIn
  extract_lets down fin
  have fin {u : State} (k : Keeps P s u) : Keeps P s (fin u) := k.modPort.clockTo
  have down : Keeps P s down := .ite h h.selDown
  refine .ite h (.ite down.clockOut ?_)
  split
  · exact .ite down down.clockTo
  · exact fin down.badFrame
  · exact fin down.ul1In
  · exact fin down.keepDue.packetIn
  · exact fin down.packetIn
  · exact fin down.keepDue.modPort.fetchIn

theorem Keeps.endReply {p : Port} {n : Nat} (h : Keeps P s t) : Keeps P s (t.endReply p n) := by
  unfold State.endReply
  extract_lets f
  split
  · exact h
  · refine .ite h.rcAdd ?_
    split
    · exact h.raiseEv
    · exact h

theorem Keeps.cutFrame {p : Port} {got : List Byte} {part : List Bool} (h : Keeps P s t) : Keeps P s (t.cutFrame p got part) := by
  unfold State.cutFrame
  extract_lets x next first
  split
  · exact h.ul1Reply.countReject
  · exact h.rejectFrame
  · exact .ite h.countReject.setAlive h.rejectFrame

theorem Keeps.selUp {p : Port} {edges : Bool} {n : Nat} {got : List Byte} {part : List Bool} (h : Keeps P s t) :
    Keeps P s (t.selUp p edges n got part) := by
  unfold State.selUp
  extract_lets data fin taken kept
  have fin {u : State} (k : Keeps P s u) : Keeps P s (fin u) := k.modPort
  have taken : Keeps P s taken := h.bytesIn
  have kept : Keeps P s kept := .ite taken.keepDue taken.endReply
  exact .ite h (.ite (fin h) (.ite (fin taken.endReply) (fin kept.cutFrame)))

end

end Sys2Proof.Machine
end

section
/-! PROOFS. What every step keeps: what the helms do in a passage, and the host commands at their point of application. -/

namespace Sys2Proof.Machine

section
variable {P : Fin 4 → Prop} {s t u : State}

/-! ### What commands and events share -/

theorem Keeps.byLead {g : HelmId} {f : State → State} (h : Keeps P s t) (k : Keeps P s (f t)) : Keeps P s (t.byLead g f) :=
  .ite k h

theorem Keeps.note {g : HelmId} {n cls code : Nat} {d0 d1 d2 : Word} (h : Keeps P s t) :
    Keeps P s (t.note g n cls code d0 d1 d2) := h.sharedRec

theorem Keeps.chime {g : HelmId} {k : Nat} (h : Keeps P s t) : Keeps P s (t.chime g k) := h.byLead h.ringDue

theorem Keeps.act {g : HelmId} {n : Nat} {p : Port} {cls code detail : Nat} {d : Word} (h : Keeps P s t) :
    Keeps P s (t.act g n p cls code detail d) := h.note

theorem Keeps.openMode {g : HelmId} {n : Nat} (h : Keeps P s t) : Keeps P s (t.openMode g n) := h.modHs

theorem Keeps.anchor {g : HelmId} {n : Nat} {c : Byte} (h : Keeps P s t) : Keeps P s (t.anchor g n c) :=
  .ite h (.ite h.note h.modHs)

theorem Keeps.dropChange {g : HelmId} {n : Nat} (h : Keeps P s t) : Keeps P s (t.dropChange g n) :=
  .ite (h.modHelm.byLead (h.modHelm.same rfl)) h

theorem Keeps.settleMode {g : HelmId} {n : Nat} (h : Keeps P s t) : Keeps P s (t.settleMode g n) := by
  unfold State.settleMode
  extract_lets hs m run shH shP new keep dropped cause d0 fp set noted loud
  have dropped : Keeps P s dropped := h.dropChange
  have noted : Keeps P s noted := dropped.modHs.note
  exact .ite dropped.modHs (.ite noted.chime noted)

theorem Keeps.endRole {g : HelmId} {n : Nat} {p : Port} {c : Nat} (h : Keeps P s t) : Keeps P s (t.endRole g n p c) :=
  .ite h h.act.modHs

theorem Keeps.roleFail {g : HelmId} {n : Nat} {p : Port} (h : Keeps P s t) : Keeps P s (t.roleFail g n p) := by
  unfold State.roleFail
  exact h.act.modHs

theorem Keeps.chalExpiry {g : HelmId} {n : Nat} {p : Port} (h : Keeps P s t) : Keeps P s (t.chalExpiry g n p) := by
  unfold State.chalExpiry
  split
  · exact .ite h.modHs h
  · exact h

theorem Keeps.lockEnd {g : HelmId} {n : Nat} {p : Port} (h : Keeps P s t) : Keeps P s (t.lockEnd g n p) := by
  unfold State.lockEnd
  split
  · exact .ite h.modHs h
  · exact h

theorem Keeps.roleIdle {g : HelmId} {n : Nat} {p : Port} (h : Keeps P s t) : Keeps P s (t.roleIdle g n p) :=
  .ite h.endRole h

theorem Keeps.authorise {g : HelmId} {n : Nat} {p : Port} {at_ : Stamp} (h : Keeps P s t)
    (e : t.authorise g n p at_ = some u) : Keeps P s u := by
  unfold State.authorise at e
  extract_lets hs late taken at e
  split at e
  · cases e
  · split at e
    · cases e; exact h.modHs
    · split at e
      · cases e
      · split at e <;> cases e
        · exact h
        · exact h.modHs.note.chime

theorem Keeps.dropOutput {g : HelmId} {p : Port} (h : Keeps P s t) : Keeps P s (t.dropOutput g p) := h.modHs

theorem Keeps.hostResume {g : HelmId} {n : Nat} {p : Port} {m : BitVec 32} (h : Keeps P s t) :
    Keeps P s (t.hostResume g n p m) := .ite h h.modHs.note

theorem Keeps.changeView {g o : HelmId} {n : Nat} {ret : Bool} (h : Keeps P s t) : Keeps P s (t.changeView g n o ret) := by
  unfold State.changeView
  extract_lets hs old o _ r r1 r2 proven viewed d2
  have proven : Keeps P s proven := .ite (h.byLead h.modHelm) h
  exact .ite h proven.modHs.note.chime

theorem Keeps.abortResync {g : HelmId} {n : Nat} (h : Keeps P s t) : Keeps P s (t.abortResync g n) :=
  .ite h.modHelm.rcAdd h

theorem Keeps.leave {g o : HelmId} {n : Nat} {v : Svc} {c : BitVec 4} (h : Keeps P s t) : Keeps P s (t.leave g n o v c) := by
  unfold State.leave
  extract_lets o held d2 moved aborted decided left noted
  have moved : Keeps P s moved := .ite h.changeView h
  have aborted : Keeps P s aborted := .ite moved.abortResync moved
  have left : Keeps P s left := aborted.modHs.modHelm
  refine Keeps.chime ?_
  unfold noted
  split
  · exact left.note
  · exact left.note
  · exact left

theorem Keeps.openTest {k : TestKey} {a b : Bool} (h : Keeps P s t) : Keeps P s (t.openTest k a b) := by
  unfold State.openTest
  extract_lets due asked
  have due {g : HelmId} {b : Bool} {u : State} (k : Keeps P s u) : Keeps P s (due g b u) := .ite k.modHelm k
  have asked : Keeps P s asked := due (due h)
  exact .ite (asked.same rfl) (asked.same rfl)

/-- Fewer frames in the command slips. -/
theorem Keeps.ports {a b : PortFE} (h : Keeps P s t) (hA : a.slipA.length ≤ t.hpa.slipA.length)
    (hB : a.slipB.length ≤ t.hpa.slipB.length) (kA : b.slipA.length ≤ t.hpb.slipA.length)
    (kB : b.slipB.length ≤ t.hpb.slipB.length) (ta : a.toll = t.hpa.toll) (tb : b.toll = t.hpb.toll) :
    Keeps P s { t with hpa := a, hpb := b } := by
  refine h.trans ⟨id, fun d => ?_, fun o => ?_, fun _ _ => rfl⟩
  · rw [State.slipsOk_iff] at d ⊢
    exact { d with hpaA := hA.trans d.hpaA, hpaB := hB.trans d.hpaB, hpbA := kA.trans d.hpbA, hpbB := kB.trans d.hpbB
                   tollA := ta ▸ d.tollA, tollB := tb ▸ d.tollB }
  · rwa [State.tollOrder, ta, tb]

theorem Keeps.flushSlips {g : HelmId} (h : Keeps P s t) : Keeps P s (t.flushSlips g) := by
  cases g
  · exact h.ports (Nat.zero_le _) le_rfl (Nat.zero_le _) le_rfl rfl rfl
  · exact h.ports le_rfl (Nat.zero_le _) le_rfl (Nat.zero_le _) rfl rfl

theorem Keeps.takeSvc {g : HelmId} {v : Svc} (h : Keeps P s t) : Keeps P s (t.takeSvc g v) := .ite h.modHelm h.modHelm.flushSlips

theorem Keeps.settleSvc {g : HelmId} {all : Bool} (h : Keeps P s t) : Keeps P s (t.settleSvc g all) := by
  unfold State.settleSvc
  extract_lets r o own out
  have own : Keeps P s own := .ite h.takeSvc h
  exact .ite own.takeSvc own

theorem Keeps.deliver {g : HelmId} {tag : Tag} {id : Nat} {silent : Bool} {r : Reply} (h : Keeps P s t) :
    Keeps P s (t.deliver g tag id silent r) := by
  unfold State.deliver
  extract_lets held
  have held : Keeps P s held := .ite h.modHs h
  exact .ite h held.modHelm

/-! ### Host commands -/

theorem Keeps.readWin {k : Ctx} {a n : Nat} (h : Keeps P s t) : Keeps P s (t.readWin k a n).1 :=
  h.byLead (.ite (h.same rfl) h)

theorem Keeps.writeWord {g : HelmId} {a : Nat} {v : Word} (h : Keeps P s t) : Keeps P s (t.writeWord g a v) :=
  .ite (h.byLead (h.same rfl)) (.ite (h.byLead (h.same rfl)) (.ite (h.byLead (h.same rfl)) (.ite (h.byLead (h.same rfl))
    (.ite h.modHs h))))

theorem Keeps.writeWords {g : HelmId} : ∀ (ws : List Word) {a : Nat} {t : State}, Keeps P s t → Keeps P s (t.writeWords g a ws)
  | [], _, _, h => h
  | _ :: ws, _, _, h => Keeps.writeWords ws h.writeWord

theorem Keeps.writeWin {g : HelmId} {a : Nat} {ws : List Word} (h : Keeps P s t) : Keeps P s (t.writeWin g a ws).1 := by
  unfold State.writeWin
  extract_lets as
  split
  · exact h
  · split
    · exact h
    · exact Keeps.writeWords ws h

theorem Keeps.outputCmd {k : Ctx} {m : BitVec 32} {data : List Byte} {f : State → State} (h : Keeps P s t)
    (hf : ∀ u, Keeps P s u → Keeps P s (f u)) : Keeps P s (t.outputCmd k m data f).1 := by
  unfold State.outputCmd
  split
  · exact (hf _ (h.authorise ‹_›)).hostResume
  · exact h.dropOutput

theorem Keeps.setOutputs {k : Ctx} {n : Nat} {m v : BitVec 32} (h : Keeps P s t) : Keeps P s (t.setOutputs k n m v).1 :=
  h.outputCmd fun _ a => .ite a.modHs a.act.modHs

theorem Keeps.propEntry {k : Ctx} {e : PropEntry} (h : Keeps P s t) : Keeps P s (t.propEntry k e) := by
  unfold State.propEntry
  extract_lets n q v
  split
  · exact h.modHs
  · exact h.act.modHs

theorem Keeps.setProp {k : Ctx} {es : List PropEntry} (h : Keeps P s t) : Keeps P s (t.setProp k es).1 :=
  h.outputCmd fun _ a => Keeps.foldl (fun _ _ b => b.propEntry) es a

theorem Keeps.pulse {k : Ctx} {a b : Nat} (h : Keeps P s t) : Keeps P s (t.pulse k a b).1 := h.outputCmd fun _ a => a.modHs

theorem Keeps.ul1Out {k : Ctx} {a b : Nat} (h : Keeps P s t) : Keeps P s (t.ul1Out k a b).1 := h.outputCmd fun _ a => a.modHs

theorem Keeps.setMode {k : Ctx} {b : Byte} (h : Keeps P s t) : Keeps P s (t.setMode k b).1 := by
  unfold State.setMode
  split
  · exact h
  · exact h
  · extract_lets hs d0 fp ended
    have ended : Keeps P s ended := .ite h.endRole.endRole h
    dsimp only
    exact ended.modHs

theorem Keeps.challenge {k : Ctx} {b : Byte} (h : Keeps P s t) : Keeps P s (t.challenge k b).1 := by
  unfold State.challenge
  extract_lets hs bs
  split
  · exact h
  · split
    · exact h
    · dsimp only
      exact h.modHs

theorem Keeps.response {k : Ctx} {b : List Byte} (h : Keeps P s t) : Keeps P s (t.response k b).1 := by
  unfold State.response
  extract_lets p hs
  split
  · exact h.roleFail
  · split
    · exact h.roleFail
    · split
      · exact h.modHs.act
      · exact h.roleFail

theorem Keeps.charterRead {k : Ctx} {b : Byte} {o n : Nat} (h : Keeps P s t) : Keeps P s (t.charterRead k b o n).1 := by
  unfold State.charterRead
  extract_lets hs ans
  split
  · exact h
  · split
    · exact h
    · split <;> exact h
  · dsimp only
    exact h.byLead h.askRead

theorem Keeps.charterWrite {k : Ctx} {o : Nat} {ws : List Word} (h : Keeps P s t) : Keeps P s (t.charterWrite k o ws).1 := by
  unfold State.charterWrite
  extract_lets hs base
  split
  · exact h
  · split
    · exact h
    · exact h.modHs.act

theorem Keeps.charterDiscard {k : Ctx} (h : Keeps P s t) : Keeps P s (t.charterDiscard k).1 := by
  unfold State.charterDiscard
  extract_lets hs
  split
  · exact h
  · split
    · exact h
    · exact h.modHs.act

theorem Keeps.charterCommit {k : Ctx} {g a : Word} {c : BitVec 32} (h : Keeps P s t) : Keeps P s (t.charterCommit k g a c).1 := by
  unfold State.charterCommit
  extract_lets p hs
  split
  · exact h
  · split
    · exact h
    · extract_lets ws
      split
      · exact h
      · split
        · exact h
        · split
          · exact h
          · split
            · exact h
            · split
              · exact h
              · exact h.modHs.act

theorem Keeps.tollConfig {k : Ctx} {c : TkSet} (h : Keeps P s t) : Keeps P s (t.tollConfig k c).1 :=
  (h.byLead (h.same rfl)).act

theorem Keeps.blackboxRead {k : Ctx} {a : Byte} {b c : Nat} (h : Keeps P s t) : Keeps P s (t.blackboxRead k a b c).1 := by
  unfold State.blackboxRead
  extract_lets ff v first lim r read split
  have read : Keeps P s read := h.byLead h.readSlots
  exact .ite read.chime read

theorem Keeps.hostMark {k : Ctx} {a b c : Word} (h : Keeps P s t) : Keeps P s (t.hostMark k a b c).1 := h.note

theorem Keeps.markClear {k : Ctx} (h : Keeps P s t) : Keeps P s (t.markClear k).1 := by
  dsimp only [State.markClear]
  exact h.byLead (h.same rfl)

theorem Keeps.dueAtCu {k : Ctx} {n : Nat} {c : Option CheckUnit} (h : Keeps P s t) : Keeps P s (t.dueAtCu k n c) :=
  h.byLead (h.same rfl)

theorem Keeps.checkRead {k : Ctx} {n : Nat} {b : Byte} (h : Keeps P s t) : Keeps P s (t.checkRead k n b).1 := .ite h.dueAtCu h

theorem Keeps.snapshot {k : Ctx} {n : Nat} (h : Keeps P s t) : Keeps P s (t.snapshot k n).1 := by
  unfold State.snapshot
  extract_lets p hs unfit
  split <;> dsimp only <;> exact h.modHs

theorem Keeps.wakeArm {k : Ctx} {n a b : Nat} {c r : Byte} {l : Word} (h : Keeps P s t) :
    Keeps P s (t.wakeArm k n c r l a b).1 := by
  unfold State.wakeArm
  split
  · exact h
  · dsimp only
    exact h.modHs

theorem Keeps.wakeRead {k : Ctx} {a b c : Nat} (h : Keeps P s t) : Keeps P s (t.wakeRead k a b c).1 := by
  unfold State.wakeRead
  extract_lets hs complete total per at_
  split
  · exact h
  · split
    · exact h
    · dsimp only
      exact h.modHs

theorem Keeps.syncIssue {k : Ctx} (h : Keeps P s t) : Keeps P s (t.syncIssue k).1 := by
  dsimp only [State.syncIssue]
  exact h.byLead (h.same rfl)

theorem Keeps.setTable {g : HelmId} {ws : List Word} (h : Keeps P s t) : Keeps P s (t.setTable g ws) :=
  h.modHs.byLead h.modHs.queueNvm

theorem Keeps.stageData {k : Ctx} {o : Nat} {ws : List Word} (h : Keeps P s t) : Keeps P s (t.stageData k o ws).1 := by
  unfold State.stageData
  extract_lets hs
  split
  · exact h
  · extract_lets queued staged
    have queued : Keeps P s queued := h.byLead h.queueNvm
    have staged : Keeps P s staged := .ite queued queued.setTable
    dsimp only
    exact staged.modHs

theorem Keeps.stageFinish {k : Ctx} {n : Nat} {c : BitVec 32} {v : Word} (h : Keeps P s t) :
    Keeps P s (t.stageFinish k n c v).1 := by
  unfold State.stageFinish
  extract_lets hs
  split
  · exact h
  · exact (h.byLead h.askRead).setTable.modHs.act

theorem Keeps.fwSwap {k : Ctx} {g : HelmId} (h : Keeps P s t) : Keeps P s (t.fwSwap k g).1 := by
  unfold State.fwSwap
  extract_lets hs table o target left swapped
  split
  · exact h
  · split
    · exact h
    · split
      · exact h
      · split
        · exact h
        · exact h.setTable.leave.modHelm.act

theorem Keeps.helmAct {k : Ctx} {a b c : Nat} (h : Keeps P s t) : Keeps P s (t.helmAct k a b c) := h.act

theorem Keeps.handover {k : Ctx} {g : HelmId} (h : Keeps P s t) : Keeps P s (t.handover k g).1 := by
  unfold State.handover
  extract_lets hs ans
  split
  · exact h
  · split
    · exact h
    · exact h.helmAct.changeView

theorem Keeps.returnHold {k : Ctx} {b : Bool} (h : Keeps P s t) : Keeps P s (t.returnHold k b).1 := h.modHs.helmAct

theorem Keeps.testRequest {k : Ctx} {n : Nat} (h : Keeps P s t) : Keeps P s (t.testRequest k n).1 :=
  (h.byLead h.openTest).helmAct

theorem Keeps.fullRequest {k : Ctx} {n : Nat} (h : Keeps P s t) : Keeps P s (t.fullRequest k n).1 := by
  unfold State.fullRequest
  extract_lets hs
  split
  · exact h
  · split
    · exact h
    · split
      · exact h.leave.modHelm.helmAct
      · split
        · exact h.modHelm.helmAct
        · exact h

theorem Keeps.attach {k : Ctx} {g : HelmId} (h : Keeps P s t) : Keeps P s (t.attach k g) := h.leave.act

theorem Keeps.debugOpen {k : Ctx} {n : Nat} (h : Keeps P s t) : Keeps P s (t.debugOpen k n).1 := by
  unfold State.debugOpen
  extract_lets hs
  split
  · split
    · exact h
    · split
      · exact h.attach
      · exact h.attach
      · exact h.attach
      · exact h
      · exact h
  · split
    · exact h
    · split
      · exact h
      · exact h.attach.attach

theorem Keeps.detach {g o : HelmId} (h : Keeps P s t) : Keeps P s (t.detach g o) := .ite h.modHs.modHelm.chime h

theorem Keeps.debugClose {k : Ctx} {n : Nat} (h : Keeps P s t) : Keeps P s (t.debugClose k n).1 :=
  have close {g : HelmId} {c : Prop} [Decidable c] {u : State} {d : Nat} (k' : Keeps P s u) :
      Keeps P s (if c then (u.act k.h k.n k.tag.port clsAct 0x050 d 0).detach k.h g else u) := .ite k'.act.detach k'
  close (close h)

theorem Keeps.doCmd {k : Ctx} {c : Cmd} (h : Keeps P s t) : Keeps P s (t.doCmd k c).1 := by
  cases c with
  | status => exact h
  | readWindow => exact h.readWin
  | writeWindow => exact h.writeWin
  | ul1Write => exact h.ul1Out
  | setOutputs => exact h.setOutputs
  | setProp => exact h.setProp
  | pulse => exact h.pulse
  | setMode => exact h.setMode
  | roleChallenge => exact h.challenge
  | roleResponse => exact h.response
  | roleDrop => exact h.endRole
  | charterRead => exact h.charterRead
  | charterWrite => exact h.charterWrite
  | charterDiscard => exact h.charterDiscard
  | charterCommit => exact h.charterCommit
  | tollConfig => exact h.tollConfig
  | blackboxRead => exact h.blackboxRead
  | hostMark => exact h.hostMark
  | markClear => exact h.markClear
  | checkConfig => exact h.dueAtCu
  | checkRead => exact h.checkRead
  | analogSnapshot => exact h.snapshot
  | wakeArm => exact h.wakeArm
  | wakeRead => exact h.wakeRead
  | syncIssue => exact h.syncIssue
  | stageData => exact h.stageData
  | stageFinish => exact h.stageFinish
  | fwSwap g =>
    simp only [State.doCmd]
    split
    · exact h.fwSwap
    · exact h
  | handover g =>
    simp only [State.doCmd]
    split
    · exact h.handover
    · exact h
  | returnHold => exact h.returnHold
  | selftest =>
    simp only [State.doCmd]
    split
    · exact h.testRequest
    · exact h.fullRequest
  | debug =>
    simp only [State.doCmd]
    split
    · exact h.debugOpen
    · exact h.debugClose

theorem Keeps.runCmd {k : Ctx} {c : Cmd} (h : Keeps P s t) : Keeps P s (t.runCmd k c).1 := by
  unfold State.runCmd
  split
  · exact h
  · exact h.doCmd

theorem Keeps.applyCmd {k : Ctx} {c : Cmd} (h : Keeps P s t) : Keeps P s (t.applyCmd k c) := .ite h.runCmd h.runCmd.deliver

/-! ### Frames that wait, collections -/

theorem Keeps.claim {g : HelmId} {p : Port} {n : Nat} (h : Keeps P s t) : Keeps P s (t.claim g p n) := by
  unfold State.claim
  cases g
  · refine h.modHs.modSlips (fun k => ?_) id rfl
    exact (List.length_filter_le ..).trans k
  · refine h.modHs.modSlips id (fun k => ?_) rfl
    exact (List.length_filter_le ..).trans k

theorem Keeps.answerCollection {g : HelmId} {e : Entered} (h : Keeps P s t) : Keeps P s (t.answerCollection g e) :=
  h.claim.modHs.deliver

theorem Keeps.background {g : HelmId} (h : Keeps P s t) : Keeps P s (t.background g) :=
  .ite h (Keeps.foldl (fun _ _ k => k.answerCollection) _ h)

end

end Sys2Proof.Machine
end

section
/-! PROOFS. What every step keeps, for the passage: reports and verdicts (R61, R67), stamped events and frames (R58 to R60), and what a
passage settles (R61). -/

namespace Sys2Proof.Machine

section
variable {P : Fin 4 → Prop} {s t u : State}

/-! ### Reports and verdicts -/

theorem Keeps.drainSlips {g : HelmId} (h : Keeps P s t) : Keeps P s (t.drainSlips g) := by
  unfold State.drainSlips
  exact h.flushSlips.modHs

theorem Keeps.takeReports {g : HelmId} {n : Nat} (h : Keeps P s t) : Keeps P s (t.takeReports g n) := by
  unfold State.takeReports
  extract_lets _ _ _ _ taken _ _ counted
  have taken : Keeps P s taken := h.modHelm
  have counted : Keeps P s counted := .ite taken taken.rcAdd
  exact .ite (counted.byLead counted.ring) counted

theorem Keeps.keepOrDiscard {g : HelmId} {n : Nat} (h : Keeps P s t) : Keeps P s (t.keepOrDiscard g n) :=
  .ite (h.modHelm.byLead (.ite h.modHelm h.modHelm.dropEffects)) h.modHelm

theorem Keeps.rcOp {o : RcOp} (h : Keeps P s t) : Keeps P s (t.rcOp o) := by
  cases o
  · exact h.same rfl
  · exact h.same rfl

theorem Keeps.byBoth {at_ : Stamp} {cls code : Nat} {d0 d1 d2 : Word} (h : Keeps P s t) :
    Keeps P s (t.byBoth at_ cls code d0 d1 d2) :=
  have one {g : HelmId} {u : State} (k : Keeps P s u) :
      Keeps P s (if (u.helm g).svc.computes then u.sureRec g at_ cls code d0 d1 d2 else u) := .ite k.sureRec k
  one (one h)

theorem Keeps.limitedRec {n cls code : Nat} {d0 d1 d2 : Word} (h : Keeps P s t) : Keeps P s (t.limitedRec n cls code d0 d1 d2) :=
  .ite h (Keeps.byBoth (h.same rfl))

theorem Keeps.reportRec {n : Nat} {r : Nat × Nat × Word × Word × Word} (h : Keeps P s t) : Keeps P s (t.reportRec n r) :=
  .ite (Keeps.byBoth (h.same rfl)) h.limitedRec

theorem Keeps.countVerdicts {hs : HelmState} (h : Keeps P s t) : Keeps P s (t.countVerdicts hs) := by
  have one {c : Prop} [Decidable c] {l : List RcInc} {u : State} (k : Keeps P s u) :
      Keeps P s (if c then u.rcAdds l else u) := .ite k.rcAdds k
  exact one (one (.ite (one (one h)) (one h)))

theorem Keeps.freshRc {n : Nat} {hs : HelmState} {e : RcInc} (h : Keeps P s t) : Keeps P s (t.freshRc n hs e) :=
  .ite h.ring.limitedRec (.ite h.ring h)

theorem Keeps.reportRc {n : Nat} {hs : HelmState} {early : Bool} (h : Keeps P s t) : Keeps P s (t.reportRc n hs early) :=
  Keeps.foldl (fun _ _ k => .ite k.freshRc.rcAdds k) _ h

theorem Keeps.freshWb {p : Nat} {r : Report} (h : Keeps P s t) : Keeps P s (t.freshWb p r) :=
  have seen : Keeps P s { t with win := { t.win with wbSeen := vset t.win.wbSeen p _ } } := h.same rfl
  .ite seen.ring seen

theorem Keeps.faultShown {n q : Nat} {old now : Word} {news always : Nat} {d1 : Word} (h : Keeps P s t) :
    Keeps P s (t.faultShown n q old now news always d1) := .ite h h.reportRec.ring

theorem Keeps.outNews {n p : Nat} {r : Report} (h : Keeps P s t) : Keeps P s (t.outNews n p r) := by
  unfold State.outNews
  extract_lets x word shown
  have shown : Keeps P s shown := by
    refine Keeps.foldl (fun _ _ k => ?_) _ h
    extract_lets q d seen told b rung
    have rung : Keeps P s rung := .ite k.ring k
    exact .ite k.faultShown.faultShown rung.faultShown
  have same (x : Pont) : Pont.landeds { x with
      told := true
      outs := Vector.ofFn (fun (i : Fin 8) => { x.outs[i] with lastWord := word (0x210 + 8 * p + i) })
      pqs := Vector.ofFn (fun (j : Fin 2) => { x.pqs[j] with lastWord := word (pqBase p j) }) } = x.landeds :=
    landed_ofFn _ _ fun _ => rfl
  refine shown.ponts fun q _ => ?_
  by_cases hq : p = q
  · subst hq
    simpa [vmod, State.pont] using same _
  · by_cases hp : p < 4
    · simp [vmod, hp, hq, State.pont]
    · simp [vmod, hp, State.pont]

theorem Keeps.reportEvents {n p : Nat} {r : Report} (h : Keeps P s t) : Keeps P s (t.reportEvents n p r) := by
  unfold State.reportEvents
  extract_lets wb shown rung tripped
  have shown : Keeps P s shown := (Keeps.foldl (fun _ _ k => k.reportRec) _ h.freshWb).outNews
  have rung : Keeps P s rung := Keeps.foldl (fun _ _ k => .ite k.ring k) _ shown
  have tripped : Keeps P s tripped := Keeps.foldl (fun _ _ k => .ite k.byBoth.ring k) _ rung
  exact Keeps.foldl (fun _ _ k => k.byBoth) _ tripped

theorem Keeps.lateRecord {n : Nat} {hs : HelmState} (h : Keeps P s t) : Keeps P s (t.lateRecord n hs) :=
  .ite h h.byBoth.ring

theorem Keeps.snoopInputs {n : Nat} (h : Keeps P s t) : Keeps P s (t.snoopInputs n) := h.same rfl

theorem Keeps.buildWindow {hs : HelmState} {n : Nat} (h : Keeps P s t) : Keeps P s (t.buildWindow hs n) := by
  unfold State.buildWindow
  exact h.same rfl

theorem Keeps.showLoaded {hs : HelmState} {n : Nat} (h : Keeps P s t) : Keeps P s (t.showLoaded hs n) := h.same rfl

theorem Keeps.firstPassage {g : HelmId} {n : Nat} (h : Keeps P s t) : Keeps P s (t.firstPassage g n) := by
  unfold State.firstPassage
  extract_lets hs counted early _ shown rc told late
  have counted : Keeps P s counted := Keeps.foldl (fun _ _ k => k.rcOp) _ h
  have early : Keeps P s early := counted.countVerdicts.reportRc
  have shown : Keeps P s shown := .ite early.buildWindow.snoopInputs.buildWindow early.showLoaded
  have told : Keeps P s told := by
    refine Keeps.foldl (fun _ _ k => ?_) _ shown.reportRc
    split
    · exact k.reportEvents
    · exact k
  have late : Keeps P s late := told.lateRecord
  exact Keeps.foldl (fun _ _ k => k.raiseEv) _ (late.same rfl)

theorem Keeps.showLanding {g : HelmId} {n : Nat} (h : Keeps P s t) : Keeps P s (t.showLanding g n) := by
  unfold State.showLanding
  exact Keeps.modHs (.ite h.firstPassage h)

theorem Keeps.fenceProver {g o : HelmId} {n : Nat} (h : Keeps P s t) : Keeps P s (t.fenceProver g n o) := by
  unfold State.fenceProver
  extract_lets tab back
  have written : Keeps P s ((t.modHs g fun hs => { hs with imgTab := tab }).byLead g fun s => s.writeImgTable tab) :=
    h.modHs.byLead h.modHs.writeImgTable
  have back : Keeps P s back := .ite (written.byLead written.modHelm) h
  exact back.leave.modHs

theorem Keeps.backUnderway {g : HelmId} {n : Nat} (h : Keeps P s t) : Keeps P s (t.backUnderway g n) :=
  .ite h (.ite h.modHs (.ite h.modHs.modHs.modHelm h.modHs.modHs.note.chime))

theorem Keeps.proven {g o : HelmId} {n : Nat} (h : Keeps P s t) : Keeps P s (t.proven g n o) :=
  have told : Keeps P s _ := h.modHs.note.chime
  (told.byLead told.modHelm).backUnderway

theorem Keeps.afterDouble {g : HelmId} {n : Nat} (h : Keeps P s t) : Keeps P s (t.afterDouble g n) := by
  unfold State.afterDouble
  extract_lets r
  split
  · exact .ite h.changeView.leave h
  · exact h

theorem Keeps.standsBy {g : HelmId} {n : Nat} (h : Keeps P s t) : Keeps P s (t.standsBy g n) := by
  unfold State.standsBy
  extract_lets hs
  split
  · exact .ite h.proven h
  · exact h

theorem Keeps.countProving {g : HelmId} {n : Nat} (h : Keeps P s t) : Keeps P s (t.countProving g n) := by
  unfold State.countProving
  extract_lets hs
  split
  · exact h
  · exact .ite h.fenceProver (.ite h (.ite h.modHs (.ite h h.modHs)))

theorem Keeps.openArb {g : HelmId} {n : Nat} (h : Keeps P s t) : Keeps P s (t.openArb g n) :=
  .ite h (h.modHs.note.byLead h.modHs.note.openTest)

theorem Keeps.sendOrder {g : HelmId} {o : OrderKind} (h : Keeps P s t) : Keeps P s (t.sendOrder g o) := h.byLead h.modHelm

theorem Keeps.anchorBy {g : HelmId} {n : Nat} {c : Byte} (h : Keeps P s t) : Keeps P s (t.anchorBy g n c) := h.anchor.sendOrder

theorem Keeps.anchorsDue {g : HelmId} {n : Nat} (h : Keeps P s t) : Keeps P s (t.anchorsDue g n) := by
  unfold State.anchorsDue
  extract_lets hs late
  have late : Keeps P s late := .ite h.anchorBy h
  split
  · exact .ite late.anchorBy.modHs late
  · exact late

theorem Keeps.ringNow {g : HelmId} (h : Keeps P s t) : Keeps P s (t.ringNow g) := h.byLead (h.same rfl)

theorem Keeps.snapDone {g : HelmId} {p : Nat} {x : SnapRes} (h : Keeps P s t) : Keeps P s (t.snapDone g p x) := by
  unfold State.snapDone
  split
  · exact h
  · exact h.modHs.deliver

theorem Keeps.snapsDone {g : HelmId} (h : Keeps P s t) : Keeps P s (t.snapsDone g) := by
  refine Keeps.foldl (fun _ _ k => ?_) _ h
  split
  · exact Keeps.foldl (fun _ _ k => k.snapDone) _ k
  · exact k

theorem Keeps.judgeAndSave {g : HelmId} {n : Nat} (h : Keeps P s t) : Keeps P s (t.judgeAndSave g n) := by
  unfold State.judgeAndSave
  exact h.countProving.afterDouble.modHs.openArb.anchorsDue.modHelm.ringNow.modHelm

theorem Keeps.fenceSelf {g : HelmId} (h : Keeps P s t) : Keeps P s (t.fenceSelf g) := .ite h.helmRec.offerRecords.raiseEv h

theorem Keeps.beginPassage {g : HelmId} {n : Nat} (h : Keeps P s t) : Keeps P s (t.beginPassage g n) :=
  h.drainSlips.modHs.takeReports.fenceSelf.keepOrDiscard.openMode.modHs.standsBy.showLanding.snapsDone.judgeAndSave

/-! ### The charter, the timers, stamped events -/

theorem Keeps.keyChange {g : HelmId} {n : Nat} {ch : List Word} {p : Port} (h : Keeps P s t) : Keeps P s (t.keyChange g n ch p) :=
  .ite h.endRole h

theorem Keeps.commitDue {g : HelmId} {n : Nat} (h : Keeps P s t) : Keeps P s (t.commitDue g n) := by
  unfold State.commitDue
  extract_lets hs
  split
  · exact h
  · rename_i p _
    refine .ite (.ite h.modHs h) (.ite h ?_)
    extract_lets d0 pended keyed taken led copied
    have pended : Keeps P s pended := h.modHs
    have taken : Keeps P s taken := pended.keyChange.keyChange.modHs
    have led : Keeps P s led := taken.byLead (Keeps.abortResync (taken.same rfl))
    have copied : Keeps P s copied := pended.byLead (Keeps.foldl (fun _ _ k => k.queueCopy) _ pended)
    exact .ite led.note copied.note

theorem Keeps.portTimers {g : HelmId} {n : Nat} {p : Port} (h : Keeps P s t) : Keeps P s (t.portTimers g n p) :=
  h.modHs.chalExpiry.lockEnd.roleIdle

theorem Keeps.sessionResetAt {g : HelmId} {n b : Nat} {p : Port} (h : Keeps P s t) : Keeps P s (t.sessionResetAt g n p b) := by
  unfold State.sessionResetAt
  extract_lets ended hs unfinished cleared
  have cleared : Keeps P s cleared := h.endRole.modHs
  cases unfinished with
  | some k => exact cleared.setTable.modHs
  | none => exact cleared

theorem Keeps.fenceAt {g o : HelmId} {n k : Nat} {c : BitVec 4} (h : Keeps P s t) : Keeps P s (t.fenceAt g n o c k) :=
  .ite h (.ite h.leave h.modHelm.anchorBy)

theorem Keeps.haltAt {g o : HelmId} {n : Nat} {c : BitVec 4} (h : Keeps P s t) : Keeps P s (t.haltAt g n o c) := .ite h.leave h

theorem Keeps.joinAt {g o : HelmId} {n : Nat} (h : Keeps P s t) : Keeps P s (t.joinAt g n o) :=
  .ite h h.modHs.modHelm.note.chime

theorem Keeps.transient {g : HelmId} {n : Nat} (h : Keeps P s t) : Keeps P s (t.transient g n) := by
  unfold State.transient
  extract_lets hs earlier noted
  refine .ite h.modHs ?_
  split
  · exact .ite (Keeps.leave h.modHs).modHs h.modHs
  · exact Keeps.anchorBy h.modHs
  · exact h.modHs

theorem Keeps.outcomeAt {g : HelmId} {n : Nat} {a b : TestVerdict} {q : Bool} (h : Keeps P s t) : Keeps P s (t.outcomeAt g n a b q) := by
  unfold State.outcomeAt
  extract_lets pa pb r inA inB noted v
  have noted : Keeps P s noted := h.modHs
  refine .ite ?_ (.ite noted.anchorBy noted)
  clear_value pa pb
  split
  · exact .ite noted noted.transient
  · exact noted.leave
  · exact noted.leave
  · exact noted.anchorBy.leave.modHs

/-- What is left out lies outside the helm states; the records in the slips stay those that stood. -/
theorem Keeps.insideOnly {landed : Bool} (h : Keeps P s u) (k : Keeps P s t) : Keeps P s (t.insideOnly u landed) := by
  refine .ite k ⟨k.banks, fun d => ?_, k.order, k.landed⟩
  have old := (State.slipsOk_iff _).1 (h.slips d)
  have new := (State.slipsOk_iff _).1 (k.slips d)
  rw [State.slipsOk_iff]
  exact { new with recA := old.recA, recB := old.recB, recQ := old.recQ }

theorem Keeps.applyEv {g : HelmId} {n : Nat} {e : EvAt} (h : Keeps P s t) : Keeps P s (t.applyEv g n e) := by
  unfold State.applyEv
  split
  case h_1 => exact h.sessionResetAt
  case h_6 => exact h.chime
  case h_7 => exact h.modHs
  case h_8 => exact h.chime
  case h_9 => exact h.chime.anchorBy
  case h_10 => exact h.chime
  case h_11 => exact h.chime
  case h_12 => exact h.haltAt
  case h_13 => exact h.fenceAt
  case h_14 => exact h.joinAt
  case h_15 => exact h.outcomeAt
  case h_16 => exact .ite h.note.detach h
  all_goals exact h

theorem Keeps.events {g : HelmId} {n : Nat} (h : Keeps P s t) : Keeps P s (t.events g n) :=
  Keeps.foldl (fun _ _ k => k.insideOnly k.applyEv) _ h.modHelm

/-! ### Frames -/

theorem Keeps.applyFrame {g : HelmId} {n : Nat} {e : Entered} {late : Bool} (h : Keeps P s t) : Keeps P s (t.applyFrame g n e late) := by
  refine .ite h.deliver ?_
  split
  · exact h.deliver
  · exact h.deliver
  · exact h.insideOnly h.applyCmd

theorem Keeps.applyFrames {g : HelmId} {n : Nat} : ∀ (l : List Entered) {a b : Nat} {t : State}, Keeps P s t →
    Keeps P s (t.applyFrames g n a b l)
  | [], _, _, _, h => h
  | e :: l, _, _, _, h => by
    unfold State.applyFrames
    split
    · exact Keeps.applyFrames l h.applyFrame
    · exact Keeps.applyFrames l h.applyFrame

theorem Keeps.commands {g : HelmId} {n : Nat} (h : Keeps P s t) : Keeps P s (t.commands g n) := Keeps.applyFrames _ h.modHelm

/-! ### What a passage settles -/

theorem Keeps.loseHost {g : HelmId} {n c : Nat} (h : Keeps P s t) : Keeps P s (t.loseHost g n c) := h.modHs.note.chime

theorem Keeps.countHost {g : HelmId} {n c : Nat} {v : HlState} (h : Keeps P s t) : Keeps P s (t.countHost g n c v) :=
  .ite h.loseHost h.modHs

theorem Keeps.hostLoss {g : HelmId} {n : Nat} {e : Bool} (h : Keeps P s t) : Keeps P s (t.hostLoss g n e) := by
  refine .ite h ?_
  split
  · exact h
  · exact h.countHost
  · exact .ite h.countHost (.ite h.modHs (.ite h.countHost h))

theorem Keeps.makeManifest {g : HelmId} {n : Nat} {e : Bool} (h : Keeps P s t) : Keeps P s (t.makeManifest g n e) := by
  unfold State.makeManifest
  extract_lets held hs x ran rung
  have ran : Keeps P s ran := h.modHs.modHs
  have rung : Keeps P s rung := .ite ran.chime ran
  exact rung.hostLoss.modHs

theorem Keeps.returnDue {g : HelmId} {n : Nat} (h : Keeps P s t) : Keeps P s (t.returnDue g n) := by
  unfold State.returnDue
  extract_lets hs r
  split
  · exact .ite h.changeView h
  · exact h

theorem Keeps.viewMoved {g : HelmId} {n : Nat} {v : Option HelmId} (h : Keeps P s t) : Keeps P s (t.viewMoved g n v) :=
  .ite h h.abortResync.abortResync

theorem Keeps.writeHealth {g : HelmId} {n : Nat} (h : Keeps P s t) : Keeps P s (t.writeHealth g n) := by
  unfold State.writeHealth
  exact h.modHelm.modHelm

theorem Keeps.wakeDone {g : HelmId} {p : Nat} {r : OutReq} (h : Keeps P s t) : Keeps P s (t.wakeDone g p r) :=
  .ite h.modHs.modHelm.deliver h.modHs.modHelm.deliver

theorem Keeps.wakeDue {g : HelmId} {n p : Nat} (h : Keeps P s t) : Keeps P s (t.wakeDue g n p) := by
  unfold State.wakeDue
  split
  · exact .ite h.wakeDone h
  · exact h

theorem Keeps.sendManifests {g : HelmId} {n : Nat} (h : Keeps P s t) : Keeps P s (t.sendManifests g n) := by
  unfold State.sendManifests
  exact h.modHelm

theorem Keeps.applyFirst {g : HelmId} {n : Nat} (h : Keeps P s t) : Keeps P s (t.applyFirst g n) :=
  h.commitDue.portTimers.portTimers.events

theorem Keeps.applyRest {g : HelmId} {n : Nat} (h : Keeps P s t) : Keeps P s (t.applyRest g n) := h.commands.modHs

theorem Keeps.finishPassage {g : HelmId} {n : Nat} {v : Option HelmId} (h : Keeps P s t) : Keeps P s (t.finishPassage g n v) := by
  unfold State.finishPassage
  extract_lets made moved settled woken counted handed
  have woken : Keeps P s woken :=
    Keeps.foldl (fun _ _ k => k.wakeDue) _ h.makeManifest.returnDue.viewMoved.settleMode
  have handed : Keeps P s handed := woken.rcAdd.sendManifests.settleSvc.writeHealth.handOn
  exact .ite handed.background handed

theorem Keeps.stopPassage {g : HelmId} {n : Nat} (h : Keeps P s t) : Keeps P s (t.stopPassage g n) := by
  unfold State.stopPassage
  extract_lets opened due
  have opened : Keeps P s opened := h.openMode.modHelm
  have due : Keeps P s due := .ite opened.drainSlips.events.commands opened
  exact due.sendOrder.modHelm

theorem Keeps.serveGangways {g : HelmId} (h : Keeps P s t) : Keeps P s (t.serveGangways g) := by
  unfold State.serveGangways
  exact h.modHelm

theorem Keeps.startPassage {g : HelmId} {n : Nat} (h : Keeps P s t) : Keeps P s (t.startPassage g n) :=
  h.modHelm.beginPassage.serveGangways.modHelm.applyFirst

theorem Keeps.openPassage {g : HelmId} (h : Keeps P s t) : Keeps P s (t.openPassage g) := h.settleSvc.modHelm

theorem Keeps.beginFor {g : HelmId} {n : Nat} (h : Keeps P s t) : Keeps P s (t.beginFor g n) := by
  refine .ite h ?_
  extract_lets opened taken
  have taken : Keeps P s taken := .ite h.openPassage.modHelm h.openPassage
  exact .ite h (.ite taken.startPassage taken)

theorem Keeps.passage {g : HelmId} {n : Nat} (h : Keeps P s t) : Keeps P s (t.passage g n) := by
  unfold State.passage
  extract_lets going opened started
  have opened : Keeps P s opened := .ite h h.openPassage
  have started : Keeps P s started := .ite opened opened.startPassage
  exact .ite opened.stopPassage started.applyRest.finishPassage.modHelm

end

end Sys2Proof.Machine
end

section
/-! PROOFS. What every step keeps, for the helms outside their passages, the resets, and the rows of the host commands. -/

namespace Sys2Proof.Machine

/-- An outcome whose next state, where it has one, has lost no invariant and no landed value asked for. -/
def KeptBy (P : Fin 4 → Prop) (s : State) (o : Host.Outcome State Fault Refusal) : Prop := ∀ t, o = .next t → Keeps P s t

section
variable {P : Fin 4 → Prop} {s t u : State}

theorem Keeps.next (h : Keeps P s t) : KeptBy P s (.next t) := fun u e => by
  cases e
  exact h

theorem KeptBy.ite {c : Prop} [Decidable c] {o q : Host.Outcome State Fault Refusal} (h : KeptBy P s o) (k : KeptBy P s q) :
    KeptBy P s (if c then o else q) := by
  split
  · exact h
  · exact k

theorem KeptBy.same : KeptBy P s (.next s) := Keeps.refl.next

/-! ### Both helms -/

theorem Keeps.eachHelm {f : HelmId → State → State} (hf : ∀ g u, Keeps P s u → Keeps P s (f g u)) (h : Keeps P s t) :
    Keeps P s (t.eachHelm f) := by
  have one (g : HelmId) {u : State} (k : Keeps P s u) :
      Keeps P s (let v := if (u.helm g).svc.computes then u.beginFor g u.tb.crossing else u
        if (v.helm g).svc.computes then f g (v.openMode g v.tb.crossing) else v) :=
    have begun : Keeps P s (if (u.helm g).svc.computes then u.beginFor g u.tb.crossing else u) := .ite k.beginFor k
    .ite (hf g _ begun.openMode) begun
  exact one .b (one .a h)

theorem Keeps.settle {g : HelmId} {n : Nat} (h : Keeps P s t) : Keeps P s (t.settle g n) := h.settleMode.settleSvc

theorem Keeps.selfRec {g : HelmId} {cls code : Nat} {d0 d1 d2 : Word} (h : Keeps P s t) :
    Keeps P s (t.selfRec g cls code d0 d1 d2) := h.helmRec.offerRecords

/-! ### Halting -/

theorem Keeps.haltShown {g : HelmId} {at_ : Stamp} {c : BitVec 4} {held : Bool} (h : Keeps P s t) :
    Keeps P s (t.haltShown g at_ c held) := h.setDecided.modHelm.quayRec

theorem Keeps.haltNow {g : HelmId} {c : BitVec 4} (h : Keeps P s t) : Keeps P s (t.haltNow g c) := by
  unfold State.haltNow
  extract_lets was view left stopped alone aborted shown
  have stopped : Keeps P s stopped := h.takeSvc.modHelm
  have alone : Keeps P s alone := .ite stopped.modHelm stopped
  have aborted : Keeps P s aborted := alone.abortResync
  have shown : Keeps P s shown := Keeps.foldl (fun _ _ k => k.haltShown) _ aborted
  exact .ite aborted.raiseEv shown.haltShown.ring

theorem kept_helmHalt {g : HelmId} {c : HaltCause} : KeptBy P s (execHelmHalt g c s) := .ite Keeps.refl.haltNow.next .same

theorem kept_helmSilent {g : HelmId} : KeptBy P s (execHelmSilent g s) := .ite Keeps.refl.modHelm.haltNow.next .same

/-! ### Strokes, background work, test passages -/

theorem Keeps.replyTime {g : HelmId} (h : Keeps P s t) : Keeps P s (t.replyTime g) := by
  refine .ite h ?_
  extract_lets answered
  have answered : Keeps P s answered := .ite h.background h
  exact answered.drainReplies.drainReplies.modHelm

theorem kept_strokeToken {g : HelmId} : KeptBy P s (execStrokeToken g s) := by
  unfold execStrokeToken
  extract_lets x
  split
  · exact .same
  · refine .ite .same ?_
    extract_lets gap taken offered drained served
    have taken : Keeps P s taken := Keeps.refl.modHelm
    have offered : Keeps P s offered := taken.offerRecords
    have drained : Keeps P s drained := .ite offered.drainSlips offered
    have served : Keeps P s served := drained.serveReads
    exact .ite taken.haltNow.next (Keeps.next (.ite served.modHelm.replyTime.painterTime served))

theorem Keeps.setPainter {b : Bool} (h : Keeps P s t) : Keeps P s (t.setPainter b) := h.same rfl

theorem kept_backgroundStep {g : HelmId} {good : Bool} : KeptBy P s (execBackgroundStep g good s) := by
  unfold execBackgroundStep
  extract_lets x k moved n
  refine .ite .same ?_
  have moved : Keeps P s moved := Keeps.refl.modHelm
  refine .ite (Keeps.next (Keeps.modHelm (.ite moved.setPainter moved))) ?_
  clear_value k
  split
  · exact moved.haltNow.next
  · exact moved.selfRec.setPainter.abortResync.abortResync.next
  · exact moved.next
  · exact moved.selfRec.raiseEv.next

theorem kept_testPassage {g : HelmId} {sig : BitVec 48} : KeptBy P s (execTestPassage g sig s) := by
  unfold execTestPassage
  extract_lets x
  split
  · exact .same
  · exact .ite .same Keeps.refl.modHelm.selfRec.next

theorem kept_testOutcome : KeptBy P s (execTestOutcome s) := by
  unfold execTestOutcome
  split
  · exact .same
  · exact Keeps.refl.dropTest.raiseEv.next

theorem kept_fullSelftestDone {g : HelmId} {pass : Bool} : KeptBy P s (execFullSelftestDone g pass s) := by
  unfold execFullSelftestDone
  extract_lets x counted starting passed failed
  refine .ite .same ?_
  have counted : Keeps P s counted := .ite .refl Keeps.refl.rcAdd
  have passed : Keeps P s passed := counted.setDecided.modAllHs.setPainter.modHelm
  exact .ite (Keeps.next (.ite passed passed.selfRec.ring)) counted.selfRec.modHelm.next

theorem kept_bistRetry {g : HelmId} : KeptBy P s (execBistRetry g s) := .ite Keeps.refl.modHelm.next .same

/-! ### The charter copies -/

theorem Keeps.readCopy {c : Nat} (h : Keeps P s t) : Keeps P s (t.readCopy c) := h.readWords

theorem Keeps.readCopies (h : Keeps P s t) : Keeps P s t.readCopies := Keeps.foldl (fun _ _ k => k.readCopy) _ h

theorem Keeps.writeCopy {c : Nat} {ch : List Word} (h : Keeps P s t) : Keeps P s (t.writeCopy c ch) :=
  h.modBank fun b k => b.writes_wf _ _ k

theorem Keeps.putCopy {c : Nat} {ch : List Word} {good : Bool} (h : Keeps P s t) : Keeps P s (t.putCopy c ch good) :=
  Keeps.readCopy (.ite h.writeCopy (Keeps.modBank (h.same rfl) fun b k => b.writes_wf _ _ k))

theorem Keeps.rewriteCopy {c : Nat} {ch : List Word} (h : Keeps P s t) : Keeps P s (t.rewriteCopy c ch) := Keeps.putCopy (h.same rfl)

theorem Keeps.repair {g : HelmId} (h : Keeps P s t) : Keeps P s (t.repair g) := by
  unfold State.repair
  extract_lets v d2 d1 rewritten shown
  split
  · exact h
  · have rewritten : Keeps P s rewritten := Keeps.foldl (fun _ _ k => .ite k.rewriteCopy k) _ h
    have shown : Keeps P s shown := rewritten.modHs
    exact shown.helmRec.offerRecords.ring

theorem kept_charterLoad {g : HelmId} : KeptBy P s (execCharterLoad g s) := by
  unfold execCharterLoad
  extract_lets x v tab read loaded _ shown _
  refine .ite .same ?_
  have loaded : Keeps P s loaded := Keeps.refl.readCopies.readTable.writeImgTable.loadImage.modHelm
  have shown : Keeps P s shown := .ite (loaded.same rfl) loaded
  exact Keeps.next (shown.same rfl)

theorem kept_charterCopyCheck : KeptBy P s (execCharterCopyCheck s) := by
  unfold execCharterCopyCheck
  split
  · exact .same
  · extract_lets hs ch bad rewrite intact d2 rewritten shown
    refine .ite .same ?_
    have rewritten : Keeps P s rewritten := Keeps.foldl (fun _ _ k => .ite k.rewriteCopy k) _ Keeps.refl.readCopies
    have shown : Keeps P s shown := rewritten.modAllHs
    exact .ite shown.next shown.helmRec.offerRecords.ring.next

theorem kept_charterCopyWrite {c : Fin 3} {good : Bool} : KeptBy P s (execCharterCopyWrite c good s) := by
  unfold execCharterCopyWrite
  split
  · exact .same
  · split
    · exact .same
    · extract_lets wrote bit noted put
      refine .ite .same ?_
      have put : Keeps P s put := Keeps.refl.modAllHs.putCopy
      exact Keeps.next (.ite put.readCopy put)

/-! ### Taking the helm, joining -/

theorem Keeps.toJoining {g : HelmId} (h : Keeps P s t) : Keeps P s (t.toJoining g) := h.setDecided.modHelm

theorem Keeps.takeHelm {g : HelmId} {m : ModeSt} {former : Option HelmId} (h : Keeps P s t) : Keeps P s (t.takeHelm g m former) := by
  unfold State.takeHelm
  extract_lets hs held _ given d2 told other
  have held : Keeps P s held := h.modHelm
  have given : Keeps P s given := held.same rfl
  have told : Keeps P s told := given.helmRec.offerRecords.ring
  exact .ite told.toJoining told

theorem Keeps.firstHolder {g : HelmId} (h : Keeps P s t) : Keeps P s (t.firstHolder g) := by
  unfold State.firstHolder
  extract_lets ch repaired wake n held _ charter
  have held : Keeps P s held := h.repair.takeHelm
  have charter : Keeps P s charter := held.same rfl
  exact .ite (charter.same rfl) charter

theorem Keeps.soleHolder {g : HelmId} (h : Keeps P s t) : Keeps P s (t.soleHolder g) := by
  unfold State.soleHolder
  extract_lets _ _ fresh debug red last hold old kept n held cls d0 told
  have fresh : Keeps P s fresh := h.same rfl
  have held : Keeps P s held := fresh.modHelm.takeHelm
  have told : Keeps P s told := held.helmRec.offerRecords
  exact .ite held (.ite told.ring told)

theorem kept_helmLoaded {g : HelmId} : KeptBy P s (execHelmLoaded g s) :=
  .ite .same (.ite Keeps.refl.toJoining.next (.ite Keeps.refl.soleHolder.next
    (.ite Keeps.refl.firstHolder.next Keeps.refl.modHelm.next)))

theorem kept_firstHolderTimeout : KeptBy P s (execFirstHolderTimeout s) := by
  refine .ite .same ?_
  extract_lets _ late
  have late : Keeps P s late := Keeps.refl.same rfl
  exact .ite late.firstHolder.next (.ite late.firstHolder.next late.next)

theorem kept_joinRequest {g : HelmId} : KeptBy P s (execJoinRequest g s) := .ite Keeps.refl.modHelm.next .same

theorem kept_resyncChunk {n : Nat} : KeptBy P s (execResyncChunk n s) := by
  unfold execResyncChunk
  split
  · exact .same
  · exact .ite .same (.ite Keeps.refl.abortResync.next Keeps.refl.modHelm.next)

/-- The joiner's command slips are those of the holder, whose depth is the same. -/
theorem Keeps.copyHelm {g o : HelmId} (h : Keeps P s t) : Keeps P s (t.copyHelm g o) := by
  have copied : Keeps P s _ := h.modHelm (g := g) (f := fun x => { x with
    hs := (t.helm o).hs
    saved := (t.helm o).saved
    lastCmds := (t.helm o).lastCmds
    lastEvs := (t.helm o).lastEvs
    begun := (t.helm o).begun
    viewWas := (t.helm o).viewWas
    passNo := (t.helm o).passNo
    out := (t.helm o).out.map (manAs g)
    outAt := (t.helm o).outAt
    resync := { x.resync with handed := true } })
  refine copied.trans ⟨id, fun d => ?_, ?_, fun _ _ => rfl⟩
  · rw [State.slipsOk_iff] at d ⊢
    cases g
    · exact { d with hpaA := d.hpaB, hpbA := d.hpbB }
    · exact { d with hpaB := d.hpaA, hpbB := d.hpbA }
  · cases g <;> exact id

theorem kept_helmJoin {g : HelmId} : KeptBy P s (execHelmJoin g s) := by
  unfold execHelmJoin
  extract_lets y o n copied ran
  have copied : Keeps P s copied := Keeps.refl.copyHelm
  have ran : Keeps P s ran := .ite copied copied.passage
  exact .ite ran.raiseEv.next .same

theorem kept_helmProven {g : HelmId} : KeptBy P s (execHelmProven g s) :=
  .ite .same (Keeps.next (Keeps.eachHelm (fun _ _ k => .ite k.proven.afterDouble.viewMoved.settle k) .refl))

theorem kept_returnToHelm : KeptBy P s (execReturnToHelm s) :=
  .ite .same (Keeps.next (Keeps.eachHelm (fun _ _ k => k.returnDue.viewMoved.settle) .refl))

theorem kept_debugCloseInstruction {g : HelmId} : KeptBy P s (execDebugCloseInstruction g s) :=
  .ite .same (.ite Keeps.refl.raiseEv.next Keeps.refl.modHelm.next)

/-! ### Events of a passage that the table names apart -/

theorem kept_pulseEnd {q : Fin 32} : KeptBy P s (execPulseEnd q s) :=
  .ite .same (Keeps.next (Keeps.eachHelm (fun _ _ k => k.modHs) .refl))

theorem kept_challengeExpiry {p : Port} : KeptBy P s (execChallengeExpiry p s) :=
  .ite .same (Keeps.next (Keeps.eachHelm (fun _ _ k => k.chalExpiry) .refl))

theorem kept_lockoutEnd {p : Port} : KeptBy P s (execLockoutEnd p s) :=
  .ite .same (Keeps.next (Keeps.eachHelm (fun _ _ k => k.lockEnd) .refl))

theorem kept_roleIdleExpiry {p : Port} : KeptBy P s (execRoleIdleExpiry p s) :=
  .ite .same (Keeps.next (Keeps.eachHelm (fun _ _ k => k.modHs.roleIdle) .refl))

theorem kept_wakeReadComplete {p : Fin 4} : KeptBy P s (execWakeReadComplete p s) :=
  .ite .same (Keeps.next (Keeps.eachHelm (fun _ _ k => k.wakeDue) .refl))

theorem kept_hostLost : KeptBy P s (execHostLost s) :=
  .ite .same (Keeps.next (Keeps.eachHelm (fun _ _ k => .ite k.loseHost.modHs k) .refl))

theorem kept_hailCheckMiss {k : Fin 64} : KeptBy P s (execHailCheckMiss k s) :=
  .ite .same (Keeps.next (Keeps.eachHelm (fun _ _ k => k.modHs) .refl))

theorem kept_passage {g : HelmId} : KeptBy P s (execPassage g s) := .ite Keeps.refl.passage.next .same

/-! ### Resets, supplies, start-up, MOORED -/

theorem Keeps.commitSlips (h : Keeps P s t) : Keeps P s t.commitSlips := h.finishHoldUp

theorem Keeps.fullReset {c b : BitVec 4} (h : Keeps P s t) : Keeps P s (t.fullReset c b) := h.commitSlips.resetWith

/-- With nothing in a slip, neither a depth nor an order is broken. -/
theorem Keeps.emptied (h : Keeps P s t) (nvm : (u.nvmA, u.nvmB, u.ponts) = (t.nvmA, t.nvmB, t.ponts))
    (ports : (u.hpa.slipA, u.hpa.slipB, u.hpb.slipA, u.hpb.slipB, u.hpa.toll, u.hpb.toll) = ([], [], [], [], [], []))
    (recs : (u.com.slipA, u.com.slipB, u.com.slipQ) = ([], [], [])) : Keeps P s u := by
  simp only [Prod.mk.injEq] at nvm ports recs
  obtain ⟨nvmA, nvmB, ponts⟩ := nvm
  obtain ⟨aA, aB, bA, bB, tollA, tollB⟩ := ports
  obtain ⟨recA, recB, recQ⟩ := recs
  refine h.trans ⟨fun k => ?_, fun _ => ?_, fun _ => ?_, fun p _ => ?_⟩
  · rwa [State.banksOk, nvmA, nvmB]
  · simp [State.slipsOk, aA, aB, bA, bB, tollA, tollB, recA, recB, recQ]
  · simp [State.tollOrder, tollA, tollB, ticksOk]
  · rw [State.pont, State.pont, ponts]

theorem kept_powerOn : KeptBy P s (execPowerOn s) :=
  have reset : Keeps P s s.resetLogic := Keeps.refl.resetLogic
  (reset.emptied (u := { s.resetLogic with com := {}, rst := _, tb := _, toll := _ }) rfl rfl rfl).next

theorem Keeps.detachByPin (h : Keeps P s t) : Keeps P s t.detachByPin := by
  have one (g : HelmId) {u : State} {r : Rec} (k : Keeps P s u) :
      Keeps P s (if (u.helm g).svc = .debug then u.quayRec r else u) := .ite k.quayRec k
  exact one .b (one .a h)

theorem kept_rstnPin : KeptBy P s (execRstnPin s) := .ite Keeps.refl.detachByPin.fullReset.next .same

theorem kept_quayCheck : KeptBy P s (execQuayCheck s) := .ite Keeps.refl.fullReset.next .same

theorem kept_tapReset : KeptBy P s (execTapReset s) := .ite Keeps.refl.fullReset.next .same

theorem kept_testenHigh : KeptBy P s (execTestenHigh s) :=
  .ite .same (Keeps.next (Keeps.same (Keeps.resetLogic Keeps.refl.commitSlips) rfl))

theorem kept_testenLow : KeptBy P s (execTestenLow s) := .ite .same (Keeps.next (Keeps.same (t := s.recordCause 2 0 0) Keeps.refl.recordCause rfl))

theorem kept_tideRestart {x : TideId} : KeptBy P s (execTideRestart x s) :=
  .ite (Keeps.next (Keeps.same Keeps.refl.commitSlips rfl)) .same

theorem Pont.noCarrier_landeds (x : Pont) (p : Nat) : (x.noCarrier p).landeds = x.landeds := by
  unfold Pont.noCarrier
  split
  · rfl
  · extract_lets y
    rw [Pont.refreshHolds_landeds]
    exact Pont.foldl_landeds _ (fun x l => x.permitDown_landeds p l) _ x

theorem kept_vddLow : KeptBy P s (execVddLow s) := by
  refine .ite .same ?_
  extract_lets n pf _ held _ down
  have held : Keeps P s held := Keeps.resetWith (Keeps.refl.same rfl)
  have down : Keeps P s down := held.same rfl
  exact Keeps.next (down.mapPonts fun p x => by rw [Pont.track_landeds, Pont.react_landeds, Pont.noCarrier_landeds])

theorem kept_mooringDomainLost : KeptBy P s (execMooringDomainLost s) := by
  refine .ite .same (Keeps.next ⟨id, fun d => ?_, id, fun _ _ => rfl⟩)
  rw [State.slipsOk_iff] at d ⊢
  exact { d with recA := Nat.zero_le _, recB := Nat.zero_le _, recQ := Nat.zero_le _ }

theorem kept_addrLatch {a b : Strap} : KeptBy P s (execAddrLatch a b s) := .ite (Keeps.next (Keeps.refl.same rfl)) .same

theorem kept_start : KeptBy P s (execStart s) := by
  refine .ite .same ?_
  extract_lets resumed n _ _ begun
  have resumed : Keeps P s resumed := Keeps.refl.commitSlips.resumeRings
  have begun : Keeps P s begun := resumed.same rfl
  exact begun.commitOwn.next

theorem kept_tidesStop : KeptBy P s (execTidesStop s) := by
  refine .ite .same ?_
  extract_lets tolled toll cut
  have tolled : Keeps P s tolled := Keeps.refl.tollAt
  refine .ite tolled.next (Keeps.next (tolled.trans ⟨id, fun d => ?_, id, fun _ _ => rfl⟩))
  rw [State.slipsOk_iff] at d ⊢
  exact { d with hpaA := Nat.zero_le _, hpaB := Nat.zero_le _, hpbA := Nat.zero_le _, hpbB := Nat.zero_le _ }

theorem Keeps.wake (h : Keeps P s t) : Keeps P s t.wake := by
  unfold State.wake
  split
  · exact h.fullReset.ring
  · exact h

theorem kept_mooredWake {w : WakeSrc} : KeptBy P s (execMooredWake w s) :=
  .ite (Keeps.next (Keeps.wake (.ite Keeps.refl.wakeBy .refl))) .same

theorem Keeps.idle (h : Keeps P s t) : Keeps P s t.idle := .ite h.mooringTick.wake h.mooringTick

/-! ### Rows of the host commands -/

theorem Keeps.rowAt {g : HelmId} {tag : Tag} {c : Cmd} (h : Keeps P s t) : Keeps P s (t.rowAt g tag c) := by
  refine .ite h ?_
  extract_lets n begun w e L claimed moved
  have begun : Keeps P s begun := h.beginFor
  have claimed : Keeps P s claimed := begun.claim.modHs.openMode
  have moved : Keeps P s moved := .ite claimed.modHelm claimed
  exact .ite begun moved.applyCmd.settleMode.settleSvc

theorem kept_hostRow {tag : Tag} {c : Cmd} : KeptBy P s (.next (s.hostRow tag c)) :=
  Keeps.next (.ite .refl (Keeps.refl.rowAt.rowAt.same rfl))

theorem Keeps.collectAt {g : HelmId} {tag : Tag} {k : Byte} (h : Keeps P s t) : Keeps P s (t.collectAt g tag k) :=
  .ite h (.ite h.answerCollection h.claim.modHs)

theorem kept_collection {tag : Tag} {k : Byte} : KeptBy P s (execCollection tag k s) :=
  .ite (Keeps.next (Keeps.refl.collectAt.collectAt.same rfl)) .same

end

end Sys2Proof.Machine
end

section
/-! PROOFS. What every step keeps, for the Quay's units and the pontoons; then for every command, and for a step. -/

namespace Sys2Proof.Machine

section
variable {P : Fin 4 → Prop} {s t u : State}

/-! ### The Quay -/

theorem kept_checkUnitSnoop {k : Fin 4} {n : Nat} : KeptBy P s (execCheckUnitSnoop k n s) :=
  Keeps.next (.ite (Keeps.refl.same rfl) (Keeps.rcAdd (Keeps.refl.same rfl)))

theorem kept_beatToken : KeptBy P s (execBeatToken s) :=
  .ite (Keeps.next ((Keeps.refl.map_ponts (f := fun x => x.pushBeat s.helmA.svc.beats s.helmB.svc.beats ⟨s.tb.mark, s.tb.beatNo + 1⟩)
    fun x => Pont.landeds_of_outs (by simp)).same rfl)) .same

theorem kept_tideCrossCheck {n : Nat} : KeptBy P s (execTideCrossCheck n s) := .ite (Keeps.next (Keeps.refl.same rfl)) .same

theorem kept_tideCalibrationWindow {n : Nat} : KeptBy P s (execTideCalibrationWindow n s) :=
  .ite (Keeps.next (Keeps.refl.same rfl)) .same

theorem kept_tideArbitration {m n : Nat} : KeptBy P s (execTideArbitration m n s) := by
  refine .ite .same ?_
  split
  · exact .ite Keeps.refl.discardTide.next (.ite (Keeps.next (Keeps.raiseEv (Keeps.tideRec (Keeps.refl.same rfl))))
      (.ite (Keeps.next (Keeps.refl.same rfl)) (Keeps.next (Keeps.raiseEv (Keeps.ringEv (Keeps.tideRec (Keeps.refl.same rfl)))))))
  · exact .ite Keeps.refl.discardTide.next .same
  · exact .same

theorem kept_tideLost {x : TideId} : KeptBy P s (execTideLost x s) := by
  refine .ite .same ?_
  split
  · exact .same
  · exact .ite (Keeps.next (Keeps.same (Keeps.refl.resetWith (c := 4) (b := 0)) rfl)) .same
  · exact Keeps.next (Keeps.tideRec (Keeps.refl.same rfl))

theorem kept_refclkLock : KeptBy P s (execRefclkLock s) := .ite (Keeps.next (Keeps.refl.same rfl)) .same

theorem kept_refclkLost : KeptBy P s (execRefclkLost s) :=
  .ite (Keeps.next (Keeps.raiseEv (Keeps.ringEv (Keeps.tideRec (Keeps.refl.same rfl))))) .same

theorem kept_syncLost : KeptBy P s (execSyncLost s) := .ite (Keeps.next (Keeps.quayCause (Keeps.quayRec (Keeps.refl.same rfl)))) .same

theorem kept_stroke : KeptBy P s (execStroke s) := .ite Keeps.refl.advanceStroke.next Keeps.refl.heldStroke.next

theorem kept_syncEdge {a : Int} {b c : Nat} : KeptBy P s (execSyncEdge a b c s) := by
  refine .ite .same (.ite Keeps.refl.syncMismatch.next ?_)
  have marked : Keeps P s (s.markedEdge b) := Keeps.refl.markedEdge
  exact .ite (.ite (Keeps.next (Keeps.advanceStroke (marked.same rfl))) (Keeps.next (marked.same rfl))) (Keeps.next (marked.same rfl))

theorem kept_tollCheckIn : KeptBy P s (execTollCheckIn s) := by
  unfold execTollCheckIn
  split
  · exact Keeps.next (Keeps.judge (Keeps.tollAt (keeps_nextCheckIn ‹_›)))
  · exact .same

theorem kept_tkOpeningTick : KeptBy P s (execTkOpeningTick s) := .ite (Keeps.next (Keeps.refl.atTick.same rfl)) .same

theorem kept_tkClosingTick : KeptBy P s (execTkClosingTick s) := .ite (Keeps.next (Keeps.tollTo _ .refl)) .same

theorem kept_wdpPulseEnd : KeptBy P s (execWdpPulseEnd s) := .ite Keeps.refl.pulseOver.next .same

theorem kept_tollKeeperEnabled : KeptBy P s (execTollKeeperEnabled s) := .ite (Keeps.next (Keeps.refl.same rfl)) .same

theorem kept_tollKeeperDisabled : KeptBy P s (execTollKeeperDisabled s) := by
  refine .ite .same ?_
  have tolled : Keeps P s (s.tollAt s.rst.tick) := Keeps.refl.tollAt
  extract_lets t
  split
  · exact Keeps.next (tolled.same rfl)
  · exact Keeps.next (tolled.same rfl)
  · exact tolled.next

theorem kept_mooredIntervalEnd : KeptBy P s (execMooredIntervalEnd s) :=
  .ite (Keeps.next (Keeps.wakeBy (Keeps.refl.atTick.same rfl))) .same

theorem kept_wakeRequest {p : Port} : KeptBy P s (execWakeRequest p s) := .ite Keeps.refl.wakeBy.next .same

theorem kept_recordCommit {v : ReadBack} : KeptBy P s (execRecordCommit v s) := by
  unfold execRecordCommit
  split
  · exact Keeps.next (Keeps.commitOne (Keeps.refl.take ‹_›))
  · split
    · exact Keeps.next (Keeps.commitOne (Keeps.refl.same rfl))
    · exact .same

/-- With the record slips empty and each bank in its form still, nothing is lost. -/
theorem keeps_stopEngine {a b : Bank} (ha : s.nvmA.wf = true → a.wf = true) (hb : s.nvmB.wf = true → b.wf = true)
    (com : (u.com.slipA, u.com.slipB, u.com.slipQ) = ([], [], []))
    (e : (u.nvmA, u.nvmB, u.hpa, u.hpb, u.rst, u.ponts) = (a, b, s.hpa, s.hpb, s.rst, s.ponts)) : Keeps P s u := by
  simp only [Prod.mk.injEq] at com e
  obtain ⟨recA, recB, recQ⟩ := com
  obtain ⟨nvmA, nvmB, hpa, hpb, rst, ponts⟩ := e
  refine ⟨fun h => ?_, fun d => ?_, fun o => ?_, fun p _ => ?_⟩
  · rw [State.banksOk, Bool.and_eq_true] at h ⊢
    rw [nvmA, nvmB]
    exact ⟨ha h.1, hb h.2⟩
  · rw [State.slipsOk_iff] at d ⊢
    obtain ⟨hpaA, hpaB, hpbA, hpbB, tollA, tollB, -, -, -⟩ := d
    constructor <;> simp_all
  · rwa [State.tollOrder, hpa, hpb, rst]
  · rw [State.pont, State.pont, ponts]

/-- A bank keeps its form through the rest of a commit cut short. -/
theorem Bank.leaveRest_wf {b : Bank} (c : Commit) (r : Rec) (left : BankLeft) (n : Nat) (h : b.wf = true) :
    (b.leaveRest c r left n).wf = true := by
  unfold Bank.leaveRest
  extract_lets k
  have k : k.wf = true := by
    unfold k
    split
    · exact Bank.write_wf _ _ h
    · exact h
  split
  · exact Bank.leave_wf _ _ _ _ k
  · exact k

/-- A bank as a commit cut short leaves it: its copy, and where both copies are complete the rest. -/
theorem Bank.left_wf {b : Bank} {full : Bool} (addr : Nat) (c : Commit) (r : Rec) (l : BankLeft) (n : Nat) (h : b.wf = true) :
    (if full then (b.leave addr r.words l.ring n).leaveRest c r l (n + 7) else b.leave addr r.words l.ring n).wf = true := by
  have copy := Bank.leave_wf addr n r.words l.ring h
  split
  · exact Bank.leaveRest_wf _ _ _ _ copy
  · exact copy

theorem kept_vholdExhausted {a b : BankLeft} : KeptBy P s (execVholdExhausted a b s) := by
  refine .ite .same ?_
  extract_lets r stop
  clear_value r
  cases r with
  | some r => exact Keeps.next (keeps_stopEngine (Bank.left_wf _ _ _ _ _) (Bank.left_wf _ _ _ _ _) rfl rfl)
  | none => exact .same

theorem kept_firstFaultClear : KeptBy P s (execFirstFaultClear s) := by
  refine .ite .same ?_
  split
  · exact Keeps.next (Keeps.quayCause (Keeps.clearFf (Keeps.refl.same rfl)))
  · exact .same

/-! ### The front ends -/

theorem kept_bytesIn {p : Port} {f : List Byte} : KeptBy P s (.next (s.bytesIn p f)) := Keeps.refl.bytesIn.next

theorem kept_selFall {p : Port} : KeptBy P s (execSelFall p s) := .ite Keeps.refl.selDown.next .same

theorem kept_selRelease {p : Port} {e : Bool} {n : Nat} {got : RxTail} : KeptBy P s (execSelRelease p e n got s) :=
  Keeps.refl.selUp.next

theorem kept_sessionReset {p : Port} {a : Byte} : KeptBy P s (execSessionReset p a s) := .ite Keeps.refl.sessionIn.next .same

theorem kept_toll {p : Port} {a : Byte} {prm : List Byte} : KeptBy P s (execToll p a prm s) :=
  .ite (Keeps.refl.acceptFrame (.inl rfl)).next .same

/-! ### Pontoons: inputs, lanes, outputs -/

theorem Keeps.refreshMirror {p : Fin 4} (h : Keeps P s t) : Keeps P s (t.refreshMirror p) := h.same rfl

theorem kept_reflexTrigger {p j : Fin 4} : KeptBy P s (execReflexTrigger p j s) :=
  .ite (Keeps.next (Keeps.refl.modField fun x => by rw [Pont.refreshHolds_landeds]; exact Pont.landeds_of_outs (by simp))) .same

theorem kept_hailSlot {v : List PinV} : KeptBy P s (execHailSlot v s) := Keeps.next (Keeps.refl.mapPonts fun p x => x.hailSlot_landeds p v)

theorem kept_hailPulseEnd {q : Fin 32} : KeptBy P s (execHailPulseEnd q s) :=
  Keeps.next (Keeps.refl.modPont fun x => x.modOut_landeds _ _ fun _ => rfl)

theorem kept_hailSlotEnd {a b : List PinV} : KeptBy P s (execHailSlotEnd a b s) :=
  Keeps.next (Keeps.refl.mapPonts fun p x => x.hailSlotEnd_landeds p a b _)

theorem kept_safenLow {p : Fin 4} : KeptBy P s (execSafenLow p s) :=
  have told : Keeps P s ({ s with lanes := { s.lanes with safenNow := false } }.raiseEv s.now (.safenEdge p false)) :=
    Keeps.raiseEv (Keeps.refl.same rfl)
  .ite (Keeps.next (told.modField fun x => by rw [Pont.refreshHolds_landeds]; rfl)) told.next

theorem Keeps.dlPin {m : Nat} {v : Bool} (h : Keeps P s t) : Keeps P s (t.dlPin m v) := h.same rfl

theorem kept_dlDriveEdge {m : Fin 8} {v : Bool} : KeptBy P s (execDlDriveEdge m v s) :=
  .ite (Keeps.next (Keeps.refl.dlPin.modField fun _ => rfl)) Keeps.refl.dlPin.next

theorem kept_dlPermitLow {m : Fin 8} : KeptBy P s (execDlPermitLow m s) :=
  Keeps.next (Keeps.refl.dlPin.modField fun x => x.permitDown_landeds _ _)

theorem kept_dlLost {m : Fin 8} : KeptBy P s (execDlLost m s) := Keeps.next (Keeps.refreshMirror (Keeps.refl.same rfl))

theorem kept_dlCarrierReturn {m : Fin 8} : KeptBy P s (execDlCarrierReturn m s) :=
  Keeps.next (Keeps.refreshMirror (Keeps.refl.same rfl))

theorem kept_dlWakeEdge {m : Fin 8} {v : Bool} : KeptBy P s (execDlWakeEdge m v s) := .ite Keeps.refl.wakeBy.next .same

theorem kept_vddioLow : KeptBy P s (execVddioLow s) := by
  unfold execVddioLow
  extract_lets told _ _ low lanes cut
  have told : Keeps P s told := .ite Keeps.refl.raiseEv .refl
  have low : Keeps P s low := told.same rfl
  have lanes : Keeps P s lanes := low.mapPonts fun p x => by
    rw [Pont.track_landeds, Pont.react_landeds]
    exact Pont.foldl_landeds _ (fun x l => x.permitDown_landeds p l) _ x
  exact Keeps.next (lanes.same rfl)

theorem kept_vddioReturn : KeptBy P s (execVddioReturn s) := by
  unfold execVddioReturn
  extract_lets told _ up lv
  have told : Keeps P s told := .ite .refl Keeps.refl.raiseEv
  have up : Keeps P s up := told.same rfl
  exact Keeps.next (up.mapPonts fun p x => by rw [Pont.track_landeds]; rfl)

theorem Keeps.modSwitch {q : Fin 32} {f : OutSt → OutSt} (h : Keeps P s t) (e : ∀ o, (f o).landed = o.landed) :
    Keeps P s (t.modSwitch q f) :=
  h.modField fun x => by
    split
    · exact x.modOut_landeds _ _ e
    · rfl

theorem kept_overcurrent {o : Overload} : KeptBy P s (execOvercurrent o s) :=
  Keeps.next (Keeps.refl.modSwitch fun o => by split <;> rfl)

theorem kept_thermalShutdown {q : Fin 32} : KeptBy P s (execThermalShutdown q s) :=
  .ite .same (.ite (.ite (Keeps.next (Keeps.refl.modField fun x => (Pont.rcIn_landeds ..).trans (x.modOut_landeds _ _ fun _ => rfl))) .same)
    (Keeps.next (Keeps.refl.modField fun x => Pont.landeds_of_outs (by simp))))

theorem kept_thermalCooled {q : Fin 32} : KeptBy P s (execThermalCooled q s) :=
  .ite (Keeps.next (Keeps.refl.modField fun x => by
    split
    · exact x.cooled_landeds q
    · rfl)) (Keeps.next Keeps.refl.modPont)

theorem kept_retryReload {q : Fin 32} : KeptBy P s (execRetryReload q s) :=
  Keeps.next (Keeps.refl.modSwitch fun o => by split <;> rfl)

theorem kept_reverseBlock {q : Fin 32} : KeptBy P s (execReverseBlock q s) := Keeps.next (Keeps.refl.modSwitch fun _ => rfl)

theorem kept_reverseRelease {q : Fin 32} : KeptBy P s (execReverseRelease q s) := Keeps.next (Keeps.refl.modSwitch fun _ => rfl)

theorem kept_pwmPeriod {n : Fin 8} {i : Int} {v : Nat} : KeptBy P s (execPwmPeriod n i v s) :=
  .ite (Keeps.next (Keeps.refl.modPont fun x => Pont.landeds_of_outs (by simp))) .same

theorem kept_pqTrip {n : Fin 8} {b : Bool} : KeptBy P s (execPqTrip n b s) :=
  .ite .same (Keeps.next (Keeps.refl.modField fun x => Pont.landeds_of_outs (by simp)))

/-! ### Pontoons: analog inputs -/

theorem kept_analogSample {n : Fin 16} {a : List Bool} {b : List (Int × Int)} {c : List Bool} :
    KeptBy P s (execAnalogSample n a b c s) :=
  .ite (Keeps.next (Keeps.refl.modPont fun x => Pont.landeds_of_outs (by simp))) .same

theorem kept_shuntTrip {n : Fin 16} : KeptBy P s (execShuntTrip n s) :=
  .ite (Keeps.next (Keeps.refl.modPont fun x => Pont.landeds_of_outs (by simp))) .same

theorem kept_shuntReclose {n : Fin 16} : KeptBy P s (execShuntReclose n s) :=
  .ite (Keeps.next (Keeps.refl.modPont fun x => Pont.landeds_of_outs (by simp))) .same

theorem kept_excLimit {p : Fin 4} : KeptBy P s (execExcLimit p s) :=
  .ite (Keeps.next (Keeps.refl.modPont fun x => Pont.landeds_of_outs (by simp))) .same

/-- A pontoon put in the place of one with the same outputs. -/
theorem Keeps.putPont {p : Fin 4} {y : Pont} (h : Keeps P s t) (e : y.outs = (t.pont p).outs) : Keeps P s (t.modPont p fun _ => y) :=
  h.modPont_of fun _ => Pont.landeds_of_outs e

theorem kept_refWindow {p : Fin 4} {w : RefMeas} : KeptBy P s (execRefWindow p w s) :=
  .ite .same (.ite (Keeps.next (Keeps.refl.putPont (by simp))) (.ite (Keeps.next (Keeps.refl.putPont (by simp)))
    (Keeps.next (Keeps.refl.putPont (by simp)))))

theorem kept_refStuck {p : Fin 4} : KeptBy P s (execRefStuck p s) :=
  .ite (Keeps.next (Keeps.refl.modPont fun x => Pont.landeds_of_outs (by simp))) .same

theorem kept_snapshotConversion {p : Fin 4} {v w : Int} {a b : Bool} : KeptBy P s (execSnapshotConversion p v w a b s) := by
  unfold execSnapshotConversion
  extract_lets c x free
  split
  · exact .same
  · exact .ite .same (Keeps.next Keeps.refl.modPont)

/-! ### Pontoons: beats, the sounding, the landing -/

theorem kept_beat {p : Fin 4} {g : HelmId} (hp : ¬ P p) : KeptBy P s (execBeat p g s) :=
  have any {f : Pont → Pont} : KeptBy P s (.next (s.modPont p f)) := Keeps.next (Keeps.refl.modPont_of fun k => absurd k hp)
  .ite any (.ite any any)

theorem kept_regeneratorLock {p : Fin 4} : KeptBy P s (execRegeneratorLock p s) := .ite (Keeps.next Keeps.refl.modPont) .same

theorem Keeps.safenRises {p : Fin 4} {l : List (Nat × Nat)} (h : Keeps P s t) : Keeps P s (t.safenRises p l) := by
  refine Keeps.foldl (fun _ _ k => ?_) _ h
  exact .ite k (Keeps.raiseEv (k.same rfl))

theorem Keeps.safenFound {p : Fin 4} {a b : Option Stamp} {x y : Bool} (h : Keeps P s t) : Keeps P s (t.safenFound p a b x y) :=
  .ite h (Keeps.raiseEv (h.same rfl))

theorem kept_sounding {p : Fin 4} {m : SoundingMeas} : KeptBy P s (execSounding p m s) := by
  unfold execSounding
  extract_lets x here was _ noted _ seen told rises found sounded
  have noted : Keeps P s noted := .ite .refl (Keeps.refl.same rfl)
  have seen : Keeps P s seen := noted.same rfl
  have found : Keeps P s found := seen.safenRises.safenFound
  have sounded : Keeps P s sounded := found.modField fun x =>
    (Pont.sound_landeds ..).trans (Pont.landeds_of_outs (x.newCrossing_outs _))
  exact .ite sounded.refreshMirror.next found.next

theorem kept_manifestCompare {p : Fin 4} : KeptBy P s (execManifestCompare p s) := .ite .same (Keeps.next Keeps.refl.modPont)

theorem kept_landing {p : Fin 4} (hp : ¬ P p) : KeptBy P s (execLanding p s) :=
  .ite (.ite (Keeps.next (Keeps.refreshMirror (Keeps.refl.modPont_of fun k => absurd k hp)))
    (Keeps.next (Keeps.refreshMirror (Keeps.refl.modField_of fun k => absurd k hp)))) .same

theorem kept_gangwaySilence {p : Fin 4} : KeptBy P s (execGangwaySilence p s) :=
  .ite (Keeps.next (Keeps.refl.modField fun x => by rw [Pont.refreshHolds_landeds]; rfl)) .same

theorem kept_gwDown {p : Fin 4} {g : HelmId} : KeptBy P s (execGwDown p g s) :=
  .ite (Keeps.next (Keeps.refl.modPont fun x => Pont.landeds_of_outs (by simp))) .same

/-! ### Frames on the gangways -/

theorem Keeps.snoopGw {up : Bool} {g : HelmId} {p : Nat} {f : RxFrame} (h : Keeps P s t) : Keeps P s (t.snoopGw up g p f) :=
  .ite h h.snoop

theorem kept_manifest {p : Fin 4} {g : HelmId} {f : RxFrame} : KeptBy P s (execManifest p g f s) := by
  have snooped : Keeps P s (s.snoopGw false g p f) := Keeps.refl.snoopGw
  exact .ite snooped.next (.ite (Keeps.next (snooped.putPont (by simp))) (.ite (Keeps.next (snooped.putPont (by simp)))
    (Keeps.next (snooped.putPont (by simp)))))

theorem kept_config {p : Fin 4} {g : HelmId} {f : RxFrame} {last : Bool} : KeptBy P s (execConfig p g f last s) := by
  refine .ite .same (.ite (Keeps.next (Keeps.refl.putPont (by simp))) (.ite ?_ (Keeps.next (Keeps.refl.putPont (by simp)))))
  refine Keeps.next (Keeps.refreshMirror (Keeps.refl.modField_of fun _ => ?_))
  rw [Pont.takeSetup_landeds]
  exact Pont.landeds_of_outs (by simp)

theorem kept_order {p : Fin 4} {g : HelmId} {f : RxFrame} {o : OrderKind} : KeptBy P s (execOrder p g f o s) := by
  unfold execOrder
  extract_lets r
  have put {y : Pont} (e : y.outs = r.2.outs) : KeptBy P s (.next (s.modPont p fun _ => y)) :=
    Keeps.next (Keeps.refl.putPont (e.trans (Pont.rxFrame_outs ..)))
  refine .ite .same (.ite (put rfl) ?_)
  split
  · exact put rfl
  · exact put rfl
  · split
    · exact put rfl
    · exact put (by simp)

theorem kept_setCrossing {p : Fin 4} {g : HelmId} {f : RxFrame} : KeptBy P s (execSetCrossing p g f s) :=
  .ite .same (.ite (Keeps.next (Keeps.refl.putPont (by simp))) (Keeps.next (Keeps.refl.putPont (by simp))))

theorem Keeps.rxAtHelm {g : HelmId} {p : Fin 4} {f : RxFrame} {n : Nat} (h : Keeps P s t) : Keeps P s (t.rxAtHelm g p f n).2 := by
  unfold State.rxAtHelm
  extract_lets key gap heard
  have heard : Keeps P s heard := h.modHelm
  split
  · exact .ite heard.rcAdd heard
  · exact h.rcAdd

theorem kept_echo {p : Fin 4} {g : HelmId} {f : EchoFrame} : KeptBy P s (execEcho p g f s) := by
  refine .ite (.ite .same ?_) (.ite .same ?_)
  · exact Keeps.next (Keeps.modHelm (Keeps.modPont (Keeps.refl.rxAtHelm (g := g) (p := p) (f := f.frame) (n := 6))
      fun x => Pont.landeds_of_outs (by simp)))
  · refine Keeps.next (Keeps.refl.putPont ?_)
    split <;> simp

theorem kept_report {g : HelmId} {p : Fin 4} {f : RxFrame} : KeptBy P s (execReport g p f s) := by
  unfold execReport
  extract_lets snooped r
  have snooped : Keeps P s snooped := Keeps.refl.snoopGw
  have r : Keeps P s r.2 := snooped.rxAtHelm
  refine .ite snooped.next ?_
  split
  · exact .ite r.next (.ite r.rcAdd.next r.modHelm.next)
  · exact r.next

theorem kept_bulk {g : HelmId} {p : Fin 4} {f : RxFrame} : KeptBy P s (execBulk g p f s) := by
  unfold execBulk
  extract_lets r ws sent
  have r : Keeps P s r.2 := Keeps.refl.rxAtHelm
  have sent : Keeps P s sent := r.modPont fun x => Pont.landeds_of_outs (by simp)
  exact .ite .same (.ite .same (.ite sent.modHelm.next sent.next))

/-! ### The field supply, input levels -/

theorem kept_sagAssert {p : Fin 4} {c : Sag} : KeptBy P s (execSagAssert p c s) :=
  .ite (Keeps.next (Keeps.refreshMirror (Keeps.refl.modField fun x => x.sagOn_landeds p c))) .same

theorem kept_sagRelease {p : Fin 4} {c : Sag} : KeptBy P s (execSagRelease p c s) :=
  .ite (Keeps.next (Keeps.refreshMirror (Keeps.refl.modField fun x => x.sagOff_landeds p c))) .same

theorem kept_vfOverSet {p : Fin 4} : KeptBy P s (execVfOverSet p s) := .ite (Keeps.next Keeps.refl.modPont) .same

theorem kept_vfOverClear {p : Fin 4} : KeptBy P s (execVfOverClear p s) := Keeps.next Keeps.refl.modPont

theorem kept_logicStop {p : Fin 4} (hp : ¬ P p) : KeptBy P s (execLogicStop p s) :=
  Keeps.next (Keeps.refreshMirror (Keeps.refl.modPont_of fun k => absurd k hp))

theorem kept_pontoonRestart {p : Fin 4} (hp : ¬ P p) : KeptBy P s (execPontoonRestart p s) :=
  .ite .same (Keeps.next (Keeps.refreshMirror (Keeps.refl.modPont_of fun k => absurd k hp)))

theorem Pont.setLevel_landeds (x : Pont) (p i : Nat) (v : Bool) : (x.setLevel p i v).landeds = x.landeds := by
  unfold Pont.setLevel
  extract_lets code y
  split
  · rfl
  · exact Pont.judgeAllRx_landeds _ p

theorem Pont.newLevel_landeds (x : Pont) (p i : Nat) (v : Bool) : (x.newLevel p i v).landeds = x.landeds := by
  unfold Pont.newLevel
  split
  · rfl
  · exact (Pont.landeds_of_outs (Pont.countEdge_outs ..)).trans (x.setLevel_landeds p i v)

theorem Pont.quadErr_landeds (x : Pont) (p k : Nat) (v w : Bool) : (x.quadErr p k v w).landeds = x.landeds := by
  have both : ((x.setLevel p k v).setLevel p (k + 1) w).landeds = x.landeds := by rw [setLevel_landeds, setLevel_landeds]
  unfold Pont.quadErr
  extract_lets y
  split
  · exact (Pont.rcIn_landeds ..).trans both
  · exact both

theorem Pont.samplePair_landeds (x : Pont) (p k : Nat) (v : Bool × Bool) : (x.samplePair p k v).landeds = x.landeds := by
  unfold Pont.samplePair
  extract_lets n a b y
  have y : y.landeds = x.landeds := rfl
  split
  · split
    · rw [quadErr_landeds, y]
    · rw [newLevel_landeds, newLevel_landeds, y]
  · rw [newLevel_landeds, y]
  · rw [newLevel_landeds, y]
  · exact y

theorem Keeps.samplesIn {p : Fin 4} {i : Nat} {l : List (Bool × Bool)} (h : Keeps P s t) : Keeps P s (t.samplesIn p i l) :=
  Keeps.refreshMirror (h.modField fun x => Pont.foldl_landeds _ (fun x v => x.samplePair_landeds _ _ v) _ x)

theorem kept_counterEdge {p i : Fin 4} {l m : List Bool} : KeptBy P s (execCounterEdge p i l m s) := Keeps.next Keeps.refl.samplesIn

theorem kept_inputLevelChange {p : Fin 4} {i : Fin 8} {l : List (Bool × Bool)} : KeptBy P s (execInputLevelChange p i l s) :=
  Keeps.next Keeps.refl.samplesIn

end

/-! ### Every command -/

/-- The pontoons whose landed values a command spares. -/
def Spares (c : Instr) (p : Fin 4) : Prop :=
  c ≠ .landing p ∧ c ≠ .logicStop p ∧ c ≠ .pontoonRestart p ∧ ∀ h, c ≠ .beat p h

/-- What every command keeps: the invariants of the banks and slips, and the landed values of the pontoons it spares. -/
theorem exec_keeps (c : Instr) (s : State) : KeptBy (Spares c) s (exec c s) := by
  cases c with
  | ul1Read => exact kept_bytesIn
  | ul1Write => exact kept_bytesIn
  | ul2Frame => exact kept_bytesIn
  | ul3Request => exact kept_bytesIn
  | ul3Fetch => exact kept_bytesIn
  | selRelease => exact kept_selRelease
  | collection => exact kept_collection
  | sessionReset => exact kept_sessionReset
  | pulseEnd => exact kept_pulseEnd
  | wakeRequest => exact kept_wakeRequest
  | challengeExpiry => exact kept_challengeExpiry
  | lockoutEnd => exact kept_lockoutEnd
  | roleIdleExpiry => exact kept_roleIdleExpiry
  | charterCopyWrite => exact kept_charterCopyWrite
  | charterCopyCheck => exact kept_charterCopyCheck
  | charterLoad => exact kept_charterLoad
  | toll => exact kept_toll
  | tollCheckIn => exact kept_tollCheckIn
  | tkOpeningTick => exact kept_tkOpeningTick
  | tkClosingTick => exact kept_tkClosingTick
  | wdpPulseEnd => exact kept_wdpPulseEnd
  | mooredIntervalEnd => exact kept_mooredIntervalEnd
  | firstFaultClear => exact kept_firstFaultClear
  | recordCommit => exact kept_recordCommit
  | vholdExhausted => exact kept_vholdExhausted
  | checkUnitSnoop => exact kept_checkUnitSnoop
  | snapshotConversion => exact kept_snapshotConversion
  | wakeReadComplete => exact kept_wakeReadComplete
  | debugCloseInstruction => exact kept_debugCloseInstruction
  | stroke => exact kept_stroke
  | strokeToken => exact kept_strokeToken
  | beatToken => exact kept_beatToken
  | beat => exact kept_beat fun k => k.2.2.2 _ rfl
  | regeneratorLock => exact kept_regeneratorLock
  | sounding => exact kept_sounding
  | passage => exact kept_passage
  | hostLost => exact kept_hostLost
  | hailCheckMiss => exact kept_hailCheckMiss
  | backgroundStep => exact kept_backgroundStep
  | testPassage => exact kept_testPassage
  | testOutcome => exact kept_testOutcome
  | manifestCompare => exact kept_manifestCompare
  | landing => exact kept_landing fun k => k.1 rfl
  | gangwaySilence => exact kept_gangwaySilence
  | gwDown => exact kept_gwDown
  | report => exact kept_report
  | manifest => exact kept_manifest
  | config => exact kept_config
  | order => exact kept_order
  | bulk => exact kept_bulk
  | echo => exact kept_echo
  | setCrossing => exact kept_setCrossing
  | helmHalt => exact kept_helmHalt
  | helmSilent => exact kept_helmSilent
  | fullSelftestDone => exact kept_fullSelftestDone
  | bistRetry => exact kept_bistRetry
  | helmLoaded => exact kept_helmLoaded
  | firstHolderTimeout => exact kept_firstHolderTimeout
  | joinRequest => exact kept_joinRequest
  | resyncChunk => exact kept_resyncChunk
  | helmJoin => exact kept_helmJoin
  | helmProven => exact kept_helmProven
  | returnToHelm => exact kept_returnToHelm
  | tideCrossCheck => exact kept_tideCrossCheck
  | tideCalibrationWindow => exact kept_tideCalibrationWindow
  | tideArbitration => exact kept_tideArbitration
  | tideLost => exact kept_tideLost
  | tideRestart => exact kept_tideRestart
  | refclkLock => exact kept_refclkLock
  | refclkLost => exact kept_refclkLost
  | syncEdge => exact kept_syncEdge
  | syncLost => exact kept_syncLost
  | safenLow => exact kept_safenLow
  | reflexTrigger => exact kept_reflexTrigger
  | counterEdge => exact kept_counterEdge
  | dlDriveEdge => exact kept_dlDriveEdge
  | dlPermitLow => exact kept_dlPermitLow
  | dlLost => exact kept_dlLost
  | dlWakeEdge => exact kept_dlWakeEdge
  | hailSlot => exact kept_hailSlot
  | hailPulseEnd => exact kept_hailPulseEnd
  | hailSlotEnd => exact kept_hailSlotEnd
  | overcurrent => exact kept_overcurrent
  | thermalShutdown => exact kept_thermalShutdown
  | thermalCooled => exact kept_thermalCooled
  | retryReload => exact kept_retryReload
  | reverseBlock => exact kept_reverseBlock
  | reverseRelease => exact kept_reverseRelease
  | pwmPeriod => exact kept_pwmPeriod
  | pqTrip => exact kept_pqTrip
  | analogSample => exact kept_analogSample
  | refWindow => exact kept_refWindow
  | refStuck => exact kept_refStuck
  | shuntTrip => exact kept_shuntTrip
  | shuntReclose => exact kept_shuntReclose
  | excLimit => exact kept_excLimit
  | sagAssert => exact kept_sagAssert
  | sagRelease => exact kept_sagRelease
  | vfOverSet => exact kept_vfOverSet
  | vfOverClear => exact kept_vfOverClear
  | logicStop => exact kept_logicStop fun k => k.2.1 rfl
  | pontoonRestart => exact kept_pontoonRestart fun k => k.2.2.1 rfl
  | powerOn => exact kept_powerOn
  | rstnPin => exact kept_rstnPin
  | vddLow => exact kept_vddLow
  | quayCheck => exact kept_quayCheck
  | tapReset => exact kept_tapReset
  | testenHigh => exact kept_testenHigh
  | testenLow => exact kept_testenLow
  | mooredWake => exact kept_mooredWake
  | start => exact kept_start
  | addrLatch => exact kept_addrLatch
  | vddioLow => exact kept_vddioLow
  | vddioReturn => exact kept_vddioReturn
  | tidesStop => exact kept_tidesStop
  | selFall => exact kept_selFall
  | inputLevelChange => exact kept_inputLevelChange
  | tollKeeperEnabled => exact kept_tollKeeperEnabled
  | tollKeeperDisabled => exact kept_tollKeeperDisabled
  | mooringDomainLost => exact kept_mooringDomainLost
  | dlCarrierReturn => exact kept_dlCarrierReturn
  | _ => exact kept_hostRow

/-- Every step keeps the invariants of the banks and slips. -/
theorem step_keeps {s t : State} (h : step s = .next t) : Keeps (fun _ => False) s t := by
  rcases step_cases h with ⟨-, e⟩ | ⟨c, rest, -, e⟩
  · cases e
    exact Keeps.refl.idle
  · have queued : Keeps (Spares c) s { s with pending := rest } := Keeps.refl.same rfl
    obtain ⟨banks, slips, order, -⟩ := queued.trans (exec_keeps c _ t e.symm)
    exact ⟨banks, slips, order, fun _ k => k.elim⟩

/-- Settles O45: every operation a step is made of keeps the form of both banks. -/
theorem stepKeepsBanks : Obligations.StepKeepsBanks := fun _ _ h e => (step_keeps e).banks h

/-- Settles O46: whatever enters a slip enters it while there is room. -/
theorem stepKeepsSlips : Obligations.StepKeepsSlips := fun _ _ h e => (step_keeps e).slips h

/-- Settles O47: every other command leaves the landed values of the pontoon, whichever parts of its outputs it changes. -/
theorem landedChangesOnlyAtLandings : Obligations.LandedChangesOnlyAtLandings := by
  intro s t c p i e landing stop restart beat
  have same := (exec_keeps c s t e).landed p ⟨landing, stop, restart, beat⟩
  simpa [Pont.landeds] using congrArg (fun v => v[i]) same

end Sys2Proof.Machine
end

section
/-! PROOFS. The queue and the state after reset; a record, a bell cause and a stamped event of the Quay (R60, R128, R438); the tides
(R36 to R42) and the wake sources (R390). -/

namespace Sys2Proof.Machine

/-! ### A record, a bell cause and a stamped event of the Quay -/

section
variable (s : State) (r : Rec) (k : Nat) (at_ : Stamp) (e : Ev)

theorem State.quayRec_frame : s.quayRec r = { s with com := (s.quayRec r).com, win := (s.quayRec r).win } := by
  rcases s.quayRec_cases r with ⟨-, h⟩ | ⟨-, -, h⟩ | ⟨-, -, h⟩
  · rw [h]
  · rw [h]
  · rw [h]
    rfl

theorem State.quayRec_noted : Noted s (s.quayRec r) r := fun up room => State.quayRec_slipQ r up room

theorem State.ringEv_frame : s.ringEv k = { s with bell := (s.ringEv k).bell } := by
  unfold State.ringEv State.ring
  split <;> rfl

theorem State.ringEv_rung : RungByEvent s (s.ringEv k) k := by
  unfold RungByEvent State.ringEv State.ring
  split <;> rfl

theorem State.raiseEv_received : Received s (s.raiseEv at_ e) at_ e := by
  intro h
  cases h with
  | a => cases svc : s.helmA.svc.inService <;> simp [State.raiseEv, State.helm, svc]
  | b => cases svc : s.helmB.svc.inService <;> simp [State.raiseEv, State.helm, svc]

theorem State.landingsRun_quayRec : (s.quayRec r).landingsRun = s.landingsRun := by
  rw [s.quayRec_frame r]
  rfl

/-- A record and a stamped event of the Quay. -/
theorem State.recRaised : OnlyNotes s ((s.quayRec r).raiseEv at_ e) ∧ Noted s ((s.quayRec r).raiseEv at_ e) r
    ∧ Received s ((s.quayRec r).raiseEv at_ e) at_ e := by
  refine ⟨?_, s.quayRec_noted r, fun h => ?_⟩
  · rw [s.quayRec_frame r]
    rfl
  · rw [State.raiseEv_received (s.quayRec r) at_ e h, s.quayRec_frame r]
    rfl

/-- A record, a bell cause and a stamped event of the Quay. -/
theorem State.recRungRaised : OnlyNotes s (((s.quayRec r).ringEv k).raiseEv at_ e)
    ∧ Noted s (((s.quayRec r).ringEv k).raiseEv at_ e) r
    ∧ Received s (((s.quayRec r).ringEv k).raiseEv at_ e) at_ e
    ∧ RungByEvent s (((s.quayRec r).ringEv k).raiseEv at_ e) k := by
  have frame : (s.quayRec r).ringEv k
      = { s with com := (s.quayRec r).com, win := (s.quayRec r).win, bell := ((s.quayRec r).ringEv k).bell } := by
    rw [State.ringEv_frame, s.quayRec_frame r]
  refine ⟨?_, fun up room => ?_, fun h => ?_, ?_⟩
  · rw [frame]
    rfl
  · rw [show ((((s.quayRec r).ringEv k).raiseEv at_ e).com) = (s.quayRec r).com from State.ringEv_com ..]
    exact s.quayRec_noted r up room
  · rw [State.raiseEv_received _ at_ e h, frame]
    rfl
  · have rung := State.ringEv_rung (s.quayRec r) k
    rwa [RungByEvent, s.landingsRun_quayRec, State.quayRec_bell] at rung

end

/-- TIDE_STATUS is read from the timebase alone. -/
theorem State.tideStatus_congr {s t : State} (h : t.tb = s.tb) : t.tideStatus = s.tideStatus := by
  unfold State.tideStatus
  rw [h]

/-! ### The queue and the state after reset -/

/-- Settles O1: the front command is what a step matches on. -/
theorem stepRunsTheFront : Obligations.StepRunsTheFront := fun _ _ => rfl

/-- Settles O3: the reset state is a closed term, which is evaluated. -/
theorem resetValues : Obligations.ResetValues := by
  unfold Obligations.ResetValues
  decide +kernel

/-! ### The wake sources of MOORED -/

/-- In MOORED, with no wake source noted, one is noted with its tick. -/
theorem State.wakeBy_first {s : State} (c : BitVec 4) (moored : s.mode = .moored) (none_ : s.rst.wakeSub = none) :
    s.wakeBy c = { s with rst := { s.rst with wakeSub := some c, wakeTick := s.rst.tick } } := by
  simp [State.wakeBy, moored, none_]

/-- Of two wake sources in one mooring tick the lowest stands. -/
theorem State.wakeBy_second {s : State} {c : BitVec 4} (d : BitVec 4) (moored : s.mode = .moored) (some_ : s.rst.wakeSub = some c)
    (now : s.rst.wakeTick = s.rst.tick) :
    s.wakeBy d = { s with rst := { s.rst with wakeSub := some (if d.toNat < c.toNat then d else c) } } := by
  by_cases lower : d.toNat < c.toNat
  · simp [State.wakeBy, moored, some_, now, lower]
  · have same : s.wakeBy d = s := by simp [State.wakeBy, some_, lower]
    rw [same, if_neg lower, ← some_]

theorem State.wakeBy_awake {s : State} (c : BitVec 4) (awake : s.mode ≠ .moored) : s.wakeBy c = s := by
  simp [State.wakeBy, awake]

/-- A wake source changes nothing but the notes of the wake source and its tick. -/
theorem State.wakeBy_frame (s : State) (c : BitVec 4) :
    s.wakeBy c = { s with rst := { s.rst with wakeSub := (s.wakeBy c).rst.wakeSub, wakeTick := (s.wakeBy c).rst.wakeTick } } := by
  unfold State.wakeBy
  split
  · split
    · split <;> rfl
    · rfl
  · rfl

theorem min_portCode (p : Port) (c : BitVec 4) :
    (if (BitVec.ofNat 4 (portCode p)).toNat < c.toNat then BitVec.ofNat 4 (portCode p) else c).toNat = min c.toNat (portCode p) := by
  have code : (BitVec.ofNat 4 (portCode p)).toNat = portCode p := by cases p <;> rfl
  rw [apply_ite BitVec.toNat, code]
  split <;> omega

theorem execWakeRequest_on {s : State} {p : Port} (on : s.portOn = true) (open_ : (s.port p).opened = true) :
    exec (.wakeRequest p) s = .next (s.wakeBy (BitVec.ofNat 4 (portCode p))) := by
  cases p <;> simp [exec, execWakeRequest, on, open_, portCode]

/-- Settles O10: a wake source is noted in MOORED only, the first of a tick or a lower one. -/
theorem wakeSources : Obligations.WakeSources := by
  intro s
  refine ⟨fun mooring => ?_, fun h => by simp [exec, execMooredIntervalEnd, h], fun p on open_ moored none_ => ?_,
    fun p c on open_ moored some_ now => ?_, fun p h => ?_⟩
  · refine ⟨_, if_pos mooring, ?_, ?_, ?_, ?_, fun moored none_ => ?_⟩
    · rw [State.wakeBy_frame]
      rfl
    · rw [State.wakeBy_frame]
    · rw [State.wakeBy_frame]
      rfl
    · rw [State.wakeBy_frame]
      rfl
    · rw [State.wakeBy_first 3 (s := { s.atTick s.toll.moorEnd with toll := { s.toll with st := .idle } }) moored none_]
  · rw [execWakeRequest_on on open_, State.wakeBy_first _ moored none_]
  · refine ⟨_, execWakeRequest_on on open_, ?_, ?_⟩
    · rw [State.wakeBy_second _ moored some_ now]
    · rw [State.wakeBy_second _ moored some_ now]
      exact congrArg some (min_portCode p c)
  · show execWakeRequest p s = _
    unfold execWakeRequest
    split
    · next on =>
      rw [Bool.and_eq_true] at on
      have awake : s.mode ≠ .moored := by simpa [on.1, on.2] using h
      rw [State.wakeBy_awake _ awake]
    · rfl

/-! ### The tides -/

/-- The tides agree within 0.1 %. -/
theorem close_iff (n : Nat) : ((n : Int) - 65536).natAbs * 1000 ≤ 65536 ↔ n - 65536 ≤ 65 ∧ 65536 - n ≤ 65 := by omega

/-- The tides differ by more than 327 counts. -/
theorem apart_iff (n : Nat) : 327 < ((n : Int) - 65536).natAbs ↔ n + 327 < 65536 ∨ 65536 + 327 < n := by omega

theorem tideCrossCheck_spec (s : State) (n : Nat) (live : s.live = true) (both : s.tb.both = true) :
    ∃ t, exec (.tideCrossCheck n) s = .next t ∧ OnlyTb s t
      ∧ t.tb.ts = (if s.tb.ts = .agree ∧ (n + 327 < 65536 ∨ 65536 + 327 < n) then .arbitrate 0 else s.tb.ts)
      ∧ (n = 65536 → t.tb.diff = 0)
      ∧ (t.tb.close = true ↔ (n - 65536 ≤ 65 ∧ 65536 - n ≤ 65))
      ∧ t.tb.cWin = s.tb.cWin ∧ t.tb.selB = s.tb.selB ∧ t.now = s.now := by
  refine ⟨_, if_pos (by simp [live, both]), rfl, ?_, ?_, ?_, rfl, rfl, rfl⟩
  · simp only [Bool.and_eq_true, decide_eq_true_eq, apart_iff]
  · rintro rfl
    rfl
  · rw [decide_eq_true_eq, close_iff]

theorem tideCalibrationWindow_spec (s : State) (n : Nat) (live : s.live = true) (both : s.tb.both = true) :
    (s.tb.ts = .agree → s.tb.close = true → exec (.tideCalibrationWindow n) s
      = .next { s with tb := { s.tb with cWin := (n :: s.tb.cWin).take 16 } })
    ∧ ((s.tb.ts ≠ .agree ∨ s.tb.close = false) → exec (.tideCalibrationWindow n) s = .next s) :=
  ⟨fun agree close => if_pos (by simp [live, both, agree, close]), fun h => if_neg (by simp; tauto)⟩

section
variable {s : State} {a b : Nat} (live : s.live = true) (both : s.tb.both = true)

/-- Whether one count alone lies near C, as the model decides it. -/
theorem nearAlone_iff (c : Int) (a b : Nat) :
    (decide (((a : Int) - c).natAbs ≤ c.toNat / 400) != decide (((b : Int) - c).natAbs ≤ c.toNat / 400)) = true
      ↔ (NearC c a ∧ ¬NearC c b) ∨ (¬NearC c a ∧ NearC c b) := by
  unfold NearC
  by_cases x : ((a : Int) - c).natAbs ≤ c.toNat / 400 <;> by_cases y : ((b : Int) - c).natAbs ≤ c.toNat / 400 <;> simp [x, y]

/-- Whether both counts lie near C and agree within 0.1 %, as the model decides it. -/
theorem nearAgree_iff (c : Int) (a b : Nat) :
    (decide (((a : Int) - c).natAbs ≤ c.toNat / 400) && decide (((b : Int) - c).natAbs ≤ c.toNat / 400)
        && decide (((a : Int) - b).natAbs * 1000 ≤ a)) = true
      ↔ NearC c a ∧ NearC c b ∧ ((a : Int) - b).natAbs * 1000 ≤ a := by
  simp only [NearC, Bool.and_eq_true, decide_eq_true_eq, and_assoc]

include live both

theorem execTideArbitration_one (h : (∃ r, s.tb.ts = .arbitrate r) ∨ s.tb.ts = .split)
    (one : (NearC s.tb.c a ∧ ¬NearC s.tb.c b) ∨ (¬NearC s.tb.c a ∧ NearC s.tb.c b)) :
    exec (.tideArbitration a b) s = .next (s.discardTide (decide (((b : Int) - s.tb.c).natAbs ≤ s.tb.c.toNat / 400))) := by
  refine (if_neg (by simp [live, both])).trans ?_
  have alone := (nearAlone_iff s.tb.c a b).2 one
  rcases h with ⟨r, ts⟩ | ts <;> rw [ts] <;> exact if_pos alone

theorem execTideArbitration_agree {r : Nat} (ts : s.tb.ts = .arbitrate r)
    (agree : NearC s.tb.c a ∧ NearC s.tb.c b ∧ ((a : Int) - b).natAbs * 1000 ≤ a) :
    exec (.tideArbitration a b) s = .next (({ s with tb := { s.tb with ts := .agree, unresolved := false, close := true } }.tideRec
      clsWarn 0x006).raiseEv s.now .tideTransient) := by
  refine (if_neg (by simp [live, both])).trans ?_
  rw [ts]
  exact (if_neg fun h => by rw [nearAlone_iff] at h; tauto).trans (if_pos ((nearAgree_iff s.tb.c a b).2 agree))

theorem execTideArbitration_again {r : Nat} (ts : s.tb.ts = .arbitrate r)
    (one : ¬((NearC s.tb.c a ∧ ¬NearC s.tb.c b) ∨ (¬NearC s.tb.c a ∧ NearC s.tb.c b)))
    (agree : ¬(NearC s.tb.c a ∧ NearC s.tb.c b ∧ ((a : Int) - b).natAbs * 1000 ≤ a)) :
    exec (.tideArbitration a b) s =
      if r < 2 then .next { s with tb := { s.tb with ts := .arbitrate (r + 1), unresolved := true } }
      else .next ((({ s with tb := { s.tb with ts := .split, unresolved := true } }.tideRec clsFault 0x007).ringEv bellTide).raiseEv
        s.now .tideSplit) := by
  refine (if_neg (by simp [live, both])).trans ?_
  rw [ts]
  exact (if_neg ((nearAlone_iff s.tb.c a b).not.2 one)).trans (if_neg ((nearAgree_iff s.tb.c a b).not.2 agree))

theorem execTideArbitration_split (ts : s.tb.ts = .split)
    (one : ¬((NearC s.tb.c a ∧ ¬NearC s.tb.c b) ∨ (¬NearC s.tb.c a ∧ NearC s.tb.c b))) :
    exec (.tideArbitration a b) s = .next s := by
  refine (if_neg (by simp [live, both])).trans ?_
  rw [ts]
  exact if_neg ((nearAlone_iff s.tb.c a b).not.2 one)

end

/-- The selector settled on one tide: the record, the bell and the event, and the timebase. -/
theorem State.discardTide_told (s : State) (keepB : Bool) :
    let t := s.discardTide keepB
    OnlyNotes { s with tb := t.tb } t ∧ Noted s t ⟨s.now, 8, clsFault, 0x005, 0, t.tideStatus, 0⟩
      ∧ Received s t s.now .tideDiscard ∧ RungByEvent s t bellTide
      ∧ t.tb = { s.tb with ts := .single, unresolved := false, selB := keepB, aOk := !keepB && s.tb.aOk, bOk := keepB && s.tb.bOk } := by
  intro t
  let u : State := { s with tb := { s.tb with
    ts := .single, unresolved := false, selB := keepB, aOk := !keepB && s.tb.aOk, bOk := keepB && s.tb.bOk } }
  have tb : t.tb = u.tb := by simp [t, u, State.discardTide, State.tideRec, State.raiseEv]
  obtain ⟨frame, noted, received, rung⟩ := u.recRungRaised ⟨s.now, 8, clsFault, 0x005, 0, u.tideStatus, 0⟩ bellTide s.now .tideDiscard
  refine ⟨?_, ?_, received, rung, tb⟩
  · rw [tb]
    exact frame
  · rw [State.tideStatus_congr tb]
    exact noted

/-- Settles O5: by the state of the selector and the counts of the window. -/
theorem tideChecks : Obligations.TideChecks := by
  refine ⟨fun s n live both => ⟨tideCrossCheck_spec s n live both, tideCalibrationWindow_spec s n live both⟩,
    fun s a b live both => ⟨fun ts one => ?_, fun r ts agree => ?_, fun r ts one agree lt => ?_, fun ts one agree => ?_,
      fun ts one => execTideArbitration_split live both ts one⟩⟩
  · obtain ⟨frame, noted, received, rung, tb⟩ := s.discardTide_told (decide (((b : Int) - s.tb.c).natAbs ≤ s.tb.c.toNat / 400))
    obtain ⟨-, aOk, bOk⟩ : s.tb.tides = true ∧ s.tb.aOk = true ∧ s.tb.bOk = true := by
      simpa [Timebase.both, and_assoc] using both
    refine ⟨_, execTideArbitration_one live both ts one, frame, noted, received, rung, ?_, ?_, ?_, ?_, ?_, ?_⟩
    · rw [tb]
    · rw [tb]
    · simp [tb, NearC]
    · simp only [tb, aOk, Bool.and_true, Bool.not_eq_true', decide_eq_false_iff_not]
      unfold NearC at one ⊢
      tauto
    · simp [tb, bOk, NearC]
    · rw [State.now, tb]
      rfl
  · let u : State := { s with tb := { s.tb with ts := .agree, unresolved := false, close := true } }
    obtain ⟨frame, noted, received⟩ := u.recRaised ⟨s.now, 8, clsWarn, 0x006, 0, u.tideStatus, 0⟩ s.now .tideTransient
    have tb : ((u.tideRec clsWarn 0x006).raiseEv s.now .tideTransient).tb = u.tb := by simp [State.tideRec, State.raiseEv]
    refine ⟨_, execTideArbitration_agree live both ts agree, ?_, ?_, received, tb⟩
    · rw [tb]
      exact frame
    · rw [State.tideStatus_congr tb]
      exact noted
  · rw [execTideArbitration_again live both ts one agree, if_pos lt]
  · let u : State := { s with tb := { s.tb with ts := .split, unresolved := true } }
    obtain ⟨frame, noted, received, rung⟩ := u.recRungRaised ⟨s.now, 8, clsFault, 0x007, 0, u.tideStatus, 0⟩ bellTide s.now .tideSplit
    have tb : (((u.tideRec clsFault 0x007).ringEv bellTide).raiseEv s.now .tideSplit).tb = u.tb := by
      simp [State.tideRec, State.raiseEv]
    refine ⟨_, (execTideArbitration_again live both ts one agree).trans (if_neg (by decide)), ?_, ?_, received, rung, tb⟩
    · rw [tb]
      exact frame
    · rw [State.tideStatus_congr tb]
      exact noted

end Sys2Proof.Machine
end

section
/-! PROOFS. What the engine leaves as it commits the records of its slips (R446, R461); then the resets (R459 to R461), the start of the
device on an empty queue (R390), and a tide that runs again (R39). -/

namespace Sys2Proof.Machine

/-! ### Commits outside RECORD_COMMIT -/

/-- A helm that has received stamped events, if it is in service, and nothing else. -/
def Helm.Heard (x y : Helm) : Prop :=
  y = { x with hs := { x.hs with evs := y.hs.evs } } ∧ (x.svc.inService = false → y = x)

theorem Helm.Heard.refl (x : Helm) : x.Heard x := ⟨rfl, fun _ => rfl⟩

theorem Helm.Heard.svc {x y : Helm} (h : x.Heard y) : y.svc = x.svc := by rw [h.1]

theorem Helm.Heard.swapped {x y : Helm} (h : x.Heard y) : y.swapped = x.swapped := by rw [h.1]

theorem Helm.Heard.trans {x y z : Helm} (h : x.Heard y) (k : y.Heard z) : x.Heard z := by
  refine ⟨?_, fun out => ?_⟩
  · rw [k.1, h.1]
  · rw [k.2 (h.svc ▸ out), h.2 out]

/-- What commits leave: nothing but the banks, the engine, the RC fields, the bell, the free values and the events of helms in service
differs; the helms' slips are the same, and what has come into the Quay's slip is an NVM_FAULT record. -/
structure Committed (s t : State) : Prop where
  frame : t = { s with com := t.com, nvmA := t.nvmA, nvmB := t.nvmB, win := t.win, free := t.free, bell := t.bell,
                       helmA := t.helmA, helmB := t.helmB }
  helm : ∀ h, (s.helm h).Heard (t.helm h)
  slipA : t.com.slipA = s.com.slipA
  slipB : t.com.slipB = s.com.slipB
  slipQ : ∀ r ∈ t.com.slipQ, r ∈ s.com.slipQ ∨ r.code = 0x00A

theorem Committed.refl (s : State) : Committed s s := ⟨rfl, fun _ => .refl _, rfl, rfl, fun _ => .inl⟩

theorem Committed.trans {s t u : State} (h : Committed s t) (k : Committed t u) : Committed s u where
  frame := by rw [k.frame, h.frame]
  helm g := (h.helm g).trans (k.helm g)
  slipA := k.slipA.trans h.slipA
  slipB := k.slipB.trans h.slipB
  slipQ r hr := (k.slipQ r hr).elim (h.slipQ r) .inr

theorem State.mem_quayRec {s : State} {q r : Rec} (h : r ∈ (s.quayRec q).com.slipQ) : r ∈ s.com.slipQ ∨ r = q := by
  rcases s.quayRec_cases q with ⟨-, e⟩ | ⟨-, -, e⟩ | ⟨-, -, e⟩ <;> rw [e] at h
  · exact .inl h
  · simpa using h
  · exact .inl h

theorem State.putBank_committed (s : State) (b : Bool) (addr : Nat) (ws : List Word) (journal : Option (Nat × Word)) (ok : Bool) :
    Committed s (s.putBank b addr ws journal ok) := by
  obtain ⟨q, com⟩ := s.putBank_com_slipQ b addr ws journal ok
  have frame := s.putBank_onlyWritten b addr ws journal ok
  refine ⟨by rw [frame], fun h => by rw [frame]; exact .refl _, by rw [com], by rw [com], fun r hr => ?_⟩
  rw [State.putBank_com] at hr
  split at hr
  · exact .inl hr
  · exact (State.mem_quayRec hr).imp_right fun e => congrArg Rec.code e

theorem State.writeBoth_committed (s : State) (addr : Nat) (ws : List Word) (journal : Option (Nat × Word)) (v : PairBack) :
    Committed s (s.writeBoth addr ws journal v) :=
  (s.putBank_committed ..).trans (State.putBank_committed ..)

theorem State.quayCause_committed (s : State) (k : Nat) : Committed s (s.quayCause k) := by
  refine ⟨by rw [s.quayCause_frame k], fun h => ?_, by simp, by simp, fun r hr => .inl (by simpa using hr)⟩
  have frame : (s.ringEv k).helmA = s.helmA ∧ (s.ringEv k).helmB = s.helmB := ⟨State.ringEv_helmA .., State.ringEv_helmB ..⟩
  cases h
  · show s.helmA.Heard (if (s.ringEv k).helmA.svc.inService then _ else _)
    rw [frame.1]
    split
    · next svc => exact ⟨rfl, fun out => by rw [out] at svc; cases svc⟩
    · exact .refl _
  · show s.helmB.Heard (if (s.ringEv k).helmB.svc.inService then _ else _)
    rw [frame.2]
    split
    · next svc => exact ⟨rfl, fun out => by rw [out] at svc; cases svc⟩
    · exact .refl _

/-- A change of what of the engine is read outside its slips. -/
theorem committed_of_com {s : State} {c : Commit} (h : (c.slipA, c.slipB, c.slipQ) = (s.com.slipA, s.com.slipB, s.com.slipQ)) :
    Committed s { s with com := c } := by
  simp only [Prod.mk.injEq] at h
  obtain ⟨a, b, q⟩ := h
  exact ⟨rfl, fun _ => .refl _, a, b, fun r hr => .inl (q ▸ hr)⟩

theorem State.commitOne_committed (s : State) (r : Rec) (v : ReadBack) : Committed s (s.commitOne r v) := by
  have advanced : Committed s (s.advanced r) := committed_of_com rfl
  have ring : Committed s (s.ringWritten r v) := advanced.trans (State.writeBoth_committed (s.advanced r) ..)
  have written : Committed s (s.recWritten r v) := by
    unfold State.recWritten
    split
    · exact ring.trans ((State.writeBoth_committed ..).trans (committed_of_com rfl))
    · exact ring
  rw [State.commitOne_eq]
  split
  · exact written.trans (State.quayCause_committed ..)
  · exact written

theorem State.commitOwn_committed (s : State) (r : Rec) : Committed s (s.commitOwn r) :=
  (show Committed s { s with free := s.free + 8 } from ⟨rfl, fun _ => .refl _, rfl, rfl, fun _ => .inl⟩).trans
    (State.commitOne_committed ..)

theorem State.foldl_commitOwn_committed (l : List Rec) : ∀ s : State, Committed s (l.foldl (fun s r => s.commitOwn r) s) := by
  induction l with
  | nil => exact Committed.refl
  | cons r l ih => exact fun s => (s.commitOwn_committed r).trans (ih _)

/-! ### The engine empties its slips -/

/-- How many records wait in the slips. -/
def Commit.waiting (c : Commit) : Nat := c.slipQ.length + c.slipA.length + c.slipB.length

theorem Commit.take_some {c d : Commit} {r : Rec} (e : c.take = some (r, d)) : d.waiting + 1 = c.waiting := by
  unfold Commit.take at e
  split at e
  case h_1 q => cases e; simp only [Commit.waiting, q, List.length_cons]; omega
  case h_2 q =>
    split at e
    case h_1 a b =>
      split at e <;> cases e <;> simp only [Commit.waiting, q, a, b, List.length_cons] <;> omega
    case h_2 a b => cases e; simp only [Commit.waiting, q, a, b, List.length_cons, List.length_nil]; omega
    case h_3 a b => cases e; simp only [Commit.waiting, q, a, b, List.length_cons, List.length_nil]; omega
    case h_4 => cases e

theorem Commit.take_none {c : Commit} (e : c.take = none) : c.waiting = 0 := by
  unfold Commit.take at e
  split at e
  case h_1 => cases e
  case h_2 q =>
    split at e
    case h_1 => split at e <;> cases e
    case h_2 => cases e
    case h_3 => cases e
    case h_4 a b => simp [Commit.waiting, q, a, b]

/-- Every record in the slips has been taken, once there were as many turns as records. -/
theorem Commit.waiting_after : ∀ (n : Nat) (c : Commit), c.waiting ≤ n → (c.after n).waiting = 0
  | 0, c, h => Nat.le_zero.1 h
  | n + 1, c, h => by
    unfold Commit.after
    cases e : c.take with
    | some p => exact Commit.waiting_after n p.2 (by have := Commit.take_some e; omega)
    | none => exact Commit.take_none e

theorem Commit.empty_of_waiting {c : Commit} (h : c.waiting = 0) : c.slipQ = [] ∧ c.slipA = [] ∧ c.slipB = [] := by
  unfold Commit.waiting at h
  exact ⟨List.length_eq_zero_iff.1 (by omega), List.length_eq_zero_iff.1 (by omega), List.length_eq_zero_iff.1 (by omega)⟩

/-- What the engine leaves once it has committed every record in the slips, and POWER_FAIL after them. -/
structure Drained (s t : State) : Prop where
  frame : t = { s with com := t.com, nvmA := t.nvmA, nvmB := t.nvmB, win := t.win, free := t.free, bell := t.bell,
                       helmA := t.helmA, helmB := t.helmB }
  helm : ∀ h, (s.helm h).Heard (t.helm h)
  empty : s.slipsOk = true → t.com.slipA = [] ∧ t.com.slipB = [] ∧ ∀ r ∈ t.com.slipQ, r.code = 0x00A

theorem Drained.of_committed {s t u : State} (h : Drained s t) (k : Committed t u) : Drained s u where
  frame := by rw [k.frame, h.frame]
  helm g := (h.helm g).trans (k.helm g)
  empty d := by
    obtain ⟨a, b, q⟩ := h.empty d
    exact ⟨k.slipA.trans a, k.slipB.trans b, fun r hr => (k.slipQ r hr).elim (q r) id⟩

theorem State.slipsOk_waiting {s : State} (h : s.slipsOk = true) : s.com.waiting ≤ 20 := by
  obtain ⟨-, -, -, -, -, -, recA, recB, recQ⟩ := (State.slipsOk_iff s).1 h
  unfold Commit.waiting
  omega

theorem State.drainEngine_drained (s : State) : Drained s s.drainEngine := by
  have taken : Drained s { s with com := s.com.after 20 } := by
    refine ⟨rfl, fun _ => .refl _, fun d => ?_⟩
    obtain ⟨q, a, b⟩ := Commit.empty_of_waiting (s.com.waiting_after 20 (State.slipsOk_waiting d))
    exact ⟨a, b, fun r hr => by rw [q] at hr; cases hr⟩
  exact taken.of_committed (State.foldl_commitOwn_committed _ _)

theorem State.commitSlips_drained (s : State) : Drained s s.commitSlips := by
  unfold State.commitSlips State.finishHoldUp
  extract_lets u
  have drained : Drained s u := s.drainEngine_drained
  clear_value u
  have noFail : Committed u { u with com := { u.com with powerFail := none } } := committed_of_com rfl
  split
  · exact drained.of_committed (noFail.trans (State.commitOwn_committed _ _))
  · exact drained

/-! ### Resets -/

/-- The dies of the logic side in reset. -/
theorem State.resetLogic_after (s : State) : AfterReset s s.resetLogic :=
  ⟨rfl, rfl, rfl, rfl, rfl, rfl, rfl, rfl, rfl, rfl, rfl, rfl, rfl, rfl, rfl⟩

/-- What a reset leaves is the same, whatever the engine committed before it. -/
theorem AfterReset.of_drained {s u t : State} (h : Drained s u) (k : AfterReset u t) : AfterReset s t := by
  have a : u.helmA.swapped = s.helmA.swapped := (h.helm .a).swapped
  have b : u.helmB.swapped = s.helmB.swapped := (h.helm .b).swapped
  rw [AfterReset, a, b] at k
  rw [AfterReset]
  rwa [h.frame] at k

section
variable (s : State) (cause sub : BitVec 4)

theorem State.resetWith_after : AfterReset s (s.resetWith cause sub) :=
  ⟨rfl, rfl, rfl, rfl, rfl, rfl, rfl, rfl, rfl, rfl, rfl, rfl, rfl, rfl, rfl⟩

theorem State.resetWith_cause : CauseRecorded s (s.resetWith cause sub) cause sub := ⟨rfl, rfl, rfl, rfl, rfl, rfl, rfl, rfl⟩

theorem State.resetWith_slips : (s.resetWith cause sub).com.slipA = s.com.slipA ∧ (s.resetWith cause sub).com.slipB = s.com.slipB
    ∧ (s.resetWith cause sub).com.slipQ = s.com.slipQ := ⟨rfl, rfl, rfl⟩

theorem State.resetWith_ring (k : Nat) : ((s.resetWith cause sub).ring k).bell.cause = 0x800000 ||| oneBit k := rfl

end

/-- Nothing but the banks, the engine, the RC fields, the bell, the free values and the helms differs, so that the cause and the instant of
a reset are those of before. -/
theorem CauseRecorded.of_drained {s u t : State} {cause sub : BitVec 4} (h : Drained s u) (k : CauseRecorded u t cause sub) :
    CauseRecorded s t cause sub := by
  have rst : u.rst = s.rst := by rw [h.frame]
  have tb : u.tb = s.tb := by rw [h.frame]
  rwa [CauseRecorded, rst, tb] at k

/-- What a full reset leaves: the dies in reset with the cause, the helms' record slips empty, and NVM_FAULT records alone in the Quay's. -/
structure FullReset (s t : State) (cause sub : BitVec 4) : Prop where
  after : AfterReset s t
  cause : CauseRecorded s t cause sub
  slips : s.slipsOk = true → t.com.slipA = [] ∧ t.com.slipB = [] ∧ ∀ r ∈ t.com.slipQ, r.code = 0x00A

theorem FullReset.of_drained {s u : State} {cause sub : BitVec 4} (h : Drained s u) : FullReset s (u.resetWith cause sub) cause sub where
  after := (u.resetWith_after cause sub).of_drained h
  cause := (u.resetWith_cause cause sub).of_drained h
  slips d := by
    obtain ⟨a, b, q⟩ := u.resetWith_slips cause sub
    rw [a, b, q]
    exact h.empty d

theorem State.fullReset_spec (s : State) (cause sub : BitVec 4) : FullReset s (s.fullReset cause sub) cause sub :=
  .of_drained s.commitSlips_drained

/-! ### The wake -/

/-- A bell cause leaves what a full reset leaves. -/
theorem FullReset.ring {s t : State} {cause sub : BitVec 4} (h : FullReset s t cause sub) (k : Nat) :
    FullReset s (t.ring k) cause sub := by
  rcases t.ring_cases k with ⟨-, e⟩ | ⟨-, e⟩ <;> rw [e] <;> exact ⟨h.after, h.cause, h.slips⟩

theorem State.wake_source {s : State} {c : BitVec 4} (moored : s.mode = .moored) (sub : s.rst.wakeSub = some c) :
    s.wake = (s.fullReset 7 c).ring bellToll := by
  simp [State.wake, moored, sub]

theorem State.wake_none {s : State} (h : s.mode ≠ .moored ∨ s.rst.wakeSub = none) : s.wake = s := by
  unfold State.wake
  split
  · next moored sub =>
    rcases h with h | h
    · exact absurd moored h
    · rw [sub] at h
      cases h
  · rfl

theorem State.wake_spec {s : State} {c : BitVec 4} (moored : s.mode = .moored) (sub : s.rst.wakeSub = some c) :
    FullReset s s.wake 7 c ∧ s.wake.bell.cause = 0x820000 := by
  rw [State.wake_source moored sub]
  exact ⟨(s.fullReset_spec 7 c).ring bellToll, s.commitSlips.resetWith_ring 7 c bellToll⟩

/-! ### An empty queue -/

theorem Toll.noteTick_stamps (k : Toll) (n : Nat) (at_ : Stamp) :
    k.noteTick n at_ = { k with stamps := (k.noteTick n at_).stamps } := by
  unfold Toll.noteTick
  split
  · rfl
  · rfl
  · split <;> rfl

theorem Toll.noteTick_off {k : Toll} (n : Nat) (at_ : Stamp) (h : k.st = .idle ∨ k.st = .mooring) : (k.noteTick n at_).stamps = [] := by
  rcases h with h | h <;> simp [Toll.noteTick, h]

/-- A tick of a keeper at work is noted, unless the one noted last has the same crossing and stroke. -/
theorem Toll.noteTick_on {k : Toll} (n : Nat) (at_ : Stamp) (idle : k.st ≠ .idle) (mooring : k.st ≠ .mooring) :
    (k.noteTick n at_).stamps = (n, at_) :: k.stamps
    ∨ ((k.noteTick n at_).stamps = k.stamps ∧ ∃ e l, k.stamps = e :: l ∧ e.2 = at_) := by
  unfold Toll.noteTick
  split
  · exact absurd ‹_› idle
  · exact absurd ‹_› mooring
  · split
    · next same =>
      obtain ⟨e, head, at'⟩ := Option.map_eq_some_iff.1 same
      exact .inr ⟨rfl, e, k.stamps.tail, List.eq_cons_of_mem_head? head, at'⟩
    · exact .inl rfl

/-- A tick noted fell at the crossing and stroke noted with it. -/
theorem State.stampAt_head {s : State} {e : Nat × Stamp} {l : List (Nat × Stamp)} {te : Nat} (stamps : s.toll.stamps = e :: l)
    (past : te ≤ s.rst.tick) (le : e.1 ≤ te) : s.stampAt te = e.2 := by
  simp [State.stampAt, Nat.not_lt.2 past, stamps, le]

/-- Settles O2: an empty queue lets a tick pass, and a wake source that stands resets the device. -/
theorem emptyQueueTicks : Obligations.EmptyQueueTicks := by
  intro s empty u
  have step_ : step s = .next s.idle := by rw [step, empty]
  refine ⟨fun h => ?_, s.toll.noteTick_stamps _ _, s.toll.noteTick_off _ _, fun idle mooring => ?_, fun c live moored sub slips => ?_⟩
  · rw [step_, State.idle]
    split
    · next live =>
      rw [live] at h
      exact congrArg _ (State.wake_none (s := u) (h.resolve_left nofun))
    · rfl
  · have stampAt (e : Nat × Stamp) (l : List (Nat × Stamp)) (stamps : u.toll.stamps = e :: l) (le : e.1 ≤ s.rst.tick + 1) :
        u.stampAt (s.rst.tick + 1) = e.2 := State.stampAt_head stamps le_rfl le
    rcases s.toll.noteTick_on (s.rst.tick + 1) s.now idle mooring with new | ⟨old, e, l, stamps, at_⟩
    · exact .inl (stampAt _ _ new le_rfl)
    · by_cases le : e.1 ≤ s.rst.tick + 1
      · exact .inl ((stampAt e l (old.trans stamps) le).trans at_)
      · exact .inr ⟨e, by simp [stamps], Nat.lt_of_not_le le⟩
  · obtain ⟨full, bell⟩ := State.wake_spec (s := u) moored sub
    exact ⟨_, step_.trans (by rw [State.idle, if_pos live]; rfl), full.after, full.cause, bell⟩

/-! ### The resets -/

/-- Records and RC fields of the Quay change nothing that a reset is read from. -/
theorem FullReset.of_recorded {s u t : State} {cause sub : BitVec 4} (e : u = { s with com := u.com, win := u.win })
    (slips : s.slipsOk = true → u.slipsOk = true) (h : FullReset u t cause sub) : FullReset s t cause sub := by
  obtain ⟨after, record, empty⟩ := h
  rw [e] at after record
  exact ⟨after, record, empty ∘ slips⟩

theorem State.detachByPin_frame (s : State) :
    s.detachByPin = { s with com := s.detachByPin.com, win := s.detachByPin.win } := by
  have one (u : State) (g : HelmId) (r : Rec) (h : u = { s with com := u.com, win := u.win }) :
      let v := if (u.helm g).svc = .debug then u.quayRec r else u
      v = { s with com := v.com, win := v.win } := by
    intro v
    unfold v
    split
    · rw [u.quayRec_frame r, h]
    · exact h
  exact one _ _ _ (one _ _ _ rfl)

theorem State.rstnPin_reset (s : State) : FullReset s (s.detachByPin.fullReset 2 0) 2 0 :=
  .of_recorded s.detachByPin_frame (Keeps.detachByPin (P := fun _ => False) .refl).slips (s.detachByPin.fullReset_spec 2 0)

/-- What the statement about the resets asks of each of them. -/
theorem FullReset.done {s t : State} {i : Instr} {cause sub : BitVec 4} (e : exec i s = .next t) (h : FullReset s t cause sub)
    (slips : s.slipsOk = true) :
    ∃ t, exec i s = .next t ∧ AfterReset s t ∧ CauseRecorded s t cause sub
      ∧ t.com.slipA = [] ∧ t.com.slipB = [] ∧ (∀ r ∈ t.com.slipQ, r.code = 0x00A) ∧ (s.banksOk = true → t.banksOk = true) := by
  obtain ⟨a, b, q⟩ := h.slips slips
  exact ⟨t, e, h.after, h.cause, a, b, q, (exec_keeps i s t e).banks⟩

theorem execMooredWake_eq {s : State} {w : WakeSrc} (live : s.live = true) :
    exec (.mooredWake w) s = .next (if s.wakeMet w then s.wakeBy (wakeCode w) else s).wake := if_pos live

/-- The wake by a source that is met, none having come before. -/
theorem State.wake_met {s : State} {w : WakeSrc} (moored : s.mode = .moored) (none_ : s.rst.wakeSub = none) (met : s.wakeMet w = true) :
    FullReset s (if s.wakeMet w then s.wakeBy (wakeCode w) else s).wake 7 (wakeCode w)
    ∧ (if s.wakeMet w then s.wakeBy (wakeCode w) else s).wake.bell.cause = 0x820000 := by
  rw [if_pos met, State.wakeBy_first _ moored none_]
  obtain ⟨⟨after, cause, slips⟩, bell⟩ :=
    State.wake_spec (s := { s with rst := { s.rst with wakeSub := some (wakeCode w), wakeTick := s.rst.tick } }) moored rfl
  exact ⟨⟨after, cause, slips⟩, bell⟩

/-- The wake by the source of an earlier tick. -/
theorem State.wake_earlier {s : State} {w : WakeSrc} {c : BitVec 4} (moored : s.mode = .moored) (sub : s.rst.wakeSub = some c)
    (h : s.wakeMet w = false ∨ s.rst.wakeTick ≠ s.rst.tick) :
    FullReset s (if s.wakeMet w then s.wakeBy (wakeCode w) else s).wake 7 c := by
  have same : (if s.wakeMet w then s.wakeBy (wakeCode w) else s) = s := by
    rcases h with h | h
    · simp [h]
    · simp [State.wakeBy, sub, h]
  rw [same]
  exact (State.wake_spec moored sub).1

theorem execMooredWake_none {s : State} {w : WakeSrc} (h : s.mode ≠ .moored ∨ s.rst.wakeSub = none ∧ s.wakeMet w = false) :
    exec (.mooredWake w) s = .next s := by
  have same : (if s.wakeMet w then s.wakeBy (wakeCode w) else s) = s := by
    rcases h with awake | ⟨-, unmet⟩
    · rw [State.wakeBy_awake _ awake, ite_self]
    · simp [unmet]
  show execMooredWake w s = _
  unfold execMooredWake
  split
  · rw [same, State.wake_none (h.imp_right And.left)]
  · rfl

/-- TESTEN high: the records of the slips committed, and the logic side held in reset, which no cause records. -/
theorem execTestenHigh_spec {s : State} (low : s.rst.testen = false) : ∃ t, exec .testenHigh s = .next t ∧ AfterReset s t
    ∧ t.live = false ∧ t.rst.testen = true ∧ t.rst.cause = s.rst.cause ∧ t.rst.count = s.rst.count := by
  have drained := s.commitSlips_drained
  have cause : s.commitSlips.rst.cause = s.rst.cause := by rw [drained.frame]
  have count : s.commitSlips.rst.count = s.rst.count := by rw [drained.frame]
  have held (u : State) : AfterReset u { u.resetLogic with rst := { u.resetLogic.rst with testen := true } }
      ∧ State.live { u.resetLogic with rst := { u.resetLogic.rst with testen := true } } = false :=
    ⟨u.resetLogic_after, Bool.and_false _⟩
  obtain ⟨after, live⟩ := held s.commitSlips
  exact ⟨_, if_neg (by simp [low]), after.of_drained drained, live, rfl, cause, count⟩

/-- Settles O17: every reset but POWER_ON commits what is in the slips and then puts the logic side to its after-reset values. -/
theorem resets : Obligations.Resets := by
  refine ⟨fun s w slips => ⟨fun vdd testen => ?_, fun live => ?_, fun live maker => ?_, fun live none_ => ?_,
    fun live moored none_ met => ?_, fun c live moored sub h => ?_, fun none_ unmet => ?_, fun awake => ?_⟩, fun s => ⟨?_, ?_, ?_, ?_, ?_⟩⟩
  · exact s.rstnPin_reset.done (if_pos (by simp [vdd, testen])) slips
  · exact (s.fullReset_spec 5 0).done (if_pos live) slips
  · exact (s.fullReset_spec 6 0).done (if_pos (by simp [live, maker])) slips
  · exact if_neg (by simp [none_])
  · obtain ⟨full, bell⟩ := State.wake_met moored none_ met
    exact ⟨full.done (execMooredWake_eq live) slips, _, execMooredWake_eq live, bell⟩
  · exact (State.wake_earlier moored sub h).done (execMooredWake_eq live) slips
  · exact execMooredWake_none (.inr ⟨none_, unmet⟩)
  · exact execMooredWake_none (.inl awake)
  · exact ⟨_, rfl, rfl, rfl, rfl, rfl, rfl, rfl, rfl, rfl, rfl, rfl, rfl, rfl, rfl⟩
  · exact fun testen _ => execTestenHigh_spec testen
  · intro testen
    exact ⟨_, if_neg (by simp [testen]), rfl, ⟨rfl, rfl, rfl, rfl, rfl, rfl, rfl, rfl⟩, rfl⟩
  · exact fun testen => if_pos testen
  · exact fun testen => if_pos (by simp [testen])

/-! ### Losing the tides -/

/-- The timebase as the loss of a tide leaves it. -/
def Timebase.losing (t : Timebase) (x : TideId) : Timebase :=
  { t with ts := .single, unresolved := false, selB := decide (x = TideId.a), aOk := t.aOk && decide (x ≠ TideId.a)
           bOk := t.bOk && decide (x ≠ TideId.b) }

theorem execTideLost_agree {s : State} {x : TideId} (live : s.live = true) (tides : s.tb.tides = true) (agree : s.tb.ts = .agree) :
    exec (.tideLost x) s = .next ({ s with tb := s.tb.losing x }.tideRec clsFault 0x004) := by
  refine (if_neg (by simp [live, tides])).trans ?_
  rw [agree]
  rfl

theorem execTideLost_last {s : State} {x : TideId} (live : s.live = true) (tides : s.tb.tides = true) (single : s.tb.ts = .single)
    (last : s.tb.selB = true ↔ x = .b) : exec (.tideLost x) s = .next { s.resetWith 0x4 0 with
      rst := { (s.resetWith 0x4 0).rst with held := true }
      tb := { (s.resetWith 0x4 0).tb with ts := .dead, aOk := false, bOk := false } } := by
  refine (if_neg (by simp [live, tides])).trans ?_
  rw [single]
  exact if_pos (Bool.eq_iff_iff.2 (by rw [decide_eq_true_eq, last]))

/-- Settles O6: the first loss is a record, the last one a reset; the tide that runs again ends it. -/
theorem tideLossAndRestart : Obligations.TideLossAndRestart := by
  intro s x
  refine ⟨fun live tides agree => ?_, fun live tides single last => ?_, fun dead => ?_, fun alive => if_neg alive⟩
  · let u : State := { s with tb := s.tb.losing x }
    let r : Rec := ⟨s.now, 8, clsFault, 0x004, 0, u.tideStatus, 0⟩
    have tb : (u.quayRec r).tb = u.tb := State.quayRec_tb ..
    refine ⟨u.quayRec r, execTideLost_agree live tides agree, ?_, ?_, ?_, ?_, ?_, ?_, ?_⟩
    · rw [tb, OnlyNotes, u.quayRec_frame r]
    · rw [State.tideStatus_congr tb]
      exact u.quayRec_noted r
    · rw [tb]
      rfl
    · rw [tb]
      exact decide_eq_true_iff
    · rintro rfl
      rw [tb]
      exact ⟨Bool.and_false _, Bool.and_true _⟩
    · rintro rfl
      rw [tb]
      exact ⟨Bool.and_false _, Bool.and_true _⟩
    · rw [State.now, tb]
      rfl
  · refine ⟨_, execTideLost_last live tides single last, ?_, rfl, rfl, rfl, rfl, rfl, rfl, rfl, rfl, rfl, rfl⟩
    simp [State.live]
  · have drained := s.commitSlips_drained
    have cause : s.commitSlips.rst.cause = s.rst.cause := by rw [drained.frame]
    have ponts : s.commitSlips.ponts = s.ponts := by rw [drained.frame]
    refine ⟨_, if_pos dead, rfl, rfl, rfl, rfl, decide_eq_true_iff, cause, fun h => ?_, ponts⟩
    have svc := (drained.helm h).svc
    cases h <;> exact svc

end Sys2Proof.Machine
end

section
/-! PROOFS. The banks as data (R434), the slip of a check unit (R455, R456), the reference clock and SYNC (R37, R76 to R80). -/

namespace Sys2Proof.Machine

/-! ### A bank in canonical form -/

/-- Of a sparse list whose addresses rise, what is found is what is listed. -/
theorem nvmFind_eq_some {a : Nat} {w : Word} : ∀ {l : List (Nat × Word)}, l.Pairwise (fun x y => x.1 < y.1) →
    (nvmFind l a = some w ↔ (a, w) ∈ l)
  | [], _ => by simp [nvmFind]
  | (b, v) :: l, rising => by
    obtain ⟨first, rest⟩ := List.pairwise_cons.1 rising
    rw [nvmFind, List.mem_cons, Prod.mk.injEq]
    split
    · next here =>
      have absent : (a, w) ∉ l := fun mem => absurd (first _ mem) (by simp_all)
      simp only [Option.some.injEq, absent, or_false]
      exact ⟨fun h => ⟨here.symm, h.symm⟩, fun h => h.2.symm⟩
    · next here =>
      rw [nvmFind_eq_some rest]
      exact ⟨Or.inr, fun h => h.resolve_left fun e => here e.1.symm⟩

/-- A bank in canonical form lists exactly the words that read otherwise than an unlisted word. -/
theorem Bank.mem_iff_read {b : Bank} (wf : b.wf = true) (e : Nat × Word) : e ∈ b.mem ↔ b.read e.1 = e.2 ∧ e.2 ≠ nvmBlank e.1 := by
  obtain ⟨rising, all⟩ := (memWf_iff b.mem).1 wf
  rw [Bank.read]
  constructor
  · intro mem
    rw [(nvmFind_eq_some rising).2 mem]
    exact ⟨rfl, (all e mem).2⟩
  · rintro ⟨reads, listed⟩
    cases found : nvmFind b.mem e.1 with
    | none =>
      rw [found] at reads
      exact absurd reads.symm listed
    | some w =>
      rw [found] at reads
      rw [← (nvmFind_eq_some rising), found]
      exact congrArg some reads

/-- Banks in canonical form that read alike list the same words, in the same order. -/
theorem Bank.eq_of_read {b c : Bank} (hb : b.wf = true) (hc : c.wf = true) (alike : ∀ a, b.read a = c.read a) : b = c := by
  have antisymm : Std.Antisymm (fun x y : Nat × Word => x.1 < y.1) := ⟨fun _ _ h h' => absurd h (Nat.lt_asymm h')⟩
  have irrefl : Std.Irrefl (fun x y : Nat × Word => x.1 < y.1) := ⟨fun _ => Nat.lt_irrefl _⟩
  have same : b.mem = c.mem := ((memWf_iff b.mem).1 hb).1.eq_of_mem_iff ((memWf_iff c.mem).1 hc).1 fun e => by
    rw [Bank.mem_iff_read hb, Bank.mem_iff_read hc, alike]
  cases b
  cases c
  exact congrArg Bank.mk same

/-- Settles O20, by the rules of reads after writes and the canonical form. -/
theorem banks : Obligations.Banks :=
  ⟨fun b a _ w wf inside => ⟨b.read_write_same w inside, fun other => b.read_write_other w other, Bank.write_wf a w wf⟩,
    fun _ _ => Bank.eq_of_read⟩

/-! ### The slip of a check unit -/

theorem State.rcAdd_frame (s : State) (addr lo : Nat) (n : Int) :
    s.rcAdd addr lo n = { s with win := (s.rcAdd addr lo n).win } := rfl

theorem State.rcAdd_winWith (s : State) (addr lo : Nat) (n : Int) : (s.rcAdd addr lo n).win = s.winWith addr lo n := rfl

/-- A check unit that has taken from its slip, with `lost` words counted. -/
theorem State.snooped_unit (s : State) (k : Fin 4) (v : CheckUnit) (lost : Nat) :
    let t : State := if lost = 0 then { s with cus := s.cus.set k v } else { s with cus := s.cus.set k v }.rcAdd 0x021 0 lost
    t.cus[k] = v ∧ t = { s with cus := s.cus.set k v, win := t.win } ∧ (lost = 0 → t.win = s.win)
      ∧ (0 < lost → t.win = s.winWith 0x021 0 lost) := by
  intro t
  by_cases none_ : lost = 0
  · simp [t, none_]
  · have counted : t = { s with cus := s.cus.set k v }.rcAdd 0x021 0 lost := if_neg none_
    rw [counted]
    exact ⟨Vector.getElem_set_self (xs := s.cus) k.isLt, rfl, fun h => absurd h none_, fun _ => rfl⟩

/-- Settles O23: the words of the slip and those that arrive are one list, of which the last four stand. -/
theorem checkUnitSnoop : Obligations.CheckUnitSnoop := by
  intro s k n u all lost
  obtain ⟨unit, frame, kept, counted⟩ := s.snooped_unit k { u with
    stream := u.stream.drop n
    slip := (all.drop lost).drop 1
    taken := u.taken ++ (all.drop lost).take 1
    overrun := u.overrun || decide (0 < lost) } lost
  refine ⟨_, rfl, ?_⟩
  rw [unit]
  refine ⟨frame, rfl, List.drop_drop .., ?_, rfl, fun none_ => ⟨?_, kept none_⟩, fun some_ => ⟨?_, counted some_⟩, rfl, rfl⟩
  · simp only [List.length_drop, lost]
    omega
  · simp [none_]
  · simp [some_]

end Sys2Proof.Machine
end

section
/-! PROOFS. The reference clock and SYNC at a FOLLOW (R37, R76 to R80). -/

namespace Sys2Proof.Machine

/-! ### Bell causes of the Quay with a record -/

/-- A record of the Quay, a cause that it hands over, and the stamped event of that cause. -/
theorem State.quayRec_quayCause (s : State) (r : Rec) (k : Nat) :
    OnlyNotes s ((s.quayRec r).quayCause k) ∧ Noted s ((s.quayRec r).quayCause k) r ∧ RungByEvent s ((s.quayRec r).quayCause k) k
      ∧ Received s ((s.quayRec r).quayCause k) s.now (.cause k) := by
  obtain ⟨only, noted, heard, rung⟩ := s.recRungRaised r k s.now (.cause k)
  have same : (s.quayRec r).quayCause k = ((s.quayRec r).ringEv k).raiseEv s.now (.cause k) := by
    rw [s.quayRec_frame r]
    rfl
  rw [same]
  exact ⟨only, noted, rung, heard⟩

/-- A record and an event of the Quay after a change of the timebase. -/
theorem OnlyNotes.retime {s t u : State} (only : OnlyNotes u t) (timebase : u = { s with tb := u.tb }) :
    OnlyNotes { s with tb := t.tb } t := by
  have tb := congrArg State.tb only
  unfold OnlyNotes
  rw [tb, ← timebase]
  exact only

/-- A record of the tide selector, a cause that the Quay hands over, and a stamped event. -/
theorem State.tideRec_rungRaised (s : State) (cls code k : Nat) (e : Ev) :
    let t := ((s.tideRec cls code).ringEv k).raiseEv s.now e
    OnlyNotes s t ∧ Noted s t ⟨s.now, 8, cls, code, 0, t.tideStatus, 0⟩ ∧ Received s t s.now e ∧ RungByEvent s t k := by
  intro t
  obtain ⟨only, noted, heard, rung⟩ : OnlyNotes s t ∧ Noted s t _ ∧ _ := s.recRungRaised _ k s.now e
  rw [State.tideStatus_congr (congrArg State.tb only)]
  exact ⟨only, noted, heard, rung⟩

theorem State.raiseEv_helm (s : State) (at_ : Stamp) (e : Ev) (h : HelmId) : (s.raiseEv at_ e).helm h = { s.helm h with
    hs := { (s.helm h).hs with
      evs := (s.helm h).hs.evs ++ (if (s.helm h).svc.inService = true then [{ at_ := at_, ev := e }] else []) } } := by
  cases h with
  | a => cases svc : s.helmA.svc.inService <;> simp [State.raiseEv, State.helm, svc]
  | b => cases svc : s.helmB.svc.inService <;> simp [State.raiseEv, State.helm, svc]

/-- What a stamped event adds to the helms leaves the charter in force. -/
theorem State.raiseEv_inForce (s : State) (at_ : Stamp) (e : Ev) : (s.raiseEv at_ e).inForce = s.inForce := by
  have charter (h : HelmId) : ((s.raiseEv at_ e).helm h).hs.charter = (s.helm h).hs.charter := by rw [State.raiseEv_helm]
  have loaded (h : HelmId) : ((s.raiseEv at_ e).helm h).loaded = (s.helm h).loaded := by rw [State.raiseEv_helm]
  have read (t : State) : t.inForce = match t.holder with
      | some h => (t.helm h).hs.charter
      | none => if (t.helm .a).loaded then (t.helm .a).hs.charter else (t.helm .b).hs.charter := rfl
  rw [read, read s]
  simp only [charter, loaded]
  rfl

theorem State.quayCause_inForce (s : State) (k : Nat) : (s.quayCause k).inForce = s.inForce := by
  rw [State.quayCause, State.raiseEv_inForce, State.ringEv_frame]
  rfl

/-- A record of SYNC_STATUS, which a bell cause of the Quay goes with. -/
theorem State.syncRec_quayCause (s : State) (cls code k : Nat) :
    let t := (s.quayRec ⟨s.now, 0xC, cls, code, 0, s.syncStatus, 0⟩).quayCause k
    OnlyNotes s t ∧ Noted s t ⟨s.now, 0xC, cls, code, 0, t.syncStatus, 0⟩ ∧ RungByEvent s t k ∧ Received s t s.now (.cause k) := by
  intro t
  obtain ⟨only, noted, rung, heard⟩ : OnlyNotes s t ∧ Noted s t _ ∧ _ := s.quayRec_quayCause _ k
  have charter : t.inForce = s.inForce := by
    refine (State.quayCause_inForce ..).trans ?_
    rw [State.quayRec_frame]
    rfl
  have word : t.syncStatus = s.syncStatus := by
    simp only [State.syncStatus, State.syncRole, State.timingRec, charter, congrArg State.tb only]
  rw [word]
  exact ⟨only, noted, rung, heard⟩

/-! ### SYNC edges at a FOLLOW -/

theorem State.mapPonts_pont (s : State) (f : Nat → Pont → Pont) (p : Fin 4) : (s.mapPonts f).pont p = f p (s.pont p) := by
  simp [State.mapPonts, State.pont]

theorem State.syncMismatch_frame (s : State) : s.syncMismatch = { s with
    tb := { s.tb with syncMismatch := true, fresh := s.tb.fresh ||| 4 }
    bell := s.syncMismatch.bell, helmA := s.syncMismatch.helmA, helmB := s.syncMismatch.helmB } := by
  unfold State.syncMismatch
  extract_lets _ u
  split
  · rfl
  · rw [State.quayCause_frame u]

theorem State.syncMismatch_rings {s : State} (first : s.tb.syncMismatch = false) :
    RungByEvent s s.syncMismatch bellSync ∧ Received s s.syncMismatch s.now (.cause bellSync) := by
  unfold State.syncMismatch
  rw [if_neg (by simp [first])]
  exact ⟨State.quayCause_rungByEvent .., fun h => State.quayCause_received _ _ h⟩

/-- An edge at a FOLLOW sets the decimators back where it is the marked pulse, at least 2 500 ns wide, and the charter has it so (R79). -/
abbrev State.decimates (s : State) (w : Nat) : Prop := 2500 ≤ w ∧ bb (chBody s.inForce 0x02) 1 21 = true

/-- What the width of an edge at a FOLLOW does to the timebase (R79, R80). -/
theorem State.markedEdge_tb (s : State) (w : Nat) : (s.markedEdge w).tb = { s.tb with
    markSeen := s.tb.markSeen || decide (2500 ≤ w)
    fresh := if 2500 ≤ w then s.tb.fresh ||| 8 else s.tb.fresh
    decimAt := if s.decimates w then some s.edgeCrossing else s.tb.decimAt } := by
  unfold State.markedEdge
  split
  · next narrow => simp [State.decimates, Nat.not_le.2 narrow]
  · next wide =>
    extract_lets _ u
    have unmarked : bb u.timingRec 1 21 = bb (chBody s.inForce 0x02) 1 21 := rfl
    rw [unmarked]
    split
    · next on => simp [State.decimates, Nat.not_lt.1 wide, on]; rfl
    · next off => simp [State.decimates, Nat.not_lt.1 wide, off]; rfl


/-- Only the timebase and the pontoons differ, and of these only those that have taken the sounding of a marked pulse (R79). -/
theorem State.markedEdge_ponts (s : State) (w : Nat) :
    s.markedEdge w = { s with tb := (s.markedEdge w).tb, ponts := (s.markedEdge w).ponts } ∧ ∀ p : Fin 4,
      (s.markedEdge w).pont p = match (s.pont p).report with
        | some r => if s.decimates w ∧ (s.pont p).running = true ∧ r.crossing = s.edgeCrossing ∧ (s.pont p).crossing = s.edgeCrossing
            then (s.pont p).soundResets p true else s.pont p
        | none => s.pont p := by
  unfold State.markedEdge
  split
  · next narrow =>
    refine ⟨rfl, fun p => ?_⟩
    cases (s.pont p).report <;> simp [State.decimates, Nat.not_le.2 narrow]
  · next wide =>
    extract_lets _ u
    have pont (p : Fin 4) : u.pont p = s.pont p := rfl
    have unmarked : bb u.timingRec 1 21 = bb (chBody s.inForce 0x02) 1 21 := rfl
    rw [unmarked]
    split
    · next on =>
      refine ⟨rfl, fun p => ?_⟩
      rw [State.resetSounded, State.mapPonts_pont]
      simp only [State.decimates, Nat.not_lt.1 wide, on, and_self, true_and]
      show (match (s.pont p).report with
        | some r => if (s.pont p).running && r.crossing = s.edgeCrossing && (s.pont p).crossing = s.edgeCrossing
            then (s.pont p).soundResets p true else s.pont p
        | none => s.pont p) = _
      cases (s.pont p).report <;> simp [and_assoc]
    · next off =>
      refine ⟨rfl, fun p => ?_⟩
      rw [pont]
      cases (s.pont p).report <;> simp [State.decimates, off]

/-- An edge that a FOLLOW takes leaves the pontoons to its width (R79). -/
theorem State.marked_of_ponts {s t : State} {w : Nat} (frame : t = { s with tb := t.tb, ponts := (s.markedEdge w).ponts }) :
    let c := s.edgeCrossing
    t = { s with tb := t.tb, ponts := t.ponts } ∧ ∀ p,
      (s.decimates w → ∀ r, (s.pont p).report = some r → (s.pont p).running = true → r.crossing = c → (s.pont p).crossing = c →
        t.pont p = (s.pont p).soundResets p true)
      ∧ (¬s.decimates w ∨ (s.pont p).report = none ∨ (s.pont p).running = false ∨ (s.pont p).crossing ≠ c → t.pont p = s.pont p) := by
  intro c
  rw [frame]
  refine ⟨rfl, fun p => ?_⟩
  have pont := (s.markedEdge_ponts w).2 p
  refine ⟨fun decim r report run at_ here => ?_, fun other => ?_⟩
  · refine pont.trans ?_
    simp [report, decim, run, at_, here, c]
  · refine pont.trans ?_
    cases report : (s.pont p).report with
    | none => rfl
    | some r =>
      refine if_neg fun ⟨decim, run, _, here⟩ => ?_
      simp [decim, report, run, here, c] at other

/-- An edge at a FOLLOW, with VDDIO present, is one of the wrong period, a step, or one to steer by (R77, R78). -/
theorem execSyncEdge_on {s : State} (ph : Int) (w : Nat) {off : Nat} (live : s.live = true) (counting : s.tb.counting = true)
    (follow : s.syncRole = 2) (vddio : s.rst.vddio = true) (regular : off ≤ 2000) {u : State} (marked : s.markedEdge w = u) :
    exec (.syncEdge ph w off) s =
      .next (if s.tb.stepped = false ∧ s.mode.running = false then
          if s.tb.stepping = true ∧ s.tb.stroke = 255 then
            { u with tb := { u.tb with stepping := false, stepped := true, phaseErr := 0, inLock := 0
                                       decimAt := some (u.tb.crossing + 1) } }.advanceStroke
          else { u with tb := { u.tb with stepping := true, phaseErr := clampI (-32767) 32767 ph } }
        else { u with tb := { u.tb.steer ph with stepped := true, stepping := false } }) := by
  have tb := s.markedEdge_tb w
  have mode : u.mode = s.mode := by rw [← marked, (s.markedEdge_ponts w).1]
  rw [marked] at tb
  show execSyncEdge ph w off s = _
  rw [execSyncEdge, if_neg (by simp [live, counting, vddio, follow]), if_neg (Nat.not_lt.2 regular), marked]
  have stepped : u.tb.stepped = s.tb.stepped := by rw [tb]
  have stepping : u.tb.stepping = s.tb.stepping := by rw [tb]
  have stroke : u.tb.stroke = s.tb.stroke := by rw [tb]
  change (if (!u.tb.stepped && !u.mode.running) = true then
      if (u.tb.stepping && decide (u.tb.stroke = 255)) = true then _ else _ else _) = _
  rw [stepped, stepping, stroke, mode]
  by_cases first : s.tb.stepped = false ∧ s.mode.running = false
  · rw [if_pos first, if_pos (by simp [first])]
    by_cases step : s.tb.stepping = true ∧ s.tb.stroke = 255
    · rw [if_pos step, if_pos (by simp [step])]
    · rw [if_neg step, if_neg (by simpa using step)]
  · rw [if_neg first, if_neg (by simpa using first)]

/-- At stroke 0 the crossing, the stroke and the notes of a FOLLOW stand as they are. -/
theorem State.advanceStroke_last {s : State} (counting : s.tb.counting = true) (last : s.tb.stroke = 255) :
    s.advanceStroke.now = ⟨s.tb.crossing + 1, 0⟩ ∧ s.advanceStroke.tb.stepping = s.tb.stepping
      ∧ s.advanceStroke.tb.stepped = s.tb.stepped ∧ s.advanceStroke.tb.decimAt = s.tb.decimAt := by
  have turn : s.advanceStroke
      = ({ s with tb := { s.tb with age := s.tb.age + s.tb.strokeTide, stroke := 0, crossing := s.tb.crossing + 1 } } : State).atStroke := by
    simp [State.advanceStroke, counting, last]
  rw [turn]
  exact ⟨rfl, rfl, rfl, rfl⟩

/-- Settles O7: an edge of SYNC steps the counter once, outside the running modes, and is steered by otherwise. -/
theorem referenceClockAndSync : Obligations.ReferenceClockAndSync := by
  refine ⟨fun s live => ⟨fun tides use => ?_, fun unused => ⟨?_, ?_⟩, fun locked use => ?_⟩,
    fun s ph w off live counting follow => ⟨fun vddio => ⟨fun wrong => ?_, fun regular new idle not_ => ?_,
      fun regular new idle stepping last => ?_, fun regular later => ?_⟩, ?_⟩⟩
  · exact if_pos (by simpa [live, tides, State.timingRec] using use)
  · exact if_neg (by simpa [live, State.timingRec] using fun _ => unused)
  · exact if_neg (by simpa [live, State.timingRec] using fun _ => unused)
  · let u : State := { s with tb := { s.tb with refLocked := false, refLost := true, fresh := s.tb.fresh ||| 1 } }
    obtain ⟨only, noted, heard, rung⟩ := u.tideRec_rungRaised clsWarn 0x008 bellTide .refclkLost
    exact ⟨_, if_pos (by simpa [live, locked, State.timingRec] using use), only.retime rfl, congrArg State.tb only, noted,
      fun h => heard h, rung⟩
  · refine ⟨_, (if_neg (by simp [live, counting, vddio, follow])).trans (if_pos wrong), ?_, ?_, State.syncMismatch_rings⟩
    · rw [State.syncMismatch_frame]
    · rw [State.syncMismatch_frame]
  · refine ⟨_, (execSyncEdge_on ph w live counting follow vddio regular rfl).trans
      (congrArg _ ((if_pos ⟨new, idle⟩).trans (if_neg not_))), State.marked_of_ponts ?_, rfl, ?_, fun wide => ?_⟩
    · rw [(s.markedEdge_ponts w).1]
    · show (⟨_, _⟩ : Stamp) = _
      rw [s.markedEdge_tb]
      rfl
    · simp [s.markedEdge_tb, wide]
  · obtain ⟨now, notStepping, stepped, decim⟩ := State.advanceStroke_last
      (s := { s.markedEdge w with tb := { (s.markedEdge w).tb with stepping := false, stepped := true, phaseErr := 0, inLock := 0
                                                                   decimAt := some ((s.markedEdge w).tb.crossing + 1) } })
      (by simp [s.markedEdge_tb, counting]) (by simp [s.markedEdge_tb, last])
    refine ⟨_, (execSyncEdge_on ph w live counting follow vddio regular rfl).trans
      (congrArg _ ((if_pos ⟨new, idle⟩).trans (if_pos ⟨stepping, last⟩))), ?_, notStepping, stepped, ?_⟩
    · refine now.trans ?_
      simp [s.markedEdge_tb]
    · refine decim.trans ?_
      simp [s.markedEdge_tb]
  · have steer : ¬(s.tb.stepped = false ∧ s.mode.running = false) := by
      rcases later with h | h <;> simp [h]
    refine ⟨_, (execSyncEdge_on ph w live counting follow vddio regular rfl).trans (congrArg _ (if_neg steer)),
      State.marked_of_ponts ?_, ?_, fun far => ?_, fun near => ⟨?_, fun many => ?_⟩, ?_, fun decim => ?_, fun keep => ?_⟩
    · rw [(s.markedEdge_ponts w).1]
    · show (⟨_, _⟩ : Stamp) = _
      rw [s.markedEdge_tb]
      rfl
    · have lost : ¬(ph.natAbs * 1000 ≤ 16384) := by omega
      simp [Timebase.steer, far, lost]
    · simp [Timebase.steer, near, s.markedEdge_tb]
    · have held : ¬(32768 < ph.natAbs * 1000) := by omega
      simp [Timebase.steer, near, held, s.markedEdge_tb]
      omega
    · simp [Timebase.steer, s.markedEdge_tb]
    · simp [Timebase.steer, s.markedEdge_tb, if_pos decim]
    · simp [Timebase.steer, s.markedEdge_tb, if_neg keep]
  · let u : State := { s with tb := { s.tb with syncLost := true, inLock := 0, stepping := false, fresh := s.tb.fresh ||| 2 } }
    obtain ⟨only, noted, rung, heard⟩ := u.syncRec_quayCause clsWarn 0x009 bellSync
    exact ⟨_, if_pos (by simp [live, counting, follow]), only.retime rfl, congrArg State.tb only, noted, rung, fun h => heard h⟩

end Sys2Proof.Machine
end

section
/-! PROOFS. The toll keeper: its expiry, its windows, and the order of its events and check-ins (R414 to R421). -/

namespace Sys2Proof.Machine

/-! ### An expiry -/

/-- The record, the count and the bell of an expiry. -/
theorem State.expiryNotes (u : State) (r : Rec) (lo : Nat) :
    let w := ((u.quayRec r).rcAdd 0x705 lo 1).ringEv bellToll
    w = { u with com := w.com, win := w.win, bell := w.bell } ∧ Noted u w r ∧ RungByEvent u w bellToll := by
  obtain ⟨com, win, noted⟩ : ∃ com win, u.quayRec r = { u with com := com, win := win } := ⟨_, _, u.quayRec_frame r⟩
  have last := u.quayRec_noted r
  rw [noted] at last ⊢
  refine ⟨?_, fun up room => ?_, State.ringEv_rung ..⟩
  · unfold State.ringEv State.ring
    split <;> rfl
  · rw [State.ringEv_com]
    exact last up room

/-- The event of an expiry reaches the helms in service, or waits in the toll keeper while there is none (R419). -/
def State.tellExpiry (w : State) (at_ : Stamp) : State :=
  if w.helmA.svc.inService || w.helmB.svc.inService then w.raiseEv at_ .tollExpiry
  else { w with toll := { w.toll with expPend := w.toll.expPend ++ [at_] } }

theorem State.tellExpiry_spec (w : State) (at_ : Stamp) :
    let t := w.tellExpiry at_
    t = { w with toll := { w.toll with expPend := t.toll.expPend }, helmA := t.helmA, helmB := t.helmB }
      ∧ ((∃ h, (w.helm h).svc.inService = true) → Received w t at_ .tollExpiry)
      ∧ ((∀ h, (w.helm h).svc.inService = false) → t.toll.expPend = w.toll.expPend ++ [at_]) := by
  intro t
  by_cases some_ : (w.helmA.svc.inService || w.helmB.svc.inService) = true
  · have told : t = w.raiseEv at_ .tollExpiry := if_pos some_
    refine ⟨by rw [told]; rfl, fun _ => by rw [told]; exact w.raiseEv_received at_ .tollExpiry, fun none_ => ?_⟩
    have noA : w.helmA.svc.inService = false := none_ .a
    have noB : w.helmB.svc.inService = false := none_ .b
    simp [noA, noB] at some_
  · have waits : t = { w with toll := { w.toll with expPend := w.toll.expPend ++ [at_] } } := if_neg some_
    refine ⟨by rw [waits], fun ⟨h, on⟩ => ?_, fun _ => by rw [waits]⟩
    cases h with
    | a => exact absurd on (by simp_all [State.helm])
    | b => exact absurd on (by simp_all [State.helm])

/-- An expiry, from the state with its pulse and cause on: its record, its bell and its event. -/
theorem State.expiry_told (u : State) (r : Rec) (lo : Nat) (at_ : Stamp) :
    let t := (((u.quayRec r).rcAdd 0x705 lo 1).ringEv bellToll).tellExpiry at_
    t = { u with toll := { u.toll with expPend := t.toll.expPend }, com := t.com, win := t.win, bell := t.bell, helmA := t.helmA
                 helmB := t.helmB }
      ∧ Noted u t r ∧ RungByEvent u t bellToll
      ∧ ((∃ h, (u.helm h).svc.inService = true) → Received u t at_ .tollExpiry)
      ∧ ((∀ h, (u.helm h).svc.inService = false) → t.toll.expPend = u.toll.expPend ++ [at_]) := by
  obtain ⟨notes, noted, rung⟩ := u.expiryNotes r lo
  obtain ⟨told, heard, waits⟩ := State.tellExpiry_spec (((u.quayRec r).rcAdd 0x705 lo 1).ringEv bellToll) at_
  generalize ((u.quayRec r).rcAdd 0x705 lo 1).ringEv bellToll = w at notes noted rung told heard waits
  have helms (h : HelmId) : w.helm h = u.helm h := by
    rw [notes]
    rfl
  generalize w.tellExpiry at_ = t at told heard waits
  have com : t.com = w.com := by rw [told]
  have bell : t.bell = w.bell := by rw [told]
  have win : t.win = w.win := by rw [told]
  refine ⟨?_, ?_, ?_, fun ⟨h, on⟩ g => ?_, fun none_ => ?_⟩
  · rw [com, bell, win]
    refine told.trans ?_
    rw [notes]
  · rwa [Noted, com]
  · rwa [RungByEvent, bell]
  · rw [← helms g]
    exact heard ⟨h, by rw [helms]; exact on⟩ g
  · rw [waits fun h => by rw [helms]; exact none_ h, notes]

/-- An expiry with its pulse and cause on, before its record, bell and event. -/
def State.expiring (s : State) (te : Nat) (at_ : Stamp) (sub : BitVec 4) (task : Nat) : State :=
  { s.atTick te with toll := { s.toll with
    st := .pulse
    wdp := if s.toll.wdp = Wdp.hiz then Wdp.hiz else .active
    pulseAt := te + wdpDelay te
    pulseEnd := te + max 1 (wdpDelay te + pulseTicks s.toll.cur.pulse)
    pulsePol := s.toll.cur.pol
    checked := 0
    lastSub := sub
    lastTask := BitVec.ofNat 3 task
    lastMissing := if sub = 4 then s.toll.cur.roster &&& ~~~s.toll.checked else s.toll.lastMissing
    lastAt := at_.crossing } }.recordCauseAt 0x8 sub (BitVec.ofNat 3 task) at_ te

/-- The record of an expiry (R421). -/
def Toll.expiryRec (k : Toll) (te : Nat) (at_ : Stamp) (sub : BitVec 4) (port : Nat) (param : Word) : Rec :=
  ⟨at_, 9, clsFault, 0x003, wd (sub.toNat * 2 ^ 20 + port * 2 ^ 18 + k.cur.roster.toNat * 256 + k.checked.toNat), param, wd te⟩

theorem State.expire_eq (s : State) (te : Nat) (at_ : Stamp) (sub : BitVec 4) (task port : Nat) (param : Word) (lo : Nat) :
    s.expire te at_ sub task port param lo = ((((s.expiring te at_ sub task).quayRec
      (s.toll.expiryRec te at_ sub port param)).rcAdd 0x705 lo 1).ringEv bellToll).tellExpiry at_ := rfl

/-- An expiry: the pulse, the cause, its record, its bell and its event. -/
theorem State.expire_spec (s : State) (te : Nat) (at_ : Stamp) (sub : BitVec 4) (task port : Nat) (param : Word) (lo : Nat) :
    let t := s.expire te at_ sub task port param lo
    ExpiredAt s t te at_ sub task port param ∧ te < t.toll.pulseEnd ∧ te + pulseTicks s.toll.cur.pulse ≤ t.toll.pulseEnd
      ∧ t.rst.tick = max s.rst.tick te ∧ (sub = 4 → t.toll.lastMissing = s.toll.cur.roster &&& ~~~s.toll.checked) := by
  rw [State.expire_eq]
  obtain ⟨frame, noted, rung, heard, waits⟩ :=
    (s.expiring te at_ sub task).expiry_told (s.toll.expiryRec te at_ sub port param) lo at_
  generalize State.tellExpiry _ at_ = t at frame noted rung heard waits
  have toll := congrArg State.toll frame
  have rst := congrArg State.rst frame
  have begins : te + wdpDelay te ≤ te + 2 := Nat.add_le_add_left (Nat.min_le_left ..) te
  have lasts (on : 1 ≤ s.toll.cur.pulse) : te + max 1 (wdpDelay te + pulseTicks s.toll.cur.pulse)
      = te + wdpDelay te + (s.toll.cur.pulse * 32768 + 999) / 1000 := by
    have ticks : 1 ≤ pulseTicks s.toll.cur.pulse := by
      unfold pulseTicks
      omega
    rw [max_eq_right (ticks.trans (Nat.le_add_left ..)), Nat.add_assoc]
    rfl
  have pulse : t.toll.pulseEnd = te + max 1 (wdpDelay te + pulseTicks s.toll.cur.pulse) := by rw [toll]; rfl
  have start : t.toll.pulseAt = te + wdpDelay te := by rw [toll]; rfl
  refine ⟨⟨?_, ?_, ?_, ?_, fun on => ?_, ?_, ?_, ?_, ?_, fun driven => ?_, ?_, ?_, ?_, ?_, ?_, ?_, ?_, ?_, ?_, noted, heard, waits,
    rung, ?_⟩, ?_, ?_, ?_, fun missing => ?_⟩
  · rw [toll]; rfl
  · rw [toll]; rfl
  · omega
  · omega
  · rw [pulse, start, lasts on]
  · rw [toll]; rfl
  · rw [toll]; rfl
  · rw [toll]; rfl
  · rw [toll]; rfl
  · rw [toll]; exact if_neg driven
  · rw [toll]; rfl
  · rw [toll]; rfl
  · rw [rst]; rfl
  · rw [rst]; rfl
  · rw [rst]; rfl
  · rw [rst]; rfl
  · rw [rst]; rfl
  · rw [rst]; rfl
  · rw [rst]; rfl
  · rw [toll, rst]; exact frame
  · omega
  · omega
  · rw [rst]; rfl
  · rw [toll]; exact if_pos missing

/-! ### The order of the toll keeper's events and its check-ins -/

/-- No check-in stamped before a tick is left in the toll slips. -/
def State.noneBefore (s : State) (lim : Nat) : Prop := ∀ c ∈ s.hpa.toll ++ s.hpb.toll, lim ≤ c.tick

/-- The check-in that is judged next is taken from the slip of its port, and stands first in the order of the ticks. -/
theorem State.nextCheckIn_some {s s' : State} {c : CheckIn} (order : s.tollOrder = true) (next : s.nextCheckIn = some (c, s')) :
    s' = { s with hpa := s'.hpa, hpb := s'.hpb } ∧ s'.noneBefore c.tick := by
  rw [State.tollOrder, Bool.and_eq_true] at order
  obtain ⟨a, b⟩ := order
  unfold State.nextCheckIn at next
  split at next
  · next x r y l ha hb =>
    rw [ha] at a
    rw [hb] at b
    simp only [ticksOk, List.map_cons, Bool.and_eq_true, decide_eq_true_eq, List.all_map, List.all_eq_true, Function.comp] at a b
    split at next <;> obtain ⟨rfl, rfl⟩ := Prod.mk.inj (Option.some.inj next)
    · refine ⟨rfl, fun d mem => ?_⟩
      simp only [hb, List.mem_append, List.mem_cons] at mem
      rcases mem with mem | rfl | mem
      · exact a.1.2 d mem
      · assumption
      · have := b.1.2 d mem
        omega
    · refine ⟨rfl, fun d mem => ?_⟩
      simp only [ha, List.mem_append, List.mem_cons] at mem
      rcases mem with (rfl | mem) | mem
      · omega
      · have := a.1.2 d mem
        omega
      · exact b.1.2 d mem
  · next x r ha hb =>
    rw [ha] at a
    simp only [ticksOk, List.map_cons, Bool.and_eq_true, decide_eq_true_eq, List.all_map, List.all_eq_true, Function.comp] at a
    obtain ⟨rfl, rfl⟩ := Prod.mk.inj (Option.some.inj next)
    exact ⟨rfl, fun d mem => a.1.2 d (by simpa [hb] using mem)⟩
  · next y l ha hb =>
    rw [hb] at b
    simp only [ticksOk, List.map_cons, Bool.and_eq_true, decide_eq_true_eq, List.all_map, List.all_eq_true, Function.comp] at b
    obtain ⟨rfl, rfl⟩ := Prod.mk.inj (Option.some.inj next)
    exact ⟨rfl, fun d mem => b.1.2 d (by simpa [ha] using mem)⟩
  · contradiction

/-- The check-ins that are left were there before. -/
theorem State.noneBefore_next {s s' : State} {c : CheckIn} {lim : Nat} (before : s.noneBefore lim)
    (next : s.nextCheckIn = some (c, s')) : s' = { s with hpa := s'.hpa, hpb := s'.hpb } ∧ s'.noneBefore lim := by
  unfold State.nextCheckIn at next
  unfold State.noneBefore at before ⊢
  split at next
  · split at next <;> obtain ⟨rfl, rfl⟩ := Prod.mk.inj (Option.some.inj next) <;> exact ⟨rfl, fun d mem => before d (by simp only [List.mem_append, List.mem_cons, *] at mem ⊢; tauto)⟩
  · obtain ⟨rfl, rfl⟩ := Prod.mk.inj (Option.some.inj next)
    exact ⟨rfl, fun d mem => before d (by simp_all)⟩
  · obtain ⟨rfl, rfl⟩ := Prod.mk.inj (Option.some.inj next)
    exact ⟨rfl, fun d mem => before d (by simp_all)⟩
  · contradiction

theorem State.nextCheckIn_mem {s s' : State} {c : CheckIn} (next : s.nextCheckIn = some (c, s')) :
    c ∈ s.hpa.toll ++ s.hpb.toll := by
  unfold State.nextCheckIn at next
  split at next
  · split at next <;> obtain ⟨rfl, rfl⟩ := Prod.mk.inj (Option.some.inj next) <;> simp [*]
  · obtain ⟨rfl, rfl⟩ := Prod.mk.inj (Option.some.inj next)
    simp [*]
  · obtain ⟨rfl, rfl⟩ := Prod.mk.inj (Option.some.inj next)
    simp [*]
  · contradiction

/-- With no event of its own and no check-in up to a tick the toll keeper stays. -/
theorem State.tollTo_quiet {s : State} {lim : Nat} (events : ∀ e, s.toll.nextEvent = some e → lim < e)
    (before : s.noneBefore lim) : ∀ n, State.tollTo n lim s = s
  | 0 => rfl
  | n + 1 => by
    unfold State.tollTo
    split
    · next e c s' event next =>
      have late := events e event
      have ci := before c (State.nextCheckIn_mem next)
      rw [if_neg (Nat.not_lt.2 ci), if_neg (Nat.not_le.2 late), ite_self]
    · next e event _ => rw [if_neg (Nat.not_le.2 (events e event))]
    · next c s' _ next => rw [if_neg (Nat.not_lt.2 (before c (State.nextCheckIn_mem next)))]
    · rfl

/-- An event that is due, with no check-in before it, comes next. -/
theorem State.tollTo_event {s : State} {lim e : Nat} (n : Nat) (event : s.toll.nextEvent = some e) (due : e ≤ lim)
    (before : s.noneBefore e) : State.tollTo (n + 1) lim s = State.tollTo n lim s.tollEvent := by
  conv_lhs => unfold State.tollTo
  rw [event]
  cases next : s.nextCheckIn with
  | none => exact if_pos due
  | some x =>
    obtain ⟨c, s'⟩ := x
    have ci := before c (State.nextCheckIn_mem next)
    exact (if_neg (Nat.not_lt.2 ci)).trans (if_pos due)

theorem Toll.nextEvent_window {k : Toll} (window : k.st = .closed ∨ k.st = .opened) : k.nextEvent = some k.closing := by
  rcases window with h | h <;> simp [Toll.nextEvent, h]

theorem Toll.nextEvent_pulse {k : Toll} (pulse : k.st = .pulse) : k.nextEvent = some k.pulseEnd := by
  simp [Toll.nextEvent, pulse]

theorem Toll.nextEvent_idle {k : Toll} (idle : k.st = .idle ∨ k.st = .mooring) : k.nextEvent = none := by
  rcases idle with h | h <;> simp [Toll.nextEvent, h]

/-- A window begins closed, at its tick, with the settings that waited. -/
theorem Toll.beginWindow_spec (k : Toll) (w : Nat) :
    let b := k.beginWindow w
    b.st = .closed ∧ b.w = w ∧ b.checked = 0 ∧ b.cur = k.nextCur ∧ b.pend = none
      ∧ b.closing = w + k.nextCur.closed + k.nextCur.opened := by
  unfold Toll.beginWindow Toll.nextCur
  cases h : k.pend <;> simp [Toll.closing, h]

/-- A complete turn: the next window begins at the closing tick. -/
theorem State.closeWindow_complete {s : State} (complete : s.toll.cur.roster &&& ~~~s.toll.checked = 0) :
    s.closeWindow = { s.atTick s.toll.closing with win := s.winWith 0x704 8, toll := s.toll.beginWindow s.toll.closing } :=
  if_pos complete

theorem State.closeWindow_missing {s : State} (missing : s.toll.cur.roster &&& ~~~s.toll.checked ≠ 0) :
    s.closeWindow = (s.atTick s.toll.closing).expire s.toll.closing (s.stampAt s.toll.closing) 4
      (lowestTask (s.toll.cur.roster &&& ~~~s.toll.checked)) 0 0 8 :=
  if_neg missing

/-- An incomplete turn expires MISSING. -/
theorem State.closeWindow_expires {s : State} (missing : s.toll.cur.roster &&& ~~~s.toll.checked ≠ 0) :
    let t := s.closeWindow
    ExpiredAt s t s.toll.closing (s.stampAt s.toll.closing) 4 (lowestTask (s.toll.cur.roster &&& ~~~s.toll.checked)) 0 0
      ∧ s.toll.closing < t.toll.pulseEnd ∧ s.toll.closing + pulseTicks s.toll.cur.pulse ≤ t.toll.pulseEnd
      ∧ t.toll.lastMissing = s.toll.cur.roster &&& ~~~s.toll.checked := by
  intro t
  obtain ⟨expired, after, lasts, -, last⟩ := (s.atTick s.toll.closing).expire_spec s.toll.closing (s.stampAt s.toll.closing) 4
      (lowestTask (s.toll.cur.roster &&& ~~~s.toll.checked)) 0 0 8
  rw [← State.closeWindow_missing missing] at expired after lasts last
  exact ⟨expired, after, lasts, last rfl⟩

theorem State.tollEvent_window {s : State} (window : s.toll.st = .closed ∨ s.toll.st = .opened) : s.tollEvent = s.closeWindow := by
  rcases window with h | h <;> simp [State.tollEvent, h]

theorem ExpiredAt.ports {s t : State} {te : Nat} {at_ : Stamp} {sub : BitVec 4} {task port : Nat} {param : Word}
    (h : ExpiredAt s t te at_ sub task port param) : t.hpa = s.hpa ∧ t.hpb = s.hpb := by
  obtain ⟨-, -, -, -, -, -, -, -, -, -, -, -, -, -, -, -, -, -, -, -, -, -, -, frame⟩ := h
  exact ⟨(congrArg State.hpa frame :), (congrArg State.hpb frame :)⟩

/-- The closing tick up to a limit that the next window or the pulse outlasts: the turn is complete, or expires. -/
theorem State.tollTo_closing {s : State} {n lim : Nat} (window : s.toll.st = .closed ∨ s.toll.st = .opened)
    (due : s.toll.closing ≤ lim) (before : s.noneBefore lim)
    (next : s.toll.cur.roster &&& ~~~s.toll.checked = 0 → lim < s.toll.closing + s.toll.nextCur.closed + s.toll.nextCur.opened)
    (pulse : s.toll.cur.roster &&& ~~~s.toll.checked ≠ 0 → lim ≤ s.toll.closing ∨ lim < s.toll.closing + pulseTicks s.toll.cur.pulse) :
    State.tollTo (n + 1) lim s = s.closeWindow := by
  rw [State.tollTo_event n (Toll.nextEvent_window window) due fun c mem => due.trans (before c mem),
    State.tollEvent_window window]
  by_cases complete : s.toll.cur.roster &&& ~~~s.toll.checked = 0
  · rw [State.closeWindow_complete complete]
    refine State.tollTo_quiet (fun e event => ?_) ?_ n
    on_goal 2 => exact before
    obtain ⟨closed, -, -, -, -, closing⟩ := s.toll.beginWindow_spec s.toll.closing
    have ends := next complete
    rw [Toll.nextEvent_window (.inl closed), closing] at event
    cases event
    exact ends
  · obtain ⟨expired, after, lasts, -⟩ := State.closeWindow_expires complete
    obtain ⟨hpa, hpb⟩ := expired.ports
    refine State.tollTo_quiet (fun e event => ?_) (by rwa [State.noneBefore, hpa, hpb]) n
    rw [Toll.nextEvent_pulse expired.1] at event
    cases event
    rcases pulse complete with h | h <;> omega

end Sys2Proof.Machine
end

section
/-! PROOFS. The obligations about the toll keeper (R414 to R430). -/

namespace Sys2Proof.Machine

/-! ### Events of the toll keeper -/

@[simp] theorem Toll.beginWindow_wdp (k : Toll) (w : Nat) : (k.beginWindow w).wdp = k.wdp := by
  unfold Toll.beginWindow
  split <;> rfl

/-- The end of a pulse. -/
theorem State.pulseOver_spec (s : State) :
    let k := s.toll
    let t := s.pulseOver
    t = { s with toll := t.toll, rst := { s.rst with tick := max s.rst.tick k.pulseEnd } }
      ∧ t.toll.wdp = (if k.wdp = .hiz then .hiz else .inactive)
      ∧ (k.moorAfter = false → k.enabled = true → t.toll.st = .closed ∧ t.toll.w = k.pulseEnd ∧ t.toll.checked = 0
          ∧ t.toll.cur = k.nextCur)
      ∧ (k.enabled = false → t.toll.st = .idle)
      ∧ (k.moorAfter = true → k.enabled = true → t.toll.st = .mooring
          ∧ t.toll.moorEnd = k.pulseEnd + k.cur.moorS * 32768) := by
  refine ⟨rfl, ?_, fun moor enabled => ?_, fun disabled => ?_, fun moor enabled => ?_⟩
  · cases moor : s.toll.moorAfter <;> cases enabled : s.toll.enabled <;> simp [State.pulseOver, moor, enabled]
  · obtain ⟨st, w, checked, cur, -⟩ := Toll.beginWindow_spec { s.toll with wdp := if s.toll.wdp = Wdp.hiz then Wdp.hiz else .inactive }
      s.toll.pulseEnd
    have next : s.pulseOver.toll = Toll.beginWindow { s.toll with wdp := if s.toll.wdp = Wdp.hiz then Wdp.hiz else .inactive }
        s.toll.pulseEnd := by
      simp [State.pulseOver, moor, enabled]
    rw [next]
    exact ⟨st, w, checked, cur⟩
  · cases moor : s.toll.moorAfter <;> simp [State.pulseOver, moor, disabled]
  · simp [State.pulseOver, moor, enabled]

/-- While the keeper is disabled the toll keeper is brought up to this tick, and a window that stands is abandoned (R418). -/
theorem execTollKeeperDisabled_off {s u : State} (disabled : s.toll.enabled = false) (up : s.tollAt s.rst.tick = u) :
    exec .tollKeeperDisabled s = .next (if u.toll.st = .closed ∨ u.toll.st = .opened
      then { u with toll := { u.toll with st := .idle, checked := 0 } } else u) := by
  show execTollKeeperDisabled s = _
  unfold execTollKeeperDisabled
  rw [if_neg (by simp [disabled]), up]
  cases st : u.toll.st <;> simp [st]

theorem State.tollAt_of_to {s u : State} {tick : Nat} (upTo : State.tollTo (tick + 20) tick s = u) :
    s.tollAt tick = u ∨ s.tollAt tick = { u with toll := { u.toll with st := .opened } } ∧ u.toll.st = .closed := by
  unfold State.tollAt
  rw [upTo]
  dsimp only
  split
  · next h => exact .inr ⟨rfl, by simp at h; exact h.1⟩
  · exact .inl rfl

/-- A window abandoned is the same, whether its opening tick has come or not. -/
theorem State.abandoned {u v : State} (at_ : v = u ∨ v = { u with toll := { u.toll with st := .opened } } ∧ u.toll.st = .closed)
    (window : u.toll.st = .closed ∨ u.toll.st = .opened) :
    (if v.toll.st = .closed ∨ v.toll.st = .opened then { v with toll := { v.toll with st := .idle, checked := 0 } } else v)
      = { u with toll := { u.toll with st := .idle, checked := 0 } } := by
  rcases at_ with rfl | ⟨rfl, -⟩
  · exact if_pos window
  · rfl

/-- Settles O9: the events of the toll keeper come in the order of their ticks, and of this one none is left out. -/
theorem tollKeeper : Obligations.TollKeeper := by
  refine ⟨⟨by decide, fun s t order next => (step_keeps next).order order⟩, fun s => ?_, fun s => ?_⟩
  · intro k te missing
    refine ⟨fun closed => if_pos closed, fun other => if_neg other, fun opened before => ⟨fun complete later => ?_, fun some_ => ?_⟩,
      fun ahead => if_pos ahead, fun e l past stamps le => State.stampAt_head stamps past le, fun b vdd vddio active => ?_,
      fun other => if_neg other⟩
    · refine ⟨_, (if_pos opened).trans (congrArg _ (State.tollTo_closing (.inr opened) le_rfl before (fun _ => ?_) fun h => ?_)), ?_⟩
      · change te < te + k.nextCur.closed + k.nextCur.opened
        omega
      · exact absurd complete h
      · obtain ⟨st, w, checked, cur, -⟩ := k.beginWindow_spec te
        rw [State.closeWindow_complete complete]
        exact ⟨rfl, st, w, checked, cur, rfl⟩
    · obtain ⟨expired, -, -, last⟩ := State.closeWindow_expires some_
      exact ⟨_, (if_pos opened).trans (congrArg _ (State.tollTo_closing (.inr opened) le_rfl before (fun h => absurd h some_)
        fun _ => .inl le_rfl)), expired, last⟩
    · by_cases soon : s.rst.tick < k.pulseAt
      · simp [State.wdpPin, Toll.wdpAt, vdd, vddio, k, active, soon, eq_comm] at soon ⊢
      · simp [State.wdpPin, Toll.wdpAt, vdd, vddio, k, active, soon, eq_comm]
  · intro k te missing none_
    refine ⟨fun pulse => ⟨_, if_pos pulse, s.pulseOver_spec⟩, fun other => if_neg other, fun idle enabled landed => ?_,
      fun not_ => if_neg ?_, fun enabled => if_pos enabled, fun disabled window before ahead => ?_,
      fun disabled window before now => ⟨fun complete later => ?_, fun some_ => ?_⟩, fun disabled pulse before ahead => ?_⟩
    · obtain ⟨st, w, checked, cur, pend, -⟩ := k.beginWindow_spec s.rst.tick
      exact ⟨_, if_pos (by simp [k] at idle enabled; simp [idle, enabled, landed]), rfl, st, w, checked, cur, pend⟩
    · rcases not_ with h | h <;> simp [k] at h <;> simp [h]
    · have quiet : State.tollTo (s.rst.tick + 20) s.rst.tick s = s := State.tollTo_quiet (fun e event => by
        rw [Toll.nextEvent_window window] at event
        cases event
        exact ahead) before _
      rw [execTollKeeperDisabled_off disabled rfl, State.abandoned (State.tollAt_of_to quiet) window]
    · have closing : State.tollTo (s.rst.tick + 20) s.rst.tick s = s.closeWindow :=
        State.tollTo_closing window now.ge before (fun _ => by
          rw [now]
          change te < te + k.nextCur.closed + k.nextCur.opened
          omega) fun h => absurd complete h
      obtain ⟨st, w, checked, cur, -⟩ := k.beginWindow_spec te
      have turn := State.closeWindow_complete complete
      rw [execTollKeeperDisabled_off disabled rfl, State.abandoned (State.tollAt_of_to closing) (.inl ((congrArg (·.toll.st) turn).trans st)), turn]
      refine ⟨_, rfl, ?_, rfl, rfl, cur⟩
      have same : max s.rst.tick te = s.rst.tick := by omega
      show ({ s with rst := { s.rst with tick := max s.rst.tick te }, win := _, toll := _ } : State) = _
      rw [same]
    · have closing : State.tollTo (s.rst.tick + 20) s.rst.tick s = s.closeWindow :=
        State.tollTo_closing window now.ge before (fun h => absurd h some_) fun _ => .inl now.le
      obtain ⟨expired, -⟩ := State.closeWindow_expires some_
      have pulse := expired.1
      rcases State.tollAt_of_to closing with at_ | ⟨-, st⟩
      · exact ⟨_, (execTollKeeperDisabled_off disabled at_).trans (congrArg _ (if_neg (by simp [pulse]))), expired⟩
      · simp [pulse] at st
    · have quiet : State.tollTo (s.rst.tick + 20) s.rst.tick s = s := State.tollTo_quiet (fun e event => by
        rw [Toll.nextEvent_pulse pulse] at event
        cases event
        exact ahead) before _
      change s.toll.st = .pulse at pulse
      rcases State.tollAt_of_to quiet with at_ | ⟨-, st⟩
      · exact (execTollKeeperDisabled_off disabled at_).trans (congrArg _ (if_neg (by simp [pulse])))
      · simp [pulse] at st

/-! ### Check-ins -/

/-- The key of a check-in, and a task of the roster (R414). -/
abbrev Toll.keyOk (k : Toll) (c : CheckIn) : Prop :=
  c.param.toNat / 16 = 0xC0A57 ∧ c.param.toNat % 16 ≤ 7 ∧ k.cur.roster.getLsbD (c.param.toNat % 16) = true

/-- A check-in that no window takes is not judged, and counted (R414). -/
theorem State.judge_outside {s : State} {c : CheckIn} (out : s.toll.st ≠ .closed ∧ s.toll.st ≠ .opened) :
    s.judge c = { s with win := s.winWith 0x705 0 } :=
  if_pos (by simp [out])

section
variable {s : State} {c : CheckIn} (window : s.toll.st = .closed ∨ s.toll.st = .opened) (begun : s.toll.w ≤ c.tick)
include window begun

theorem State.judge_badKey (bad : ¬s.toll.keyOk c) : s.judge c = s.expire c.tick c.at_ 3 0 (portCode c.port) c.param 12 := by
  unfold State.judge
  rw [if_neg (by rcases window with h | h <;> simp [h, begun]), if_pos]
  simp only [Bool.or_eq_true, decide_eq_true_eq, Bool.not_eq_true']
  by_contra good
  push Not at good
  exact bad ⟨good.1.1, good.1.2, by simpa using good.2⟩

variable (good : s.toll.keyOk c)
include good

theorem State.judge_goodKey : s.judge c =
    if c.tick < s.toll.w + s.toll.cur.closed then s.expire c.tick c.at_ 1 (c.param.toNat % 16) (portCode c.port) c.param 20
    else if s.toll.checked.getLsbD (c.param.toNat % 16) = true then
      s.expire c.tick c.at_ 2 (c.param.toNat % 16) (portCode c.port) c.param 16
    else { s with toll := { s.toll with checked := s.toll.checked ||| BitVec.ofNat 8 (2 ^ (c.param.toNat % 16)) } } := by
  obtain ⟨key, task, due⟩ := good
  unfold State.judge
  rw [if_neg (by rcases window with h | h <;> simp [h, begun]), if_neg (by simp [key, task, due])]

end

/-- The toll keeper brought up to the tick of a check-in within its window: opened, if its opening tick has come. -/
theorem State.tollAt_window {s : State} {tick : Nat} (window : s.toll.st = .closed ∨ s.toll.st = .opened)
    (within : tick < s.toll.closing) (before : s.noneBefore tick) :
    s.tollAt tick = { s with toll := { s.toll with
      st := if s.toll.w + s.toll.cur.closed ≤ tick then .opened else s.toll.st } } := by
  have quiet : State.tollTo (tick + 20) tick s = s := State.tollTo_quiet (fun e event => by
    rw [Toll.nextEvent_window window] at event
    cases event
    exact within) before _
  unfold State.tollAt
  rw [quiet]
  by_cases due : s.toll.w + s.toll.cur.closed ≤ tick
  · rw [if_pos due]
    rcases window with closed | opened
    · rw [if_pos (by simp [closed, due])]
    · rw [if_neg (by simp [opened]), ← opened]
  · rw [if_neg due, if_neg (by simp [due])]

/-- An expiry does not ask whether the window was open. -/
theorem State.expire_at (s : State) (st : TkState) (te : Nat) (at_ : Stamp) (sub : BitVec 4) (task port : Nat) (param : Word)
    (lo : Nat) : ({ s with toll := { s.toll with st := st } } : State).expire te at_ sub task port param lo
      = s.expire te at_ sub task port param lo := rfl

/-- The toll keeper while no window runs and its pulse, if it has one, lasts: nothing comes before a check-in. -/
theorem State.tollAt_outside {s : State} {tick : Nat} (outside : s.toll.st = .idle ∨ s.toll.st = .mooring
    ∨ (s.toll.st = .pulse ∧ tick < s.toll.pulseEnd)) (before : s.noneBefore tick) : s.tollAt tick = s := by
  have quiet : State.tollTo (tick + 20) tick s = s := State.tollTo_quiet (fun e event => by
    rcases outside with idle | mooring | ⟨pulse, later⟩
    · simp [Toll.nextEvent_idle (.inl idle)] at event
    · simp [Toll.nextEvent_idle (.inr mooring)] at event
    · rw [Toll.nextEvent_pulse pulse] at event
      cases event
      exact later) before _
  unfold State.tollAt
  rw [quiet]
  rcases outside with h | h | h <;> simp [h]

/-- A check-in outside a window is counted only. -/
theorem State.checkIn_outside {s : State} {c : CheckIn} (outside : s.toll.st = .idle ∨ s.toll.st = .mooring
    ∨ (s.toll.st = .pulse ∧ c.tick < s.toll.pulseEnd)) (before : s.noneBefore c.tick) :
    (s.tollAt c.tick).judge c = { s with win := s.winWith 0x705 0 } := by
  rw [State.tollAt_outside outside before]
  refine State.judge_outside ?_
  rcases outside with h | h | h <;> simp [h]

section
variable {s : State} {c : CheckIn} (window : s.toll.st = .closed ∨ s.toll.st = .opened) (begun : s.toll.w ≤ c.tick)
  (within : c.tick < s.toll.closing) (before : s.noneBefore c.tick)
include window begun within before

/-- A check-in of a wrong key or task in a window. -/
theorem State.checkIn_badKey (bad : ¬s.toll.keyOk c) :
    (s.tollAt c.tick).judge c = s.expire c.tick c.at_ 3 0 (portCode c.port) c.param 12 := by
  rw [State.tollAt_window window within before]
  refine (State.judge_badKey (s := { s with toll := { s.toll with
    st := if s.toll.w + s.toll.cur.closed ≤ c.tick then .opened else s.toll.st } }) ?_ begun bad).trans (s.expire_at ..)
  show (if _ then _ else _) = _ ∨ (if _ then _ else _) = _
  split
  · exact .inr rfl
  · exact window

/-- A check-in of a task of the roster in a window. -/
theorem State.checkIn_goodKey (good : s.toll.keyOk c) : (s.tollAt c.tick).judge c =
    if c.tick < s.toll.w + s.toll.cur.closed then s.expire c.tick c.at_ 1 (c.param.toNat % 16) (portCode c.port) c.param 20
    else if s.toll.checked.getLsbD (c.param.toNat % 16) = true then
      s.expire c.tick c.at_ 2 (c.param.toNat % 16) (portCode c.port) c.param 16
    else { s with toll := { s.toll with
      st := .opened, checked := s.toll.checked ||| BitVec.ofNat 8 (2 ^ (c.param.toNat % 16)) } } := by
  rw [State.tollAt_window window within before]
  by_cases early : c.tick < s.toll.w + s.toll.cur.closed
  · rw [if_pos early, if_neg (Nat.not_le.2 early)]
    exact (State.judge_goodKey window begun good).trans (if_pos early)
  · rw [if_neg early, if_pos (Nat.not_lt.1 early)]
    exact (State.judge_goodKey (s := { s with toll := { s.toll with st := .opened } }) (.inr rfl) begun good).trans (if_neg early)

end

/-- A check-in after the closing tick of a turn that was not complete: it comes within the pulse. -/
theorem State.checkIn_missed {s : State} {c : CheckIn} (window : s.toll.st = .closed ∨ s.toll.st = .opened)
    (past : s.toll.closing ≤ c.tick) (missing : s.toll.cur.roster &&& ~~~s.toll.checked ≠ 0)
    (lasts : c.tick < s.toll.closing + pulseTicks s.toll.cur.pulse) (before : s.noneBefore c.tick) :
    (s.tollAt c.tick).judge c = { s.closeWindow with win := s.closeWindow.winWith 0x705 0 } := by
  obtain ⟨expired, -⟩ := State.closeWindow_expires missing
  have pulse := expired.1
  rcases State.tollAt_of_to (State.tollTo_closing (n := c.tick + 19) window past before (fun h => absurd h missing) fun _ => .inr lasts)
    with at_ | ⟨-, st⟩
  · rw [at_, State.judge_outside (by simp [pulse])]
  · simp [pulse] at st

/-- A check-in after the closing tick of a complete turn, before the next opening tick, is EARLY. -/
theorem State.checkIn_nextWindow {s : State} {c : CheckIn} (window : s.toll.st = .closed ∨ s.toll.st = .opened)
    (past : s.toll.closing ≤ c.tick) (complete : s.toll.cur.roster &&& ~~~s.toll.checked = 0)
    (early : c.tick < s.toll.closing + s.toll.nextCur.closed) (before : s.noneBefore c.tick)
    (good : (s.toll.beginWindow s.toll.closing).keyOk c) :
    (s.tollAt c.tick).judge c = s.closeWindow.expire c.tick c.at_ 1 (c.param.toNat % 16) (portCode c.port) c.param 20 := by
  obtain ⟨closed, w, checked, cur, -⟩ := s.toll.beginWindow_spec s.toll.closing
  have toll : s.closeWindow.toll = s.toll.beginWindow s.toll.closing := by rw [State.closeWindow_complete complete]
  have soon : c.tick < s.closeWindow.toll.w + s.closeWindow.toll.cur.closed := by rw [toll, w, cur]; exact early
  have at_ : s.tollAt c.tick = s.closeWindow := by
    unfold State.tollAt
    rw [State.tollTo_closing (n := c.tick + 19) window past before (fun _ => by omega) fun h => absurd complete h]
    exact if_neg (by simp [soon])
  rw [at_, State.judge_goodKey (.inl (by rw [toll, closed])) (by rwa [toll, w]) (by rwa [toll]), if_pos soon]

theorem execTollCheckIn_some {s s' : State} {c : CheckIn} (next : s.nextCheckIn = some (c, s')) :
    exec .tollCheckIn s = .next ((s'.tollAt c.tick).judge c) := by
  simp [exec, execTollCheckIn, next]

/-- A check-in within a window that begins a pulse has expired there, at its own tick. -/
theorem State.checkIn_expires {s : State} {c : CheckIn} (window : s.toll.st = .closed ∨ s.toll.st = .opened) (begun : s.toll.w ≤ c.tick)
    (within : c.tick < s.toll.closing) (before : s.noneBefore c.tick) (pulse : ((s.tollAt c.tick).judge c).toll.st = .pulse) :
    c.tick < ((s.tollAt c.tick).judge c).toll.pulseEnd ∧ ((s.tollAt c.tick).judge c).noneBefore c.tick := by
  have expired (sub : BitVec 4) (task lo : Nat) (t : State)
      (h : t = s.expire c.tick c.at_ sub task (portCode c.port) c.param lo) : c.tick < t.toll.pulseEnd ∧ t.noneBefore c.tick := by
    obtain ⟨spec, after, -⟩ := s.expire_spec c.tick c.at_ sub task (portCode c.port) c.param lo
    rw [← h] at spec after
    obtain ⟨sameA, sameB⟩ := spec.ports
    exact ⟨after, by rwa [State.noneBefore, sameA, sameB]⟩
  by_cases good : s.toll.keyOk c
  · have verdict := State.checkIn_goodKey window begun within before good
    split at verdict
    · exact expired _ _ _ _ verdict
    · split at verdict
      · exact expired _ _ _ _ verdict
      · simp [verdict] at pulse
  · exact expired _ _ _ _ (State.checkIn_badKey window begun within before good)

/-- Settles O8: the check-in that is first in the order of ticks meets the toll keeper at its tick. -/
theorem checkInVerdicts : Obligations.CheckInVerdicts := by
  intro s s' c k task keyOk port te opened missing window
  refine ⟨fun r hpa first => ?_, fun r hpb first => ?_, fun order next => ?_, fun none_ => ?_,
    fun order next ⟨open_, begun, within⟩ u u' d ran pulse nextD same => ?_⟩
  · unfold State.nextCheckIn
    cases hpb : s.hpb.toll with
    | nil => simp [hpa]
    | cons b l => simp [hpa, first b (by simp [hpb])]
  · unfold State.nextCheckIn
    cases hpa : s.hpa.toll with
    | nil => simp [hpb]
    | cons a l => simp [hpb, Nat.not_le.2 (first a (by simp [hpa]))]
  · obtain ⟨frame, before⟩ := State.nextCheckIn_some order next
    obtain ⟨x, y, rfl⟩ : ∃ x y, s' = { s with hpa := x, hpb := y } := ⟨_, _, frame⟩
    have run := execTollCheckIn_some next
    let v : State := { s with hpa := x, hpb := y }
    have badKey (h : v.toll.st = .closed ∨ v.toll.st = .opened) := State.checkIn_badKey (s := v) (c := c) h
    have goodKey (h : v.toll.st = .closed ∨ v.toll.st = .opened) := State.checkIn_goodKey (s := v) (c := c) h
    refine ⟨fun outside => ?_, fun ⟨open_, begun, within⟩ bad => ?_, fun ⟨open_, begun, within⟩ good early => ?_,
      fun ⟨open_, begun, within⟩ good late double => ?_, fun ⟨open_, begun, within⟩ good late first => ?_,
      fun open_ past some_ lasts => ?_, fun open_ past complete early key le due => ?_⟩
    · rw [run, State.checkIn_outside (s := v) outside before]
    · exact ⟨_, run.trans (congrArg _ (badKey open_ begun within before bad)), (State.expire_spec ..).1⟩
    · exact ⟨_, run.trans (congrArg _ ((goodKey open_ begun within before good).trans (if_pos early))), (State.expire_spec ..).1⟩
    · exact ⟨_, run.trans (congrArg _ ((goodKey open_ begun within before good).trans
        ((if_neg (Nat.not_lt.2 late)).trans (if_pos double)))), (State.expire_spec ..).1⟩
    · exact run.trans (congrArg _ ((goodKey open_ begun within before good).trans
        ((if_neg (Nat.not_lt.2 late)).trans (if_neg (by rw [show v.toll.checked.getLsbD _ = false from first]; exact Bool.false_ne_true)))))
    · obtain ⟨expired, -, -, last⟩ := State.closeWindow_expires (s := v) some_
      exact ⟨_, _, expired, last, run, State.checkIn_missed (s := v) open_ past some_ lasts before⟩
    · obtain ⟨-, -, -, cur, -⟩ := k.beginWindow_spec te
      have toll : v.closeWindow.toll = k.beginWindow te := by rw [State.closeWindow_complete (s := v) complete]; rfl
      obtain ⟨expired, -⟩ := v.closeWindow.expire_spec c.tick c.at_ 1 (c.param.toNat % 16) (portCode c.port) c.param 20
      obtain ⟨st, -, -, -, -, -, sub, lastTask, -, -, same, -, cause, causeSub, -, -, -, -, tick, -⟩ := expired
      exact ⟨_, run.trans (congrArg _ (State.checkIn_nextWindow (s := v) open_ past complete early before
        ⟨key, le, by rw [show (v.toll.beginWindow v.toll.closing).cur = k.nextCur from cur]; exact due⟩)), st, sub, lastTask,
        same.trans (by rw [toll, cur]), cause, causeSub, tick⟩
  · simp [exec, execTollCheckIn, none_]
  · obtain ⟨frame, before⟩ := State.nextCheckIn_some order next
    obtain ⟨x, y, rfl⟩ : ∃ x y, s' = { s with hpa := x, hpb := y } := ⟨_, _, frame⟩
    have at_ := (Host.Outcome.next.inj ((execTollCheckIn_some next).symm.trans ran)).symm
    rw [at_] at pulse nextD
    obtain ⟨after, left⟩ := State.checkIn_expires (s := { s with hpa := x, hpb := y }) open_ begun within before pulse
    rw [← at_] at pulse nextD after left
    obtain ⟨frame, rest⟩ := State.noneBefore_next left nextD
    have toll := (congrArg State.toll frame :)
    rw [execTollCheckIn_some nextD, State.checkIn_outside (.inr (.inr ⟨by rw [toll]; exact pulse, by rw [toll, same]; exact after⟩))
      (by rwa [same])]

end Sys2Proof.Machine
end

section
/-! PROOFS. What a change of a pontoon does to its stages and switches at once (R252, R286, R290, R291), and the change of one pontoon. -/

namespace Sys2Proof.Machine

/-! ### The stages of a pontoon -/

/-- What of a proportional stage a step of its loop never touches: the latch with its causes, the freeze and the dither phase. -/
def PqSt.kept (q : PqSt) : Bool × Bool × Bool × Bool × Bool × BitVec 24 := (q.latch, q.trip, q.thermal, q.hot, q.frozen, q.phase)

/-- Pontoon y differs from x in its stages and their counts only, and each stage keeps what `PqSt.kept` names. -/
structure Pont.Stages (x y : Pont) : Prop where
  frame : y = { x with pqs := y.pqs, rcInc := y.rcInc }
  kept : ∀ j, (vat y.pqs j {}).kept = (vat x.pqs j {}).kept
  counts : x.rcInc ⊆ y.rcInc

namespace Pont.Stages

variable {x y z : Pont}

theorem refl : Stages x x := ⟨rfl, fun _ => rfl, List.Subset.refl _⟩

theorem trans (h : Stages x y) (h' : Stages y z) : Stages x z := by
  refine ⟨?_, fun j => (h'.kept j).trans (h.kept j), List.Subset.trans h.counts h'.counts⟩
  refine h'.frame.trans ?_
  rw [h.frame]

theorem put {j : Nat} {q : PqSt} (h : Stages x y) (same : q.kept = (vat y.pqs j {}).kept) :
    Stages x { y with pqs := vset y.pqs j q } := by
  refine h.trans ⟨rfl, fun k => ?_, List.Subset.refl _⟩
  by_cases here : k = j
  · subst here
    by_cases lt : k < 2
    · exact (congrArg PqSt.kept (vat_vset y.pqs q {} lt)).trans same
    · simp [vat, lt]
  · exact congrArg PqSt.kept (vat_vset_other y.pqs q {} here)

theorem rcIn {addr lo : Nat} {n : Int} (h : Stages x y) : Stages x (y.rcIn addr lo n) := h.trans ⟨rfl, fun _ => rfl, List.subset_append_left ..⟩

theorem ite {c : Prop} [Decidable c] (h : Stages x y) (h' : Stages x z) : Stages x (if c then y else z) := by
  split <;> assumption

theorem fastDecay {p j : Nat} {q : PqSt} (same : q.kept = (vat x.pqs j {}).kept) : Stages x (x.fastDecay p j q) :=
  have put : Stages x { x with pqs := vset x.pqs j { q with duty := 0, onTime := 0, bothOpen := true, fdNow := true, anyFd := true } } :=
    refl.put same
  put.ite put.rcIn

theorem loopStep (p j : Nat) (i : Int) (v : Nat) : Stages x (x.loopStep p j i v) := by
  unfold Pont.loopStep
  split
  · exact refl.put rfl
  · extract_lets q put q' r th enter q'' q'''
    have same : q''.kept = (vat x.pqs j {}).kept := by
      dsimp only [q'']
      split <;> rfl
    have same' : q'''.kept = (vat x.pqs j {}).kept := by
      dsimp only [q''']
      split <;> exact same
    split
    · exact refl.put rfl
    · split
      · exact .ite (fastDecay rfl) (refl.put rfl)
      · split
        · exact fastDecay same
        · exact refl.put same'

theorem openBoth (p j : Nat) : Stages x (x.openBoth p j) := by
  unfold Pont.openBoth
  extract_lets q
  split
  · exact fastDecay rfl
  · exact refl.put rfl

theorem foldl {α : Type} {f : Pont → α → Pont} (step : ∀ x a, Stages x (f x a)) : ∀ (l : List α) {x : Pont}, Stages x (l.foldl f x)
  | [], _ => refl
  | a :: l, x => (step x a).trans (foldl step l)

theorem react (p : Nat) (old : Pont) : Stages x (x.react p old) := by
  unfold Pont.react
  refine foldl (fun x j => ?_) _
  extract_lets l l0 moved q y
  have smoothed : Stages x y := refl.put rfl
  split
  · exact refl
  · split
    · exact .ite smoothed (smoothed.trans (openBoth p j))
    · exact .ite (smoothed.trans (loopStep p j _ _)) smoothed

end Pont.Stages

/-- With the level, the block and the value of both stages as they were, nothing is done to them. -/
theorem Pont.react_still {x old : Pont} {p : Nat} (still : ∀ j < 2, x.level j = old.level j ∧ x.blocked j = old.blocked j
    ∧ x.value p j = old.value p j) : x.react p old = x := by
  obtain ⟨level0, blocked0, value0⟩ := still 0 (by decide)
  obtain ⟨level1, blocked1, value1⟩ := still 1 (by decide)
  simp [Pont.react, level0, blocked0, value0, level1, blocked1, value1]

/-! ### The switches of a pontoon -/

theorem OutSt.upToSwitch_refl (o : OutSt) : o.upToSwitch o := rfl

theorem Pont.upToSwitch_refl (x : Pont) : x.upToSwitch x := ⟨rfl, fun _ => OutSt.upToSwitch_refl _⟩

theorem Pont.track_out (x : Pont) (p age : Nat) (i : Fin 8) : (x.track p age).outs[i] =
    if decide (0 < x.value p i) = x.outs[i].swOn then x.outs[i]
    else { x.outs[i] with swOn := decide (0 < x.value p i), swAt := age } := by
  simp [Pont.track]

theorem Pont.track_upToSwitch (x : Pont) (p age : Nat) : (x.track p age).upToSwitch x := by
  refine ⟨rfl, fun i => ?_⟩
  rw [Pont.track_out]
  split <;> rfl

/-! ### A change of one pontoon -/

theorem State.onlyPont_modPont (s : State) (p : Fin 4) (f : Pont → Pont) : OnlyPont p s (s.modPont p f) := by
  rw [OnlyPont, State.modPont_pont]
  rfl

theorem State.modField_pont (s : State) (p : Fin 4) (f : Pont → Pont) :
    (s.modField p f).pont p = ((f (s.pont p)).react p (s.pont p)).track p s.tb.age := State.modPont_pont ..

theorem State.onlyPont_modField (s : State) (p : Fin 4) (f : Pont → Pont) : OnlyPont p s (s.modField p f) := s.onlyPont_modPont ..

theorem State.onlyPont_refl (s : State) (p : Fin 4) : OnlyPont p s s := by
  simp [OnlyPont, State.pont]

/-- After a change of a pontoon all is as the change has it, but the stages, their counts and the notes of the switches. -/
theorem State.modField_frame {s : State} {p : Fin 4} {f : Pont → Pont} {x : Pont} (change : f (s.pont p) = x) :
    let y := (s.modField p f).pont p
    y = { x with outs := y.outs, pqs := y.pqs, rcInc := y.rcInc } ∧ (∀ i : Fin 8, y.outs[i].upToSwitch x.outs[i])
      ∧ (∀ j, (vat y.pqs j {}).kept = (vat x.pqs j {}).kept) ∧ x.rcInc ⊆ y.rcInc := by
  rw [State.modField_pont, change]
  obtain ⟨frame, kept, counts⟩ := Pont.Stages.react (x := x) p (s.pont p)
  generalize x.react p (s.pont p) = y at frame kept counts
  refine ⟨?_, fun i => ?_, kept, counts⟩
  · refine ((Pont.track_upToSwitch ..).1).trans ?_
    rw [frame]
    rfl
  · have switch := (Pont.track_upToSwitch y p s.tb.age).2 i
    simpa only [congrArg Pont.outs frame] using switch

end Sys2Proof.Machine
end

section
/-! PROOFS. Protection of the outputs (R249 to R252, R295) and hail slots (R255 to R257). -/

namespace Sys2Proof.Machine

/-! ### Changes of a switching output -/

/-- A change of the switching outputs leaves the stages as they are. -/
theorem Pont.react_of_outs {x y : Pont} {p : Nat} (frame : y = { x with outs := y.outs, rcInc := y.rcInc, recs := y.recs })
    (outs : ∀ j < 2, vat y.outs j {} = vat x.outs j {}) : y.react p x = y := by
  obtain ⟨o, c, r, rfl⟩ : ∃ o c r, y = { x with outs := o, rcInc := c, recs := r } := ⟨_, _, _, frame⟩
  refine Pont.react_still fun j lt => ?_
  have same : vat o j {} = vat x.outs j {} := outs j lt
  have level : ({ x with outs := o, rcInc := c, recs := r } : Pont).level j = x.level j := by
    simp only [Pont.level, Pont.level23, same]
    rfl
  refine ⟨level, ?_, ?_⟩
  · simp only [Pont.blocked, level]
  · simp only [Pont.value, Pont.level5, level, same]
    rfl

theorem Pont.vat_modOut_other (x : Pont) {i j : Nat} (f : OutSt → OutSt) (other : j ≠ i) :
    vat (x.modOut i f).outs j {} = vat x.outs j {} := vat_vmod_other x.outs f {} other

/-- A change of a pontoon that leaves its stages is the change itself, but for the notes of the switches. -/
theorem State.modField_still {s : State} {p : Fin 4} {f : Pont → Pont} {y : Pont} (change : f (s.pont p) = y)
    (still : y.react p (s.pont p) = y) : OnlyPont p s (s.modField p f) ∧ ((s.modField p f).pont p).upToSwitch y := by
  refine ⟨s.onlyPont_modField p f, ?_⟩
  rw [State.modField_pont, change, still]
  exact Pont.track_upToSwitch ..

section
variable {s : State} {q : Fin 32}

theorem State.modSwitch_on (running : (s.pont (pontOf q)).running = true) (f : OutSt → OutSt) (switch : isSwitch q = true) : OnlyPont (pontOf q) s (s.modSwitch q f)
    ∧ ((s.modSwitch q f).pont (pontOf q)).upToSwitch ((s.pont (pontOf q)).modOut (q.val % 8) f) := by
  have high : 2 ≤ q.val % 8 := by simpa [isSwitch] using switch
  exact State.modField_still (by simp [running, switch])
    (Pont.react_of_outs rfl fun j lt => Pont.vat_modOut_other _ f (by omega))

theorem State.modSwitch_off (f : OutSt → OutSt) (stage : isSwitch q = false) : OnlyPont (pontOf q) s (s.modSwitch q f)
    ∧ ((s.modSwitch q f).pont (pontOf q)).upToSwitch (s.pont (pontOf q)) :=
  State.modField_still (by simp [stage]) (Pont.react_of_outs rfl fun _ _ => rfl)

end

theorem Pont.modOut_id (x : Pont) (i : Nat) : x.modOut i id = x := by
  unfold Pont.modOut vmod
  split <;> simp

/-- A change of an output that is the identity where it stands. -/
theorem Pont.modOut_same {x : Pont} {i : Nat} {f : OutSt → OutSt} (same : f (vat x.outs i {}) = vat x.outs i {}) : x.modOut i f = x := by
  unfold Pont.modOut vmod
  split
  · next lt =>
    rw [vat_lt x.outs {} lt] at same
    rw [same]
    simp
  · rfl

theorem Pont.modOut_congr {x : Pont} {i : Nat} {f g : OutSt → OutSt} (same : f (vat x.outs i {}) = g (vat x.outs i {})) :
    x.modOut i f = x.modOut i g := by
  unfold Pont.modOut vmod
  split
  · next lt =>
    rw [vat_lt x.outs {} lt] at same
    rw [same]
  · rfl

@[simp] theorem Pont.outFault_pqs (x : Pont) (q : Nat) (old now : Word) (news always : Nat) :
    (x.outFault q old now news always).pqs = x.pqs := by
  simp only [Pont.outFault]
  split <;> rfl

theorem Pont.enterLatch_kept (x : Pont) (p j : Nat) (thermal : Bool) (lt : j < 2) :
    let q := vat (x.enterLatch p j thermal).pqs j {}
    q.latch = true ∧ (thermal = true → q.thermal = true ∧ q.hot = true) ∧ (thermal = false → q.trip = true) := by
  have pqs : (x.enterLatch p j thermal).pqs = vset x.pqs j (if thermal then { vat x.pqs j {} with latch := true, thermal := true, hot := true }
      else { vat x.pqs j {} with latch := true, trip := true }) := by
    cases thermal <;> simp only [Pont.enterLatch, Pont.outFault_pqs] <;> rfl
  rw [pqs, vat_vset _ _ _ lt]
  cases thermal <;> simp

/-- A stage that enters the PQ latch has it with its cause, and no output but in the note of its switch changes (R295). -/
theorem State.enterLatch_spec (s : State) (p : Fin 4) (j : Nat) (thermal : Bool) (lt : j < 2) :
    let t := s.modField p (fun x => x.enterLatch p j thermal)
    OnlyPont p s t ∧ (∀ i : Fin 8, (t.pont p).outs[i].upToSwitch (s.pont p).outs[i])
      ∧ (vat (t.pont p).pqs j {}).latch = true
      ∧ (thermal = true → (vat (t.pont p).pqs j {}).thermal = true ∧ (vat (t.pont p).pqs j {}).hot = true)
      ∧ (thermal = false → (vat (t.pont p).pqs j {}).trip = true) := by
  intro t
  obtain ⟨-, outs, kept, -⟩ := State.modField_frame (s := s) (p := p) (f := fun x => x.enterLatch p j thermal) rfl
  obtain ⟨latch, hot, trip⟩ := (s.pont p).enterLatch_kept p j thermal lt
  have same := kept j
  simp only [PqSt.kept, Prod.mk.injEq] at same
  obtain ⟨sameLatch, sameTrip, sameThermal, sameHot, -⟩ := same
  refine ⟨s.onlyPont_modField .., fun i => ?_, sameLatch.trans latch, fun h => ⟨sameThermal.trans (hot h).1, sameHot.trans (hot h).2⟩,
    fun h => sameTrip.trans (trip h)⟩
  have same : ((s.pont p).enterLatch p j thermal).outs = (s.pont p).outs := Pont.enterLatch_outs ..
  rw [← same]
  exact outs i

/-- A change of a switching output that comes to another one. -/
theorem State.modSwitch_gives {s : State} {q : Fin 32} {f g : OutSt → OutSt} (running : (s.pont (pontOf q)).running = true)
    (switch : isSwitch q = true)
    (same : f (vat (s.pont (pontOf q)).outs (q.val % 8) {}) = g (vat (s.pont (pontOf q)).outs (q.val % 8) {})) :
    OnlyPont (pontOf q) s (s.modSwitch q f)
      ∧ ((s.modSwitch q f).pont (pontOf q)).upToSwitch ((s.pont (pontOf q)).modOut (q.val % 8) g) := by
  rw [← Pont.modOut_congr same]
  exact State.modSwitch_on running f switch

theorem val_mod_eight (q : Fin 32) : 8 * (pontOf q).val + q.val % 8 = q.val := by
  simp only [pontOf]
  omega

/-- The blanking of an overcurrent, by the LOAD_KIND of the output (R252). -/
theorem Pont.overBlank_eq (x : Pont) (q : Fin 32) : overBlank (x.loadKind (pontOf q) (q.val % 8))
    = if bf x.outRec q 15 14 = 2 then 100000 else 1000 := by
  rw [Pont.loadKind, val_mod_eight]
  rfl

theorem Pont.cooled_retry {x : Pont} {q : Fin 32} (cooling : (vat x.outs (q.val % 8) {}).prot = .cooling)
    (left : 0 < (vat x.outs (q.val % 8) {}).retry) :
    x.cooled q = x.modOut (q.val % 8) (fun o => { o with prot := .normal, retry := o.retry - 1 }) := by
  unfold Pont.cooled
  rw [if_neg (not_not.2 cooling), if_pos left]

theorem Pont.cooled_latched {x : Pont} {q : Fin 32} (cooling : (vat x.outs (q.val % 8) {}).prot = .cooling)
    (none_ : (vat x.outs (q.val % 8) {}).retry = 0) :
    x.cooled q = (x.modOut (q.val % 8) (fun o => { o with prot := .latched })).recIn 0x080 (clsFault + 4) (subj (0x20 + q.val))
      ({ vat x.outs (q.val % 8) {} with prot := .latched }.diag true) 0 := by
  unfold Pont.cooled
  rw [if_neg (not_not.2 cooling), if_neg (by rw [none_]; decide)]
  exact congrArg (Pont.recIn · 0x080 (clsFault + 4) (subj (0x20 + q.val)) _ 0) (Pont.modOut_congr rfl)

/-- Settles O48: each row changes its one flag, and no stage. -/
theorem outputFlagsAndProtection : Obligations.OutputFlagsAndProtection := by
  refine ⟨fun s q us running => ⟨fun switch => ⟨fun on normal long => ?_, fun short => ?_, ?_, ?_⟩, fun stage => ⟨?_, ?_, ?_⟩⟩,
    fun s q running => ⟨fun switch => ⟨fun normal on => ?_, fun cooling left => ?_, fun cooling none_ => ?_, fun normal => ?_⟩,
      fun stage => ⟨?_, ?_⟩⟩⟩
  · refine ⟨_, rfl, State.modSwitch_gives running switch ?_⟩
    exact if_pos (by simp only [Pont.landedOn, Pont.overBlank_eq, normal, decide_eq_true on, decide_eq_true long]; rfl)
  · refine ⟨_, rfl, State.modSwitch_gives running switch ?_⟩
    exact if_neg (by simp only [Pont.overBlank_eq, decide_eq_false (Nat.not_lt.2 short)]; simp)
  · exact ⟨_, rfl, State.modSwitch_gives running switch rfl⟩
  · exact ⟨_, rfl, State.modSwitch_gives running switch rfl⟩
  · exact ⟨_, rfl, by rw [Pont.modOut_id]; exact State.modSwitch_off _ stage⟩
  · exact ⟨_, rfl, by rw [Pont.modOut_id]; exact State.modSwitch_off _ stage⟩
  · exact ⟨_, rfl, by rw [Pont.modOut_id]; exact State.modSwitch_off _ stage⟩
  · have high : 2 ≤ q.val % 8 := by simpa [isSwitch] using switch
    refine ⟨_, (if_neg (by simp [running])).trans ((if_pos switch).trans (if_pos (by simp only [normal, Pont.landedOn, decide_eq_true on]; rfl))),
      State.modField_still rfl (Pont.react_of_outs rfl fun j lt => ?_)⟩
    exact Pont.vat_modOut_other _ _ (by omega)
  · have high : 2 ≤ q.val % 8 := by simpa [isSwitch] using switch
    refine ⟨_, if_pos switch, State.modField_still ((if_pos running).trans (Pont.cooled_retry cooling left))
      (Pont.react_of_outs rfl fun j lt => ?_)⟩
    exact Pont.vat_modOut_other _ _ (by omega)
  · have high : 2 ≤ q.val % 8 := by simpa [isSwitch] using switch
    refine ⟨_, if_pos switch, State.modField_still ((if_pos running).trans (Pont.cooled_latched cooling none_))
      (Pont.react_of_outs rfl fun j lt => ?_)⟩
    exact Pont.vat_modOut_other _ _ (by omega)
  · exact ⟨_, rfl, State.modSwitch_gives running switch (if_pos (by rw [normal]; rfl))⟩
  · have low : q.val % 8 < 2 := by simpa [isSwitch] using stage
    obtain ⟨only, outs, latch, hot, -⟩ := s.enterLatch_spec (pontOf q) (q.val % 8) true low
    exact ⟨_, (if_neg (by simp [running])).trans (if_neg (by simp [stage])), only, outs, latch, hot rfl⟩
  · exact if_neg (by simp [stage])

/-! ### Hail slots -/

/-- What a hail slot leaves of a pontoon: the counters, the reflexes, the inputs' levels, and the landed value and the hold of every
output. -/
def Pont.hailKept (x y : Pont) : Prop := y.cts = x.cts ∧ y.rx = x.rx ∧ ∀ j : Fin 8,
  y.outs[j].landed = x.outs[j].landed ∧ y.outs[j].held = x.outs[j].held ∧ y.ins[j].raw = x.ins[j].raw

theorem Pont.hailKept_refl (x : Pont) : x.hailKept x := ⟨rfl, rfl, fun _ => ⟨rfl, rfl, rfl⟩⟩

theorem Pont.hailKept_trans {x y z : Pont} (h : x.hailKept y) (h' : y.hailKept z) : x.hailKept z := by
  obtain ⟨cts, rx, outs⟩ := h
  obtain ⟨cts', rx', outs'⟩ := h'
  refine ⟨cts'.trans cts, rx'.trans rx, fun j => ?_⟩
  obtain ⟨landed, held, raw⟩ := outs j
  obtain ⟨landed', held', raw'⟩ := outs' j
  exact ⟨landed'.trans landed, held'.trans held, raw'.trans raw⟩

theorem Pont.modOut_out (x : Pont) (i : Nat) (f : OutSt → OutSt) (j : Fin 8) :
    (x.modOut i f).outs[j] = if i = j.val then f x.outs[j] else x.outs[j] := by
  unfold Pont.modOut vmod
  by_cases lt : i < 8
  · simp only [lt, dif_pos, Fin.getElem_fin, Vector.getElem_set]
    split
    · next here => subst here; rfl
    · rfl
  · simp only [lt, dif_neg, not_false_eq_true]
    rw [if_neg (by omega)]

theorem Pont.hailKept_modOut (x : Pont) (i : Nat) {f : OutSt → OutSt} (landed : ∀ o, (f o).landed = o.landed)
    (held : ∀ o, (f o).held = o.held) : x.hailKept (x.modOut i f) := by
  refine ⟨rfl, rfl, fun j => ?_⟩
  rw [Pont.modOut_out]
  split
  · exact ⟨landed _, held _, rfl⟩
  · exact ⟨rfl, rfl, rfl⟩

theorem Pont.hailJudge_kept (x : Pont) (p m : Nat) (lo hi : List PinV) (i : Nat) : x.hailKept (x.hailJudge p m lo hi i) := by
  have missing (b : Bool) : x.hailKept (x.modOut i (fun o => { o with hailMissing := b })) :=
    x.hailKept_modOut i (fun _ => rfl) (fun _ => rfl)
  have foreign : x.hailKept ((x.modOut i (fun o => { o with hailFrom := m })).rcIn (0x210 + (8 * p + i)) 15 1) :=
    x.hailKept_modOut i (fun _ => rfl) (fun _ => rfl)
  unfold Pont.hailJudge
  extract_lets o n l h
  split
  · split
    · exact x.hailKept_refl
    · split
      · exact missing _
      · split
        · exact missing _
        · exact x.hailKept_refl
  · split
    · exact x.hailKept_refl
    · split
      · exact foreign
      · exact x.hailKept_refl

theorem Pont.hailJudges_kept (p m : Nat) (lo hi : List PinV) :
    ∀ (l : List Nat) (x : Pont), x.hailKept (l.foldl (fun x i => x.hailJudge p m lo hi i) x)
  | [], x => x.hailKept_refl
  | i :: l, x => Pont.hailKept_trans (x.hailJudge_kept p m lo hi i) (Pont.hailJudges_kept p m lo hi l _)

/-- The end of a slot that stood: it is closed, and no pulse is left. -/
theorem Pont.hailSlotEnd_some {x : Pont} {m : Nat} (slot : x.slotOf = some m) (p : Nat) (lo hi : List PinV) (acted : Bool) :
    x.hailKept (x.hailSlotEnd p lo hi acted) ∧ (x.hailSlotEnd p lo hi acted).slotOf = none
      ∧ ∀ j : Fin 8, (x.hailSlotEnd p lo hi acted).outs[j].hailPulse = false := by
  have judged : x.hailKept (if x.dark then x else (List.range 8).foldl (fun x i => x.hailJudge p m lo hi i) x) := by
    split
    · exact x.hailKept_refl
    · exact Pont.hailJudges_kept p m lo hi _ x
  unfold Pont.hailSlotEnd
  rw [slot]
  refine ⟨Pont.hailKept_trans judged ⟨rfl, rfl, fun j => ?_⟩, rfl, fun j => ?_⟩
  · simp
  · simp

/-- Settles O49: a slot notes its owner and its pulse, and leaves the values. -/
theorem hailSlots : Obligations.HailSlots := by
  intro s p v lo hi q
  refine ⟨fun running slot small => ?_, rfl, ?_⟩
  · refine ⟨_, rfl, rfl, ?_⟩
    rw [State.mapPonts_pont]
    have on : (!(s.pont p).running || bf (s.pont p).outRec 32 23 12 = 0
        || decide (32 ≤ (s.pont p).crossing % bf (s.pont p).outRec 32 23 12)) = false := by
      simp [running, slot, small]
    unfold Pont.hailSlot
    extract_lets k owner acts
    rw [if_neg (by rw [Bool.not_eq_true]; exact on)]
    refine ⟨rfl, ⟨rfl, rfl, fun j => by simp⟩, fun j high here enabled level => ?_⟩
    have low : ¬(j.val < 2) := by omega
    simp only [Fin.getElem_fin, Vector.getElem_ofFn, acts]
    simp [here, enabled, level, low, owner, k]
  · refine ⟨_, rfl, rfl, ?_⟩
    rw [State.mapPonts_pont]
    cases slot : (s.pont p).slotOf with
    | none =>
      have same : ∀ b, (s.pont p).hailSlotEnd p lo hi b = s.pont p := fun b => by simp only [Pont.hailSlotEnd, slot]
      rw [same]
      exact ⟨(s.pont p).hailKept_refl, slot, fun h => absurd rfl h, fun _ => rfl⟩
    | some m =>
      obtain ⟨kept, closed, pulses⟩ := Pont.hailSlotEnd_some slot p lo hi (vat (s.pont (pontOf m)).outs (m % 8) {}).hailActed
      exact ⟨kept, closed, fun _ => pulses, fun h => by simp at h⟩

end Sys2Proof.Machine
end

section
/-! PROOFS. Bit vectors of flags; SAFEn and the direct lanes (R375 to R378, R390). -/

namespace Sys2Proof.Machine

/-! ### Bit vectors of flags -/

theorem maskOf_succ (n : Nat) (f : Nat → Bool) : maskOf (n + 1) f = maskOf n f + if f n then 2 ^ n else 0 := by
  simp [maskOf, List.range_succ]

theorem maskOf_lt (f : Nat → Bool) : ∀ n, maskOf n f < 2 ^ n
  | 0 => Nat.one_pos
  | n + 1 => by
    have lt := maskOf_lt f n
    rw [maskOf_succ, Nat.pow_succ]
    split <;> omega

theorem testBit_maskOf (f : Nat → Bool) : ∀ n k, (maskOf n f).testBit k = (decide (k < n) && f k)
  | 0, k => by simp [maskOf]
  | n + 1, k => by
    have ih := testBit_maskOf f n
    have lt := maskOf_lt f n
    rw [maskOf_succ]
    cases top : f n with
    | false =>
      simp only [Bool.false_eq_true, if_false, Nat.add_zero, ih]
      rcases Nat.lt_trichotomy k n with h | h | h
      · simp [h, Nat.lt_succ_of_lt h]
      · simp [h, top]
      · simp [Nat.not_lt.2 h.le, Nat.not_lt.2 (Nat.succ_le_of_lt h)]
    | true =>
      simp only [if_true]
      rw [Nat.add_comm]
      rcases Nat.lt_trichotomy k n with h | h | h
      · rw [Nat.testBit_two_pow_add_gt h, ih]
        simp [h, Nat.lt_succ_of_lt h]
      · subst h
        rw [Nat.testBit_two_pow_add_eq, Nat.testBit_lt_two_pow lt]
        simp [top]
      · have small : 2 ^ n + maskOf n f < 2 ^ k := by
          have := Nat.pow_le_pow_right (n := 2) (by decide) (Nat.succ_le_of_lt h)
          rw [Nat.pow_succ] at this
          omega
        rw [Nat.testBit_lt_two_pow small]
        simp [Nat.not_lt.2 (Nat.succ_le_of_lt h)]

theorem bits8_eq (f : Nat → Bool) : bits8 f = BitVec.ofNat 8 (maskOf 8 f) := rfl

theorem bits8_getLsbD (f : Nat → Bool) {k : Nat} (h : k < 8) : (bits8 f).getLsbD k = f k := by
  rw [bits8_eq, BitVec.getLsbD_ofNat, testBit_maskOf]
  simp [h]

theorem laneBit_getLsbD (l : Nat) (v : Bool) (d : BitVec 2) (k : Nat) (h : k < 2) :
    (laneBit l v d).getLsbD k = if k = l then v else d.getLsbD k := by
  have bit : (BitVec.ofNat 2 (2 ^ l)).getLsbD k = decide (l = k) := by
    rw [BitVec.getLsbD_ofNat, Nat.testBit_two_pow]
    simp [h]
  unfold laneBit
  by_cases here : k = l
  · subst here
    cases v
    · simp only [Bool.false_eq_true, if_false, if_true, BitVec.getLsbD_and, BitVec.getLsbD_not, bit]
      simp
    · simp only [if_true, BitVec.getLsbD_or, bit]
      simp
  · cases v
    · simp only [Bool.false_eq_true, if_false, if_neg here, BitVec.getLsbD_and, BitVec.getLsbD_not, bit]
      simp [h, Ne.symm here]
    · simp only [if_true, if_neg here, BitVec.getLsbD_or, bit]
      simp [Ne.symm here]

theorem oneBit8 (m k : Fin 8) : (BitVec.ofNat 8 (2 ^ m.val)).getLsbD k = decide (m = k) := by
  rw [BitVec.getLsbD_ofNat, Nat.testBit_two_pow]
  simp [Fin.ext_iff]

/-! ### Holds that begin -/

theorem Pont.refreshHolds_out (x : Pont) (p : Nat) (i : Fin 8) :
    (x.refreshHolds p).outs[i].held = x.heldNow p i ∧ (x.refreshHolds p).outs[i].landed = x.outs[i].landed := by
  simp [Pont.refreshHolds]

theorem OutSt.upToSwitch.kept {o o' : OutSt} (h : o'.upToSwitch o) : o'.landed = o.landed ∧ o'.held = o.held := by
  unfold OutSt.upToSwitch at h
  exact ⟨(congrArg OutSt.landed h :), (congrArg OutSt.held h :)⟩

theorem Pont.sameValues_of_frame {x y : Pont} (frame : y = { x with outs := y.outs, pqs := y.pqs, rcInc := y.rcInc })
    (landed : ∀ i : Fin 8, y.outs[i].landed = x.outs[i].landed) : y.sameValues x :=
  ⟨fun i => (landed i).symm, (congrArg Pont.cts frame :).symm, (congrArg Pont.ais frame :).symm, (congrArg Pont.grp frame :).symm,
    (congrArg Pont.setup frame :).symm⟩

/-- A change of a pontoon that makes holds: the outputs' holds are those of what stands after it. -/
theorem State.modField_holds {s : State} {p : Fin 4} {f : Pont → Pont} {x : Pont} (change : f (s.pont p) = x.refreshHolds p) :
    let y := (s.modField p f).pont p
    y = { x with outs := y.outs, pqs := y.pqs, rcInc := y.rcInc }
      ∧ ∀ i : Fin 8, y.outs[i].held = x.heldNow p i ∧ y.outs[i].landed = x.outs[i].landed := by
  obtain ⟨frame, outs, -⟩ := State.modField_frame change
  refine ⟨frame, fun i => ?_⟩
  obtain ⟨held, landed⟩ := x.refreshHolds_out p i
  obtain ⟨landed', held'⟩ := (outs i).kept
  exact ⟨held'.trans held, landed'.trans landed⟩

theorem State.modPont_other (s : State) {p q : Fin 4} (f : Pont → Pont) (h : q ≠ p) : (s.modPont p f).pont q = s.pont q :=
  s.modPont_pont_other p q f h

/-! ### SAFEn and the PERMIT lanes -/

theorem State.raiseEv_frame (s : State) (at_ : Stamp) (e : Ev) :
    s.raiseEv at_ e = { s with helmA := (s.raiseEv at_ e).helmA, helmB := (s.raiseEv at_ e).helmB } := rfl

theorem State.dlPin_level (s : State) (m : Fin 8) (b : Bool) : (s.dlPin m b).lanes.level.getLsbD m = b
    ∧ ∀ k : Fin 8, k ≠ m → (s.dlPin m b).lanes.level.getLsbD k = s.lanes.level.getLsbD k := by
  refine ⟨?_, fun k other => ?_⟩
  · rw [State.dlPin, bits8_getLsbD _ m.isLt, if_pos rfl]
  · rw [State.dlPin, bits8_getLsbD _ k.isLt, if_neg (Fin.val_ne_of_ne other)]

theorem safenLow_running {s : State} {p : Fin 4} (running : (s.pont p).running = true) : ∃ t, exec (.safenLow p) s = .next t
    ∧ t = { s with ponts := s.ponts.set p (t.pont p), lanes := { s.lanes with safenNow := false }, helmA := t.helmA, helmB := t.helmB }
    ∧ Received s t s.now (.safenEdge p false) ∧ (t.pont p).safenLow = true ∧ (t.pont p).safenHold = true
    ∧ (t.pont p).sameValues (s.pont p) ∧ ∀ i : Fin 8, (t.pont p).outs[i].held = true := by
  let u := State.raiseEv { s with lanes := { s.lanes with safenNow := false } } s.now (.safenEdge p false)
  obtain ⟨frame, outs⟩ := State.modField_holds (s := u) (p := p)
    (f := fun x => { x with safenLow := true, safenHold := true }.refreshHolds p) (x := { u.pont p with safenLow := true, safenHold := true }) rfl
  have heard : Received s u s.now (.safenEdge p false) := fun h => State.raiseEv_received _ _ _ h
  refine ⟨_, if_pos running, ?_, heard, congrArg Pont.safenLow frame, congrArg Pont.safenHold frame, (Pont.sameValues_of_frame frame fun i => (outs i).2 :),
    fun i => (outs i).1.trans ?_⟩
  · exact (u.onlyPont_modField p _).trans rfl
  · simp [Pont.heldNow]

theorem dlPermitLow_running {s : State} {m : Fin 8} (running : (s.pont (pontOfLane m)).running = true)
    (permit : ((s.pont (pontOfLane m)).lane (pontOfLane m) (m.val % 2)).1 = 3) :
    ∃ t, exec (.dlPermitLow m) s = .next t ∧ t.lanes.level.getLsbD m = false
        ∧ (t.pont (pontOfLane m)).permitHold.getLsbD (m.val % 2) = true
        ∧ (t.pont (pontOfLane m)).sameValues (s.pont (pontOfLane m))
        ∧ (∀ q, q ≠ pontOfLane m → t.pont q = s.pont q)
        ∧ ∀ i : Fin 8, ((s.pont (pontOfLane m)).lane (pontOfLane m) (m.val % 2)).2 = i.val →
            (t.pont (pontOfLane m)).outs[i].held = true := by
  obtain ⟨x, at_⟩ : ∃ x, s.pont (pontOfLane m) = x := ⟨_, rfl⟩
  rw [at_] at running permit
  have lane : m.val % 2 < 2 := Nat.mod_lt _ (by decide)
  obtain ⟨frame, outs⟩ := State.modField_holds (s := s.dlPin m false) (p := pontOfLane m)
    (f := fun x => x.permitDown (pontOfLane m) (m.val % 2)) (x := { x with
      permitLow := laneBit (m.val % 2) true x.permitLow, permitHold := laneBit (m.val % 2) true x.permitHold })
    ((congrArg (Pont.permitDown · (pontOfLane m) (m.val % 2)) at_).trans (if_pos (by simp [running, permit])))
  rw [at_]
  refine ⟨_, rfl, (s.dlPin_level m false).1, ?_, (Pont.sameValues_of_frame frame fun i => (outs i).2 :),
    fun q other => State.modPont_other _ _ other, fun i target => (outs i).1.trans ?_⟩
  · rw [congrArg Pont.permitHold frame]
    exact (laneBit_getLsbD _ _ _ _ lane).trans (if_pos rfl)
  · have holds : Pont.permitHolds { x with
        permitLow := laneBit (m.val % 2) true x.permitLow, permitHold := laneBit (m.val % 2) true x.permitHold } (pontOfLane m) i = true := by
      refine List.any_eq_true.2 ⟨m.val % 2, List.mem_range.2 lane, ?_⟩
      rw [laneBit_getLsbD _ _ _ _ lane, if_pos rfl]
      simp only [Bool.true_and, Bool.and_eq_true, beq_iff_eq]
      exact ⟨permit, target⟩
    simp [Pont.heldNow, holds]

/-! ### DRIVE and MIRROR lanes -/

theorem Pont.sameValues_refl (x : Pont) : x.sameValues x := ⟨fun _ => rfl, rfl, rfl, rfl, rfl⟩

theorem pontOfLane_half (m : Fin 8) : m.val / 2 = (pontOfLane m).val := by
  simp only [pontOfLane]
  omega

theorem State.refreshMirror_frame (s : State) (p : Fin 4) :
    s.refreshMirror p = { s with lanes := { s.lanes with mirror := (s.refreshMirror p).lanes.mirror } } := rfl

/-- A mirror pin follows its input, and is low while its lane is lost (R377, R378). -/
theorem State.refreshMirror_lane (s : State) (m : Fin 8) : (s.refreshMirror (pontOfLane m)).lanes.mirror.getLsbD m
    = ((s.pont (pontOfLane m)).mirrorLevel (pontOfLane m) (m.val % 2) && !s.lanes.lost.getLsbD m) := by
  rw [State.refreshMirror, bits8_getLsbD _ m.isLt, if_pos (pontOfLane_half m)]

/-- Settles O25: holds begin where the pontoon sees the edge, and a lane's level stands at its pontoon. -/
theorem safenAndLanes : Obligations.SafenAndLanes := by
  refine ⟨fun s => ⟨fun p running => safenLow_running running, fun p stopped => ⟨_, if_neg ?_, rfl, fun h => State.raiseEv_received _ _ _ h⟩,
    fun m running permit => dlPermitLow_running running permit⟩, fun s m b => ?_⟩
  on_goal 2 =>
    intro p wake
    refine ⟨?_, ?_, ?_, fun vddio moored none_ sel => ?_, fun off => ?_⟩
  · rw [Bool.not_eq_true]
    exact stopped
  · obtain ⟨level, others⟩ := s.dlPin_level m b
    by_cases drives : (s.pont p).running = true ∧ ((s.pont p).lane p (m.val % 2)).1 = 2
    · have lane : m.val % 2 < 2 := Nat.mod_lt _ (by decide)
      obtain ⟨frame, outs, -⟩ := State.modField_frame (s := s.dlPin m b) (p := p)
        (f := fun x => { x with drive := laneBit (m.val % 2) (b && s.rst.vddio) x.drive }) rfl
      refine ⟨_, if_pos (by rw [Bool.and_eq_true, beq_iff_eq]; exact drives), ?_, level, others, ?_, (congrArg Pont.ins frame :), fun _ _ => ?_⟩
      · exact ((s.dlPin m b).onlyPont_modField p _).trans rfl
      · exact (Pont.sameValues_of_frame frame fun i => (outs i).kept.1 :)
      · have drive := (congrArg Pont.drive frame :)
        refine (congrArg (BitVec.getLsbD · (m.val % 2)) drive).trans ?_
        exact (laneBit_getLsbD _ _ _ _ lane).trans (if_pos rfl)
    · refine ⟨_, if_neg (by rw [Bool.and_eq_true, beq_iff_eq]; exact drives), ?_, level, others, Pont.sameValues_refl _, rfl, fun run drive => absurd ⟨run, drive⟩ drives⟩
      exact ((s.dlPin m b).onlyPont_refl p).trans rfl
  · refine ⟨_, rfl, rfl, ?_, ?_⟩
    · rw [State.refreshMirror_lane, BitVec.getLsbD_or, oneBit8]
      simp
    · show (s.lanes.lost ||| BitVec.ofNat 8 (2 ^ m.val)).getLsbD m = true
      rw [BitVec.getLsbD_or, oneBit8]
      simp
  · have back : (s.lanes.lost &&& ~~~BitVec.ofNat 8 (2 ^ m.val)).getLsbD m = false := by
      rw [BitVec.getLsbD_and, BitVec.getLsbD_not, oneBit8]
      simp
    refine ⟨_, rfl, rfl, back, ?_⟩
    rw [State.refreshMirror_lane, back]
    simp
    rfl
  · rw [← State.wakeBy_first 4 moored none_]
    exact if_pos (by rw [vddio, Bool.true_and]; exact sel)
  · refine if_neg fun on => ?_
    rw [Bool.and_eq_true] at on
    rcases off with h | h
    · simp [h] at on
    · exact absurd (h.symm.trans on.2) (by decide)

end Sys2Proof.Machine
end

section
/-! PROOFS. The proportional stages: a PWM period and a trip (R283, R289 to R291, R295, R297). -/

namespace Sys2Proof.Machine

/-! ### One step of the loop -/

theorem clampI_range {lo hi : Int} (v : Int) (le : lo ≤ hi) : lo ≤ clampI lo hi v ∧ clampI lo hi v ≤ hi := by
  unfold clampI
  split
  · exact ⟨Int.le_refl lo, le⟩
  · split <;> omega

theorem dmaxOf_nonneg (div : Nat) : 0 ≤ dmaxOf div := by
  unfold dmaxOf
  split
  · exact Int.le_refl 0
  · exact Int.natCast_nonneg _

/-- A duty between 0 and DMAX, and an on-time within the period (R283). -/
def PqSt.within (q : PqSt) (div : Nat) : Prop := 0 ≤ q.duty ∧ q.duty ≤ dmaxOf div * 65536 ∧ q.onTime ≤ div - 20

theorem PqSt.within_zero {q : PqSt} {div : Nat} (duty : q.duty = 0) (onTime : q.onTime = 0) : q.within div := by
  have dmax := dmaxOf_nonneg div
  refine ⟨?_, ?_, ?_⟩ <;> omega

/-- Both switches open, the integrator at 0. -/
def PqSt.opened (q : PqSt) : Prop := q.duty = 0 ∧ q.g = 0 ∧ q.bothOpen = true

theorem Pont.vat_put (x : Pont) {j : Nat} (lt : j < 2) (q : PqSt) : vat ({ x with pqs := vset x.pqs j q } : Pont).pqs j {} = q :=
  vat_vset x.pqs q {} lt

theorem Pont.fastDecay_within (x : Pont) (p : Nat) {j : Nat} (lt : j < 2) (q : PqSt) :
    (vat (x.fastDecay p j q).pqs j {}).within (x.pwmDiv p j) := by
  have put : vat (x.fastDecay p j q).pqs j {} = { q with duty := 0, onTime := 0, bothOpen := true, fdNow := true, anyFd := true } := by
    rw [← x.vat_put lt { q with duty := 0, onTime := 0, bothOpen := true, fdNow := true, anyFd := true }]
    unfold Pont.fastDecay
    split <;> rfl
  rw [put]
  exact PqSt.within_zero rfl rfl

theorem Pont.regulate_within (x : Pont) (p : Nat) {j : Nat} (lt : j < 2) (q : PqSt) (r i : Int) (v : Nat) :
    (vat (x.regulate p j q r i v).pqs j {}).within (x.pwmDiv p j) := by
  unfold Pont.regulate
  extract_lets dmax e base u hold g d
  rw [x.vat_put lt]
  have range := clampI_range (base + g) (Int.mul_nonneg (dmaxOf_nonneg (x.pwmDiv p j)) (by decide : (0 : Int) ≤ 65536))
  exact ⟨range.1, range.2, Nat.min_le_left _ _⟩

/-- A step of the loop of a stage that no slot freezes. -/
theorem Pont.loopStep_spec (x : Pont) (p : Nat) {j : Nat} (lt : j < 2) (i : Int) (v : Nat) (free : (vat x.pqs j {}).frozen = false) :
    (vat (x.loopStep p j i v).pqs j {}).within (x.pwmDiv p j)
      ∧ (x.reference p j = none → (vat (x.loopStep p j i v).pqs j {}).opened) := by
  unfold Pont.loopStep
  split
  · next none_ =>
    rw [x.vat_put lt]
    exact ⟨PqSt.within_zero rfl rfl, fun _ => ⟨rfl, rfl, rfl⟩⟩
  · next r0 some_ =>
    refine ⟨?_, fun none_ => by simp [some_] at none_⟩
    extract_lets q put q' r th enter q'' q'''
    rw [if_neg (by rw [Bool.not_eq_true]; exact free)]
    split
    · split
      · exact x.fastDecay_within p lt _
      · rw [x.vat_put lt]
        exact PqSt.within_zero rfl rfl
    · split
      · exact x.fastDecay_within p lt _
      · exact x.regulate_within p lt _ _ _ _

/-- Decided by level 1 or 3, or latched, a stage has no reference (R289). -/
theorem Pont.reference_none {x : Pont} {p j : Nat} (lt : j < 2) (blocked : x.level j = 1 ∨ x.level j = 3 ∨ (vat x.pqs j {}).latch = true) :
    x.reference p j = none := by
  have level : x.level j = 1 ∨ x.level j = 3 ∨ (x.level j = 2 ∧ (vat x.pqs j {}).latch = true) := by
    rcases blocked with h | h | latch
    · exact .inl h
    · exact .inr (.inl h)
    · have low : x.level23 j = true := by
        unfold Pont.level23
        rw [latch, decide_eq_true lt]
        simp
      have decided : x.level j = if x.dark then 1 else if (vat x.outs j {}).shed || (vat x.outs j {}).queued then 2 else 3 := by
        simp only [Pont.level, low, if_true]
      rw [decided]
      split
      · exact .inl rfl
      · split
        · exact .inr (.inr ⟨rfl, latch⟩)
        · exact .inr (.inl rfl)
  unfold Pont.reference
  rcases level with h | h | ⟨h, latch⟩
  · simp only [h]
  · simp only [h]
  · simp only [h, latch, if_true]

/-! ### A PWM period -/

theorem PqSt.account_kept (q : PqSt) (dmax i : Int) (v : Nat) : (q.account dmax i v).kept = q.kept := by
  unfold PqSt.account
  split <;> rfl

/-- A stage before its step of the loop: the period just ended is accounted. -/
def Pont.accounted (x : Pont) (p j : Nat) (i : Int) (v : Nat) : Pont :=
  { x with pqs := vmod x.pqs j (fun q => q.account (dmaxOf (x.pwmDiv p j)) i v) }

theorem Pont.pwmPeriod_eq (x : Pont) (p j : Nat) (iRaw : Int) (v : Nat) :
    let y := (x.accounted p j (x.pqCal p j iRaw) v).loopStep p j (x.pqCal p j iRaw) v
    x.pwmPeriod p j iRaw v = { y with pqs := vmod y.pqs j (fun q => { q with
      phase := q.phase + BitVec.ofNat 24 (y.ditherInc p j), elapsed := q.elapsed + y.pwmDiv p j }) } := rfl

theorem Pont.accounted_level (x : Pont) (p : Nat) {j : Nat} (lt : j < 2) (i : Int) (v : Nat) :
    (x.accounted p j i v).level j = x.level j ∧ (vat (x.accounted p j i v).pqs j {}).kept = (vat x.pqs j {}).kept := by
  have same : vat (x.accounted p j i v).pqs j {} = (vat x.pqs j {}).account (dmaxOf (x.pwmDiv p j)) i v := vat_vmod x.pqs _ {} lt
  have kept : (vat (x.accounted p j i v).pqs j {}).kept = (vat x.pqs j {}).kept := by rw [same, PqSt.account_kept]
  have latch : (vat (x.accounted p j i v).pqs j {}).latch = (vat x.pqs j {}).latch := congrArg Prod.fst kept
  refine ⟨?_, kept⟩
  simp only [Pont.level, Pont.level23, latch]
  rfl

/-- One period of a stage that no slot freezes. -/
theorem Pont.pwmPeriod_spec (x : Pont) (p : Nat) {j : Nat} (lt : j < 2) (iRaw : Int) (v : Nat) (free : (vat x.pqs j {}).frozen = false) :
    let y := x.pwmPeriod p j iRaw v
    let r := vat y.pqs j {}
    y = { x with pqs := y.pqs, rcInc := y.rcInc } ∧ r.phase = (vat x.pqs j {}).phase + BitVec.ofNat 24 (x.ditherInc p j)
      ∧ (x.level j = 1 ∨ x.level j = 3 ∨ (vat x.pqs j {}).latch = true → r.opened) ∧ r.within (x.pwmDiv p j) := by
  rw [Pont.pwmPeriod_eq]
  obtain ⟨level, kept⟩ := x.accounted_level p lt (x.pqCal p j iRaw) v
  simp only [PqSt.kept, Prod.mk.injEq] at kept
  obtain ⟨latch, -, -, -, frozen, phase⟩ := kept
  obtain ⟨within, opened⟩ := (x.accounted p j (x.pqCal p j iRaw) v).loopStep_spec p lt (x.pqCal p j iRaw) v (frozen.trans free)
  obtain ⟨frame, keptStep, -⟩ := Pont.Stages.loopStep (x := x.accounted p j (x.pqCal p j iRaw) v) p j (x.pqCal p j iRaw) v
  have phaseStep := congrArg (·.2.2.2.2.2) (keptStep j)
  have reference := Pont.reference_none (x := x.accounted p j (x.pqCal p j iRaw) v) (p := p) lt
  rw [level, latch] at reference
  generalize (x.accounted p j (x.pqCal p j iRaw) v).loopStep p j (x.pqCal p j iRaw) v = y at within opened frame phaseStep
  have dither : y.ditherInc p j = x.ditherInc p j := by
    rw [frame]
    rfl
  refine ⟨?_, ?_, fun h => ?_, ?_⟩
  · rw [frame]
    rfl
  · refine (congrArg PqSt.phase (vat_vmod y.pqs _ {} lt)).trans ?_
    show _ + BitVec.ofNat 24 (y.ditherInc p j) = _
    rw [dither, ← phase]
    exact congrArg (· + _) phaseStep
  · rw [vat_vmod y.pqs _ {} lt]
    exact opened (reference h)
  · rw [vat_vmod y.pqs _ {} lt]
    exact within

/-! ### A trip -/

theorem Pont.outFault_dark (x : Pont) (q : Nat) (old now : Word) (news always : Nat) :
    (x.outFault q old now news always).dark = x.dark := by
  simp only [Pont.outFault]
  split <;> rfl

theorem Pont.enterLatch_dark (x : Pont) (p j : Nat) (thermal : Bool) : (x.enterLatch p j thermal).dark = x.dark := by
  rw [Pont.enterLatch, Pont.outFault_dark]
  cases thermal <;> rfl

/-- A stage that enters the PQ latch leaves its pontoon as dark as it was. -/
theorem State.enterLatch_shade (s : State) (p : Fin 4) (j : Nat) (thermal : Bool) :
    ((s.modField p (fun x => x.enterLatch p j thermal)).pont p).dark = (s.pont p).dark := by
  obtain ⟨x, change⟩ : ∃ x, (s.pont p).enterLatch p j thermal = x := ⟨_, rfl⟩
  obtain ⟨frame, -⟩ := State.modField_frame (s := s) (p := p) (f := fun x => x.enterLatch p j thermal) change
  rw [← Pont.enterLatch_dark (s.pont p) p j thermal, change]
  generalize (s.modField p (fun x => x.enterLatch p j thermal)).pont p = y at frame
  rw [frame]
  rfl

/-- Shedding does not depend on the note of a switch. -/
theorem vat_upToSwitch {v w : Vector OutSt 8} (same : ∀ i : Fin 8, v[i].upToSwitch w[i]) (j : Nat) :
    (vat v j {}).shed = (vat w j {}).shed ∧ (vat v j {}).queued = (vat w j {}).queued := by
  by_cases lt : j < 8
  · have switch := same ⟨j, lt⟩
    rw [vat_lt v _ lt, vat_lt w _ lt]
    exact ⟨(congrArg OutSt.shed switch :), (congrArg OutSt.queued switch :)⟩
  · rw [vat_ge v _ (Nat.not_lt.1 lt), vat_ge w _ (Nat.not_lt.1 lt)]
    exact ⟨rfl, rfl⟩

/-- A latched stage that nothing above decides is decided by level 3, with the value 0 (R247, R295). -/
theorem Pont.latched_level {x : Pont} {p j : Nat} (lt : j < 2) (light : x.dark = false) (shed : (vat x.outs j {}).shed = false)
    (queued : (vat x.outs j {}).queued = false) (latch : (vat x.pqs j {}).latch = true) : x.level j = 3 ∧ x.value p j = 0 := by
  have level : x.level j = 3 := by
    have low : x.level23 j = true := by
      unfold Pont.level23
      rw [latch, decide_eq_true lt]
      simp
    simp only [Pont.level, light, shed, queued, low]
    rfl
  exact ⟨level, by simp only [Pont.value, level]⟩

/-- Settles O26: the step of the loop keeps the duty within its limits; a trip latches the stage. -/
theorem proportionalStages : Obligations.ProportionalStages := by
  refine ⟨fun s n i v => ?_, fun s n thermal => ?_⟩
  · intro p j x q
    have lt : j < 2 := Nat.mod_lt _ (by decide)
    refine ⟨fun running locked begun free => ?_, fun not_ => if_neg ?_⟩
    · obtain ⟨frame, phase, opened, within⟩ := x.pwmPeriod_spec p lt i v free
      refine ⟨_, if_pos ?_, s.onlyPont_modPont p _, ?_⟩
      · show (x.running && (x.regLocked && !x.gridDue) && !q.frozen) = true
        rw [running, locked, begun, free]
        rfl
      · rw [State.modPont_pont]
        exact ⟨frame, phase, opened, within⟩
    · show ¬(x.running && (x.regLocked && !x.gridDue) && !q.frozen) = true
      rcases not_ with h | h | h | h <;> simp [h]
  · intro p j x
    have lt : j < 2 := Nat.mod_lt _ (by decide)
    refine ⟨fun running => ?_, fun stopped => if_pos (by rw [stopped]; rfl)⟩
    obtain ⟨only, outs, latch, hot, trip⟩ := s.enterLatch_spec p j thermal lt
    refine ⟨_, if_neg (by rw [running]; decide), only, outs, latch, fun h => (hot h).1, trip, fun light shed queued => ?_⟩
    have dark := (s.enterLatch_shade p j thermal).trans light
    exact Pont.latched_level lt dark ((vat_upToSwitch outs j).1.trans shed) ((vat_upToSwitch outs j).2.trans queued) latch

end Sys2Proof.Machine
end

section
/-! PROOFS. The prefilter of the inputs and what a new level does (R221, R228, R233 to R238, R264). -/

namespace Sys2Proof.Machine

/-! ### What samples may change -/

/-- Pontoon y differs from x in what samples at inputs touch only: the inputs of the pair of k, the reflexes, holds of outputs, the wake
buffer, the counters and counts. -/
structure Pont.Sampled (k : Nat) (x y : Pont) : Prop where
  frame : y = { x with ins := y.ins, rx := y.rx, outs := y.outs, wake := y.wake, cts := y.cts, rcInc := y.rcInc }
  landed : ∀ i : Fin 8, y.outs[i].landed = x.outs[i].landed
  others : ∀ j, j ≠ k → j ≠ k + 1 → vat y.ins j {} = vat x.ins j {}
  counters : 4 ≤ k ∨ x.running = false ∨ x.dark = true → y.cts = x.cts

namespace Pont.Sampled

variable {k : Nat} {x y z : Pont}

theorem refl : Sampled k x x := ⟨rfl, fun _ => rfl, fun _ _ _ => rfl, fun _ => rfl⟩

theorem trans (h : Sampled k x y) (h' : Sampled k y z) : Sampled k x z := by
  have running : y.running = x.running := (congrArg Pont.running h.frame :)
  have dark : y.dark = x.dark := (congrArg Pont.dark h.frame :)
  refine ⟨?_, fun i => (h'.landed i).trans (h.landed i), fun j e e' => (h'.others j e e').trans (h.others j e e'), fun c => ?_⟩
  · refine h'.frame.trans ?_
    rw [h.frame]
  · rw [h'.counters (by rwa [running, dark]), h.counters c]

theorem inRec (h : Sampled k x y) : y.inRec = x.inRec := (congrArg Pont.inRec h.frame :)

theorem running (h : Sampled k x y) : y.running = x.running := (congrArg Pont.running h.frame :)

theorem dark (h : Sampled k x y) : y.dark = x.dark := (congrArg Pont.dark h.frame :)

theorem rxWord (h : Sampled k x y) (p j : Nat) : y.rxWord p j = x.rxWord p j := (congrArg (Pont.rxWord · p j) h.frame :)

end Pont.Sampled

/-! ### The reflexes judged -/

/-- A pontoon whose reflex pairs are judged by the levels as they stand (R264). -/
def Pont.Judged (x : Pont) (p : Nat) : Prop := x.running = true → ∀ j : Fin 4, x.rxCond p j = true → x.rx[j].trig = true
  ∧ ∀ k : Fin 8, (x.rxWord p j).getLsbD (10 + k.val) = true → x.outs[k].held = true

/-- The bit of an output in the targets of a reflex pair (R275). -/
theorem targetBit (w : Word) (k : Fin 8) (h : w.getLsbD (10 + k.val) = true) : (BitVec.ofNat 8 (fld w 17 10)).getLsbD k = true := by
  rw [BitVec.getLsbD_ofNat, fld, Nat.testBit_mod_two_pow, Nat.testBit_shiftRight]
  simp only [k.isLt, decide_true, Bool.true_and]
  exact h

theorem vat_fin {α : Type} {n : Nat} (v : Vector α n) (i : Fin n) (d : α) : vat v i d = v[i] := vat_lt v d i.isLt

theorem Pont.judgeRx_frame (x : Pont) (p j : Nat) : x.judgeRx p j = { x with rx := (x.judgeRx p j).rx } := by
  unfold Pont.judgeRx
  split <;> rfl

theorem Pont.judgeRx_other (x : Pont) (p : Nat) {i j : Nat} (other : i ≠ j) : vat (x.judgeRx p j).rx i {} = vat x.rx i {} := by
  unfold Pont.judgeRx
  split <;> exact vat_vmod_other _ _ _ other

/-- A pair whose condition holds is triggered, and holds its targets (R264). -/
theorem Pont.judgeRx_on {x : Pont} {p : Nat} (j : Fin 4) (on : x.rxCond p j = true) : (vat (x.judgeRx p j).rx j {}).trig = true
    ∧ ∀ k : Fin 8, (x.rxWord p j).getLsbD (10 + k.val) = true → (vat (x.judgeRx p j).rx j {}).hold.getLsbD k = true := by
  have pair : vat (x.judgeRx p j).rx j {} = { vat x.rx j {} with
      trig := true, since := true, calm := false
      hold := (vat x.rx j {}).hold ||| BitVec.ofNat 8 (fld (x.rxWord p j) 17 10) } := by
    unfold Pont.judgeRx
    rw [if_pos on]
    exact vat_vmod _ _ _ j.isLt
  rw [pair]
  refine ⟨rfl, fun k target => ?_⟩
  rw [BitVec.getLsbD_or, targetBit _ k target, Bool.or_true]

/-- A triggered pair's hold is a hold of the output at level 4 (R247). -/
theorem Pont.heldNow_of_rx {x : Pont} {p : Nat} {i : Nat} (j : Fin 4) (hold : (vat x.rx j {}).hold.getLsbD i = true) :
    x.heldNow p i = true := by
  have any : x.rx.toList.any (fun r => r.hold.getLsbD i) = true := by
    rw [List.any_eq_true]
    refine ⟨x.rx[j], by simp, ?_⟩
    rwa [vat_fin] at hold
  simp [Pont.heldNow, any]

theorem Pont.judgeAll_frame (p : Nat) : ∀ (l : List Nat) (x : Pont), ∃ r, l.foldl (fun x j => x.judgeRx p j) x = { x with rx := r }
  | [], x => ⟨x.rx, rfl⟩
  | j :: l, x => by
    obtain ⟨r, frame⟩ := Pont.judgeAll_frame p l (x.judgeRx p j)
    exact ⟨r, frame.trans (by rw [x.judgeRx_frame p j])⟩

/-- The fold over the pairs: each is judged, and left by the others. -/
theorem Pont.judgeAll_pair (p : Nat) (j : Fin 4) : ∀ (l : List Nat) (x : Pont), l.Nodup → x.rxCond p j = true →
    let y := l.foldl (fun x j => x.judgeRx p j) x
    (j.val ∈ l → (vat y.rx j {}).trig = true
      ∧ ∀ k : Fin 8, (x.rxWord p j).getLsbD (10 + k.val) = true → (vat y.rx j {}).hold.getLsbD k = true)
    ∧ (j.val ∉ l → vat y.rx j {} = vat x.rx j {})
  | [], x, _, _ => ⟨fun mem => absurd mem (List.not_mem_nil), fun _ => rfl⟩
  | i :: l, x, distinct, on => by
    obtain ⟨fresh, rest⟩ := List.nodup_cons.1 distinct
    have first := x.judgeRx_frame p i
    have on' : (x.judgeRx p i).rxCond p j = true := (congrArg (Pont.rxCond · p j) first).trans on
    have word : (x.judgeRx p i).rxWord p j = x.rxWord p j := (congrArg (Pont.rxWord · p j) first :)
    obtain ⟨judged, left⟩ := Pont.judgeAll_pair p j l (x.judgeRx p i) rest on'
    refine ⟨fun mem => ?_, fun out => ?_⟩
    · by_cases here : i = j.val
      · subst here
        obtain ⟨trig, hold⟩ := Pont.judgeRx_on j on
        rw [List.foldl_cons, left fresh]
        exact ⟨trig, hold⟩
      · obtain ⟨trig, hold⟩ := judged ((List.mem_cons.1 mem).resolve_left (Ne.symm here))
        rw [word] at hold
        exact ⟨trig, hold⟩
    · rw [List.mem_cons, not_or] at out
      rw [List.foldl_cons, left out.2, Pont.judgeRx_other x p out.1]

/-- All four pairs judged by the levels as they stand. -/
theorem Pont.judgeAllRx_judged (x : Pont) (p : Nat) : (x.judgeAllRx p).Judged p := by
  intro _ j on
  obtain ⟨r, frame⟩ := Pont.judgeAll_frame p (List.range 4) x
  have all : x.judgeAllRx p = ({ x with rx := r } : Pont).refreshHolds p := congrArg (Pont.refreshHolds · p) frame
  rw [all] at on ⊢
  have before : x.rxCond p j = true := on
  obtain ⟨judged, -⟩ := Pont.judgeAll_pair p j (List.range 4) x List.nodup_range before
  rw [frame] at judged
  obtain ⟨trig, hold⟩ := judged (List.mem_range.2 j.isLt)
  refine ⟨?_, fun k target => ?_⟩
  · rwa [vat_fin] at trig
  · rw [(Pont.refreshHolds_out _ p k).1]
    exact Pont.heldNow_of_rx j (hold k target)

/-- Judging all pairs changes the reflexes and the holds. -/
theorem Pont.judgeAllRx_sampled (x : Pont) (p k : Nat) : x.Sampled k (x.judgeAllRx p) ∧ (x.judgeAllRx p).ins = x.ins
    ∧ (x.judgeAllRx p).cts = x.cts ∧ (x.judgeAllRx p).rcInc = x.rcInc := by
  obtain ⟨r, frame⟩ := Pont.judgeAll_frame p (List.range 4) x
  have all : x.judgeAllRx p = ({ x with rx := r } : Pont).refreshHolds p := congrArg (Pont.refreshHolds · p) frame
  rw [all]
  exact ⟨⟨rfl, fun i => (Pont.refreshHolds_out _ p i).2, fun _ _ _ => rfl, fun _ => rfl⟩, rfl, rfl, rfl⟩

/-! ### A new level at an input -/

/-- The level, the comparator and its run at an input: what the prefilter works on (R228). -/
def DiSt.pre (d : DiSt) : Bool × Bool × Nat := (d.raw, d.cmp, d.cmpRun)

/-- A level taken at input i: stage 4 and the reflexes take it, and nothing is counted. -/
theorem Pont.setLevel_spec (x : Pont) (p : Nat) {i k : Nat} (level : Bool) (lt : i < 8) (pair : i = k ∨ i = k + 1) :
    let y := x.setLevel p i level
    x.Sampled k y ∧ (vat y.ins i {}).pre = (level, (vat x.ins i {}).pre.2) ∧ (∀ j, j ≠ i → vat y.ins j {} = vat x.ins j {})
      ∧ y.cts = x.cts ∧ y.rcInc = x.rcInc ∧ y.Judged p := by
  unfold Pont.setLevel
  extract_lets code u y
  have own : (vat u.ins i {}).pre = (level, (vat x.ins i {}).pre.2) := congrArg DiSt.pre (vat_vmod x.ins _ {} lt)
  have others (j : Nat) (other : j ≠ i) : vat u.ins j {} = vat x.ins j {} := vat_vmod_other _ _ _ other
  have step : x.Sampled k u := ⟨rfl, fun _ => rfl, fun j e e' => others j (by rcases pair with h | h <;> rw [h] <;> assumption), fun _ => rfl⟩
  by_cases stopped : (!x.running) = true
  · rw [show y = u from if_pos stopped]
    exact ⟨step, own, others, rfl, rfl, fun run => by rw [run] at stopped; simp at stopped⟩
  · rw [show y = _ from if_neg stopped]
    obtain ⟨judged, ins, cts, counts⟩ := Pont.judgeAllRx_sampled { u with wake := u.wake.digital i (u.stage4 p i) } p k
    have taken : x.Sampled k { u with wake := u.wake.digital i (u.stage4 p i) } :=
      step.trans ⟨rfl, fun _ => rfl, fun _ _ _ => rfl, fun _ => rfl⟩
    refine ⟨taken.trans judged, ?_, fun j other => ?_, cts, counts, Pont.judgeAllRx_judged _ p⟩
    · rw [ins]
      exact own
    · rw [ins]
      exact others j other

/-- An edge counted changes the counters and counts only; none of a pair of class S inputs, and none while dark. -/
theorem Pont.countEdge_frame (x : Pont) (p i : Nat) (rising : Bool) :
    x.countEdge p i rising = { x with cts := (x.countEdge p i rising).cts, rcInc := (x.countEdge p i rising).rcInc }
      ∧ (4 ≤ i ∨ x.running = false ∨ x.dark = true → x.countEdge p i rising = x) := by
  refine ⟨?_, fun none_ => if_pos (by rcases none_ with h | h | h <;> simp [h])⟩
  unfold Pont.countEdge
  split
  · rfl
  · split
    · rfl
    · extract_lets w r y
      split <;> rfl

theorem Pont.countEdge_sampled (x : Pont) (p : Nat) {i k : Nat} (rising : Bool) (pair : i = k ∨ i = k + 1) :
    x.Sampled k (x.countEdge p i rising) := by
  obtain ⟨frame, none_⟩ := x.countEdge_frame p i rising
  have outs : (x.countEdge p i rising).outs = x.outs := Pont.countEdge_outs ..
  refine ⟨?_, fun j => by rw [outs], fun j _ _ => ?_, fun c => ?_⟩
  · rw [frame]
  · rw [frame]
  · rw [none_ (c.imp_left fun h => by omega)]

theorem Pont.Judged.of_eq {x y : Pont} {p : Nat} (h : x.Judged p) (frame : y = { x with cts := y.cts, rcInc := y.rcInc }) : y.Judged p := by
  rw [frame]
  exact h

/-- A level that the prefilter accepts at input i. -/
theorem Pont.newLevel_spec (x : Pont) (p : Nat) {i k : Nat} (level : Bool) (lt : i < 8) (pair : i = k ∨ i = k + 1) :
    let y := x.newLevel p i level
    x.Sampled k y ∧ (vat y.ins i {}).pre = (level, (vat x.ins i {}).pre.2) ∧ (∀ j, j ≠ i → vat y.ins j {} = vat x.ins j {})
      ∧ (level ≠ (vat x.ins i {}).raw → y.Judged p) := by
  unfold Pont.newLevel
  split
  · next same => exact ⟨.refl, by rw [same]; rfl, fun _ _ => rfl, fun h => absurd same h⟩
  · obtain ⟨step, own, others, -, -, judged⟩ := x.setLevel_spec p level lt pair
    obtain ⟨frame, -⟩ := (x.setLevel p i level).countEdge_frame p i level
    have ins := (congrArg Pont.ins frame :)
    refine ⟨step.trans (Pont.countEdge_sampled _ p level pair), ?_, fun j other => ?_, fun _ => judged.of_eq frame⟩
    · rw [ins]
      exact own
    · rw [ins]
      exact others j other

/-- Both levels of a quadrature counter accepted with one sample: an error is counted, and no edge (R234). -/
theorem Pont.quadErr_spec (x : Pont) (p : Nat) {k : Nat} (a b : Bool) (lt : k + 1 < 8) :
    let y := x.quadErr p k a b
    x.Sampled k y ∧ (vat y.ins k {}).pre = (a, (vat x.ins k {}).pre.2) ∧ (vat y.ins (k + 1) {}).pre = (b, (vat x.ins (k + 1) {}).pre.2)
      ∧ y.Judged p ∧ y.cts = x.cts
      ∧ (x.running = true → x.dark = false → (⟨⟨0x130 + 4 * p + k, 8⟩, 1⟩ : RcInc) ∈ y.rcInc) := by
  obtain ⟨stepA, ownA, othersA, ctsA, -, -⟩ := x.setLevel_spec p (i := k) (k := k) a (by omega) (.inl rfl)
  obtain ⟨stepB, ownB, othersB, ctsB, -, judged⟩ := (x.setLevel p k a).setLevel_spec p (i := k + 1) (k := k) b lt (.inr rfl)
  have first := othersB k (by omega)
  have second := othersA (k + 1) (by omega)
  rw [second] at ownB
  rw [← first] at ownA
  unfold Pont.quadErr
  extract_lets y z
  have step : x.Sampled k y := stepA.trans stepB
  by_cases on : (x.running && !x.dark) = true
  · rw [show z = _ from if_pos on]
    exact ⟨step.trans ⟨rfl, fun _ => rfl, fun _ _ _ => rfl, fun _ => rfl⟩, ownA, ownB, judged.of_eq rfl, ctsB.trans ctsA,
      fun _ _ => List.mem_append_right _ (List.mem_singleton.2 rfl)⟩
  · rw [show z = y from if_neg on]
    exact ⟨step, ownA, ownB, judged, ctsB.trans ctsA, fun run light => absurd (by simp [run, light]) on⟩

end Sys2Proof.Machine
end

section
/-! PROOFS. Samples of a pair of inputs through their prefilters (R221, R228, R234). -/

namespace Sys2Proof.Machine

/-! ### The prefilter of one input -/

/-- PREFILTER_N of input i. -/
def Pont.preN (x : Pont) (p i : Nat) : Nat := prefilterN (bf x.inRec (8 * p + i) 19 17)

theorem prefilterN_range (code : Nat) : 1 ≤ prefilterN code ∧ prefilterN code ≤ 1024 := by
  unfold prefilterN
  split <;> decide

/-- How many consecutive samples show this level, the present one counted. -/
def preRun (d : Bool × Bool × Nat) (level : Bool) : Nat := if level = d.2.1 then d.2.2 + 1 else 1

/-- Whether the prefilter accepts the level with this sample. -/
def preTakes (n : Nat) (d : Bool × Bool × Nat) (level : Bool) : Bool := decide (level ≠ d.1) && decide (n ≤ preRun d level)

/-- The prefilter after a sample. -/
def preStep (n : Nat) (d : Bool × Bool × Nat) (level : Bool) : Bool × Bool × Nat :=
  (if preTakes n d level then level else d.1, level, min 1024 (preRun d level))

theorem preTakes_same (n : Nat) (d : Bool × Bool × Nat) : preTakes n d d.1 = false := by simp [preTakes]

/-- Samples of the level as it stands do not change it. -/
theorem preSteps_still (n : Nat) : ∀ (l : List Bool) (d : Bool × Bool × Nat), (∀ v ∈ l, v = d.1) → (l.foldl (preStep n) d).1 = d.1
  | [], _, _ => rfl
  | v :: l, d, same => by
    have first : (preStep n d v).1 = d.1 := by rw [same v (List.mem_cons_self ..), preStep, preTakes_same]; rfl
    rw [List.foldl_cons, preSteps_still n l _ fun w mem => (same w (List.mem_cons_of_mem _ mem)).trans first.symm, first]

/-- A level is not accepted before the PREFILTER_N-th sample that shows it. -/
theorem preSteps_short (n : Nat) : ∀ (l : List Bool) (d : Bool × Bool × Nat) (m : Nat), d.2.1 = d.1 ∨ d.2.2 ≤ m → m + l.length < n →
    (l.foldl (preStep n) d).1 = d.1
  | [], _, _, _, _ => rfl
  | v :: l, d, m, fresh, short => by
    rw [List.length_cons] at short
    have run : v = d.1 ∨ preRun d v ≤ m + 1 := by
      unfold preRun
      by_cases level : v = d.1
      · exact .inl level
      · refine .inr ?_
        split
        · next cmp =>
          rcases fresh with h | h
          · exact absurd (cmp.trans h) level
          · omega
        · omega
    have first : (preStep n d v).1 = d.1 := by
      rcases run with level | le
      · rw [level, preStep, preTakes_same]; rfl
      · have early : preTakes n d v = false := by
          simp only [preTakes, Bool.and_eq_false_iff, decide_eq_false_iff_not]
          exact .inr (by omega)
        simp [preStep, early]
    have next : (preStep n d v).2.1 = (preStep n d v).1 ∨ (preStep n d v).2.2 ≤ m + 1 := by
      rw [first]
      exact run.imp id fun le => (Nat.min_le_right ..).trans le
    rw [List.foldl_cons, preSteps_short n l _ (m + 1) next (by omega), first]

/-- The PREFILTER_N-th consecutive sample that shows another level changes it. -/
theorem preSteps_long {n : Nat} (small : n ≤ 1024) : ∀ (l : List Bool) (d : Bool × Bool × Nat) (m : Nat), m < n →
    m = 0 ∨ (d.2.1 = !d.1 ∧ m ≤ d.2.2) → n ≤ m + l.length → (∀ v ∈ l, v ≠ d.1) → (l.foldl (preStep n) d).1 = !d.1
  | [], _, m, lt, _, long, _ => absurd long (by simpa using lt)
  | v :: l, d, m, lt, begun, long, other => by
    rw [List.length_cons] at long
    have level := other v (List.mem_cons_self ..)
    have not_ : v = !d.1 := by
      cases v <;> cases h : d.1 <;> simp_all
    have run : m + 1 ≤ preRun d v := by
      unfold preRun
      split
      · omega
      · next cmp =>
        rcases begun with h | h
        · omega
        · exact absurd (not_.trans h.1.symm) cmp
    rw [List.foldl_cons]
    by_cases now : n ≤ preRun d v
    · have first : (preStep n d v).1 = !d.1 := by
        have takes : preTakes n d v = true := by simp [preTakes, level, now]
        rw [preStep, takes]
        exact not_
      rw [preSteps_still n l _ fun w mem => ?_, first]
      rw [first]
      have := other w (List.mem_cons_of_mem _ mem)
      cases w <;> cases h : d.1 <;> simp_all
    · have first : (preStep n d v).1 = d.1 := by simp [preStep, preTakes, now]
      rw [← first]
      refine preSteps_long small l _ (m + 1) (by omega) (.inr ⟨?_, ?_⟩) (by omega) fun w mem => ?_
      · rw [first]
        exact not_
      · exact le_min (by omega) run
      · rw [first]
        exact other w (List.mem_cons_of_mem _ mem)

/-! ### One instant's samples of a pair -/

/-- Pontoon y differs from x in the comparators of inputs only. -/
structure Pont.Resampled (x y : Pont) : Prop where
  frame : y = { x with ins := y.ins }
  raw : ∀ j, (vat y.ins j {}).raw = (vat x.ins j {}).raw

theorem Pont.Resampled.refl {x : Pont} : x.Resampled x := ⟨rfl, fun _ => rfl⟩

theorem Pont.Resampled.trans {x y z : Pont} (h : x.Resampled y) (h' : y.Resampled z) : x.Resampled z := by
  refine ⟨?_, fun j => (h'.raw j).trans (h.raw j)⟩
  refine h'.frame.trans ?_
  rw [h.frame]

theorem Pont.Resampled.rxCond {x y : Pont} (h : x.Resampled y) (p j : Nat) : y.rxCond p j = x.rxCond p j := by
  have word : y.rxWord p j = x.rxWord p j := (congrArg (Pont.rxWord · p j) h.frame :)
  have en (i : Nat) : y.inEn p i = x.inEn p i := (congrArg (Pont.inEn · p i) h.frame :)
  have inRec : y.inRec = x.inRec := (congrArg Pont.inRec h.frame :)
  simp only [Pont.rxCond, Pont.stage4, word, en, inRec, h.raw]

theorem Pont.Judged.resampled {x y : Pont} {p : Nat} (judged : x.Judged p) (h : x.Resampled y) : y.Judged p := by
  intro run j on
  rw [h.rxCond] at on
  have word : y.rxWord p j = x.rxWord p j := (congrArg (Pont.rxWord · p j) h.frame :)
  have rx : y.rx = x.rx := (congrArg Pont.rx h.frame :)
  have outs : y.outs = x.outs := (congrArg Pont.outs h.frame :)
  have running : y.running = x.running := (congrArg Pont.running h.frame :)
  rw [word]
  simp only [rx, outs]
  exact judged (running.symm.trans run) j on

/-- The comparator of an input after a sample. -/
def DiSt.compare (d : DiSt) (level : Bool) : DiSt := { d with cmp := level, cmpRun := min 1024 (preRun d.pre level) }

/-- The comparators of a pair after one instant's samples. -/
def Pont.compared (x : Pont) (k : Nat) (v : Bool × Bool) : Pont :=
  { x with ins := vset (vset x.ins k ((vat x.ins k {}).compare v.1)) (k + 1) ((vat x.ins (k + 1) {}).compare v.2) }

section
variable (x : Pont) (p : Nat) {k : Nat} (v : Bool × Bool) (lt : k + 1 < 8)
include lt

theorem Pont.compared_first : vat (x.compared k v).ins k {} = (vat x.ins k {}).compare v.1 :=
  (vat_vset_other _ _ _ (by omega)).trans (vat_vset _ _ _ (by omega))

theorem Pont.compared_second : vat (x.compared k v).ins (k + 1) {} = (vat x.ins (k + 1) {}).compare v.2 :=
  vat_vset _ _ _ lt

omit lt in
theorem Pont.compared_other {j : Nat} (first : j ≠ k) (second : j ≠ k + 1) : vat (x.compared k v).ins j {} = vat x.ins j {} :=
  (vat_vset_other _ _ _ second).trans (vat_vset_other _ _ _ first)

theorem Pont.compared_resampled : x.Resampled (x.compared k v) := by
  refine ⟨rfl, fun j => ?_⟩
  by_cases first : j = k
  · subst first
    rw [x.compared_first v lt]
    rfl
  · by_cases second : j = k + 1
    · subst second
      rw [x.compared_second v lt]
      rfl
    · rw [x.compared_other v first second]

omit lt in
theorem Pont.compared_sampled : x.Sampled k (x.compared k v) :=
  ⟨rfl, fun _ => rfl, fun _ first second => x.compared_other v first second, fun _ => rfl⟩

end

/-- The samples of an instant: what the two prefilters accept is taken (R228, R234). -/
theorem Pont.samplePair_eq (x : Pont) (p k : Nat) (v : Bool × Bool) :
    let u := x.compared k v
    x.samplePair p k v = match preTakes (x.preN p k) (vat x.ins k {}).pre v.1, preTakes (x.preN p (k + 1)) (vat x.ins (k + 1) {}).pre v.2 with
      | true, true => if u.quadPair p k then u.quadErr p k v.1 v.2 else (u.newLevel p k v.1).newLevel p (k + 1) v.2
      | true, false => u.newLevel p k v.1
      | false, true => u.newLevel p (k + 1) v.2
      | false, false => u := by
  intro u
  have sample (d : DiSt) (n : Nat) (level : Bool) : (d.sample n level).2 = if preTakes n d.pre level then some level else none := rfl
  unfold Pont.samplePair
  extract_lets n a b w
  have first := sample (vat x.ins k {}) (x.preN p k) v.1
  have second := sample (vat x.ins (k + 1) {}) (x.preN p (k + 1)) v.2
  change a.2 = _ at first
  change b.2 = _ at second
  have same : w = u := rfl
  rw [first, second, same]
  cases preTakes (x.preN p k) (vat x.ins k {}).pre v.1 <;>
    cases preTakes (x.preN p (k + 1)) (vat x.ins (k + 1) {}).pre v.2 <;> rfl

/-- The sample of input i among those of the pair k, k + 1. -/
def sideOf (k i : Nat) (v : Bool × Bool) : Bool := if i = k then v.1 else v.2

theorem sideOf_first (k : Nat) (v : Bool × Bool) : sideOf k k v = v.1 := if_pos rfl

theorem sideOf_second (k : Nat) (v : Bool × Bool) : sideOf k (k + 1) v = v.2 := if_neg (by omega)

/-- Whether the prefilter of input i accepts with these samples. -/
abbrev Pont.takes (x : Pont) (p k i : Nat) (v : Bool × Bool) : Bool := preTakes (x.preN p i) (vat x.ins i {}).pre (sideOf k i v)

theorem preStep_taken {n : Nat} {d : Bool × Bool × Nat} {level : Bool} (takes : preTakes n d level = true) :
    preStep n d level = (level, level, min 1024 (preRun d level)) := by rw [preStep, takes]; rfl

theorem preStep_left {n : Nat} {d : Bool × Bool × Nat} {level : Bool} (takes : preTakes n d level = false) :
    preStep n d level = (d.1, level, min 1024 (preRun d level)) := by rw [preStep, takes]; rfl

theorem ne_of_preTakes {n : Nat} {d : Bool × Bool × Nat} {level : Bool} (takes : preTakes n d level = true) : level ≠ d.1 := by
  intro same
  rw [same, preTakes_same] at takes
  exact absurd takes (by decide)

/-- One instant's samples: each input of the pair goes through its own prefilter, and what is accepted is judged by the reflexes. -/
theorem Pont.samplePair_spec (x : Pont) (p : Nat) {k : Nat} (v : Bool × Bool) (lt : k + 1 < 8) :
    let y := x.samplePair p k v
    x.Sampled k y ∧ (vat y.ins k {}).pre = preStep (x.preN p k) (vat x.ins k {}).pre v.1
      ∧ (vat y.ins (k + 1) {}).pre = preStep (x.preN p (k + 1)) (vat x.ins (k + 1) {}).pre v.2
      ∧ (x.Judged p → y.Judged p) ∧ (x.takes p k k v = true ∨ x.takes p k (k + 1) v = true → y.Judged p) := by
  have step := x.compared_sampled (k := k) v
  have fine := x.compared_resampled v lt
  have first : (vat (x.compared k v).ins k {}).pre = ((vat x.ins k {}).raw, v.1, min 1024 (preRun (vat x.ins k {}).pre v.1)) :=
    congrArg DiSt.pre (x.compared_first v lt)
  have second : (vat (x.compared k v).ins (k + 1) {}).pre
      = ((vat x.ins (k + 1) {}).raw, v.2, min 1024 (preRun (vat x.ins (k + 1) {}).pre v.2)) := congrArg DiSt.pre (x.compared_second v lt)
  have eq := x.samplePair_eq p k v
  rw [Pont.takes, Pont.takes, sideOf_first, sideOf_second]
  generalize x.compared k v = u at step fine first second eq
  have raw (i : Nat) : (vat u.ins i {}).raw = (vat x.ins i {}).raw := fine.raw i
  cases takesA : preTakes (x.preN p k) (vat x.ins k {}).pre v.1 <;>
    cases takesB : preTakes (x.preN p (k + 1)) (vat x.ins (k + 1) {}).pre v.2
  case false.false =>
    rw [takesA, takesB] at eq
    rw [show x.samplePair p k v = u from eq, preStep_left takesA, preStep_left takesB]
    exact ⟨step, first, second, fun judged => judged.resampled fine, fun h => absurd h (by decide)⟩
  case true.false =>
    rw [takesA, takesB] at eq
    rw [show x.samplePair p k v = u.newLevel p k v.1 from eq, preStep_taken takesA, preStep_left takesB]
    obtain ⟨new, own, others, judged⟩ := u.newLevel_spec p (i := k) (k := k) v.1 (by omega) (.inl rfl)
    have now := judged (by rw [raw]; exact ne_of_preTakes takesA)
    exact ⟨step.trans new, own.trans (by rw [first]), (congrArg DiSt.pre (others (k + 1) (by omega))).trans second, fun _ => now, fun _ => now⟩
  case false.true =>
    rw [takesA, takesB] at eq
    rw [show x.samplePair p k v = u.newLevel p (k + 1) v.2 from eq, preStep_left takesA, preStep_taken takesB]
    obtain ⟨new, own, others, judged⟩ := u.newLevel_spec p (i := k + 1) (k := k) v.2 lt (.inr rfl)
    have now := judged (by rw [raw]; exact ne_of_preTakes takesB)
    exact ⟨step.trans new, (congrArg DiSt.pre (others k (by omega))).trans first, own.trans (by rw [second]), fun _ => now, fun _ => now⟩
  case true.true =>
    rw [takesA, takesB] at eq
    rw [preStep_taken takesA, preStep_taken takesB]
    by_cases quad : u.quadPair p k = true
    · rw [show x.samplePair p k v = _ from eq.trans (if_pos quad)]
      obtain ⟨new, ownA, ownB, judged, -⟩ := u.quadErr_spec p v.1 v.2 lt
      exact ⟨step.trans new, ownA.trans (by rw [first]), ownB.trans (by rw [second]), fun _ => judged, fun _ => judged⟩
    · rw [show x.samplePair p k v = _ from eq.trans (if_neg quad)]
      obtain ⟨newA, ownA, othersA, -⟩ := u.newLevel_spec p (i := k) (k := k) v.1 (by omega) (.inl rfl)
      obtain ⟨newB, ownB, othersB, judged⟩ := (u.newLevel p k v.1).newLevel_spec p (i := k + 1) (k := k) v.2 lt (.inr rfl)
      rw [othersA (k + 1) (by omega)] at ownB judged
      have now := judged (by rw [raw]; exact ne_of_preTakes takesB)
      exact ⟨(step.trans newA).trans newB, (congrArg DiSt.pre (othersB k (by omega))).trans (ownA.trans (by rw [first])),
        ownB.trans (by rw [second]), fun _ => now, fun _ => now⟩

/-- The prefilter of input i of a pair takes its own samples, whatever those of the other are. -/
theorem Pont.samplePair_pre (x : Pont) (p : Nat) {k i : Nat} (v : Bool × Bool) (lt : k + 1 < 8) (pair : i = k ∨ i = k + 1) :
    (vat (x.samplePair p k v).ins i {}).pre = preStep (x.preN p i) (vat x.ins i {}).pre (sideOf k i v) := by
  obtain ⟨-, first, second, -⟩ := x.samplePair_spec p v lt
  rcases pair with rfl | rfl
  · rw [sideOf_first]
    exact first
  · rw [sideOf_second]
    exact second

/-! ### Samples of a pair, oldest first -/

/-- The pontoon after samples of a pair. -/
def Pont.samples (x : Pont) (p k : Nat) (l : List (Bool × Bool)) : Pont := l.foldl (fun x v => x.samplePair p k v) x

theorem Pont.samples_cons (x : Pont) (p k : Nat) (v : Bool × Bool) (l : List (Bool × Bool)) :
    x.samples p k (v :: l) = (x.samplePair p k v).samples p k l := rfl

section
variable (p : Nat) {k : Nat} (lt : k + 1 < 8)
include lt

theorem Pont.samples_sampled : ∀ (l : List (Bool × Bool)) (x : Pont), x.Sampled k (x.samples p k l)
  | [], _ => .refl
  | v :: l, x => (x.samplePair_spec p v lt).1.trans (Pont.samples_sampled l _)

omit lt in
theorem Pont.Sampled.preN {x y : Pont} (h : x.Sampled k y) (i : Nat) : y.preN p i = x.preN p i := by
  rw [Pont.preN, Pont.preN, h.inRec]

theorem Pont.samples_pre {i : Nat} (pair : i = k ∨ i = k + 1) : ∀ (l : List (Bool × Bool)) (x : Pont),
    (vat (x.samples p k l).ins i {}).pre = (l.map (sideOf k i)).foldl (preStep (x.preN p i)) (vat x.ins i {}).pre
  | [], _ => rfl
  | v :: l, x => by
    rw [Pont.samples_cons, Pont.samples_pre pair l, x.samplePair_pre p v lt pair,
      (x.samplePair_spec p v lt).1.preN p]
    rfl

/-- Once a level has been accepted the reflexes are judged by the levels as they stand. -/
theorem Pont.samples_judged {i : Nat} (pair : i = k ∨ i = k + 1) : ∀ (l : List (Bool × Bool)) (x : Pont),
    (x.Judged p → (x.samples p k l).Judged p)
      ∧ ((vat (x.samples p k l).ins i {}).raw ≠ (vat x.ins i {}).raw → (x.samples p k l).Judged p)
  | [], _ => ⟨id, fun h => absurd rfl h⟩
  | v :: l, x => by
    obtain ⟨-, -, -, keeps, taken⟩ := x.samplePair_spec p v lt
    obtain ⟨kept, changed⟩ := Pont.samples_judged pair l (x.samplePair p k v)
    refine ⟨fun judged => kept (keeps judged), fun differs => ?_⟩
    by_cases first : (vat (x.samplePair p k v).ins i {}).raw = (vat x.ins i {}).raw
    · exact changed (by rw [first]; exact differs)
    · have took : x.takes p k i v = true := by
        by_contra off
        rw [Bool.not_eq_true] at off
        have pre := x.samplePair_pre p v lt pair
        rw [preStep_left off] at pre
        exact first (congrArg Prod.fst pre)
      exact kept (taken (by rcases pair with rfl | rfl <;> simp [took]))

end

end Sys2Proof.Machine
end

section
/-! PROOFS. Reflexes and counters (R233 to R236, R264, R266). -/

namespace Sys2Proof.Machine

/-! ### Samples that change one level, or both at once -/

section
variable (p : Nat) {k : Nat} (lt : k + 1 < 8)
include lt

omit lt in
/-- Where neither prefilter accepts, an instant's samples are noted by the comparators. -/
theorem Pont.samplePair_still {x : Pont} {v : Bool × Bool} (first : x.takes p k k v = false) (second : x.takes p k (k + 1) v = false) :
    x.samplePair p k v = x.compared k v := by
  rw [Pont.takes, sideOf_first] at first
  rw [Pont.takes, sideOf_second] at second
  refine (x.samplePair_eq p k v).trans ?_
  rw [first, second]

/-- Where the prefilter of input i alone accepts, its level is a new one. -/
theorem Pont.samplePair_alone {x : Pont} {v : Bool × Bool} {i j : Nat} (pair : (i = k ∧ j = k + 1) ∨ (i = k + 1 ∧ j = k))
    (own : x.takes p k i v = true) (other : x.takes p k j v = false) :
    x.samplePair p k v = (x.compared k v).newLevel p i (sideOf k i v) := by
  refine (x.samplePair_eq p k v).trans ?_
  rcases pair with ⟨rfl, rfl⟩ | ⟨rfl, rfl⟩
  · rw [Pont.takes, sideOf_first] at own
    rw [Pont.takes, sideOf_second] at other
    rw [own, other, sideOf_first]
  · rw [Pont.takes, sideOf_second] at own
    rw [Pont.takes, sideOf_first] at other
    rw [own, other, sideOf_second]

omit lt in
theorem Pont.takes_still {x : Pont} {i : Nat} {v : Bool × Bool} (same : sideOf k i v = (vat x.ins i {}).raw) : x.takes p k i v = false := by
  rw [Pont.takes, same]
  exact preTakes_same ..

/-- Samples of the levels as they stand change nothing but the comparators. -/
theorem Pont.samples_still : ∀ (l : List (Bool × Bool)) (x : Pont),
    (∀ v ∈ l, ∀ i, i = k ∨ i = k + 1 → sideOf k i v = (vat x.ins i {}).raw) → x.Resampled (x.samples p k l)
  | [], _, _ => .refl
  | v :: l, x, still => by
    have now := still v (List.mem_cons_self ..)
    have step : x.Resampled (x.samplePair p k v) := by
      rw [Pont.samplePair_still p (Pont.takes_still p (now k (.inl rfl))) (Pont.takes_still p (now (k + 1) (.inr rfl)))]
      exact x.compared_resampled v lt
    refine step.trans (Pont.samples_still l _ fun w mem i pair => ?_)
    rw [step.raw]
    exact still w (List.mem_cons_of_mem _ mem) i pair

theorem Pont.compared_pre (x : Pont) (v : Bool × Bool) {i : Nat} (pair : i = k ∨ i = k + 1) :
    (vat (x.compared k v).ins i {}).pre = ((vat x.ins i {}).raw, sideOf k i v, min 1024 (preRun (vat x.ins i {}).pre (sideOf k i v))) := by
  rcases pair with rfl | rfl
  · rw [x.compared_first v lt, sideOf_first]
    rfl
  · rw [x.compared_second v lt, sideOf_second]
    rfl

/-- Samples that show another level at one input of a pair only bring one new level. -/
theorem Pont.samples_alone {i j : Nat} (pair : (i = k ∧ j = k + 1) ∨ (i = k + 1 ∧ j = k)) : ∀ (l : List (Bool × Bool)) (x : Pont) (m : Nat),
    m < x.preN p i → m + 1 ≤ preRun (vat x.ins i {}).pre (!(vat x.ins i {}).raw) → x.preN p i ≤ m + l.length →
    (∀ v ∈ l, sideOf k i v = (!(vat x.ins i {}).raw) ∧ sideOf k j v = (vat x.ins j {}).raw) →
    ∃ u, x.Resampled u ∧ (u.newLevel p i (!(vat x.ins i {}).raw)).Resampled (x.samples p k l)
  | [], _, m, small, _, long, _ => absurd long (by simpa using small)
  | v :: l, x, m, small, run, long, shows => by
    rw [List.length_cons] at long
    obtain ⟨own, other⟩ := shows v (List.mem_cons_self ..)
    have left : x.takes p k j v = false := Pont.takes_still p other
    have fine := x.compared_resampled v lt
    have inPair : i = k ∨ i = k + 1 := pair.imp And.left And.left
    by_cases now : x.takes p k i v = true
    · have step := Pont.samplePair_alone p lt pair now left
      rw [own] at step
      refine ⟨x.compared k v, fine, ?_⟩
      rw [Pont.samples_cons, step]
      obtain ⟨-, new, others, -⟩ := (x.compared k v).newLevel_spec p (i := i) (k := k) (!(vat x.ins i {}).raw) (by omega) inPair
      refine Pont.samples_still p lt l _ fun w mem e pairE => ?_
      obtain ⟨ownW, otherW⟩ := shows w (List.mem_cons_of_mem _ mem)
      have ends : e = i ∨ e = j := by omega
      rcases ends with rfl | rfl
      · exact ownW.trans (congrArg Prod.fst new).symm
      · rw [others e (by omega), fine.raw]
        exact otherW
    · rw [Bool.not_eq_true] at now
      have step := Pont.samplePair_still p (k := k) (x := x) (v := v) (by rcases pair with ⟨rfl, rfl⟩ | ⟨rfl, rfl⟩ <;> assumption)
        (by rcases pair with ⟨rfl, rfl⟩ | ⟨rfl, rfl⟩ <;> assumption)
      have early : preRun (vat x.ins i {}).pre (!(vat x.ins i {}).raw) < x.preN p i := by
        have different : (!(vat x.ins i {}).raw) ≠ (vat x.ins i {}).pre.1 := by simp [DiSt.pre]
        rw [Pont.takes, own, preTakes, decide_eq_true different, Bool.true_and, decide_eq_false_iff_not] at now
        omega
      have n : (x.compared k v).preN p i = x.preN p i := (x.compared_sampled (k := k) v).preN p i
      have pre := x.compared_pre lt v inPair
      rw [own] at pre
      have raws (e : Nat) := fine.raw e
      have top := (prefilterN_range (bf x.inRec (8 * p + i) 19 17)).2
      change x.preN p i ≤ 1024 at top
      have next : m + 1 + 1 ≤ preRun (vat (x.compared k v).ins i {}).pre (!(vat x.ins i {}).raw) := by
        rw [pre, preRun, if_pos rfl]
        show m + 1 + 1 ≤ min 1024 _ + 1
        omega
      rw [Pont.samples_cons, step]
      obtain ⟨u, re, new⟩ := Pont.samples_alone pair l (x.compared k v) (m + 1) (by rw [n]; omega) (by rwa [raws i])
        (by rw [n]; omega) (fun w mem => by rw [raws, raws]; exact shows w (List.mem_cons_of_mem _ mem))
      rw [raws i] at new
      exact ⟨u, fine.trans re, new⟩

/-- Samples that show the other level at both inputs of a quadrature counter, each as long as at the other, are one error (R234). -/
theorem Pont.samples_both {a b : Bool} : ∀ (l : List (Bool × Bool)) (x : Pont) (m : Nat), x.quadPair p k = true →
    x.preN p k = x.preN p (k + 1) → m < x.preN p k → preRun (vat x.ins k {}).pre a = m + 1 →
    preRun (vat x.ins (k + 1) {}).pre b = m + 1 → x.preN p k ≤ m + l.length → a ≠ (vat x.ins k {}).raw → b ≠ (vat x.ins (k + 1) {}).raw →
    (∀ v ∈ l, v = (a, b)) → ∃ u, x.Resampled u ∧ (u.quadErr p k a b).Resampled (x.samples p k l)
  | [], _, m, _, _, small, _, _, long, _, _, _ => absurd long (by simpa using small)
  | v :: l, x, m, quad, alike, small, runA, runB, long, newA, newB, shows => by
    rw [List.length_cons] at long
    have level := shows v (List.mem_cons_self ..)
    subst level
    have fine := x.compared_resampled (a, b) lt
    have quad' : (x.compared k (a, b)).quadPair p k = true := quad
    have takesA : preTakes (x.preN p k) (vat x.ins k {}).pre a = decide (x.preN p k ≤ m + 1) := by
      rw [preTakes, runA, decide_eq_true (show a ≠ (vat x.ins k {}).pre.1 from newA), Bool.true_and]
    have takesB : preTakes (x.preN p (k + 1)) (vat x.ins (k + 1) {}).pre b = decide (x.preN p k ≤ m + 1) := by
      rw [preTakes, runB, decide_eq_true (show b ≠ (vat x.ins (k + 1) {}).pre.1 from newB), Bool.true_and, alike]
    have step := x.samplePair_eq p k (a, b)
    rw [takesA, takesB] at step
    by_cases now : x.preN p k ≤ m + 1
    · rw [decide_eq_true now] at step
      refine ⟨x.compared k (a, b), fine, ?_⟩
      rw [Pont.samples_cons, show x.samplePair p k (a, b) = _ from step.trans (if_pos quad')]
      obtain ⟨-, ownA, ownB, -⟩ := (x.compared k (a, b)).quadErr_spec p a b lt
      refine Pont.samples_still p lt l _ fun w mem e pairE => ?_
      rw [shows w (List.mem_cons_of_mem _ mem)]
      rcases pairE with rfl | rfl
      · rw [sideOf_first]
        exact (congrArg Prod.fst ownA).symm
      · rw [sideOf_second]
        exact (congrArg Prod.fst ownB).symm
    · rw [decide_eq_false now] at step
      rw [Pont.samples_cons, show x.samplePair p k (a, b) = _ from step]
      have n (i : Nat) : (x.compared k (a, b)).preN p i = x.preN p i := (x.compared_sampled (k := k) (a, b)).preN p i
      have preA := x.compared_pre lt (a, b) (.inl rfl)
      have preB := x.compared_pre lt (a, b) (.inr rfl)
      rw [sideOf_first, runA] at preA
      rw [sideOf_second, runB] at preB
      have top := (prefilterN_range (bf x.inRec (8 * p + k) 19 17)).2
      change x.preN p k ≤ 1024 at top
      have room : min 1024 (m + 1) = m + 1 := by omega
      obtain ⟨u, re, new⟩ := Pont.samples_both l (x.compared k (a, b)) (m + 1) quad' (by rw [n, n, alike]) (by rw [n]; omega)
        (by rw [preA, preRun, if_pos rfl, room]) (by rw [preB, preRun, if_pos rfl, room]) (by rw [n]; omega)
        (by rwa [fine.raw]) (by rwa [fine.raw]) (fun w mem => shows w (List.mem_cons_of_mem _ mem))
      exact ⟨u, fine.trans re, new⟩

end

/-! ### Edges counted -/

/-- A counter moved by one (R235). -/
theorem countMove_fst (signed up : Bool) (c : BitVec 46) : (countMove signed up c).1 = if up = true then c + 1 else c - 1 := by
  unfold countMove
  cases up <;> rfl

/-- The other input of the pair that input i belongs to. -/
abbrev partner (i : Nat) : Nat := if i = i / 2 * 2 then i / 2 * 2 + 1 else i / 2 * 2

theorem partner_pair (i : Nat) : (i = i / 2 * 2 ∧ partner i = i / 2 * 2 + 1) ∨ (i = i / 2 * 2 + 1 ∧ partner i = i / 2 * 2) := by
  by_cases even : i = i / 2 * 2
  · exact .inl ⟨even, if_pos even⟩
  · exact .inr ⟨by omega, if_neg even⟩

/-- CT_MODE of counter k of Pontoon p. -/
abbrev Pont.ctMode (x : Pont) (p k : Nat) : Nat := bf x.inRec (32 + 4 * p + k) 23 21

/-- CT_DIR of counter k of Pontoon p. -/
abbrev Pont.ctDown (x : Pont) (p k : Nat) : Bool := bitOf (x.inRec.getD (32 + 4 * p + k) 0) 20

/-- The counter that an edge of input i moves, and which way before CT_DIR: by the modes and the level of the other input (R233, R234). -/
theorem Pont.edgeOf_eq (x : Pont) (p i : Nat) (rising : Bool) : x.edgeOf p i rising =
    if 4 ≤ x.ctMode p (i / 2 * 2) then
      if i = i / 2 * 2 then
        if x.ctMode p (i / 2 * 2) = 4 ∧ rising = false then none
        else some (i / 2 * 2, rising != (vat x.ins (partner i) {}).raw)
      else if x.ctMode p (i / 2 * 2) = 6 then some (i / 2 * 2, rising == (vat x.ins (partner i) {}).raw) else none
    else if (x.ctMode p i = 1 ∧ rising = true) ∨ (x.ctMode p i = 2 ∧ rising = false) ∨ x.ctMode p i = 3 then some (i, true) else none := by
  unfold Pont.edgeOf
  extract_lets mode even other
  have partner_eq : other = (vat x.ins (partner i) {}).raw := by
    rcases partner_pair i with ⟨here, next⟩ | ⟨here, next⟩
    · rw [next, ← here]
      show (vat x.ins (if i = i / 2 * 2 then i + 1 else i / 2 * 2) {}).raw = _
      rw [if_pos here]
    · rw [next]
      show (vat x.ins (if i = i / 2 * 2 then i + 1 else i / 2 * 2) {}).raw = _
      rw [if_neg (by omega)]
  rw [← partner_eq]
  show (if mode even ≥ 4 then if i = even then if (decide (mode even = 4) && !rising) = true then none else _ else _ else _) = _
  change _ = if 4 ≤ mode even then if i = even then if mode even = 4 ∧ rising = false then none else _ else if mode even = 6 then _ else none
    else if (mode i = 1 ∧ rising = true) ∨ (mode i = 2 ∧ rising = false) ∨ mode i = 3 then _ else none
  by_cases quad : 4 ≤ mode even
  · rw [if_pos quad, if_pos quad]
    cases rising <;> simp <;> rfl
  · rw [if_neg quad, if_neg quad]
    split
    · next one => cases rising <;> simp [one]
    · next two => cases rising <;> simp [two]
    · next three => simp [three]
    · next n1 n2 n3 =>
      rw [if_neg]
      rintro (⟨h, -⟩ | ⟨h, -⟩ | h)
      · exact n1 h
      · exact n2 h
      · exact n3 h

/-- The counters after an edge that moves a counter up or down before CT_DIR, or none (R235). -/
def Pont.countedBy (x : Pont) (p : Nat) : Option (Nat × Bool) → Vector CtSt 4
  | none => x.cts
  | some (k, up) => vmod x.cts k (fun c => { c with count :=
      if (up != x.ctDown p k) = true then (vat x.cts k {}).count + 1 else (vat x.cts k {}).count - 1 })

/-- An edge counted, at a running pontoon that is not dark (R233, R235). -/
theorem Pont.countEdge_cts {x : Pont} (p : Nat) {i : Nat} (rising : Bool) (running : x.running = true) (light : x.dark = false) (lt : i < 4) :
    (x.countEdge p i rising).cts = x.countedBy p (x.edgeOf p i rising) := by
  unfold Pont.countEdge
  rw [if_neg (by simp [running, light, lt])]
  cases x.edgeOf p i rising with
  | none => rfl
  | some e =>
    obtain ⟨k, up⟩ := e
    rw [Pont.countedBy]
    dsimp only
    rw [← countMove_fst (decide (fld (x.inRec.getD (32 + 4 * p + k) 0) 23 21 ≥ 4))]
    split <;> rfl

end Sys2Proof.Machine
end

section
/-! PROOFS. The reflexes and counters of a pontoon as the rows of samples leave them (R233 to R236, R264, R266). -/

namespace Sys2Proof.Machine

/-- The pair that input i belongs to. -/
theorem pair_of (i : Nat) : i = i / 2 * 2 ∨ i = i / 2 * 2 + 1 := (partner_pair i).imp And.left And.left

theorem State.refreshMirror_ponts {s u : State} {p : Fin 4} {v : Vector Pont 4} (frame : u = { s with ponts := v }) :
    u.refreshMirror p = { s with ponts := v, lanes := { s.lanes with mirror := (u.refreshMirror p).lanes.mirror } } := by
  subst frame
  rfl

theorem partner_half (i : Nat) : partner i / 2 * 2 = i / 2 * 2 := by
  rcases partner_pair i with ⟨-, next⟩ | ⟨-, next⟩ <;> omega

theorem partner_ends {i e : Nat} (pair : e = i / 2 * 2 ∨ e = i / 2 * 2 + 1) : e = i ∨ e = partner i := by
  rcases partner_pair i with h | h <;> omega

/-- A row of samples: the pontoon is as its samples leave it, but for the stages and the notes of switches. -/
theorem State.samplesIn_spec (s : State) (p : Fin 4) (i : Nat) (l : List (Bool × Bool)) (lt : i / 2 * 2 + 1 < 8) :
    let t := s.samplesIn p i l
    let y := (s.pont p).samples p (i / 2 * 2) l
    t = { s with ponts := s.ponts.set p (t.pont p), lanes := { s.lanes with mirror := t.lanes.mirror } }
      ∧ (t.pont p).ins = y.ins ∧ (t.pont p).cts = y.cts ∧ (t.pont p).rx = y.rx
      ∧ (∀ k : Fin 8, (t.pont p).outs[k].landed = (s.pont p).outs[k].landed)
      ∧ (t.pont p).ais = (s.pont p).ais ∧ (t.pont p).grp = (s.pont p).grp ∧ (t.pont p).setup = (s.pont p).setup
      ∧ (y.Judged p → (t.pont p).Judged p) ∧ (t.pont p).running = (s.pont p).running ∧ y.rcInc ⊆ (t.pont p).rcInc := by
  obtain ⟨y, samples⟩ : ∃ y, (s.pont p).samples p (i / 2 * 2) l = y := ⟨_, rfl⟩
  have sampled := Pont.samples_sampled p lt l (s.pont p)
  rw [samples] at sampled
  obtain ⟨frame, outs, -, counts⟩ := State.modField_frame (s := s) (p := p)
    (f := fun x => l.foldl (fun x v => x.samplePair p (i / 2 * 2) v) x) samples
  intro t y'
  have only := State.refreshMirror_ponts (p := p) (s.onlyPont_modField p (fun x => l.foldl (fun x v => x.samplePair p (i / 2 * 2) v) x))
  have same : y' = y := samples
  rw [same]
  change t.pont p = _ at frame
  refine ⟨only, (congrArg Pont.ins frame :), (congrArg Pont.cts frame :), (congrArg Pont.rx frame :),
    fun k => (outs k).kept.1.trans (sampled.landed k), ?_, ?_, ?_, fun judged run j on => ?_, ?_, counts⟩
  · exact (congrArg Pont.ais frame :).trans (congrArg Pont.ais sampled.frame :)
  · exact (congrArg Pont.grp frame :).trans (congrArg Pont.grp sampled.frame :)
  · exact (congrArg Pont.setup frame :).trans (congrArg Pont.setup sampled.frame :)
  · have cond : (t.pont p).rxCond p j = y.rxCond p j := (congrArg (Pont.rxCond · p j) frame :)
    have word : (t.pont p).rxWord p j = y.rxWord p j := (congrArg (Pont.rxWord · p j) frame :)
    have running : (t.pont p).running = y.running := (congrArg Pont.running frame :)
    have rx : (t.pont p).rx = y.rx := (congrArg Pont.rx frame :)
    obtain ⟨trig, held⟩ := judged (running.symm.trans run) j (cond.symm.trans on)
    refine ⟨by simpa only [rx] using trig, fun k target => (outs k).kept.2.trans (held k ?_)⟩
    rwa [word] at target
  · exact (congrArg Pont.running frame :).trans sampled.running

/-- Samples that leave every level do nothing to the stages, so that nothing is counted. -/
theorem State.samplesIn_still {s : State} {p : Fin 4} {i : Nat} {l : List (Bool × Bool)}
    (still : (s.pont p).Resampled ((s.pont p).samples p (i / 2 * 2) l)) : ((s.samplesIn p i l).pont p).rcInc = (s.pont p).rcInc := by
  obtain ⟨y, samples⟩ : ∃ y, (s.pont p).samples p (i / 2 * 2) l = y := ⟨_, rfl⟩
  rw [samples] at still
  obtain ⟨v, rfl⟩ : ∃ v, y = { s.pont p with ins := v } := ⟨_, still.frame⟩
  have quiet : Pont.react { s.pont p with ins := v } p (s.pont p) = { s.pont p with ins := v } :=
    Pont.react_still fun j _ => ⟨rfl, rfl, rfl⟩
  obtain ⟨-, frame, -⟩ := State.modField_still (s := s) (p := p) (f := fun x => l.foldl (fun x v => x.samplePair p (i / 2 * 2) v) x)
    samples quiet
  exact (congrArg Pont.rcInc frame :)

section
variable {x : Pont} {p i : Nat} {l : List (Bool × Bool)} (lt : i / 2 * 2 + 1 < 8)
include lt

/-- What the samples of input i do to its own level. -/
theorem Pont.samples_raw : (vat (x.samples p (i / 2 * 2) l).ins i {}).raw
    = ((l.map (sideOf (i / 2 * 2) i)).foldl (preStep (x.preN p i)) (vat x.ins i {}).pre).1 :=
  congrArg Prod.fst (Pont.samples_pre p lt (pair_of i) l x)

theorem Pont.samples_raw_still (same : ∀ v ∈ l, sideOf (i / 2 * 2) i v = (vat x.ins i {}).raw) :
    (vat (x.samples p (i / 2 * 2) l).ins i {}).raw = (vat x.ins i {}).raw := by
  rw [Pont.samples_raw lt]
  refine preSteps_still _ _ _ fun v mem => ?_
  obtain ⟨w, here, rfl⟩ := List.mem_map.1 mem
  exact same w here

theorem Pont.samples_raw_short (fresh : (vat x.ins i {}).cmp = (vat x.ins i {}).raw) (short : l.length < x.preN p i) :
    (vat (x.samples p (i / 2 * 2) l).ins i {}).raw = (vat x.ins i {}).raw := by
  rw [Pont.samples_raw lt]
  exact preSteps_short _ _ _ 0 (.inl fresh) (by simpa using short)

theorem Pont.samples_raw_long (long : x.preN p i ≤ l.length) (other : ∀ v ∈ l, sideOf (i / 2 * 2) i v ≠ (vat x.ins i {}).raw) :
    (vat (x.samples p (i / 2 * 2) l).ins i {}).raw = !(vat x.ins i {}).raw := by
  obtain ⟨low, high⟩ := prefilterN_range (bf x.inRec (8 * p + i) 19 17)
  rw [Pont.samples_raw lt]
  refine preSteps_long high _ _ 0 low (.inl rfl) (by rw [List.length_map, Nat.zero_add]; exact long) fun v mem => ?_
  obtain ⟨w, here, rfl⟩ := List.mem_map.1 mem
  exact other w here

/-- A level that has changed has been judged by the reflexes. -/
theorem Pont.samples_long_judged (long : x.preN p i ≤ l.length) (other : ∀ v ∈ l, sideOf (i / 2 * 2) i v ≠ (vat x.ins i {}).raw) :
    (x.samples p (i / 2 * 2) l).Judged p := by
  refine (Pont.samples_judged p lt (pair_of i) l x).2 ?_
  rw [Pont.samples_raw_long lt long other]
  simp

/-- The one edge of samples that change the level of input i alone. -/
theorem Pont.samples_edge (running : x.running = true) (light : x.dark = false) (class_ : i < 4) (long : x.preN p i ≤ l.length)
    (shows : ∀ v ∈ l, sideOf (i / 2 * 2) i v = (!(vat x.ins i {}).raw) ∧ sideOf (i / 2 * 2) (partner i) v = (vat x.ins (partner i) {}).raw) :
    (x.samples p (i / 2 * 2) l).cts = x.countedBy p (x.edgeOf p i (!(vat x.ins i {}).raw)) := by
  have low := (prefilterN_range (bf x.inRec (8 * p + i) 19 17)).1
  change 1 ≤ x.preN p i at low
  have first : 0 + 1 ≤ preRun (vat x.ins i {}).pre (!(vat x.ins i {}).raw) := by
    unfold preRun
    split <;> omega
  obtain ⟨u, re, new⟩ := Pont.samples_alone p lt (partner_pair i) l x 0 low first (by simpa using long) shows
  rw [(congrArg Pont.cts new.frame :), Pont.newLevel, if_neg (by rw [re.raw]; simp)]
  obtain ⟨set_, -, others, cts, -⟩ := u.setLevel_spec p (i := i) (k := i / 2 * 2) (!(vat x.ins i {}).raw) (by omega) (pair_of i)
  obtain ⟨ins, rfl⟩ : ∃ ins, u = { x with ins := ins } := ⟨_, re.frame⟩
  generalize hw : Pont.setLevel { x with ins := ins } p i (!(vat x.ins i {}).raw) = w at set_ others cts
  have inRec : w.inRec = x.inRec := set_.inRec
  have ctMode (k : Nat) : w.ctMode p k = x.ctMode p k := by rw [Pont.ctMode, inRec]
  have ctDown (k : Nat) : w.ctDown p k = x.ctDown p k := by rw [Pont.ctDown, inRec]
  have apart : partner i ≠ i := by
    rcases partner_pair i with h | h <;> omega
  have level : (vat w.ins (partner i) {}).raw = (vat x.ins (partner i) {}).raw := by rw [others _ apart]; exact re.raw _
  have edge : w.edgeOf p i (!(vat x.ins i {}).raw) = x.edgeOf p i (!(vat x.ins i {}).raw) := by
    rw [Pont.edgeOf_eq, Pont.edgeOf_eq, ctMode, ctMode, level]
  have sameCts : w.cts = x.cts := cts
  rw [Pont.countEdge_cts p _ (set_.running.trans running) (set_.dark.trans light) class_, edge]
  cases x.edgeOf p i (!(vat x.ins i {}).raw) <;> simp only [Pont.countedBy, ctDown, sameCts]

end

/-! ### The rows -/

/-- A pair whose condition holds is triggered at once (R264, R266). -/
theorem reflexTrigger_on {s : State} {p : Fin 4} {j : Fin 4} (running : (s.pont p).running = true) (on : (s.pont p).rxCond p j = true) :
    ∃ t, exec (.reflexTrigger p j) s = .next t ∧ OnlyPont p s t
      ∧ (t.pont p).rx[j].trig = true ∧ (t.pont p).sameValues (s.pont p) ∧ (t.pont p).ins = (s.pont p).ins
      ∧ (∀ k : Fin 4, k ≠ j → (t.pont p).rx[k] = (s.pont p).rx[k])
      ∧ ∀ i : Fin 8, ((s.pont p).rxWord p j).getLsbD (10 + i.val) = true → (t.pont p).outs[i].held = true := by
  obtain ⟨trig, hold⟩ := Pont.judgeRx_on j on
  have others (k : Fin 4) (other : k ≠ j) := (s.pont p).judgeRx_other p (Fin.val_ne_of_ne other)
  obtain ⟨r, judged⟩ : ∃ r, (s.pont p).judgeRx p j = { s.pont p with rx := r } := ⟨_, (s.pont p).judgeRx_frame p j⟩
  rw [judged] at trig hold others
  obtain ⟨frame, outs⟩ := State.modField_holds (s := s) (p := p) (f := fun x => (x.judgeRx p j).refreshHolds p)
    (x := { s.pont p with rx := r }) (by rw [judged])
  refine ⟨_, if_pos (by rw [running, on]; rfl), s.onlyPont_modField p _, ?_, (Pont.sameValues_of_frame frame fun i => (outs i).2 :),
    (congrArg Pont.ins frame :), fun k other => ?_, fun i target => (outs i).1.trans (Pont.heldNow_of_rx j (hold i target))⟩
  · have rx := (congrArg Pont.rx frame :)
    rw [vat_fin] at trig
    simpa only [rx] using trig
  · have rx := (congrArg Pont.rx frame :)
    have kept := others k other
    rw [vat_fin, vat_fin] at kept
    simpa only [rx] using kept

/-- A counter set is the counter changed in its place. -/
theorem set_count (v : Vector CtSt 4) (i : Fin 4) (f : CtSt → BitVec 46) :
    vmod v i (fun c => { c with count := f (vat v i {}) }) = v.set i { v[i] with count := f v[i] } := by
  rw [vat_fin]
  simp [vmod]

theorem rxCond_word {x y : Pont} (setup : y.setup = x.setup) (p j : Nat) : y.rxWord p j = x.rxWord p j := by
  rw [Pont.rxWord, Pont.rxWord, Pont.outRec, Pont.outRec, setup]

/-- The samples of a class L or class S input (R221, R228, R238). -/
theorem inputLevelChange_spec (s : State) (p : Fin 4) (i : Fin 8) (l : List (Bool × Bool)) :
    let x := s.pont p
    let t := s.samplesIn p i l
    let own (v : Bool × Bool) : Bool := if i.val % 2 = 0 then v.1 else v.2
    (∀ k : Fin 8, k.val / 2 ≠ i.val / 2 → (t.pont p).ins[k] = x.ins[k])
      ∧ (4 ≤ i.val ∨ x.running = false ∨ x.dark = true → (t.pont p).cts = x.cts)
      ∧ ((∀ v ∈ l, own v = x.ins[i].raw) → (t.pont p).ins[i].raw = x.ins[i].raw)
      ∧ (x.ins[i].cmp = x.ins[i].raw → l.length < x.preN p i → (t.pont p).ins[i].raw = x.ins[i].raw)
      ∧ ((∀ v ∈ l, v = ((vat x.ins (i.val / 2 * 2) {}).raw, (vat x.ins (i.val / 2 * 2 + 1) {}).raw)) →
          (t.pont p).rx = x.rx ∧ (t.pont p).cts = x.cts)
      ∧ (x.preN p i ≤ l.length → (∀ v ∈ l, own v ≠ x.ins[i].raw) → (t.pont p).ins[i].raw = (!x.ins[i].raw) ∧ (t.pont p).Judged p) := by
  intro x t own
  have lt : i.val / 2 * 2 + 1 < 8 := by omega
  obtain ⟨-, ins, cts, rx, -, -, -, -, judged, -⟩ := s.samplesIn_spec p i l lt
  change (t.pont p).ins = (x.samples p (i.val / 2 * 2) l).ins at ins
  change (t.pont p).cts = (x.samples p (i.val / 2 * 2) l).cts at cts
  change (t.pont p).rx = (x.samples p (i.val / 2 * 2) l).rx at rx
  change _ → (t.pont p).Judged p at judged
  have sampled := Pont.samples_sampled p lt l x
  have side (v : Bool × Bool) : sideOf (i.val / 2 * 2) i v = own v := by
    by_cases even : i.val % 2 = 0
    · rw [sideOf, if_pos (by omega)]
      exact (if_pos even).symm
    · rw [sideOf, if_neg (by omega)]
      exact (if_neg even).symm
  have now (k : Fin 8) (y : Pont) : vat y.ins k {} = y.ins[k] := vat_fin ..
  have raw : (t.pont p).ins[i].raw = (vat (x.samples p (i.val / 2 * 2) l).ins i {}).raw := by rw [vat_fin]; simp only [ins]
  refine ⟨fun k other => ?_, fun c => ?_, fun same => ?_, fun fresh short => ?_, fun still => ?_, fun long other => ⟨?_, ?_⟩⟩
  · have kept := sampled.others k (by omega) (by omega)
    rw [now, now] at kept
    simpa only [ins] using kept
  · rw [cts]
    exact sampled.counters (c.imp_left fun h => by omega)
  · rw [raw, Pont.samples_raw_still lt fun v mem => by rw [side, now]; exact same v mem, now]
  · rw [raw, Pont.samples_raw_short lt (by rw [now]; exact fresh) short, now]
  · have quiet := Pont.samples_still p lt l x fun v mem e pair => by
      rw [still v mem]
      rcases pair with rfl | rfl
      · exact sideOf_first ..
      · exact sideOf_second ..
    rw [rx, cts]
    exact ⟨(congrArg Pont.rx quiet.frame :), (congrArg Pont.cts quiet.frame :)⟩
  · rw [raw, Pont.samples_raw_long lt long fun v mem => by rw [side, now]; exact other v mem, now]
  · exact judged (Pont.samples_long_judged lt long fun v mem => by rw [side, now]; exact other v mem)

/-- Both levels of a quadrature counter changed by the same samples: an error, and no edge (R234). -/
theorem Pont.samples_error {x : Pont} {p : Nat} {i : Fin 4} {l : List (Bool × Bool)} (running : x.running = true) (light : x.dark = false)
    (quad : 4 ≤ x.ctMode p (i.val / 2 * 2)) (alike : x.preN p i = x.preN p (partner i)) (long : x.preN p i ≤ l.length)
    (fresh : (vat x.ins i {}).cmp = (vat x.ins i {}).raw) (fresh' : (vat x.ins (partner i) {}).cmp = (vat x.ins (partner i) {}).raw)
    (shows : ∀ v ∈ l, sideOf (i.val / 2 * 2) i v = (!(vat x.ins i {}).raw)
      ∧ sideOf (i.val / 2 * 2) (partner i) v = (!(vat x.ins (partner i) {}).raw)) :
    (x.samples p (i.val / 2 * 2) l).cts = x.cts
      ∧ (⟨⟨0x130 + 4 * p + i.val / 2 * 2, 8⟩, 1⟩ : RcInc) ∈ (x.samples p (i.val / 2 * 2) l).rcInc := by
  generalize even : i.val / 2 * 2 = k at *
  have lt : k + 1 < 8 := by omega
  have pairs : ∀ e, e = k ∨ e = k + 1 → x.preN p e = x.preN p i ∧ (vat x.ins e {}).cmp = (vat x.ins e {}).raw
      ∧ ∀ v ∈ l, sideOf k e v = !(vat x.ins e {}).raw := by
    have own := And.intro (rfl : x.preN p i = x.preN p i) (And.intro fresh fun v mem => (shows v mem).1)
    have other := And.intro alike.symm (And.intro fresh' fun v mem => (shows v mem).2)
    intro e pair
    have ends : e = i.val ∨ e = partner i := partner_ends (by rwa [even])
    rcases ends with rfl | rfl
    · exact own
    · exact other
  obtain ⟨preA, cmpA, showsA⟩ := pairs k (.inl rfl)
  obtain ⟨preB, cmpB, showsB⟩ := pairs (k + 1) (.inr rfl)
  have low : 1 ≤ x.preN p k := (prefilterN_range (bf x.inRec (8 * p + k) 19 17)).1
  have quadPair : x.quadPair p k = true := by
    rw [Pont.quadPair]
    simp only [Bool.and_eq_true, decide_eq_true_eq]
    exact ⟨by omega, quad⟩
  have begins (d : DiSt) (fresh : d.cmp = d.raw) : preRun d.pre (!d.raw) = 0 + 1 := by
    rw [preRun, if_neg]
    show ¬ (!d.raw) = d.cmp
    rw [fresh]
    simp
  obtain ⟨u, re, error⟩ := Pont.samples_both p lt (a := !(vat x.ins k {}).raw) (b := !(vat x.ins (k + 1) {}).raw) l x 0 quadPair
    (preA.trans preB.symm) low (begins _ cmpA) (begins _ cmpB) (by omega) (by simp) (by simp)
    fun v mem => by
      have first := showsA v mem
      have second := showsB v mem
      rw [sideOf_first] at first
      rw [sideOf_second] at second
      exact Prod.ext first second
  obtain ⟨-, -, -, -, cts, counted⟩ := u.quadErr_spec p (!(vat x.ins k {}).raw) (!(vat x.ins (k + 1) {}).raw) lt
  rw [(congrArg Pont.cts error.frame :), (congrArg Pont.rcInc error.frame :)]
  exact ⟨cts.trans (congrArg Pont.cts re.frame :), counted ((congrArg Pont.running re.frame :).trans running)
    ((congrArg Pont.dark re.frame :).trans light)⟩

/-- The counters that a single edge leaves, by the modes of the pair (R233, R234, R235). -/
theorem Pont.countedBy_edgeOf (x : Pont) (p : Nat) (i : Fin 4) (rising : Bool) :
    let even := i.val / 2 * 2
    let y := x.countedBy p (x.edgeOf p i rising)
    let counts := (x.ctMode p i = 1 ∧ rising = true) ∨ (x.ctMode p i = 2 ∧ rising = false) ∨ x.ctMode p i = 3
    let moved (c : CtSt) (up : Bool) : BitVec 46 := if up = true then c.count + 1 else c.count - 1
    (x.ctMode p even < 4 → counts → y = x.cts.set i { x.cts[i] with count := moved x.cts[i] (!x.ctDown p i) })
    ∧ (x.ctMode p even < 4 → ¬counts → y = x.cts)
    ∧ (4 ≤ x.ctMode p even → x.ctMode p even < 6 → even + 1 = i.val → y = x.cts)
    ∧ (x.ctMode p even = 4 → even = i.val → rising = false → y = x.cts)
    ∧ ((x.ctMode p even = 4 ∧ rising = true) ∨ x.ctMode p even = 5 ∨ x.ctMode p even = 6 → even = i.val →
        (vat y even {}).count = moved (vat x.cts even {}) ((rising != (vat x.ins (partner i) {}).raw) != x.ctDown p even))
    ∧ (x.ctMode p even = 6 → even + 1 = i.val →
        (vat y even {}).count = moved (vat x.cts even {}) ((rising == (vat x.ins (partner i) {}).raw) != x.ctDown p even)) := by
  intro even y counts moved
  have edge := x.edgeOf_eq p i rising
  have second (odd : even + 1 = i.val) : ¬ i.val = i.val / 2 * 2 := by
    have : i.val / 2 * 2 + 1 = i.val := odd
    omega
  have none_ (e : x.edgeOf p i rising = none) : y = x.cts := by
    show x.countedBy p (x.edgeOf p i rising) = _
    rw [e, Pont.countedBy]
  have some_ {up : Bool} (e : x.edgeOf p i rising = some (even, up)) :
      (vat y even {}).count = moved (vat x.cts even {}) (up != x.ctDown p even) := by
    show (vat (x.countedBy p (x.edgeOf p i rising)) even {}).count = _
    rw [e, Pont.countedBy, vat_vmod _ _ _ (show i.val / 2 * 2 < 4 by omega)]
  refine ⟨fun single yes => ?_, fun single no => none_ ?_, fun quad below odd => none_ ?_, fun quad here falls => none_ ?_,
    fun quad here => some_ ?_, fun quad odd => some_ ?_⟩
  · have e : x.edgeOf p i rising = some (i.val, true) := edge.trans ((if_neg (Nat.not_le.2 single)).trans (if_pos yes))
    show x.countedBy p (x.edgeOf p i rising) = _
    rw [e, Pont.countedBy]
    exact (set_count x.cts i fun c => if (true != x.ctDown p i) = true then c.count + 1 else c.count - 1).trans (by rw [Bool.true_bne])
  · exact edge.trans ((if_neg (Nat.not_le.2 single)).trans (if_neg no))
  · exact edge.trans ((if_pos quad).trans ((if_neg (second odd)).trans (if_neg (Nat.ne_of_lt below))))
  · exact edge.trans ((if_pos quad.ge).trans ((if_pos here.symm).trans (if_pos ⟨quad, falls⟩)))
  · refine edge.trans ((if_pos ?_).trans ((if_pos here.symm).trans (if_neg ?_)))
    · rcases quad with ⟨h, -⟩ | h | h <;> exact h.symm ▸ by decide
    rintro ⟨four, falls⟩
    rcases quad with ⟨-, rises⟩ | five | six
    · exact absurd (falls.symm.trans rises) (by decide)
    · exact absurd (four.symm.trans five) (by decide)
    · exact absurd (four.symm.trans six) (by decide)
  · exact edge.trans ((if_pos (quad.symm ▸ by decide)).trans ((if_neg (second odd)).trans (if_pos quad)))

/-- Settles O24: every level goes through its own prefilter, and each accepted one is one edge and one judgement. -/
theorem reflexesAndCounters : Obligations.ReflexesAndCounters := by
  refine ⟨fun s p => ⟨fun j running on => reflexTrigger_on running on, fun j off => if_neg (by simp [off]), fun i l => ?_⟩,
    fun s p i sa sb => ?_⟩
  · have lt : i.val / 2 * 2 + 1 < 8 := by omega
    obtain ⟨only, -, -, -, landed, ais, grp, setup, -, running, -⟩ := s.samplesIn_spec p i l lt
    obtain ⟨others, counters, same, short, still, long⟩ := inputLevelChange_spec s p i l
    refine ⟨_, rfl, fun k sa sb at_ zip => ?_, only, others, landed, ais, grp, setup, counters, same, short, still, fun many other => ?_⟩
    · show Host.Outcome.next (s.samplesIn p k (sa.zip sb)) = _
      rw [at_, zip]
    · obtain ⟨flips, judged⟩ := long many other
      refine ⟨flips, fun run j on => ?_⟩
      obtain ⟨trig, held⟩ := judged (running.trans run) j on
      exact ⟨trig, fun k target => held k ((congrArg (BitVec.getLsbD · (10 + k.val)) (rxCond_word setup p j)).trans target)⟩
  · have lt : i.val / 2 * 2 + 1 < 8 := by omega
    obtain ⟨only, ins, cts, -, landed, ais, grp, setup, judged, running, counts⟩ := s.samplesIn_spec p i (sa.zip sb) lt
    intro x l even j d n own oth rising alone both mode down countsHere moved
    have level (k : Nat) : (vat ((s.samplesIn p i l).pont p).ins k {}) = vat (x.samples p even l).ins k {} := by rw [ins]
    have ownSide (v : Bool × Bool) : own v = sideOf even i v := rfl
    have othSide (v : Bool × Bool) : oth v = sideOf even j v := by
      rcases partner_pair i with ⟨here, next⟩ | ⟨here, next⟩
      · rw [show j = even + 1 from next, sideOf_second]
        exact if_pos here
      · rw [show j = even from next, sideOf_first]
        exact if_neg (by omega)
    have halfJ : j / 2 * 2 = even := partner_half i
    refine ⟨fun still => ⟨_, rfl, ?_⟩, fun change => ⟨_, rfl, only, ?_⟩⟩
    · have quiet : x.Resampled (x.samples p even l) := Pont.samples_still p lt l x fun v mem e pair => by
        have ends : e = i.val ∨ e = j := partner_ends pair
        obtain ⟨first, second⟩ := still v mem
        rcases ends with rfl | rfl
        · exact first
        · exact (othSide v).symm.trans second
      exact ⟨(congrArg DiSt.raw (level i)).trans (quiet.raw i), (congrArg DiSt.raw (level j)).trans (quiet.raw j),
        cts.trans (congrArg Pont.cts quiet.frame :), State.samplesIn_still quiet⟩
    · have n_le : x.preN p i ≤ l.length := change.elim And.left fun h => h.2.1
      have flips : ∀ v ∈ l, own v = rising := fun v mem => change.elim (fun h => (h.2 v mem).1) fun h => (h.2.2.2.2 v mem).1
      have flips' : ∀ v ∈ l, sideOf even i v ≠ (d i).raw := fun v mem => by
        rw [← ownSide, flips v mem]
        simp [rising]
      have rawJ (same : alone) : (vat (x.samples p even l).ins j {}).raw = (d j).raw := by
        have kept := Pont.samples_raw_still (x := x) (p := p) (i := j) (l := l) (by omega)
        rw [halfJ] at kept
        exact kept fun v mem => (othSide v).symm.trans (same.2 v mem).2
      have rawJ' (h : both) : (vat (x.samples p even l).ins j {}).raw = !(d j).raw := by
        have flipped := Pont.samples_raw_long (x := x) (p := p) (i := j) (l := l) (by omega) (h.1.symm.trans_le n_le)
        rw [halfJ] at flipped
        refine flipped fun v mem => ?_
        rw [← othSide, (h.2.2.2.2 v mem).2]
        simp [d]
      have others := (Pont.samples_sampled p lt l x).others
      refine ⟨landed, ais, grp, setup, (congrArg DiSt.raw (level i)).trans (Pont.samples_raw_long lt n_le flips'),
        fun h => (congrArg DiSt.raw (level j)).trans (rawJ h), fun h => (congrArg DiSt.raw (level j)).trans (rawJ' h),
        fun k other => ?_, fun run k on => ?_, fun off => ?_, fun run light => ?_⟩
      · have kept := others k (by omega) (by omega)
        rw [vat_fin, vat_fin] at kept
        simpa only [ins] using kept
      · obtain ⟨trig, held⟩ := judged (Pont.samples_long_judged lt n_le flips') (running.trans run) k on
        exact ⟨trig, fun m target => held m ((congrArg (BitVec.getLsbD · (10 + m.val)) (rxCond_word setup p k)).trans target)⟩
      · exact cts.trans ((Pont.samples_sampled p lt l x).counters (.inr off))
      · have one (h : alone) := Pont.samples_edge lt run light i.isLt h.1 fun v mem => ⟨(h.2 v mem).1, (othSide v).symm.trans (h.2 v mem).2⟩
        obtain ⟨c1, c2, c3, c4, c5, c6⟩ := x.countedBy_edgeOf p i rising
        refine ⟨fun h quad => ?_, fun h m c => cts.trans ((one h).trans (c1 m c)), fun h m c => cts.trans ((one h).trans (c2 m c)),
          fun h m m' e => cts.trans ((one h).trans (c3 m m' e)), fun h m e f => cts.trans ((one h).trans (c4 m e f)),
          fun h m e => ?_, fun h m e => ?_⟩
        · obtain ⟨same, counted⟩ := Pont.samples_error run light quad h.1 n_le h.2.2.1 h.2.2.2.1 fun v mem =>
            ⟨(h.2.2.2.2 v mem).1, (othSide v).symm.trans (h.2.2.2.2 v mem).2⟩
          exact ⟨cts.trans same, counts counted⟩
        · exact (congrArg (fun v => (vat v even {}).count) (cts.trans (one h))).trans (c5 m e)
        · exact (congrArg (fun v => (vat v even {}).count) (cts.trans (one h))).trans (c6 m e)

end Sys2Proof.Machine
end

section
/-! PROOFS. What a pontoon does with the beats, the comparison and the manifests of its gangways (R43 to R55, R187 to R190). -/

namespace Sys2Proof.Machine

/-! ### The comparison of the manifests (R189) -/

/-- The outline of R189, one case each. -/
theorem compareMans_cases :
    let own (v : HelmId) (a b : List Word) : List Word := match v with | .a => a | .b => b
    (∀ a b v, manView a = some v → manView b = some v →
      (a.tail = b.tail → compareMans (some a) (some b) = (.agreed, some v, some (own v a b), true))
      ∧ (a.tail ≠ b.tail → manProving (own v b a) = true →
          compareMans (some a) (some b) = (.provingMismatch, some v, some (own v a b), true))
      ∧ (a.tail ≠ b.tail → manProving (own v b a) = false → compareMans (some a) (some b) = (.mismatch, some v, none, true)))
    ∧ (∀ a b v, manView a = some v → manView b ≠ some v → compareMans (some a) (some b) = (.viewSplit, none, none, true))
    ∧ (∀ a, (manView a = some .a → compareMans (some a) none = (.shadowMissing, some .a, some a, true))
        ∧ (manView a ≠ some .a → compareMans (some a) none = (.late, none, none, false)))
    ∧ (∀ b, (manView b = some .b → compareMans none (some b) = (.shadowMissing, some .b, some b, true))
        ∧ (manView b ≠ some .b → compareMans none (some b) = (.late, none, none, false))) := by
  intro own
  refine ⟨fun a b v viewA viewB => ?_, fun a b v viewA viewB => ?_, fun a => ⟨fun h => if_pos h, fun h => if_neg h⟩,
    fun b => ⟨fun h => if_pos h, fun h => if_neg h⟩⟩
  · have outline : compareMans (some a) (some b) = if (own v a b).tail = (own v b a).tail then (.agreed, some v, some (own v a b), true)
        else if manProving (own v b a) then (.provingMismatch, some v, some (own v a b), true) else (.mismatch, some v, none, true) := by
      rw [compareMans, viewA, viewB]
      exact if_neg (fun differ => differ rfl)
    have tails : (own v a b).tail = (own v b a).tail ↔ a.tail = b.tail := by
      cases v
      · exact Iff.rfl
      · exact eq_comm
    rw [outline]
    exact ⟨fun same => if_pos (tails.2 same), fun differ proving => (if_neg (mt tails.1 differ)).trans (if_pos proving),
      fun differ proving => (if_neg (mt tails.1 differ)).trans (if_neg (by simp [proving]))⟩
  · simp [compareMans, viewA, Ne.symm viewB]

theorem execManifestCompare_on {s : State} {p : Fin 4} (running : (s.pont p).running = true) (marked : (s.pont p).marked = true)
    (from_ : 232 ≤ s.tb.stroke) (before : s.tb.stroke < 240) {ma mb : Option (List Word)}
    (heldA : (s.pont p).gwA.manFor (s.pont p).crossing = ma) (heldB : (s.pont p).gwB.manFor (s.pont p).crossing = mb)
    {v : Verdict} {by_ : Option HelmId} {c : Option (List Word)} {had : Bool} (found : compareMans ma mb = (v, by_, c, had)) :
    exec (.manifestCompare p) s = .next (s.modPont p (fun y => { y with
      verdict := v, chosenBy := by_, chosen := c, hadMan := had, gwA := { y.gwA with mans := [] }, gwB := { y.gwB with mans := [] } })) := by
  subst heldA heldB
  refine (if_neg (by simp [running, marked, from_, before])).trans ?_
  rw [found]

/-- Settles O31: the outline case by case. -/
theorem manifestCompare : Obligations.ManifestCompare := by
  intro s p x ma mb own is
  obtain ⟨both, split, onlyA, onlyB⟩ := compareMans_cases
  refine ⟨fun running marked from_ before => ?_, fun off => if_pos ?_⟩
  · have run {va vb v by_ c had} (heldA : ma = va) (heldB : mb = vb) (found : compareMans va vb = (v, by_, c, had)) : is v by_ c had :=
      execManifestCompare_on running marked from_ before heldA heldB found
    refine ⟨fun a b v heldA heldB viewA viewB => ?_, fun a b v heldA heldB viewA viewB => run heldA heldB (split a b v viewA viewB),
      fun a heldA heldB => ⟨fun view => run heldA heldB ((onlyA a).1 view), fun view => run heldA heldB ((onlyA a).2 view)⟩,
      fun b heldA heldB => ⟨fun view => run heldA heldB ((onlyB b).1 view), fun view => run heldA heldB ((onlyB b).2 view)⟩,
      fun heldA heldB => run heldA heldB rfl⟩
    obtain ⟨agreed, proving, mismatch⟩ := both a b v viewA viewB
    exact ⟨fun same => run heldA heldB (agreed same), fun differ p => run heldA heldB (proving differ p),
      fun differ p => run heldA heldB (mismatch differ p)⟩
  · simpa [or_assoc] using off

end Sys2Proof.Machine
end

section
/-! PROOFS. The gangway ports of a pontoon: beats, silence, gangways down (R43 to R45, R373, R391). -/

namespace Sys2Proof.Machine

/-! ### A change of a gangway port -/

@[simp] theorem Pont.modGw_gw (x : Pont) (h : HelmId) (f : GwPort → GwPort) : (x.modGw h f).gw h = f (x.gw h) := by
  cases h <;> rfl

@[simp] theorem Pont.modGw_gw_other (x : Pont) (h : HelmId) (f : GwPort → GwPort) : (x.modGw h f).gw (otherHelm h) = x.gw (otherHelm h) := by
  cases h <;> rfl

theorem Pont.modGw_frame (x : Pont) (h : HelmId) (f : GwPort → GwPort) :
    x.modGw h f = { x with gwA := (x.modGw h f).gwA, gwB := (x.modGw h f).gwB } := by
  cases h <;> rfl

theorem State.modPont_id {s : State} {p : Fin 4} {f : Pont → Pont} (same : f (s.pont p) = s.pont p) : s.modPont p f = s := by
  rw [State.pont] at same
  rw [State.modPont, same]
  exact (s.onlyPont_refl p).symm

/-! ### Beats -/

/-- A beat changes the ports, the regenerator, the mark and the crossing. -/
theorem Pont.beat_frame (x : Pont) (h : HelmId) : ∃ ga gb n l m c,
    x.beat h = { x with gwA := ga, gwB := gb, regBeats := n, lastBeat := l, mark := m, crossing := c } := by
  unfold Pont.beat
  split
  · exact ⟨x.gwA, x.gwB, x.regBeats, x.lastBeat, x.mark, x.crossing, rfl⟩
  · next m rest slip =>
    extract_lets y z
    have frame : y = { x with gwA := y.gwA, gwB := y.gwB } := x.modGw_frame h _
    obtain ⟨ga, gb, took⟩ : ∃ ga gb, y = { x with gwA := ga, gwB := gb } := ⟨_, _, frame⟩
    split
    · exact ⟨ga, gb, x.regBeats, x.lastBeat, x.mark, x.crossing, took⟩
    · cases m.mark <;> exact ⟨ga, gb, _, _, _, _, by simp only [z, took]; rfl⟩

/-- The oldest symbol of a gangway taken: it counts, and its mark, where the pontoon follows that gangway and no other has brought the beat
(R43). -/
theorem Pont.beat_cons {x : Pont} {h : HelmId} {b : Beat} {rest : List Beat} (slip : (x.gw h).slip = b :: rest) :
    let y := x.modGw h (fun g => { g with slip := rest, alive := true, beats := min 64 (g.beats + 1) })
    let z := x.beat h
    (z.gw h = y.gw h ∧ z.gw (otherHelm h) = x.gw (otherHelm h) ∧ z.outs = x.outs)
      ∧ (y.follows = h → x.lastBeat < b.no → z.lastBeat = b.no ∧ z.regBeats = min 64 (x.regBeats + 1)
        ∧ (b.mark = .sounding → z.crossing = x.crossing + 1 ∧ z.mark = .sounding)
        ∧ (b.mark = .landing → z.crossing = x.crossing ∧ z.mark = .landing))
      ∧ (y.follows ≠ h ∨ b.no ≤ x.lastBeat → z.lastBeat = x.lastBeat ∧ z.regBeats = x.regBeats)
      ∧ (y.follows ≠ h ∨ b.no ≤ x.lastBeat ∨ b.mark = .plain → z.crossing = x.crossing ∧ z.mark = x.mark) := by
  intro y z
  have own : y.gw h = _ := x.modGw_gw h _
  have other : y.gw (otherHelm h) = x.gw (otherHelm h) := x.modGw_gw_other h _
  obtain ⟨ga, gb, took⟩ : ∃ ga gb, y = { x with gwA := ga, gwB := gb } := ⟨_, _, x.modGw_frame h _⟩
  have beat : z = if (decide (y.follows ≠ h) || decide (b.no ≤ y.lastBeat)) = true then y else
      match b.mark with
      | .plain => { y with regBeats := min 64 (y.regBeats + 1), lastBeat := b.no }
      | .sounding => { y with regBeats := min 64 (y.regBeats + 1), lastBeat := b.no, mark := .sounding, crossing := y.crossing + 1 }
      | .landing => { y with regBeats := min 64 (y.regBeats + 1), lastBeat := b.no, mark := .landing } := by
    show x.beat h = _
    unfold Pont.beat
    rw [slip] <;> rfl
  have last : y.lastBeat = x.lastBeat := (congrArg Pont.lastBeat took :)
  have beats : y.regBeats = x.regBeats := (congrArg Pont.regBeats took :)
  have crossing : y.crossing = x.crossing := (congrArg Pont.crossing took :)
  have mark : y.mark = x.mark := (congrArg Pont.mark took :)
  have outs : y.outs = x.outs := (congrArg Pont.outs took :)
  rw [last] at beat
  clear_value y
  by_cases counts : y.follows = h ∧ x.lastBeat < b.no
  · obtain ⟨follows, new⟩ := counts
    rw [if_neg (by simp [follows, new])] at beat
    have not_ : ¬ (y.follows ≠ h ∨ b.no ≤ x.lastBeat) := by
      rintro (e | e)
      · exact e follows
      · omega
    refine ⟨?_, fun _ _ => ?_, fun off => absurd off not_, fun off => ?_⟩
    · rw [beat]
      cases b.mark <;> exact ⟨by cases h <;> rfl, by rw [← other]; cases h <;> rfl, outs⟩
    · rw [beat]
      cases b.mark <;> simp [beats, crossing]
    · rcases off with off | off | plain
      · exact absurd (.inl off) not_
      · exact absurd (.inr off) not_
      · rw [beat, plain]
        exact ⟨crossing, mark⟩
  · have stays : z = y := beat.trans (if_pos (by
      rw [not_and_or, Nat.not_lt] at counts
      simpa using counts))
    rw [stays]
    exact ⟨⟨rfl, other, outs⟩, fun follows new => absurd ⟨follows, new⟩ counts, fun _ => ⟨last, beats⟩, fun _ => ⟨crossing, mark⟩⟩

/-- A pontoon as its logic starts (R363). -/
theorem Pont.started_spec (x : Pont) (p : Nat) : ∃ outs queue bells recs rc, x.started p = { x.lost with
    running := true, configuring := true, startDark := true, sag := 0b1000, silence := true, safenLow := true,
    cts := Vector.replicate 4 { started := true, gap := true }, grp := { minWins := 1 },
    outs := outs, queue := queue, bells := bells, recs := recs, rcInc := rc } := ⟨_, _, _, _, _, rfl⟩

/-! ### Silence, and gangways down -/

/-- GW_DOWN at a port: what it changes, and that a port already down notes nothing more. -/
theorem Pont.setGwDown_spec (x : Pont) (p : Nat) (h : HelmId) :
    let y := x.setGwDown p h
    (∃ ga gb rc bells recs, y = { x with gwA := ga, gwB := gb, rcInc := rc, bells := bells, recs := recs })
      ∧ y.gw h = { x.gw h with up := false, beats := 0, discards := 0 } ∧ y.gw (otherHelm h) = x.gw (otherHelm h)
      ∧ ((x.gw h).up = true → y.bells = x.bells ||| oneBit bellField)
      ∧ ((x.gw h).up = false → y.bells = x.bells ∧ y.recs = x.recs) := by
  intro y
  obtain ⟨ga, gb, mod⟩ : ∃ ga gb, x.modGw h (fun g => { g with up := false, beats := 0, discards := 0 }) = { x with gwA := ga, gwB := gb } :=
    ⟨_, _, x.modGw_frame h _⟩
  have own := x.modGw_gw h (fun g => { g with up := false, beats := 0, discards := 0 })
  have other := x.modGw_gw_other h (fun g => { g with up := false, beats := 0, discards := 0 })
  rw [mod] at own other
  by_cases was : (x.gw h).up = true
  · have down : y = _ := if_pos was
    rw [mod] at down
    rw [down]
    refine ⟨⟨ga, gb, _, _, _, rfl⟩, ?_, ?_, fun _ => rfl, fun off => absurd (was.symm.trans off) (by decide)⟩
    · rw [← own]
      cases h <;> rfl
    · rw [← other]
      cases h <;> rfl
  · have down : y = _ := if_neg was
    rw [mod] at down
    rw [down]
    exact ⟨⟨ga, gb, _, _, _, rfl⟩, own, other, fun on => absurd on was, fun _ => ⟨rfl, rfl⟩⟩

theorem Pont.beatsMissing_spec (x : Pont) (p : Nat) (h : HelmId) :
    let y := x.beatsMissing p h
    (y.gw h).up = false ∧ (y.gw h).alive = false ∧ y.gw (otherHelm h) = x.gw (otherHelm h) ∧ y.outs = x.outs
      ∧ ((x.gw (otherHelm h)).alive = false → y.marked = false ∧ y.mark = .plain)
      ∧ ((x.gw (otherHelm h)).alive = true → y.marked = x.marked ∧ y.mark = x.mark)
      ∧ ((x.gw h).up = true → y.bells = x.bells ||| oneBit bellField)
      ∧ ((x.gw h).up = false → y.bells = x.bells ∧ y.recs = x.recs) := by
  obtain ⟨⟨ga, gb, rc, bells, recs, frame⟩, own, other, rings, quiet⟩ := x.setGwDown_spec p h
  intro y
  have missing : y = if (((x.setGwDown p h).modGw h (fun g => { g with alive := false })).gwA.alive
      || ((x.setGwDown p h).modGw h (fun g => { g with alive := false })).gwB.alive) = true
      then (x.setGwDown p h).modGw h (fun g => { g with alive := false })
      else { (x.setGwDown p h).modGw h (fun g => { g with alive := false }) with marked := false, mark := .plain } := rfl
  clear_value y
  generalize x.setGwDown p h = w at frame own other rings quiet missing
  obtain ⟨z, gw⟩ : ∃ z, w.modGw h (fun g => { g with alive := false }) = z := ⟨_, rfl⟩
  rw [gw] at missing
  obtain ⟨ga', gb', mod⟩ : ∃ ga gb, z = { w with gwA := ga, gwB := gb } := ⟨_, _, gw ▸ w.modGw_frame h _⟩
  have ownZ : z.gw h = { w.gw h with alive := false } := gw ▸ w.modGw_gw h _
  have otherZ : z.gw (otherHelm h) = x.gw (otherHelm h) := (gw ▸ w.modGw_gw_other h _).trans other
  have alive : (z.gwA.alive || z.gwB.alive) = (x.gw (otherHelm h)).alive := by
    have dead : (z.gw h).alive = false := congrArg GwPort.alive ownZ
    rw [← otherZ]
    cases h
    · show (z.gwA.alive || _) = _
      rw [show z.gwA.alive = false from dead]
      rfl
    · show (_ || z.gwB.alive) = _
      rw [show z.gwB.alive = false from dead, Bool.or_false]
      rfl
  have up : (z.gw h).up = false := by rw [ownZ, own]
  have dead : (z.gw h).alive = false := by rw [ownZ]
  have bellsZ : z.bells = w.bells := (congrArg Pont.bells mod :)
  have recsZ : z.recs = w.recs := (congrArg Pont.recs mod :)
  have outs : z.outs = x.outs := (congrArg Pont.outs mod :).trans (congrArg Pont.outs frame :)
  have marks : z.marked = x.marked ∧ z.mark = x.mark :=
    ⟨(congrArg Pont.marked mod :).trans (congrArg Pont.marked frame :), (congrArg Pont.mark mod :).trans (congrArg Pont.mark frame :)⟩
  rw [alive] at missing
  cases beats : (x.gw (otherHelm h)).alive
  · rw [beats] at missing
    rw [show y = _ from missing]
    refine ⟨?_, ?_, ?_, outs, fun _ => ⟨rfl, rfl⟩, fun on => absurd on (by decide), fun on => bellsZ.trans (rings on),
      fun off => ⟨bellsZ.trans (quiet off).1, recsZ.trans (quiet off).2⟩⟩
    · refine Eq.trans (b := (z.gw h).up) ?_ up
      cases h <;> rfl
    · refine Eq.trans (b := (z.gw h).alive) ?_ dead
      cases h <;> rfl
    · refine Eq.trans (b := z.gw (otherHelm h)) ?_ otherZ
      cases h <;> rfl
  · rw [beats] at missing
    rw [show y = z from missing]
    exact ⟨up, dead, otherZ, outs, fun off => absurd off (by decide), fun _ => marks, fun on => bellsZ.trans (rings on),
      fun off => ⟨bellsZ.trans (quiet off).1, recsZ.trans (quiet off).2⟩⟩

/-- Silence holds every output, and the soundings wait for a crossing number (R45). -/
theorem gangwaySilence_running {s : State} {p : Fin 4} (running : (s.pont p).running = true) :
    ∃ t, exec (.gangwaySilence p) s = .next t ∧ OnlyPont p s t ∧ (t.pont p).silence = true ∧ (t.pont p).marked = false
      ∧ (t.pont p).sameValues (s.pont p) ∧ (∀ i : Fin 8, (t.pont p).outs[i].held = true)
      ∧ (t.pont p).gwA.mans = [] ∧ (t.pont p).gwB.mans = [] := by
  obtain ⟨frame, outs⟩ := State.modField_holds (s := s) (p := p) (f := fun x => { x with
      silence := true
      marked := false
      mark := .plain
      gwA := { x.gwA with alive := false, beats := 0, mans := [] }
      gwB := { x.gwB with alive := false, beats := 0, mans := [] } }.refreshHolds p) rfl
  refine ⟨_, if_pos running, s.onlyPont_modField p _, (congrArg Pont.silence frame :), (congrArg Pont.marked frame :),
    (Pont.sameValues_of_frame frame fun i => (outs i).2 :), fun i => (outs i).1.trans ?_,
    (congrArg (fun x => x.gwA.mans) frame :), (congrArg (fun x => x.gwB.mans) frame :)⟩
  simp [Pont.heldNow]

/-- After the wake a pontoon starts with the first beat from a helm in service (R391). -/
theorem execBeat_restarts {s : State} {p : Fin 4} {h : HelmId} (stopped : (s.pont p).running = false) (moored : (s.pont p).mooredStop = true)
    (tides : s.tb.tides = true) (mode : s.mode ≠ .moored) (ready : (s.helm h).svc.inService = true) (slip : ((s.pont p).gw h).slip ≠ []) :
    exec (.beat p h) s = .next (s.modPont p (fun y => (y.started p).beat h)) :=
  (if_neg (by simp [stopped])).trans (if_pos (by simp [moored, tides, mode, ready, slip]))

theorem execBeat_stopped {s : State} {p : Fin 4} {h : HelmId} (stopped : (s.pont p).running = false)
    (off : (s.pont p).mooredStop = false ∨ s.tb.tides = false ∨ s.mode = .moored ∨ (s.helm h).svc.inService = false) :
    exec (.beat p h) s = .next (s.modPont p (fun y => y.modGw h (fun g => { g with slip := g.slip.drop 1 }))) :=
  (if_neg (by simp [stopped])).trans (if_neg (by rcases off with off | off | off | off <;> simp [off]))

/-- Settles O29: the oldest symbol of a gangway, case by case, and what missing beats bring. -/
theorem beatsAndSilence : Obligations.BeatsAndSilence := by
  refine ⟨fun s p h => ?_, fun s p h => ?_⟩
  · intro x y
    refine ⟨fun b rest running slip => ?_, fun running slip => ?_, fun stopped moored tides mode ready slip => ?_, fun stopped off => ?_,
      fun running beats lock => ?_, fun beats => ?_⟩
    · obtain ⟨⟨own, other, outs⟩, counts, left, marks⟩ := Pont.beat_cons (x := x) slip
      refine ⟨_, if_pos running, s.onlyPont_modPont p _, ?_⟩
      rw [State.modPont_pont]
      exact ⟨own, other, outs, counts, left, marks⟩
    · refine (if_pos running).trans (congrArg _ (State.modPont_id ?_))
      unfold Pont.beat
      rw [slip]
    · have restarts := execBeat_restarts stopped moored tides mode ready slip
      refine ⟨_, restarts, s.onlyPont_modPont p _, ?_⟩
      rw [State.modPont_pont]
      obtain ⟨outs, queue, bells, recs, rc, starts⟩ := (s.pont p).started_spec p
      rw [starts]
      obtain ⟨ga, gb, n, l, m, c, beat⟩ := Pont.beat_frame _ h
      exact ⟨(congrArg Pont.running beat :), (congrArg Pont.silence beat :), (congrArg Pont.setup beat :)⟩
    · exact execBeat_stopped stopped off
    · exact if_pos (by rw [running, beats, lock]; rfl)
    · exact if_neg (by rw [decide_eq_false beats]; simp)
  · intro x
    refine ⟨fun running => ⟨gangwaySilence_running running, _, if_pos running, s.onlyPont_modPont p _, ?_⟩,
      fun stopped => ⟨if_neg (ne_true_of_eq_false stopped), if_neg (ne_true_of_eq_false stopped)⟩⟩
    rw [State.modPont_pont]
    exact x.beatsMissing_spec p h

end Sys2Proof.Machine
end

section
/-! PROOFS. What the work of a pontoon's inputs, outputs and stages leaves, and the gangway frames at a pontoon. -/

namespace Sys2Proof.Machine

/-! ### What the inputs, outputs, stages and analog channels do not touch -/

/-- A pontoon with its inputs, outputs, stages, channels and what they hand the next report taken away: what their work never changes. -/
def Pont.spine (x : Pont) : Pont :=
  { x with ins := Vector.replicate 8 {}, cts := Vector.replicate 4 {}, rx := Vector.replicate 4 {}, outs := Vector.replicate 8 {}
           pqs := Vector.replicate 2 {}, ais := Vector.replicate 4 {}, grp := {}, wake := {}, queue := [], permitLow := 0
           permitHold := 0, safenHold := false, drive := 0, rcInc := [], bells := 0, recs := [], recsV := [] }

theorem Pont.foldl_spine {α : Type} (f : Pont → α → Pont) (step : ∀ x a, (f x a).spine = x.spine) (l : List α) (x : Pont) :
    (l.foldl f x).spine = x.spine := by
  induction l generalizing x with
  | nil => rfl
  | cons a l ih => rw [List.foldl_cons, ih, step]

theorem Pont.spine_ite {c : Prop} [Decidable c] {x y z : Pont} (h : y.spine = x.spine) (h' : z.spine = x.spine) :
    (if c then y else z).spine = x.spine := by
  split
  · exact h
  · exact h'

@[simp] theorem Pont.unshed_spine (x : Pont) (p : Nat) : (x.unshed p).spine = x.spine := rfl

@[simp] theorem Pont.shedNow_spine (x : Pont) (p : Nat) : (x.shedNow p).spine = x.spine := rfl

@[simp] theorem Pont.refreshHolds_spine (x : Pont) (p : Nat) : (x.refreshHolds p).spine = x.spine := rfl

@[simp] theorem Pont.judgeAllRx_spine (x : Pont) (p : Nat) : (x.judgeAllRx p).spine = x.spine := by
  refine Eq.trans (b := ((List.range 4).foldl (fun x j => x.judgeRx p j) x).spine) rfl (Pont.foldl_spine _ (fun x j => ?_) _ x)
  rw [Pont.judgeRx_frame]
  rfl

@[simp] theorem Pont.takeLanes_spine (x : Pont) (p : Nat) (pins : BitVec 2) : (x.takeLanes p pins).spine = x.spine := by
  refine Pont.foldl_spine _ (fun x l => ?_) _ x
  rfl

@[simp] theorem Pont.markUns_spine (x : Pont) (p : Nat) (old : Pont) : (x.markUns p old).spine = x.spine := by
  refine Pont.foldl_spine _ (fun y i => ?_) _ x
  exact Pont.spine_ite rfl rfl

@[simp] theorem Pont.newAnalog_spine (x : Pont) (p : Nat) (old : Pont) : (x.newAnalog p old).spine = x.spine := by
  unfold Pont.newAnalog
  extract_lets first refCh least g y z w
  have hy : y.spine = x.spine := Pont.spine_ite rfl (Pont.spine_ite rfl rfl)
  have hz : z.spine = y.spine := by
    refine Pont.foldl_spine _ (fun y i => ?_) _ y
    extract_lets rangeCh enCh preCh w0 v0 u v
    have hu : u.spine = y.spine := rfl
    clear_value u
    have hv : v.spine = u.spine := Pont.spine_ite rfl rfl
    clear_value v
    refine Eq.trans (Pont.spine_ite (x := v) ?_ ?_) (hv.trans hu) <;> rfl
  clear_value z
  have hw : w.spine = x.spine := (z.markUns_spine p old).trans (hz.trans hy)
  clear_value w
  refine Eq.trans (Pont.spine_ite (x := w) ?_ ?_) hw <;> rfl

@[simp] theorem Pont.newPq_spine (x : Pont) (p : Nat) (old : Pont) (since : Nat) : (x.newPq p old since).spine = x.spine :=
  Pont.spine_ite rfl rfl

/-- A charter's setups in force: besides the work they change, the store itself. -/
theorem Pont.takeSetup_spine (x : Pont) (p : Nat) (ch : List Word) (pins : BitVec 2) (since : Nat) :
    (x.takeSetup p ch pins since).spine = ({ x with setup := ch, nextSetup := none, loaded := true, configuring := false } : Pont).spine := by
  unfold Pont.takeSetup
  extract_lets old fresh y d z w
  have hy : z.spine = ({ x with setup := ch, nextSetup := none, loaded := true, configuring := false } : Pont).spine := rfl
  clear_value z
  have hw : w.spine = z.spine := by rw [Pont.newPq_spine, Pont.newAnalog_spine, Pont.takeLanes_spine]
  clear_value w
  rw [Pont.unshed_spine, Pont.shedNow_spine, Pont.judgeAllRx_spine]
  exact hw.trans hy

/-- What the stages do to a change of a pontoon is work. -/
theorem State.modField_spine {s : State} {p : Fin 4} {f : Pont → Pont} {x : Pont} (change : f (s.pont p) = x) :
    ((s.modField p f).pont p).spine = x.spine := by
  obtain ⟨frame, -⟩ := State.modField_frame (s := s) change
  rw [frame]
  rfl

end Sys2Proof.Machine
end

section
/-! PROOFS. Gangway frames at a pontoon (R30, R70, R187, R211, R355, R363, R371 to R373). -/

namespace Sys2Proof.Machine

/-! ### A frame that arrives at a pontoon -/

/-- What a frame that fails a check leaves at a pontoon: counts, and a gangway down after four of them (R372, R373). -/
structure Pont.Discards (p : Nat) (h : HelmId) (x y : Pont) : Prop where
  spine : ∃ ga gb, y.spine = ({ x with gwA := ga, gwB := gb } : Pont).spine
  outs : y.outs = x.outs
  mans : (y.gw h).mans = (x.gw h).mans
  other : y.gw (otherHelm h) = x.gw (otherHelm h)
  few : (x.gw h).discards < 3 → y.rcInc = x.rcInc ++ [⟨crcErrKey p h, 1⟩] ∧ y.gw h = { x.gw h with discards := (x.gw h).discards + 1 }
  many : 3 ≤ (x.gw h).discards → (y.gw h).up = false

/-- What a frame that passes leaves: its number noted at the port, and a gap in the numbers counted (R372). -/
structure Pont.Takes (h : HelmId) (x y : Pont) : Prop where
  frame : ∃ ga gb rc, y = { x with gwA := ga, gwB := gb, rcInc := rc }
  own : ∃ sq up, y.gw h = { x.gw h with seq := sq, discards := 0, up := up }
  other : y.gw (otherHelm h) = x.gw (otherHelm h)

theorem Pont.rcIn_gw (x : Pont) (addr lo : Nat) (n : Int) (h : HelmId) : (x.rcIn addr lo n).gw h = x.gw h := by
  cases h <;> rfl

theorem Pont.rxFrame_bad {x : Pont} {p : Nat} {h : HelmId} {f : RxFrame} {t n : Nat} (bad : frPasses f t n false h p = false) :
    (x.rxFrame p h f t n).1 = false ∧ x.Discards p h (x.rxFrame p h f t n).2 := by
  have eq : x.rxFrame p h f t n = (false, if 4 ≤ (x.gw h).discards + 1
      then ((x.modGw h (fun g => { g with discards := (x.gw h).discards + 1 })).rcIn (crcErrKey p h).addr (crcErrKey p h).lo 1).setGwDown p h
      else (x.modGw h (fun g => { g with discards := (x.gw h).discards + 1 })).rcIn (crcErrKey p h).addr (crcErrKey p h).lo 1) :=
    if_neg (by simp [bad])
  rw [eq]
  refine ⟨rfl, ?_⟩
  have own := x.modGw_gw h (fun g => { g with discards := (x.gw h).discards + 1 })
  have other := x.modGw_gw_other h (fun g => { g with discards := (x.gw h).discards + 1 })
  obtain ⟨ga, gb, mod⟩ : ∃ ga gb, x.modGw h (fun g => { g with discards := (x.gw h).discards + 1 }) = { x with gwA := ga, gwB := gb } :=
    ⟨_, _, x.modGw_frame h _⟩
  rw [mod] at own other ⊢
  rw [← Pont.rcIn_gw _ (crcErrKey p h).addr (crcErrKey p h).lo 1] at own other
  by_cases fourth : 4 ≤ (x.gw h).discards + 1
  · rw [if_pos fourth]
    obtain ⟨⟨ga', gb', rc, bells, recs, frame⟩, own', other', -⟩ :=
      ((({ x with gwA := ga, gwB := gb } : Pont).rcIn (crcErrKey p h).addr (crcErrKey p h).lo 1)).setGwDown_spec p h
    refine ⟨⟨ga', gb', ?_⟩, (congrArg Pont.outs frame :), ?_, other'.trans other, fun few => by omega, fun _ => ?_⟩
    · exact (congrArg Pont.spine frame :)
    · exact (congrArg GwPort.mans own' :).trans (congrArg GwPort.mans own :)
    · exact (congrArg GwPort.up own' :)
  · rw [if_neg fourth]
    exact ⟨⟨ga, gb, rfl⟩, rfl, (congrArg GwPort.mans own :), other, fun _ => ⟨rfl, own⟩, fun many => by omega⟩

theorem Pont.rxFrame_good {x : Pont} {p : Nat} {h : HelmId} {f : RxFrame} {t n : Nat} (good : frPasses f t n false h p = true) :
    (x.rxFrame p h f t n).1 = true ∧ x.Takes h (x.rxFrame p h f t n).2 := by
  have own := x.modGw_gw h (fun g => { g with seq := some (frSeq f), discards := 0, up := g.up || decide (64 ≤ g.beats) })
  have other := x.modGw_gw_other h (fun g => { g with seq := some (frSeq f), discards := 0, up := g.up || decide (64 ≤ g.beats) })
  obtain ⟨ga, gb, mod⟩ : ∃ ga gb, x.modGw h (fun g => { g with seq := some (frSeq f), discards := 0, up := g.up || decide (64 ≤ g.beats) })
    = { x with gwA := ga, gwB := gb } := ⟨_, _, x.modGw_frame h _⟩
  unfold Pont.rxFrame
  extract_lets g key gap
  rw [if_pos good]
  refine ⟨rfl, ?_⟩
  show x.Takes h (if gap = true then Pont.rcIn (x.modGw h _) key.addr key.lo 1 else x.modGw h _)
  rw [mod] at own other ⊢
  split
  · exact ⟨⟨ga, gb, _, rfl⟩, ⟨_, _, (Pont.rcIn_gw ..).trans own⟩, (Pont.rcIn_gw ..).trans other⟩
  · exact ⟨⟨ga, gb, x.rcInc, rfl⟩, ⟨_, _, own⟩, other⟩

/-- The check units that snoop a gangway stand apart from everything else. -/
theorem State.snoopGw_frame (s : State) (up : Bool) (h : HelmId) (p : Nat) (f : RxFrame) :
    ∃ cus items, s.snoopGw up h p f = { s with cus := cus, snooped := items } := by
  by_cases other : frTyp f ≠ (if up then 1 else 2)
  · exact ⟨s.cus, s.snooped, if_pos other⟩
  · exact ⟨_, _, if_neg other⟩

/-- A pontoon put in place of pontoon p. -/
theorem State.modPont_put (u : State) (p : Fin 4) (y : Pont) :
    (u.modPont p (fun _ => y)).pont p = y ∧ ∀ q, q ≠ p → (u.modPont p (fun _ => y)).pont q = u.pont q :=
  ⟨State.modPont_pont .., fun _ other => State.modPont_other _ _ other⟩

/-- MANIFEST at a running pontoon, the check units that snoop it apart. -/
theorem execManifest_running {s : State} {p : Fin 4} {h : HelmId} {f : RxFrame} (running : (s.pont p).running = true) :
    ∃ u : State, (∀ q, u.pont q = s.pont q) ∧ exec (.manifest p h f) s =
      (let r := (s.pont p).rxFrame p h f 2 (s.pont p).crossing
       if !r.1 || !manOk f.payload h || 232 ≤ s.tb.stroke then .next (u.modPont p (fun _ => r.2))
       else if 2 ≤ (r.2.gw h).mans.length then .next (u.modPont p (fun _ => r.2.rcIn 0x021 8 1))
       else .next (u.modPont p (fun _ => r.2.modGw h (fun g => { g with mans := g.mans ++ [(r.2.crossing, f.payload)] })))) := by
  obtain ⟨cus, items, frame⟩ := s.snoopGw_frame false h p f
  refine ⟨{ s with cus := cus, snooped := items }, fun _ => rfl, ?_⟩
  show execManifest p h f s = _
  unfold execManifest
  rw [frame]
  exact if_neg (by rw [Bool.not_eq_true']; exact ne_false_of_eq_true running)

theorem Pont.readout_spec (x : Pont) (q : OutReq) :
    (x.wake.st ≠ .complete → x.readout q = x)
      ∧ (x.wake.st = .complete → ∃ ga gb, x.readout q = { x with gwA := ga, gwB := gb } ∧ ∀ g, ((x.readout q).gw g).read = (x.gw g).read
        ++ ((((x.wake.buf.drop q.off).take q.count).zipIdx q.off).map (fun e => (e.2, e.1))).filter (fun e => !(x.gw g).read.contains e)) := by
  refine ⟨fun off => if_pos off, fun on => ?_⟩
  have eq : x.readout q = _ := if_neg (not_not.2 on)
  rw [eq]
  refine ⟨_, _, rfl, fun g => ?_⟩
  cases g <;> rfl

theorem Pont.landed_of_landeds {x y : Pont} (same : y.landeds = x.landeds) (i : Fin 8) : y.outs[i].landed = x.outs[i].landed := by
  have at_ := congrArg (fun v : Vector Int 8 => v[i]) same
  simpa [Pont.landeds] using at_

theorem State.modField_landeds (s : State) (p : Fin 4) (f : Pont → Pont) : ((s.modField p f).pont p).landeds = (f (s.pont p)).landeds := by
  rw [State.modField_pont, Pont.track_landeds, Pont.react_landeds]

/-- A store that a frame fills at once. -/
theorem State.setupTaken (s : State) (p : Fin 4) (y : Pont) (ch : List Word) (pins : BitVec 2) (n : Nat) :
    let t := (s.modField p (fun _ => y.takeSetup p ch pins n)).refreshMirror p
    (t.pont p).spine = ({ y with setup := ch, nextSetup := none, loaded := true, configuring := false } : Pont).spine
      ∧ (t.pont p).landeds = y.landeds ∧ ∀ q, q ≠ p → t.pont q = s.pont q := by
  have spine := State.modField_spine (s := s) (p := p) (f := fun _ => y.takeSetup p ch pins n) rfl
  have landed := s.modField_landeds p (fun _ => y.takeSetup p ch pins n)
  rw [Pont.takeSetup_spine] at spine
  rw [Pont.takeSetup_landeds] at landed
  refine ⟨spine, landed, fun q e => ?_⟩
  show (s.modField p (fun _ => y.takeSetup p ch pins n)).pont q = _
  exact State.modPont_other s _ e

theorem otherHelm_or (h g : HelmId) : g = h ∨ g = otherHelm h := by
  cases h <;> cases g <;> decide

/-! ### The rows -/

/-- Settles O33: a frame that fails counts; one that passes brings what its type says. -/
theorem framesAtPontoons : Obligations.FramesAtPontoons := by
  refine ⟨fun s p h f => ?_, fun s p h f => ?_⟩
  · intro x same running
    have bad {u : State} {t n : Nat} (ponts : ∀ q, u.pont q = s.pont q) (fails : frPasses f t n false h p = false) :
        same (u.modPont p (fun _ => (x.rxFrame p h f t n).2)) := by
      obtain ⟨-, ⟨ga, gb, spine⟩, outs, mans, other, few, many⟩ := Pont.rxFrame_bad (x := x) fails
      obtain ⟨put, others⟩ := u.modPont_put p (x.rxFrame p h f t n).2
      refine ⟨fun q e => (others q e).trans (ponts q), ?_⟩
      rw [put]
      exact ⟨outs, (congrArg Pont.setup spine :), (congrArg Pont.orderDue spine :), (congrArg Pont.running spine :).trans running,
        (congrArg Pont.crossing spine :), (congrArg Pont.nextSetup spine :), mans, other, few, many⟩
    have goes : ¬ (!(s.pont p).running) = true := by rw [Bool.not_eq_true']; exact ne_false_of_eq_true running
    refine ⟨fun fails => ?_, fun l fails => ?_, fun o fails => ?_, fun fails => ?_, fun fails => ?_⟩
    · obtain ⟨u, ponts, eq⟩ := execManifest_running (h := h) (f := f) running
      refine ⟨_, eq.trans (if_pos ?_), bad ponts fails⟩
      rw [(Pont.rxFrame_bad fails).1]
      rfl
    · refine ⟨_, (if_neg goes).trans (if_pos ?_), bad (fun _ => rfl) fails⟩
      rw [(Pont.rxFrame_bad fails).1]
      rfl
    · refine ⟨_, (if_neg goes).trans (if_pos ?_), bad (fun _ => rfl) fails⟩
      rw [(Pont.rxFrame_bad fails).1]
      rfl
    · have left : (if (x.rxFrame p h f 6 x.crossing).1 = true
          then (x.rxFrame p h f 6 x.crossing).2.modGw h (fun g => { g with echo := some f.payload }) else (x.rxFrame p h f 6 x.crossing).2)
          = (x.rxFrame p h f 6 x.crossing).2 := if_neg (by rw [(Pont.rxFrame_bad fails).1]; decide)
      have eq : exec (.echo p h ⟨false, f⟩) s = .next (s.modPont p (fun _ => (x.rxFrame p h f 6 x.crossing).2)) :=
        (if_neg goes).trans (congrArg (fun y => Host.Outcome.next (s.modPont p (fun _ => y))) left)
      refine ⟨_, eq, bad (fun _ => rfl) fails, fun few => ?_, fun g => by rw [State.modPont_helm]⟩
      rw [(s.modPont_put p _).1, ((Pont.rxFrame_bad (x := x) fails).2.few few).2]
    · refine ⟨_, (if_neg goes).trans (if_neg ?_), bad (fun _ => rfl) fails⟩
      rw [(Pont.rxFrame_bad fails).1]
      decide
  · intro x good keeps running
    have goes : ¬ (!(s.pont p).running) = true := by rw [Bool.not_eq_true']; exact ne_false_of_eq_true running
    have passed {b c : Bool} (ok : b = true) (off : c = false) : ¬ (!b || c) = true := by rw [ok, off]; decide
    have kept (y : Pont) (own : y.gw (otherHelm h) = x.gw (otherHelm h)) : keeps (s.modPont p (fun _ => y)) :=
      ⟨fun q e => (s.modPont_put p y).2 q e, by rw [(s.modPont_put p y).1]; exact own⟩
    refine ⟨fun ok whole early room => ?_, fun ok off => ?_, fun ok charter empty => ?_, fun ok charter full => ?_, fun ok => ?_,
      fun ok => ?_, fun ok => ?_, fun ok none_ => ?_, fun q rest ok reads => ?_, fun ok => ?_, fun ok => ?_⟩
    · obtain ⟨u, ponts, eq⟩ := execManifest_running (h := h) (f := f) running
      obtain ⟨passes, ⟨ga, gb, rc, frame⟩, ⟨sq, up, own⟩, other⟩ := Pont.rxFrame_good (x := x) ok
      have mans : ((x.rxFrame p h f 2 x.crossing).2.gw h).mans = (x.gw h).mans := (congrArg GwPort.mans own :)
      refine ⟨_, eq.trans ((if_neg ?_).trans (if_neg ?_)), ⟨fun q e => ((u.modPont_put p _).2 q e).trans (ponts q), ?_⟩, ?_⟩
      · show ¬ (!(x.rxFrame p h f 2 x.crossing).1 || !manOk f.payload h || decide (232 ≤ s.tb.stroke)) = true
        rw [passes, whole, decide_eq_false (by omega)]
        decide
      · show ¬ 2 ≤ ((x.rxFrame p h f 2 x.crossing).2.gw h).mans.length
        rw [mans]
        omega
      · rw [(u.modPont_put p _).1, Pont.modGw_gw_other]
        exact other
      · rw [(u.modPont_put p _).1, Pont.modGw_gw, Pont.modGw_outs]
        refine ⟨?_, (congrArg Pont.outs frame :)⟩
        show _ ++ [((x.rxFrame p h f 2 x.crossing).2.crossing, f.payload)] = _
        rw [show ((s.pont p).rxFrame p h f 2 (s.pont p).crossing).2.gw h = _ from own, (congrArg Pont.crossing frame :)]
    · obtain ⟨u, ponts, eq⟩ := execManifest_running (h := h) (f := f) running
      obtain ⟨passes, ⟨ga, gb, rc, frame⟩, ⟨sq, up, own⟩, other⟩ := Pont.rxFrame_good (x := x) ok
      have mans : ((x.rxFrame p h f 2 x.crossing).2.gw h).mans = (x.gw h).mans := (congrArg GwPort.mans own :)
      have left {y : Pont} (spec : y.gw h = (x.rxFrame p h f 2 x.crossing).2.gw h ∧ y.gw (otherHelm h) = x.gw (otherHelm h) ∧ y.outs = x.outs) :
          keeps (u.modPont p (fun _ => y)) ∧ (((u.modPont p (fun _ => y)).pont p).gw h).mans = (x.gw h).mans
            ∧ ((u.modPont p (fun _ => y)).pont p).outs = x.outs := by
        obtain ⟨put, others⟩ := u.modPont_put p y
        refine ⟨⟨fun q e => (others q e).trans (ponts q), ?_⟩, ?_⟩ <;> rw [put]
        · exact spec.2.1
        · exact ⟨by rw [spec.1, mans], spec.2.2⟩
      by_cases drops : (!(x.rxFrame p h f 2 x.crossing).1 || !manOk f.payload h || decide (232 ≤ s.tb.stroke)) = true
      · exact ⟨_, eq.trans (if_pos drops), left ⟨rfl, other, (congrArg Pont.outs frame :)⟩⟩
      · have checks := drops
        rw [passes] at checks
        have filled : 2 ≤ ((x.rxFrame p h f 2 x.crossing).2.gw h).mans.length := by
          rw [mans]
          rcases off with off | off | off
          · exact absurd (by rw [off]; rfl) checks
          · exact absurd (by rw [decide_eq_true off, Bool.or_true]) checks
          · exact off
        exact ⟨_, eq.trans ((if_neg drops).trans (if_pos filled)), left ⟨Pont.rcIn_gw .., (Pont.rcIn_gw ..).trans other, (congrArg Pont.outs frame :)⟩⟩
    · obtain ⟨passes, ⟨ga, gb, rc, frame⟩, -, other⟩ := Pont.rxFrame_good (x := x) ok
      have loads : exec (.config p h f true) s = _ := (if_neg goes).trans ((if_neg (passed (by rw [passes]; rfl)
        (by rw [List.isEmpty_eq_false_iff]; exact charter))).trans (if_pos (List.isEmpty_iff.2 ((congrArg Pont.setup frame :).trans empty))))
      obtain ⟨spine, landed, others⟩ := s.setupTaken p (x.rxFrame p h f 3 x.crossing).2 (s.helm h).hs.charter (s.lanePins p)
        ((s.tb.age - (x.rxFrame p h f 3 x.crossing).2.landAge) / 2)
      refine ⟨_, loads, ⟨others, ?_⟩, (congrArg Pont.setup spine :), (congrArg Pont.configuring spine :), ?_⟩
      · exact (congrArg (fun y => Pont.gw y (otherHelm h)) spine :).trans other
      · exact Pont.landed_of_landeds (landed.trans (Pont.landeds_of_outs (congrArg Pont.outs frame :)))
    · obtain ⟨passes, ⟨ga, gb, rc, frame⟩, -, other⟩ := Pont.rxFrame_good (x := x) ok
      have waits : exec (.config p h f true) s = _ := (if_neg goes).trans ((if_neg (passed (by rw [passes]; rfl)
        (by rw [List.isEmpty_eq_false_iff]; exact charter))).trans (if_neg (by
          rw [List.isEmpty_iff]
          exact fun e => full ((congrArg Pont.setup frame :).symm.trans e))))
      refine ⟨_, waits, kept _ ((show Pont.gw _ _ = _ by cases h <;> rfl).trans other), ?_⟩
      rw [(s.modPont_put p _).1]
      exact ⟨(congrArg Pont.setup frame :), rfl, rfl⟩
    · obtain ⟨passes, ⟨ga, gb, rc, frame⟩, -, other⟩ := Pont.rxFrame_good (x := x) ok
      refine ⟨_, (if_neg goes).trans (if_pos (by rw [Bool.and_false]; rfl)), kept _ other, ?_⟩
      rw [(s.modPont_put p _).1]
      exact ⟨(congrArg Pont.setup frame :), (congrArg Pont.configuring frame :)⟩
    · obtain ⟨passes, ⟨ga, gb, rc, frame⟩, -, other⟩ := Pont.rxFrame_good (x := x) ok
      refine ⟨_, (if_neg goes).trans (if_neg (by rw [passes]; decide)), kept _ ((show Pont.gw _ _ = _ by cases h <;> rfl).trans other), ?_⟩
      rw [(s.modPont_put p _).1]
      exact ⟨rfl, (congrArg Pont.outs frame :)⟩
    · obtain ⟨passes, ⟨ga, gb, rc, frame⟩, -, other⟩ := Pont.rxFrame_good (x := x) ok
      refine ⟨_, (if_neg goes).trans (if_neg (by rw [passes]; decide)), kept _ ((show Pont.gw _ _ = _ by cases h <;> rfl).trans other), ?_⟩
      rw [(s.modPont_put p _).1]
      exact ⟨rfl, (congrArg Pont.running frame :).trans running, (congrArg Pont.outs frame :)⟩
    · obtain ⟨passes, ⟨ga, gb, rc, frame⟩, ⟨sq, up, own⟩, other⟩ := Pont.rxFrame_good (x := x) ok
      have none' : (s.helm h).hs.wakeReads[p] = [] := none_
      have asks : exec (.order p h f .readout) s = .next (s.modPont p (fun _ => (x.rxFrame p h f 4 x.crossing).2)) := by
        refine (if_neg goes).trans ((if_neg (by rw [passes]; decide)).trans ?_)
        show (match (s.helm h).hs.wakeReads[p].head? with | none => _ | some q => _) = _
        rw [none'] <;> rfl
      refine ⟨_, asks, kept _ other, ?_⟩
      rw [(s.modPont_put p _).1]
      exact ⟨(congrArg GwPort.read own :), (congrArg Pont.wake frame :), (congrArg Pont.outs frame :)⟩
    · obtain ⟨passes, ⟨ga, gb, rc, frame⟩, ⟨sq, up, own⟩, other⟩ := Pont.rxFrame_good (x := x) ok
      have reads' : (s.helm h).hs.wakeReads[p] = q :: rest := reads
      have asks : exec (.order p h f .readout) s = .next (s.modPont p (fun _ => (x.rxFrame p h f 4 x.crossing).2.readout q)) := by
        refine (if_neg goes).trans ((if_neg (by rw [passes]; decide)).trans ?_)
        show (match (s.helm h).hs.wakeReads[p].head? with | none => _ | some q => _) = _
        rw [reads'] <;> rfl
      have wake : (x.rxFrame p h f 4 x.crossing).2.wake = x.wake := (congrArg Pont.wake frame :)
      have outs : (x.rxFrame p h f 4 x.crossing).2.outs = x.outs := (congrArg Pont.outs frame :)
      have read (g : HelmId) : ((x.rxFrame p h f 4 x.crossing).2.gw g).read = (x.gw g).read := by
        rcases otherHelm_or h g with rfl | rfl
        · exact (congrArg GwPort.read own :)
        · rw [other]
      obtain ⟨idle, sends⟩ := (x.rxFrame p h f 4 x.crossing).2.readout_spec q
      rw [wake] at idle sends
      refine ⟨_, asks, s.onlyPont_modPont p _, ?_⟩
      rw [(s.modPont_put p _).1]
      refine ⟨fun off g => by rw [idle off, read g], fun on g => ?_, ?_, by rw [Pont.readout_outs, outs]⟩
      · obtain ⟨ga, gb, -, now⟩ := sends on
        rw [now g, read g]
      · by_cases on : x.wake.st = .complete
        · obtain ⟨ga, gb, frame', -⟩ := sends on
          rw [frame']
        · rw [idle on, wake]
    · obtain ⟨passes, ⟨ga, gb, rc, frame⟩, -, other⟩ := Pont.rxFrame_good (x := x) ok
      have returns : exec (.echo p h ⟨false, f⟩) s
          = .next (s.modPont p (fun _ => (x.rxFrame p h f 6 x.crossing).2.modGw h (fun g => { g with echo := some f.payload }))) :=
        (if_neg goes).trans (congrArg (fun y => Host.Outcome.next (s.modPont p (fun _ => y))) (if_pos passes))
      refine ⟨_, returns, kept _ ((Pont.modGw_gw_other ..).trans other), ?_⟩
      rw [(s.modPont_put p _).1, Pont.modGw_gw, Pont.modGw_outs]
      exact ⟨rfl, fun g => State.modPont_helm .., (congrArg Pont.outs frame :)⟩
    · obtain ⟨passes, ⟨ga, gb, rc, frame⟩, -, other⟩ := Pont.rxFrame_good (x := x) ok
      refine ⟨_, (if_neg goes).trans (if_pos passes), kept _ ((show Pont.gw _ _ = _ by cases h <;> rfl).trans other), ?_⟩
      rw [(s.modPont_put p _).1]
      refine ⟨rfl, rfl, ?_, (congrArg Pont.outs frame :)⟩
      show (if _ then _ else _) = _
      rw [show ((s.pont p).rxFrame p h f 7 (setCrossingNo f)).2.marked = x.marked from (congrArg Pont.marked frame :),
        show ((s.pont p).rxFrame p h f 7 (setCrossingNo f)).2.mark = x.mark from (congrArg Pont.mark frame :)]

end Sys2Proof.Machine
end

section
/-! PROOFS. Gangway frames at a helm (R27, R31, R53, R211, R355, R372). -/

namespace Sys2Proof.Machine

/-- The number of a frame that a helm takes is noted. -/
def Helm.heard (x : Helm) (p : Fin 4) (f : RxFrame) : Helm := { x with seqIn := x.seqIn.set p (some (frSeq f)) }

theorem State.rxAtHelm_bad {s : State} {h : HelmId} {p : Fin 4} {f : RxFrame} {t : Nat} (bad : frPasses f t s.tb.crossing true h p = false) :
    s.rxAtHelm h p f t = (false, s.rcAdd (crcErrKey p h).addr (crcErrKey p h).lo 1) := if_neg (by simp [bad])

/-- A frame that passes at a helm: its number is noted, and a gap before it counted (R372). -/
theorem State.rxAtHelm_good {s : State} {h : HelmId} {p : Fin 4} {f : RxFrame} {t : Nat} (good : frPasses f t s.tb.crossing true h p = true) :
    ∃ w, s.rxAtHelm h p f t = (true, { s.modHelm h (Helm.heard · p f) with win := w })
      ∧ ((s.helm h).seqIn[p] = none → w = s.win)
      ∧ ∀ q, (s.helm h).seqIn[p] = some q → w = if frSeq f = q + 1 then s.win else s.winWith (crcErrKey p h).addr (crcErrKey p h).lo := by
  have win : (s.modHelm h (Helm.heard · p f)).win = s.win := by cases h <;> rfl
  have with_ (a l : Nat) : (s.modHelm h (Helm.heard · p f)).winWith a l = s.winWith a l := by cases h <;> rfl
  have eq : s.rxAtHelm h p f t = (true, if (((s.helm h).seqIn[p]).any (fun q => frSeq f != q + 1)) = true
      then (s.modHelm h (Helm.heard · p f)).rcAdd (crcErrKey p h).addr (crcErrKey p h).lo 1 else s.modHelm h (Helm.heard · p f)) := if_pos good
  rw [eq]
  generalize s.modHelm h (Helm.heard · p f) = u at win with_
  cases last : (s.helm h).seqIn[p] with
  | none => exact ⟨s.win, by rw [← win]; rfl, fun _ => rfl, fun _ e => absurd e (by simp)⟩
  | some q =>
    by_cases follows : frSeq f = q + 1
    · exact ⟨s.win, by simp [follows, ← win], fun e => absurd e (by simp), fun _ e => by cases e; rw [if_pos follows]⟩
    · refine ⟨u.winWith (crcErrKey p h).addr (crcErrKey p h).lo, ?_, fun e => absurd e (by simp), fun _ e => by
        cases e; rw [if_neg follows, with_]⟩
      rw [if_pos (by simpa using follows)]
      rfl

/-- Settles O34: the checks of a frame at a helm, and what each type then brings. -/
theorem helmFrames : Obligations.HelmFrames := by
  intro s h p f serves n read key keeps sent
  have serving {u : State} (same : u.helm h = s.helm h) : ¬ (!(u.helm h).svc.inService) = true := by rw [same, serves]; decide
  refine ⟨fun r ok built now room => ?_, fun bad => ?_, fun fits => ⟨fun ok => ?_, fun bad => ?_⟩, fun full => ?_, ?_⟩
  · obtain ⟨cus, items, snooped⟩ := s.snoopGw_frame true h p f
    obtain ⟨w, took, first, gap⟩ := State.rxAtHelm_good (s := { s with cus := cus, snooped := items }) (h := h) (p := p) (t := 1) ok
    have takes : exec (.report h p f) s = .next (State.modHelm { State.modHelm { s with cus := cus, snooped := items } h (Helm.heard · p f)
        with win := w } h (fun x => { x with repSlips := x.repSlips.set p (x.repSlips[p] ++ [r]) })) := by
      show execReport h p f s = _
      unfold execReport
      rw [snooped]
      dsimp only
      rw [took]
      refine (if_neg (serving (by cases h <;> rfl))).trans ?_
      show (match true, (s.pont p).report with | true, some rep => _ | _, _ => _) = _
      rw [built]
      refine (if_neg (not_not.2 now)).trans (if_neg ?_)
      cases h <;> exact Nat.not_le.2 room
    refine ⟨_, takes, ⟨by cases h <;> rfl, by cases h <;> rfl, by cases h <;> rfl⟩, by cases h <;> rfl, by cases h <;> rfl, ?_, ?_⟩
    · cases h <;> simp [State.modHelm, State.helm, Helm.heard]
    · refine Eq.trans (b := w) (by cases h <;> rfl) ?_
      have now : State.helm { s with cus := cus, snooped := items } h = s.helm h := by cases h <;> rfl
      rw [now] at first gap
      cases last : (s.helm h).seqIn[p] with
      | none => exact first last
      | some q => exact gap q last
  · obtain ⟨cus, items, snooped⟩ := s.snoopGw_frame true h p f
    have fails := State.rxAtHelm_bad (s := { s with cus := cus, snooped := items }) (h := h) (p := p) (t := 1) bad
    have drops : exec (.report h p f) s = .next (State.rcAdd { s with cus := cus, snooped := items } key.addr key.lo 1) := by
      show execReport h p f s = _
      unfold execReport
      rw [snooped]
      dsimp only
      rw [fails]
      exact if_neg (serving (by cases h <;> rfl))
    exact ⟨_, drops, ⟨by cases h <;> rfl, by cases h <;> rfl, rfl⟩, rfl, by cases h <;> rfl, rfl⟩
  · obtain ⟨w, took, -⟩ := State.rxAtHelm_good ok
    have brings : exec (.bulk h p f) s = .next ((State.modPont { s.modHelm h (Helm.heard · p f) with win := w } p
        (fun x => x.modGw h (fun g => { g with read := g.read.drop n }))).modHelm h
          (fun x => { x with bulkSlip := x.bulkSlip.set p (x.bulkSlip[p] ++ read.take n) })) := by
      refine (if_neg (serving rfl)).trans ((if_neg (Nat.not_lt.2 fits)).trans ?_)
      rw [took]
      rfl
    refine ⟨_, brings, ⟨by cases h <;> rfl, by cases h <;> rfl, by cases h <;> rfl⟩, by cases h <;> rfl, ?_⟩
    cases h <;> rfl
  · have drops : exec (.bulk h p f) s = .next (State.modPont (s.rcAdd key.addr key.lo 1) p
        (fun x => x.modGw h (fun g => { g with read := g.read.drop n }))) := by
      refine (if_neg (serving rfl)).trans ((if_neg (Nat.not_lt.2 fits)).trans ?_)
      rw [State.rxAtHelm_bad bad]
      rfl
    exact ⟨_, drops, by cases h <;> rfl, rfl⟩
  · exact (if_neg (serving rfl)).trans (if_pos full)
  · let judged (u : State) (good : Bool) : State := (u.modPont p (fun x => x.modGw h (fun g => { g with echo := none }))).modHelm h
      (fun x => { x with echoOk := x.echoOk.set p good })
    have ends (u : State) (good : Bool) : exec (.echo p h ⟨true, f⟩) s = .next (judged u good) →
        (u.helm h).hs = (s.helm h).hs → u.helm (otherHelm h) = s.helm (otherHelm h) → u.tb = s.tb → u.ponts = s.ponts →
        (good = true ↔ frPasses f 6 s.tb.crossing true h p = true ∧ ((s.pont p).gw h).echo = some f.payload) →
        (frPasses f 6 s.tb.crossing true h p = false → u.win = s.winWith key.addr key.lo) →
        ∃ t, exec (.echo p h ⟨true, f⟩) s = .next t ∧ keeps t
          ∧ ((t.helm h).echoOk[p] = true ↔ frPasses f 6 s.tb.crossing true h p = true ∧ ((s.pont p).gw h).echo = some f.payload)
          ∧ (frPasses f 6 s.tb.crossing true h p = false → t.win = s.winWith key.addr key.lo)
          ∧ t.pont p = (s.pont p).modGw h (fun g => { g with echo := none }) ∧ ∀ q, q ≠ p → t.pont q = s.pont q := by
      intro eq hs other tb ponts shows counted
      have pont (q : Fin 4) : u.pont q = s.pont q := by rw [State.pont, ponts, State.pont]
      refine ⟨_, eq, ⟨?_, ?_, ?_⟩, ?_, fun bad => ?_, ?_, fun q e => ?_⟩
      · rw [← hs]
        cases h <;> rfl
      · rw [← other]
        cases h <;> rfl
      · rw [← tb]
        cases h <;> rfl
      · rw [← shows]
        cases h <;> simp [judged, State.modHelm, State.helm]
      · rw [← counted bad]
        cases h <;> rfl
      · refine Eq.trans (b := (u.modPont p (fun x => x.modGw h (fun g => { g with echo := none }))).pont p) (by cases h <;> rfl) ?_
        rw [State.modPont_pont, pont]
      · refine Eq.trans (b := (u.modPont p (fun x => x.modGw h (fun g => { g with echo := none }))).pont q) (by cases h <;> rfl) ?_
        rw [State.modPont_other _ _ e, pont]
    by_cases ok : frPasses f 6 s.tb.crossing true h p = true
    · obtain ⟨w, took, -⟩ := State.rxAtHelm_good ok
      refine ends { s.modHelm h (Helm.heard · p f) with win := w } (((s.pont p).gw h).echo == some f.payload) ?_ (by cases h <;> rfl)
        (by cases h <;> rfl) (by cases h <;> rfl) (by cases h <;> rfl) (by simp [ok]) (fun bad => absurd (ok.symm.trans bad) (by decide))
      refine (if_neg (serving rfl)).trans ?_
      rw [took]
      rfl
    · rw [Bool.not_eq_true] at ok
      refine ends (s.rcAdd key.addr key.lo 1) false ?_ (by cases h <;> rfl) (by cases h <;> rfl) rfl rfl (by simp [ok]) (fun _ => rfl)
      refine (if_neg (serving rfl)).trans ?_
      rw [State.rxAtHelm_bad ok]
      rfl

end Sys2Proof.Machine
end

section
/-! PROOFS. Sags, the field voltage, the stop and restart of a pontoon (R271, R272, R359 to R363), and the landing (R55, R190, R260). -/

namespace Sys2Proof.Machine

/-! ### Sag conditions -/

theorem OutSt.upToSwitch.shed_queued {o o' : OutSt} (h : o'.upToSwitch o) : o'.shed = o.shed ∧ o'.queued = o.queued := by
  unfold OutSt.upToSwitch at h
  exact ⟨(congrArg OutSt.shed h :), (congrArg OutSt.queued h :)⟩

theorem Pont.shedNow_sheds (x : Pont) (p : Nat) (i : Fin 8) (must : x.mustShed (x.priority p i) = true) :
    (x.shedNow p).outs[i].shed = true ∧ (x.shedNow p).outs[i].queued = false := by
  simp [Pont.shedNow, must]

theorem Pont.unshed_sheds (x : Pont) (p : Nat) (i : Fin 8) (shed : (x.unshed p).outs[i].shed = true) : x.outs[i].shed = true := by
  have out : (x.unshed p).outs[i] = if ((vat x.outs i {}).shed && !x.mustShed (x.priority p i) && decide (x.value345 p i ≠ 0)) = true
      then { x.outs[i] with shed := false, queued := true } else x.outs[i] := by
    simp [Pont.unshed]
  rw [out] at shed
  split at shed
  · exact absurd shed (by simp)
  · exact shed

/-- Marking channels changes their settling and counts only (R340). -/
theorem Pont.markUns_frame (x : Pont) (p : Nat) (old : Pont) : ∃ ais rc, x.markUns p old = { x with ais := ais, rcInc := rc } := by
  suffices all : ∀ (l : List Nat) (y : Pont), ∃ ais rc, l.foldl (fun y i =>
      if x.aiEn p i && x.unsettled p i && !(old.unsettled p i && old.aiEn p i) then y.markSettle p i else y) y
        = { y with ais := ais, rcInc := rc } from all _ x
  intro l
  induction l with
  | nil => exact fun y => ⟨y.ais, y.rcInc, rfl⟩
  | cons i l ih =>
    intro y
    rw [List.foldl_cons]
    split
    · obtain ⟨ais, rc, frame⟩ := ih (y.markSettle p i)
      exact ⟨ais, rc, frame⟩
    · exact ih y

/-- A condition asserted (R359, R271; R230 and R344 in the dark). -/
theorem Pont.sagOn_spec (x : Pont) (p : Nat) (c : Sag) :
    let y := x.sagOn p c
    (y.setup = x.setup ∧ y.running = x.running ∧ y.sag = x.sag ||| BitVec.ofNat 4 (2 ^ (Sag.ix c)) ∧ y.bells = x.bells ||| oneBit bellField)
      ∧ (∀ i : Fin 8, y.ins[i].raw = x.ins[i].raw)
      ∧ (∀ i : Fin 8, y.mustShed (x.priority p i) = true → y.outs[i].shed = true ∧ y.outs[i].queued = false)
      ∧ (c = .dark → (∀ i : Fin 8, y.ins[i].known = false) ∧ ∀ i : Fin 4, y.ais[i] = x.ais[i].clearAll) := by
  obtain ⟨z, sheds, setup, running, sag, bells, ins, dark⟩ : ∃ z : Pont, x.sagOn p c = z.shedNow p ∧ z.setup = x.setup ∧ z.running = x.running
      ∧ z.sag = x.sag ||| BitVec.ofNat 4 (2 ^ (Sag.ix c)) ∧ z.bells = x.bells ||| oneBit bellField
      ∧ (∀ i : Fin 8, z.ins[i].raw = x.ins[i].raw)
      ∧ (c = .dark → (∀ i : Fin 8, z.ins[i].known = false) ∧ ∀ i : Fin 4, z.ais[i] = x.ais[i].clearAll) := by
    refine ⟨_, rfl, ?_⟩
    cases c
    case dark =>
      refine ⟨rfl, rfl, rfl, rfl, fun i => ?_, fun _ => ⟨fun i => ?_, fun i => ?_⟩⟩
      · simp [Pont.markGaps, Pont.bellIn, Pont.rcIn, DiSt.forget]
      · simp [Pont.markGaps, Pont.bellIn, Pont.rcIn, DiSt.forget]
      · simp [Pont.markGaps, Pont.bellIn, Pont.rcIn]
    all_goals exact ⟨rfl, rfl, rfl, rfl, fun _ => rfl, fun h => by cases h⟩
  intro y
  rw [show y = z.shedNow p from sheds]
  refine ⟨⟨setup, running, sag, bells⟩, ins, fun i must => z.shedNow_sheds p i ?_, dark⟩
  have priority : z.priority p i = x.priority p i := by rw [Pont.priority, Pont.priority, Pont.outRec, Pont.outRec, setup]
  rw [priority]
  exact must

/-- A pontoon as the light comes back: its record, and windows counted afresh (R362, R313). -/
def Pont.lit (x : Pont) : Pont :=
  let x := if x.startDark then { x with startDark := false } else { x with recsV := x.recsV ++ [(0x0C4, clsInfo + 4)] }
  { x with grp := { x.grp with litWins := 0 } }

/-- The references that the light changes settle (R313). -/
def Pont.settles (x : Pont) (p : Nat) : Pont :=
  match x.refSel p with
  | 2 => { x with grp := x.grp.change 5 }.markUns p x
  | 3 => { x with grp := x.grp.change 1 }.markUns p x
  | _ => x

theorem Pont.sagOff_dark (x : Pont) (p : Nat) :
    x.sagOff p .dark = ((({ x with sag := x.sag &&& ~~~BitVec.ofNat 4 (2 ^ (Sag.ix .dark)) } : Pont).lit).settles p).unshed p := rfl

theorem Pont.lit_frame (x : Pont) : ∃ start recs grp, x.lit = { x with startDark := start, recsV := recs, grp := grp } := by
  unfold Pont.lit
  split
  · exact ⟨false, x.recsV, _, rfl⟩
  · exact ⟨x.startDark, _, _, rfl⟩

theorem Pont.settles_frame (x : Pont) (p : Nat) : ∃ grp ais rc, x.settles p = { x with grp := grp, ais := ais, rcInc := rc } := by
  unfold Pont.settles
  split
  · exact ⟨_, Pont.markUns_frame { x with grp := x.grp.change 5 } p x⟩
  · exact ⟨_, Pont.markUns_frame { x with grp := x.grp.change 1 } p x⟩
  · exact ⟨x.grp, x.ais, x.rcInc, rfl⟩

/-- A condition released (R360, R362): the outputs wait for their restore, the analog group for its settling. -/
theorem Pont.sagOff_spec (x : Pont) (p : Nat) (c : Sag) :
    let y := x.sagOff p c
    (y.setup = x.setup ∧ y.running = x.running ∧ y.sag = x.sag &&& ~~~BitVec.ofNat 4 (2 ^ (Sag.ix c)))
      ∧ y.ins = x.ins ∧ (∀ i : Fin 8, y.outs[i].landed = x.outs[i].landed)
      ∧ ∀ i : Fin 8, y.outs[i].shed = true → x.outs[i].shed = true := by
  obtain ⟨z, ends, setup, running, sag, ins, outs⟩ : ∃ z : Pont, x.sagOff p c = z.unshed p ∧ z.setup = x.setup ∧ z.running = x.running
      ∧ z.sag = x.sag &&& ~~~BitVec.ofNat 4 (2 ^ (Sag.ix c)) ∧ z.ins = x.ins ∧ z.outs = x.outs := by
    cases c
    case dark =>
      refine ⟨_, x.sagOff_dark p, ?_⟩
      obtain ⟨start, recs, grp, lit⟩ := Pont.lit_frame { x with sag := x.sag &&& ~~~BitVec.ofNat 4 (2 ^ (Sag.ix .dark)) }
      rw [lit]
      obtain ⟨grp', ais, rc, settled⟩ := Pont.settles_frame { x with
        sag := x.sag &&& ~~~BitVec.ofNat 4 (2 ^ (Sag.ix .dark)), startDark := start, recsV := recs, grp := grp } p
      rw [settled]
      exact ⟨rfl, rfl, rfl, rfl, rfl⟩
    all_goals exact ⟨_, rfl, rfl, rfl, rfl, rfl, rfl⟩
  intro y
  rw [show y = z.unshed p from ends]
  refine ⟨⟨setup, running, sag⟩, ins, fun i => ?_, fun i shed => ?_⟩
  · refine (Pont.landed_of_landeds (z.unshed_landeds p) i).trans ?_
    simp only [outs]
  · have before := z.unshed_sheds p i shed
    simpa only [outs] using before

/-- A change of a pontoon and of the lanes that follow its inputs. -/
theorem State.refreshMirror_only {s u : State} {p : Fin 4} (only : OnlyPont p s u) :
    u.refreshMirror p = { s with ponts := s.ponts.set p ((u.refreshMirror p).pont p), lanes := (u.refreshMirror p).lanes } := by
  unfold OnlyPont at only
  generalize u.pont p = y at only
  subst only
  simp [State.refreshMirror, State.pont]

/-- What every sag row leaves of a running pontoon. -/
structure Pont.SagKept (x y : Pont) : Prop where
  landed : ∀ i : Fin 8, y.outs[i].landed = x.outs[i].landed
  raw : ∀ i : Fin 8, y.ins[i].raw = x.ins[i].raw
  setup : y.setup = x.setup
  running : y.running = true

theorem sagAssert_on {s : State} {p : Fin 4} {c : Sag} (running : (s.pont p).running = true)
    (absent : (s.pont p).sag.getLsbD (Sag.ix c) = false) :
    ∃ t, exec (.sagAssert p c) s = .next t ∧ t = { s with ponts := s.ponts.set p (t.pont p), lanes := t.lanes }
      ∧ (s.pont p).SagKept (t.pont p) ∧ (t.pont p).sag = (s.pont p).sag ||| BitVec.ofNat 4 (2 ^ (Sag.ix c))
      ∧ (t.pont p).bells = (s.pont p).bells ||| oneBit bellField
      ∧ (∀ i : Fin 8, (t.pont p).mustShed ((s.pont p).priority p i) = true → (t.pont p).outs[i].shed = true
          ∧ (t.pont p).outs[i].queued = false)
      ∧ (c = .dark → (∀ i : Fin 8, (t.pont p).ins[i].known = false) ∧ ∀ i : Fin 4, (t.pont p).ais[i] = (s.pont p).ais[i].clearAll) := by
  obtain ⟨⟨setup, run, sag, bells⟩, ins, shed, dark⟩ := (s.pont p).sagOn_spec p c
  have landeds := (s.pont p).sagOn_landeds p c
  obtain ⟨y, change⟩ : ∃ y, (s.pont p).sagOn p c = y := ⟨_, rfl⟩
  obtain ⟨frame, outs, -⟩ := State.modField_frame (s := s) (p := p) (f := fun x => x.sagOn p c) change
  rw [change] at setup run sag bells ins shed landeds dark
  have insNow : ((s.modField p (fun x => x.sagOn p c)).pont p).ins = y.ins := (congrArg Pont.ins frame :)
  have aisNow : ((s.modField p (fun x => x.sagOn p c)).pont p).ais = y.ais := (congrArg Pont.ais frame :)
  refine ⟨(s.modField p (fun x => x.sagOn p c)).refreshMirror p, if_pos (by rw [running, absent]; rfl),
    State.refreshMirror_only (s.onlyPont_modField p _),
    ⟨fun i => (outs i).kept.1.trans (Pont.landed_of_landeds landeds i), fun i => .trans ?_ (ins i), (congrArg Pont.setup frame :).trans setup,
      (congrArg Pont.running frame :).trans (run.trans running)⟩,
    (congrArg Pont.sag frame :).trans sag, (congrArg Pont.bells frame :).trans bells, fun i must => ?_, fun e => ?_⟩
  · exact congrArg (fun v : Vector DiSt 8 => v[i].raw) insNow
  · obtain ⟨shed', queued'⟩ := (outs i).shed_queued
    obtain ⟨sheds, leaves⟩ := shed i ((congrArg (Pont.mustShed · ((s.pont p).priority p i)) frame :).symm.trans must)
    exact ⟨shed'.trans sheds, queued'.trans leaves⟩
  · obtain ⟨unknown, cleared⟩ := dark e
    exact ⟨fun i => (congrArg (fun v : Vector DiSt 8 => v[i].known) insNow).trans (unknown i),
      fun i => (congrArg (fun v : Vector AiSt 4 => v[i]) aisNow).trans (cleared i)⟩

theorem sagRelease_on {s : State} {p : Fin 4} {c : Sag} (running : (s.pont p).running = true)
    (present : (s.pont p).sag.getLsbD (Sag.ix c) = true) :
    ∃ t, exec (.sagRelease p c) s = .next t ∧ t = { s with ponts := s.ponts.set p (t.pont p), lanes := t.lanes }
      ∧ (s.pont p).SagKept (t.pont p) ∧ (t.pont p).sag = (s.pont p).sag &&& ~~~BitVec.ofNat 4 (2 ^ (Sag.ix c))
      ∧ ∀ i : Fin 8, (t.pont p).outs[i].shed = true → (s.pont p).outs[i].shed = true := by
  obtain ⟨⟨setup, run, sag⟩, ins, landed, shed⟩ := (s.pont p).sagOff_spec p c
  obtain ⟨y, change⟩ : ∃ y, (s.pont p).sagOff p c = y := ⟨_, rfl⟩
  obtain ⟨frame, outs, -⟩ := State.modField_frame (s := s) (p := p) (f := fun x => x.sagOff p c) change
  rw [change] at setup run sag ins landed shed
  have insNow : ((s.modField p (fun x => x.sagOff p c)).pont p).ins = (s.pont p).ins := (congrArg Pont.ins frame :).trans ins
  refine ⟨(s.modField p (fun x => x.sagOff p c)).refreshMirror p, if_pos (by rw [running, present]; rfl),
    State.refreshMirror_only (s.onlyPont_modField p _),
    ⟨fun i => (outs i).kept.1.trans (landed i), fun i => ?_, (congrArg Pont.setup frame :).trans setup,
      (congrArg Pont.running frame :).trans (run.trans running)⟩,
    (congrArg Pont.sag frame :).trans sag, fun i now => shed i ((outs i).shed_queued.1.symm.trans now)⟩
  exact congrArg (fun v : Vector DiSt 8 => v[i].raw) insNow

/-- Settles O35: what a condition sheds, and what a stop of the logic leaves. -/
theorem sagsAndFieldSupply : Obligations.SagsAndFieldSupply := by
  refine ⟨fun s p c => ?_, fun s p => ?_⟩
  · intro x same frame
    refine ⟨fun running absent => ?_, fun running light => ?_, fun running present => ?_, fun present => if_neg ?_, fun absent => if_neg ?_⟩
    · obtain ⟨t, next, only, ⟨landed, raw, setup, run⟩, sag, bells, shed, -⟩ := sagAssert_on running absent
      exact ⟨t, next, only, ⟨landed, raw, setup, run⟩, sag, bells, shed⟩
    · obtain ⟨t, next, -, -, -, -, -, dark⟩ := sagAssert_on (c := .dark) running light
      exact ⟨t, next, dark rfl⟩
    · obtain ⟨t, next, only, ⟨landed, raw, setup, run⟩, sag, shed⟩ := sagRelease_on running present
      exact ⟨t, next, only, ⟨landed, raw, setup, run⟩, sag, shed⟩
    · rw [show (s.pont p).sag.getLsbD (Sag.ix c) = true from present, Bool.not_true, Bool.and_false]
      decide
    · rw [show (s.pont p).sag.getLsbD (Sag.ix c) = false from absent, Bool.and_false]
      decide
  · intro x frame
    refine ⟨fun running low => ?_, rfl, ?_, fun stopped => ?_, fun running => if_pos running⟩
    · refine ⟨_, if_pos (by rw [show (s.pont p).running = true from running, show (s.pont p).vfOver = false from low]; rfl),
        s.onlyPont_modPont p _, ?_⟩
      rw [State.modPont_pont]
      exact ⟨rfl, rfl, rfl, rfl⟩
    · refine ⟨_, rfl, State.refreshMirror_only (s.onlyPont_modPont p _), ?_⟩
      have now : ((s.modPont p Pont.lost).refreshMirror p).pont p = (s.pont p).lost := State.modPont_pont ..
      rw [now]
      refine ⟨rfl, rfl, rfl, rfl, fun i => ?_⟩
      simp [Pont.lost, x]
    · refine ⟨_, if_neg (by rw [show (s.pont p).running = false from stopped]; decide), State.refreshMirror_only (s.onlyPont_modPont p _), ?_⟩
      have now : ((s.modPont p (fun x => x.started p)).refreshMirror p).pont p = (s.pont p).started p := (s.modPont_pont p (fun x => x.started p) :)
      obtain ⟨outs, queue, bells, recs, rc, starts⟩ := (s.pont p).started_spec p
      rw [now, starts]
      exact ⟨rfl, (show (!true || BitVec.getLsbD 8#4 3) = true by decide), rfl, rfl, rfl, rfl, fun i => by simp, rfl⟩

end Sys2Proof.Machine
end

section
/-! PROOFS. The landing at a pontoon (R55, R70, R190, R260, R389). -/

namespace Sys2Proof.Machine

/-! ### The parts of a landing -/

/-- A pontoon as a landing begins: a setup that has come due is in force (R277). -/
def Pont.landSetup (x : Pont) (p : Nat) (pins : BitVec 2) : Pont :=
  let x : Pont := { x with mark := .plain }
  match x.nextSetup with
  | some (n, ch) => if n ≤ x.crossing then x.takeSetup p ch pins 0 else x
  | none => x

/-- What lands: the chosen manifest, or nothing (R55, R190). -/
def Pont.landValues (x : Pont) (bar : Bool) : Pont :=
  let x := match bar, x.chosen with
    | false, some m =>
      { (x.landMan m) with order := false, silence := false, fromH := x.chosenBy, holder := x.chosenBy }
    | _, _ =>
      { x with
        fromH := none
        holder := if x.verdict = Verdict.mismatch then x.chosenBy else x.holder
        verdict := if bar || x.silence || x.order then .safe else x.verdict }
  { x with chosen := none, chosenBy := none }

/-- The holds, protection and latches of a landing (R249, R260 to R272, R295). -/
def Pont.landHolds (x : Pont) (p : Nat) : Pont :=
  let x := (x.releaseHolds p).landProt p
  let x := (x.releasePq p 0).releasePq p 1
  (x.restoreOne p).refreshHolds p

/-- The stages of a landing: what each smooths to (R286). -/
def Pont.landStages (x old : Pont) (p : Nat) : Pont :=
  let five (j : Nat) : Bool := old.level j == 5 && x.level j == 5
  (x.landPq p 0 (vat old.outs 0 {}).landed (five 0)).landPq p 1 (vat old.outs 1 {}).landed (five 1)

theorem Pont.land_eq (x : Pont) (p : Nat) (pins : BitVec 2) :
    let y := x.landSetup p pins
    x.land p pins = ((({ y with order := y.order || y.orderDue, orderDue := false } : Pont).landValues
      (x.configuring || y.orderDue)).landHolds p).landStages x p := rfl

/-! ### Setup -/

theorem Pont.landSetup_spec (x : Pont) (p : Nat) (pins : BitVec 2) : ∃ setup next loaded config,
    (x.landSetup p pins).spine = ({ x with mark := .plain, setup := setup, nextSetup := next, loaded := loaded, configuring := config } : Pont).spine
      ∧ (x.landSetup p pins).landeds = x.landeds := by
  unfold Pont.landSetup
  dsimp only
  split
  · next n ch _ =>
    split
    · exact ⟨_, _, _, _, Pont.takeSetup_spine .., Pont.takeSetup_landeds ..⟩
    · exact ⟨x.setup, x.nextSetup, x.loaded, x.configuring, rfl, rfl⟩
  · exact ⟨x.setup, x.nextSetup, x.loaded, x.configuring, rfl, rfl⟩

/-! ### Values -/

/-- The requests of a manifest change counters, the snapshots and the wake buffer, the reads and a mark of the decimators. -/
theorem Pont.landMan_frame (x : Pont) (m : List Word) : ∃ grp cts wake ga gb decim,
    x.landMan m = { x with prevMan := m, outs := Vector.ofFn (fun (i : Fin 8) => { x.outs[i] with landed := manValue m i })
                           grp := grp, cts := cts, wake := wake, gwA := ga, gwB := gb, decimDue := decim } := by
  unfold Pont.landMan
  generalize manReqs 64 (m.drop 4) = l
  extract_lets y
  suffices all : ∀ z : Pont, (∃ grp cts wake ga gb decim, z = { y with grp := grp, cts := cts, wake := wake, gwA := ga, gwB := gb, decimDue := decim }) →
      ∃ grp cts wake ga gb decim, l.foldl (fun x r =>
        match r with
        | .snap n => { x with grp := { x.grp with snaps := x.grp.snaps ++ [(n, x.crossing + 1)] } }
        | .ctZero i => { x with cts := vmod x.cts i (fun c => { c with zeroAt := some (x.crossing + 1) }) }
        | .wake c t l a b =>
          let w := x.wake.arm c t l a b
          { x with wake := if x.dark then w.abortBy 3 else w, gwA := { x.gwA with read := [] }, gwB := { x.gwB with read := [] } }
        | .decim => { x with decimDue := true }) z
          = { y with grp := grp, cts := cts, wake := wake, gwA := ga, gwB := gb, decimDue := decim } by
    exact all y ⟨y.grp, y.cts, y.wake, y.gwA, y.gwB, y.decimDue, rfl⟩
  induction l with
  | nil => exact fun z h => h
  | cons r l ih =>
    rintro z ⟨grp, cts, wake, ga, gb, decim, rfl⟩
    refine ih _ ?_
    cases r <;> exact ⟨_, _, _, _, _, _, rfl⟩

/-- A manifest that lands (R55, R190). -/
theorem Pont.landValues_some {x : Pont} {m : List Word} (chosen : x.chosen = some m) : ∃ outs grp cts wake ga gb decim,
    x.landValues false = { x with
      prevMan := m, outs := outs, grp := grp, cts := cts, wake := wake, gwA := ga, gwB := gb, decimDue := decim
      order := false, silence := false, fromH := x.chosenBy, holder := x.chosenBy, chosen := none, chosenBy := none }
    ∧ ∀ i : Fin 8, outs[i].landed = manValue m i := by
  obtain ⟨grp, cts, wake, ga, gb, decim, frame⟩ := x.landMan_frame m
  refine ⟨Vector.ofFn (fun (i : Fin 8) => { x.outs[i] with landed := manValue m i }), grp, cts, wake, ga, gb, decim, ?_, fun i => by simp⟩
  · unfold Pont.landValues
    rw [chosen]
    dsimp only
    rw [frame]

/-- A landing that brings no values (R260). -/
theorem Pont.landValues_none {x : Pont} {bar : Bool} (none_ : x.chosen = none ∨ bar = true) :
    x.landValues bar = { x with
      fromH := none, holder := if x.verdict = Verdict.mismatch then x.chosenBy else x.holder
      verdict := if bar || x.silence || x.order then .safe else x.verdict, chosen := none, chosenBy := none } := by
  unfold Pont.landValues
  rcases none_ with h | h
  · rw [h]
    cases bar <;> rfl
  · rw [h]

/-! ### Holds and stages -/

theorem Pont.releaseHolds_spec (x : Pont) (p : Nat) : (x.releaseHolds p).spine = x.spine ∧ (x.releaseHolds p).landeds = x.landeds := by
  unfold Pont.releaseHolds
  extract_lets rearm freed y z w off
  refine ⟨rfl, ?_⟩
  have hy : y.landeds = x.landeds := landed_ofFn x.outs _ fun _ => rfl
  refine Eq.trans (b := w.landeds) ?_ hy
  refine landed_ofFn w.outs _ fun i => ?_
  rfl

theorem Pont.landProt_spec (x : Pont) (p : Nat) : (x.landProt p).spine = x.spine ∧ (x.landProt p).landeds = x.landeds := by
  refine ⟨rfl, landed_ofFn x.outs _ fun i => ?_⟩
  dsimp only
  split <;> rfl

theorem Pont.releasePq_spec (x : Pont) (p j : Nat) : (x.releasePq p j).spine = x.spine ∧ (x.releasePq p j).outs = x.outs := by
  unfold Pont.releasePq
  extract_lets q
  split <;> exact ⟨rfl, rfl⟩

/-- The holds of a landing keep the landed values; an order holds every output. -/
theorem Pont.landHolds_spec (x : Pont) (p : Nat) : (x.landHolds p).spine = x.spine ∧ (x.landHolds p).landeds = x.landeds
    ∧ (x.order = true → ∀ i : Fin 8, (x.landHolds p).outs[i].held = true) := by
  unfold Pont.landHolds
  extract_lets y z
  have hy : y.spine = x.spine ∧ y.landeds = x.landeds := by
    obtain ⟨spine, landed⟩ := x.releaseHolds_spec p
    obtain ⟨spine', landed'⟩ := (x.releaseHolds p).landProt_spec p
    exact ⟨spine'.trans spine, landed'.trans landed⟩
  clear_value y
  have hz : z.spine = y.spine ∧ z.landeds = y.landeds := by
    obtain ⟨s0, o0⟩ := y.releasePq_spec p 0
    obtain ⟨s1, o1⟩ := (y.releasePq p 0).releasePq_spec p 1
    exact ⟨s1.trans s0, Pont.landeds_of_outs (o1.trans o0)⟩
  clear_value z
  have order : z.order = x.order := (congrArg Pont.order (hz.1.trans hy.1) :)
  refine ⟨?_, ?_, fun on i => ?_⟩
  · rw [Pont.refreshHolds_spine]
    exact Eq.trans (b := z.spine) rfl (hz.1.trans hy.1)
  · rw [Pont.refreshHolds_landeds]
    refine Eq.trans (b := z.landeds) ?_ (hz.2.trans hy.2)
    refine landed_ofFn z.outs _ fun i => ?_
    rfl
  · rw [((z.restoreOne p).refreshHolds_out p i).1]
    have on' : (z.restoreOne p).order = true := order.trans on
    simp [Pont.heldNow, on']

theorem Pont.landStages_spec (x old : Pont) (p : Nat) : (x.landStages old p).spine = x.spine ∧ (x.landStages old p).outs = x.outs := ⟨rfl, rfl⟩

/-- A landing at a pontoon: what lands, what stays, and what an order does (R55, R70, R190, R260). -/
theorem Pont.land_spec (x : Pont) (p : Nat) (pins : BitVec 2) :
    let y := x.land p pins
    (y.mark = .plain ∧ y.chosen = none ∧ y.crossing = x.crossing)
      ∧ (∀ m, x.chosen = some m → x.configuring = false → x.orderDue = false →
          (∀ i : Fin 8, y.outs[i].landed = manValue m i) ∧ y.fromH = x.chosenBy ∧ y.holder = x.chosenBy ∧ y.silence = false
            ∧ y.order = false ∧ y.verdict = x.verdict)
      ∧ (x.chosen = none ∨ x.configuring = true ∨ x.orderDue = true →
          (∀ i : Fin 8, y.outs[i].landed = x.outs[i].landed) ∧ y.fromH = none
            ∧ (x.silence = true ∨ x.order = true ∨ x.orderDue = true ∨ x.configuring = true → y.verdict = .safe)
            ∧ (x.silence = false → x.order = false → x.orderDue = false → x.configuring = false → y.verdict = x.verdict))
      ∧ (x.orderDue = true → y.order = true ∧ y.orderDue = false ∧ ∀ i : Fin 8, y.outs[i].held = true) := by
  intro y
  obtain ⟨setup, next, loaded, config, spine, landed⟩ := x.landSetup_spec p pins
  have eq : y = ((({ x.landSetup p pins with order := (x.landSetup p pins).order || (x.landSetup p pins).orderDue, orderDue := false } : Pont).landValues
      (x.configuring || (x.landSetup p pins).orderDue)).landHolds p).landStages x p := x.land_eq p pins
  clear_value y
  generalize x.landSetup p pins = u at spine landed eq
  have due : u.orderDue = x.orderDue := (congrArg Pont.orderDue spine :)
  have order : u.order = x.order := (congrArg Pont.order spine :)
  have silence : u.silence = x.silence := (congrArg Pont.silence spine :)
  have verdict : u.verdict = x.verdict := (congrArg Pont.verdict spine :)
  have chosen : u.chosen = x.chosen := (congrArg Pont.chosen spine :)
  have chosenBy : u.chosenBy = x.chosenBy := (congrArg Pont.chosenBy spine :)
  have mark : u.mark = .plain := (congrArg Pont.mark spine :)
  have crossing : u.crossing = x.crossing := (congrArg Pont.crossing spine :)
  rw [due, order] at eq
  have ends {z : Pont} (values : ({ u with order := x.order || x.orderDue, orderDue := false } : Pont).landValues (x.configuring || x.orderDue) = z) :
      y.spine = z.spine ∧ y.landeds = z.landeds ∧ (z.order = true → ∀ i : Fin 8, y.outs[i].held = true) := by
    rw [values] at eq
    obtain ⟨spineH, landedH, held⟩ := z.landHolds_spec p
    obtain ⟨spineS, outs⟩ := (z.landHolds p).landStages_spec x p
    rw [← eq] at spineS outs
    exact ⟨spineS.trans spineH, (Pont.landeds_of_outs outs).trans landedH, fun on i => by simpa only [outs] using held on i⟩
  by_cases lands : x.chosen = none ∨ (x.configuring || x.orderDue) = true
  · obtain ⟨spineY, landedY, held⟩ := ends (Pont.landValues_none (lands.imp_left fun h => chosen.trans h))
    have verdictY : y.verdict = if ((x.configuring || x.orderDue) || u.silence || (x.order || x.orderDue)) = true then .safe else u.verdict :=
      (congrArg Pont.verdict spineY :)
    refine ⟨⟨(congrArg Pont.mark spineY :).trans mark, (congrArg Pont.chosen spineY :), (congrArg Pont.crossing spineY :).trans crossing⟩,
      fun m some_ off noOrder => ?_, fun _ => ⟨Pont.landed_of_landeds (landedY.trans landed), (congrArg Pont.fromH spineY :), fun why => ?_,
        fun loud noStand noOrder off => ?_⟩, fun on => ⟨?_, (congrArg Pont.orderDue spineY :), held ?_⟩⟩
    · rcases lands with h | h
      · exact absurd (some_.symm.trans h) (by simp)
      · rw [off, noOrder] at h
        exact absurd h (by decide)
    · rw [verdictY, silence]
      refine if_pos ?_
      rcases why with h | h | h | h <;> simp [h]
    · rw [verdictY, silence, loud, noStand, noOrder, off]
      exact verdict
    · refine (congrArg Pont.order spineY :).trans ?_
      show (x.order || x.orderDue) = true
      rw [on, Bool.or_true]
    · show (x.order || x.orderDue) = true
      rw [on, Bool.or_true]
  · rw [not_or, Bool.not_eq_true, Bool.or_eq_false_iff] at lands
    obtain ⟨some_, off, noOrder⟩ := lands
    obtain ⟨m, chosen'⟩ := Option.ne_none_iff_exists'.1 some_
    obtain ⟨outs, grp, cts, wake, ga, gb, decim, values, landedM⟩ := Pont.landValues_some
      (x := { u with order := x.order || x.orderDue, orderDue := false }) (chosen.trans chosen')
    have bar : (x.configuring || x.orderDue) = false := by rw [off, noOrder]; rfl
    rw [bar] at ends
    obtain ⟨spineY, landedY, held⟩ := ends values
    refine ⟨⟨(congrArg Pont.mark spineY :).trans mark, (congrArg Pont.chosen spineY :), (congrArg Pont.crossing spineY :).trans crossing⟩,
      fun m' some' _ _ => ?_, fun why => ?_, fun on => absurd (noOrder.symm.trans on) (by decide)⟩
    · cases chosen'.symm.trans some'
      refine ⟨fun i => (Pont.landed_of_landeds landedY i).trans (landedM i), (congrArg Pont.fromH spineY :).trans chosenBy,
        (congrArg Pont.holder spineY :).trans chosenBy, (congrArg Pont.silence spineY :), (congrArg Pont.order spineY :),
        (congrArg Pont.verdict spineY :).trans verdict⟩
    · rcases why with h | h | h
      · exact absurd h some_
      · exact absurd (off.symm.trans h) (by decide)
      · exact absurd (noOrder.symm.trans h) (by decide)

/-- Settles O32: a landing, and the stop that an order brings. -/
theorem landing : Obligations.Landing := by
  intro s p x
  refine ⟨fun running marked mark stop => ?_, fun running marked mark on => ?_, fun off => if_neg ?_⟩
  · have stops : exec (.landing p) s = .next ((s.modPont p (fun x => { x.lost with mooredStop := true })).refreshMirror p) :=
      (if_pos (by
        rw [show (s.pont p).running = true from running, show (s.pont p).marked = true from marked,
          show (s.pont p).mark = .landing from mark]
        rfl)).trans (if_pos stop)
    refine ⟨_, stops, State.refreshMirror_only (s.onlyPont_modPont p _), ?_⟩
    have now : ((s.modPont p (fun x => { x.lost with mooredStop := true })).refreshMirror p).pont p = { (s.pont p).lost with mooredStop := true } :=
      (s.modPont_pont p (fun x => { x.lost with mooredStop := true }) :)
    rw [now]
    exact ⟨rfl, rfl, rfl, fun i => by simp [Pont.lost]⟩
  · have lands : exec (.landing p) s = .next ((s.modField p (fun x => (x.endCrossing s.tb.ageLand).land p (s.lanePins p))).refreshMirror p) :=
      (if_pos (by
        rw [show (s.pont p).running = true from running, show (s.pont p).marked = true from marked,
          show (s.pont p).mark = .landing from mark]
        rfl)).trans (if_neg (by rw [show (s.pont p).stopDue = false from on]; decide))
    refine ⟨_, lands, State.refreshMirror_only (s.onlyPont_modField p _), ?_⟩
    have spec := ((s.pont p).endCrossing s.tb.ageLand).land_spec p (s.lanePins p)
    obtain ⟨y, change⟩ : ∃ y, ((s.pont p).endCrossing s.tb.ageLand).land p (s.lanePins p) = y := ⟨_, rfl⟩
    obtain ⟨frame, outs, -⟩ := State.modField_frame (s := s) (p := p)
      (f := fun x => (x.endCrossing s.tb.ageLand).land p (s.lanePins p)) change
    rw [change] at spec
    obtain ⟨⟨plain, none_, crossing⟩, values, stays, order⟩ := spec
    refine ⟨(congrArg Pont.mark frame :).trans plain, (congrArg Pont.chosen frame :).trans none_, (congrArg Pont.crossing frame :).trans crossing,
      fun m chosen off noOrder => ?_, fun why => ?_, fun on => ?_⟩
    · obtain ⟨landed, fromH, holder, silence, orders, verdict⟩ := values m chosen off noOrder
      exact ⟨fun i => (outs i).kept.1.trans (landed i), (congrArg Pont.fromH frame :).trans fromH, (congrArg Pont.holder frame :).trans holder,
        (congrArg Pont.silence frame :).trans silence, (congrArg Pont.order frame :).trans orders, (congrArg Pont.verdict frame :).trans verdict⟩
    · obtain ⟨landed, fromH, safe, same⟩ := stays why
      exact ⟨fun i => (outs i).kept.1.trans (landed i), (congrArg Pont.fromH frame :).trans fromH,
        fun why => (congrArg Pont.verdict frame :).trans (safe why), fun h1 h2 h3 h4 => (congrArg Pont.verdict frame :).trans (same h1 h2 h3 h4)⟩
    · obtain ⟨stands, done, held⟩ := order on
      exact ⟨(congrArg Pont.order frame :).trans stands, (congrArg Pont.orderDue frame :).trans done, fun i => (outs i).kept.2.trans (held i)⟩
  · rcases off with h | h | h
    · rw [show (s.pont p).running = false from h]
      simp
    · rw [show (s.pont p).marked = false from h]
      simp
    · rw [decide_eq_false h]
      simp

end Sys2Proof.Machine
end

section
/-! PROOFS. Analog samples, shunts and the excitation (R306 to R309, R314, R340). -/

namespace Sys2Proof.Machine

/-! ### What the work of one channel changes -/

/-- Pontoon y differs from x in channel i, the snapshots, the wake buffer and what the next report brings. -/
structure Pont.ChannelWork (i : Nat) (x y : Pont) : Prop where
  frame : y = { x with ais := y.ais, grp := y.grp, wake := y.wake, rcInc := y.rcInc, bells := y.bells, recs := y.recs }
  others : ∀ k, k ≠ i → vat y.ais k {} = vat x.ais k {}

theorem Pont.ChannelWork.trans {i : Nat} {x y z : Pont} (h : ChannelWork i x y) (h' : ChannelWork i y z) : ChannelWork i x z := by
  refine ⟨?_, fun k e => (h'.others k e).trans (h.others k e)⟩
  refine h'.frame.trans ?_
  rw [h.frame]

theorem Pont.ChannelWork.modAi (x : Pont) (i : Nat) (f : AiSt → AiSt) : ChannelWork i x (x.modAi i f) :=
  ⟨rfl, fun _ e => vat_vmod_other _ _ _ e⟩

/-- The position, settling, sample, validity and shunt of a channel: what the samples show. -/
def AiSt.shows (a : AiSt) : Int × Nat × Option Int × Bool × Bool := (a.pos, a.settle, a.sample, a.valid, a.shunt)

theorem Pont.modAi_own (x : Pont) {i : Nat} (lt : i < 4) (f : AiSt → AiSt) : vat (x.modAi i f).ais i {} = f (vat x.ais i {}) := vat_vmod _ _ _ lt

/-- Work on channel i that keeps what its samples show. -/
def Pont.KeepsChannel (i : Nat) (x y : Pont) : Prop :=
  ChannelWork i x y ∧ (vat y.ais i {}).shows = (vat x.ais i {}).shows ∧ y.grp = x.grp

theorem Pont.KeepsChannel.trans {i : Nat} {x y z : Pont} (h : KeepsChannel i x y) (h' : KeepsChannel i y z) : KeepsChannel i x z :=
  ⟨h.1.trans h'.1, h'.2.1.trans h.2.1, h'.2.2.trans h.2.2⟩

theorem Pont.KeepsChannel.refl {i : Nat} {x : Pont} : KeepsChannel i x x := ⟨⟨rfl, fun _ _ => rfl⟩, rfl, rfl⟩

theorem Pont.KeepsChannel.rcIn {i addr lo : Nat} {n : Int} {x : Pont} : KeepsChannel i x (x.rcIn addr lo n) := ⟨⟨rfl, fun _ _ => rfl⟩, rfl, rfl⟩

theorem Pont.KeepsChannel.bellIn {i k : Nat} {x : Pont} : KeepsChannel i x (x.bellIn k) := ⟨⟨rfl, fun _ _ => rfl⟩, rfl, rfl⟩

theorem Pont.KeepsChannel.recIn {i code cls : Nat} {d0 d1 d2 : Word} {x : Pont} : KeepsChannel i x (x.recIn code cls d0 d1 d2) :=
  ⟨⟨rfl, fun _ _ => rfl⟩, rfl, rfl⟩

/-- A change of channel i that keeps what its samples show. -/
theorem Pont.KeepsChannel.modAi {x : Pont} {i : Nat} (lt : i < 4) {f : AiSt → AiSt} (keeps : (f (vat x.ais i {})).shows = (vat x.ais i {}).shows) :
    KeepsChannel i x (x.modAi i f) :=
  ⟨.modAi .., by rw [x.modAi_own lt, keeps], rfl⟩

theorem Pont.overRange_keeps (x : Pont) (p : Nat) {i : Nat} (lt : i < 4) (v : Int) : KeepsChannel i x (x.overRange p i v) := by
  unfold Pont.overRange
  extract_lets lim a isOut new y
  have keeps : KeepsChannel i x y := .modAi lt rfl
  split
  · exact keeps.trans (.trans .rcIn (.trans .bellIn .recIn))
  · exact keeps

theorem AiSt.plausible_shows (a : AiSt) (bad : Bool) (n : Nat) : (a.plausible bad n).1.shows = a.shows := by
  unfold AiSt.plausible
  split
  · rfl
  · split <;> rfl

theorem Pont.judgeSample_keeps (x : Pont) (p : Nat) {i : Nat} (lt : i < 4) (d : Int) (judged : Bool) :
    KeepsChannel i x (x.judgeSample p i d judged) := by
  unfold Pont.judgeSample
  split
  · exact .refl
  · dsimp only
    have judged : KeepsChannel i x (x.modAi i fun _ => { ((vat x.ais i {}).plausible (decide (sc (x.aiW p i 3) < d.natAbs)) (fld (x.aiW p i 0) 15 8)).1 with
        chkDiff := some d, cmpMade := true }) := .modAi lt (AiSt.plausible_shows ..)
    split
    · exact judged.trans (.trans .rcIn (.trans (.modAi lt rfl) (.trans .rcIn .bellIn)))
    · exact judged.trans .rcIn

theorem AiSt.detect_shows (a : AiSt) (w0 w1 : Word) (v : Int) (valid dark : Bool) : (a.detect w0 w1 v valid dark).shows = a.shows := by
  have cleared : (if dark then a.clearAll else a.clearDueNow).shows = a.shows := by
    cases dark
    · unfold AiSt.clearDueNow
      simp only [Bool.false_eq_true, if_false]
      split <;> split <;> split <;> rfl
    · rfl
  have rms (b : AiSt) (n : Nat) : (b.runRms n v valid).shows = b.shows := by
    unfold AiSt.runRms
    split
    · dsimp only
      split <;> rfl
    · split <;> rfl
  unfold AiSt.detect
  extract_lets b c
  have hc : c.shows = a.shows := (rms b _).trans cleared
  split
  · exact hc
  · exact hc

/-- Snapshots that wait for another channel stay (R325). -/
theorem Pont.takeSnaps_spec (x : Pont) (p i : Nat) (pos : Int) (d : Nat) (prim : Option (Int × Int × Bool)) :
    ChannelWork i x (x.takeSnaps p i pos d prim) ∧ (x.takeSnaps p i pos d prim).ais = x.ais
      ∧ ((∀ w ∈ x.grp.waits, w.ch ≠ i) → (x.takeSnaps p i pos d prim).grp = x.grp) := by
  refine ⟨⟨rfl, fun _ _ => rfl⟩, rfl, fun others => ?_⟩
  have not_ : ∀ w ∈ x.grp.waits, (w.ch == i && nearest pos w.at_ d) = false := fun w mem => by
    rw [beq_eq_false_iff_ne.2 (others w mem), Bool.false_and]
  have keep : x.grp.waits.filter (fun w => !(w.ch == i && nearest pos w.at_ d)) = x.grp.waits :=
    List.filter_eq_self.2 fun w mem => by rw [not_ w mem]; rfl
  have none_ : x.grp.waits.filter (fun w => w.ch == i && nearest pos w.at_ d) = [] :=
    List.filter_eq_nil_iff.2 fun w mem => by rw [not_ w mem]; decide
  unfold Pont.takeSnaps
  dsimp only
  rw [keep, none_]
  simp

theorem measuredOf_le (range : Nat) : (measuredOf range).1 ≤ (measuredOf range).2 := by
  unfold measuredOf
  split <;> decide

/-! ### A sample -/

/-- One output sample of channel i (R306, R314, R325, R340). -/
def Pont.TookSample (p i : Nat) (x y : Pont) : Prop :=
  let a := vat x.ais i {}
  let b := vat y.ais i {}
  ChannelWork i x y ∧ ((∀ w ∈ x.grp.waits, w.ch ≠ i) → y.grp = x.grp)
    ∧ b.pos = a.pos + presetD a.preset
    ∧ b.settle = (if x.unsettled p i = true then 14 else a.settle - 1)
    ∧ (x.dark = true ∨ a.shunt = true → b.sample = none)
    ∧ (x.dark = false → a.shunt = false → ∃ v, b.sample = some v ∧ (measuredOf (x.aiRange p i)).1 ≤ v ∧ v ≤ (measuredOf (x.aiRange p i)).2)
    ∧ (b.valid = true → x.dark = false ∧ a.shunt = false ∧ x.unsettled p i = false ∧ a.settle = 0)

theorem Pont.aiSample_took (x : Pont) (p : Nat) {i : Nat} (lt : i < 4) (bits : List Bool) (cks : List CkConv) :
    TookSample p i x (x.aiSample p i bits cks) := by
  unfold Pont.aiSample
  extract_lets n range a dec pos raw lim v ck uns settle none_ v0 x1 x2 x3 plaus valid x4 x5 x6 t
  have w1 : ChannelWork i x x1 := .modAi ..
  have own1 : (vat x1.ais i {}).shows = (pos, if uns then 14 else a.settle - 1, a.sample, a.valid, a.shunt) := by
    show (vat (x.modAi i _).ais i {}).shows = _
    rw [x.modAi_own lt]
    rfl
  have grp1 : x1.grp = x.grp := rfl
  have k2 : KeepsChannel i x1 x2 := by
    show KeepsChannel i x1 (if none_ = true then x1 else x1.overRange p i v)
    split
    · exact .refl
    · exact x1.overRange_keeps p lt v
  clear_value x1 x2
  have k3 : KeepsChannel i x2 x3 := x2.judgeSample_keeps p lt ..
  clear_value x3
  obtain ⟨w3, own3, grp3⟩ := k2.trans k3
  have own4 : (vat x4.ais i {}).shows = (pos, if uns then 14 else a.settle - 1, if none_ then none else some v, valid, a.shunt) := by
    have before := own3.trans own1
    simp only [AiSt.shows, Prod.mk.injEq] at before
    obtain ⟨hpos, hsettle, -, -, hshunt⟩ := before
    show (vat (x3.modAi i _).ais i {}).shows = _
    rw [x3.modAi_own lt, AiSt.detect_shows]
    simp only [AiSt.shows, hpos, hsettle, hshunt]
  have w4 : ChannelWork i x3 x4 := .modAi ..
  have grp4 : x4.grp = x3.grp := rfl
  clear_value x4
  have k5 : KeepsChannel i x4 x5 := by
    show KeepsChannel i x4 (if valid = true then x4 else x4.rcIn (aiBase p i + 8) 0 1)
    split
    · exact .refl
    · exact .rcIn
  clear_value x5
  obtain ⟨w6, ais6, grp6⟩ := x5.takeSnaps_spec p i pos (presetD a.preset) (if none_ then none else some (raw, v, valid))
  obtain ⟨w5, own5, grp5⟩ := k5
  change ChannelWork i x5 x6 at w6
  change x6.ais = x5.ais at ais6
  have own6 : (vat x6.ais i {}).shows = (pos, if uns then 14 else a.settle - 1, if none_ then none else some v, valid, a.shunt) := by
    rw [ais6, own5, own4]
  have grps : x5.grp = x.grp := grp5.trans (grp4.trans (grp3.trans grp1))
  change (∀ w ∈ x5.grp.waits, w.ch ≠ i) → x6.grp = x5.grp at grp6
  rw [grps] at grp6
  clear_value x6
  simp only [AiSt.shows, Prod.mk.injEq] at own6
  obtain ⟨hpos, hsettle, hsample, hvalid, -⟩ := own6
  have offEq : none_ = (x.dark || a.shunt) := rfl
  have goodEq : valid = true → (!(x.dark || a.shunt) && settle == 0 && !(x.unsettled p i)) = true := fun on => (Bool.and_eq_true_iff.1 on).1
  have settleEq : settle = if x.unsettled p i = true then 15 else a.settle := rfl
  clear_value none_ valid settle
  refine ⟨(((w1.trans w3).trans w4).trans (w5.trans w6)).trans ⟨rfl, fun _ _ => rfl⟩, grp6, hpos, hsettle, fun off => ?_, fun light closed => ?_,
    fun on => ?_⟩
  · refine hsample.trans (if_pos ?_)
    rw [offEq]
    exact Bool.or_eq_true_iff.2 off
  · obtain ⟨low, high⟩ := clampI_range (aiCorrect (x.aiW p i 1) (x.aiW p i 2) raw) (measuredOf_le (x.aiRange p i))
    refine ⟨v, hsample.trans (if_neg ?_), low, high⟩
    rw [offEq, light, Bool.false_or]
    exact ne_true_of_eq_false closed
  · have judged := goodEq (hvalid.symm.trans on)
    rw [settleEq] at judged
    simp only [Bool.and_eq_true, Bool.not_eq_true', Bool.or_eq_false_iff, beq_iff_eq] at judged
    obtain ⟨⟨⟨light, closed⟩, settled⟩, steady⟩ := judged
    rw [steady] at settled
    exact ⟨light, closed, steady, settled⟩

/-- A pontoon as a shunt trips (R308). -/
def Pont.trip (x : Pont) (p i n : Nat) : Pont :=
  (((x.modAi i (fun a => { a with shunt := true, sample := none, valid := false })).rcIn (aiBase p i + 13) 0 1).bellIn
    bellAnalog).recIn 0x0A2 (clsFault + 4) (subj (0x80 + n)) 0 0

/-- A shunt that trips leaves no sample. -/
theorem Pont.trip_spec (x : Pont) (p : Nat) {i : Nat} (n : Nat) (lt : i < 4) :
    vat (x.trip p i n).ais i {} = { vat x.ais i {} with shunt := true, sample := none, valid := false }
      ∧ (x.trip p i n).bells = x.bells ||| oneBit bellAnalog
      ∧ x.trip p i n = { x with ais := (x.trip p i n).ais, rcInc := (x.trip p i n).rcInc, bells := (x.trip p i n).bells, recs := (x.trip p i n).recs } :=
  ⟨x.modAi_own lt (fun a => { a with shunt := true, sample := none, valid := false }), rfl, rfl⟩

/-- The row of a shunt that trips. -/
theorem execShuntTrip_on {s : State} {n : Fin 16} (running : (s.pont (pontOfAi n)).running = true)
    (en : (s.pont (pontOfAi n)).aiEn (pontOfAi n) (n.val % 4) = true)
    (current : isCurrent ((s.pont (pontOfAi n)).aiRange (pontOfAi n) (n.val % 4)) = true)
    (closed : (vat (s.pont (pontOfAi n)).ais (n.val % 4) {}).shunt = false) :
    exec (.shuntTrip n) s = .next (s.modPont (pontOfAi n) (fun x => x.trip (pontOfAi n) (n.val % 4) n.val)) :=
  if_pos (by rw [running, en, current, closed]; rfl)

/-- A shunt that closes again: its channel settles for 14 samples (R308, R340). -/
theorem Pont.reclosed (x : Pont) (p : Nat) {i : Nat} (lt : i < 4) :
    vat ((x.modAi i (fun a => { a with shunt := false })).markSettle p i).ais i {} = { vat x.ais i {} with shunt := false, settle := 14 } := by
  have settles := (x.modAi i (fun a => { a with shunt := false })).modAi_own lt (fun a => { a with settle := 14 })
  rw [x.modAi_own lt] at settles
  exact settles

/-! ### The rows -/

/-- Settles O27: a sample through its channel, and the flags of shunts and excitation. -/
theorem analogInputs : Obligations.AnalogInputs := by
  refine ⟨fun s n bits cks sats => ?_, fun s n => ?_⟩
  · intro p i x a
    have lt : i < 4 := Nat.mod_lt _ (by decide)
    refine ⟨fun running locked en => ?_, fun off => if_neg ?_⟩
    · obtain ⟨work, grp, pos, settle, none_, some_, valid⟩ := x.aiSample_took p lt bits (ckConvs cks sats)
      refine ⟨_, if_pos (by rw [show (s.pont (pontOfAi n)).running = true from running, show (s.pont (pontOfAi n)).regLocked = true from locked]; exact en),
        s.onlyPont_modPont p _, ?_⟩
      rw [State.modPont_pont]
      refine ⟨(congrArg Pont.outs work.frame :), (congrArg Pont.ins work.frame :), (congrArg Pont.cts work.frame :), (congrArg Pont.pqs work.frame :),
        grp, fun k other => ?_, pos, settle, none_, some_, valid⟩
      have kept := work.others k other
      rwa [vat_fin, vat_fin] at kept
    · rw [show (s.pont (pontOfAi n)).aiEn (pontOfAi n) (n.val % 4) = false from off, Bool.and_false]
      decide
  · intro p i x a
    have lt : i < 4 := Nat.mod_lt _ (by decide)
    refine ⟨fun running en range closed => ?_, fun open_ => if_neg ?_, fun running open_ => ?_, fun closed => if_neg ?_, fun g on => ?_, fun g off => if_neg ?_⟩
    · have current : isCurrent (x.aiRange p i) = true := by rcases range with h | h <;> rw [h] <;> rfl
      refine ⟨_, execShuntTrip_on running en current closed, s.onlyPont_modPont p _, ?_⟩
      rw [State.modPont_pont]
      exact x.trip_spec p n.val lt
    · have shut : (!(vat (s.pont (pontOfAi n)).ais (n.val % 4) {}).shunt) = false := (Bool.not_eq_false' _).mpr open_
      rw [shut, Bool.and_false]
      decide
    · refine ⟨_, if_pos ?_, s.onlyPont_modPont p _, ?_⟩
      · rw [show (s.pont (pontOfAi n)).running = true from running, show (vat (s.pont (pontOfAi n)).ais (n.val % 4) {}).shunt = true from open_]
        rfl
      · rw [State.modPont_pont]
        exact x.reclosed p lt
    · rw [show (vat (s.pont (pontOfAi n)).ais (n.val % 4) {}).shunt = false from closed, Bool.and_false]
      decide
    · refine ⟨_, if_pos on, s.onlyPont_modPont g _, ?_⟩
      rw [State.modPont_pont]
      exact ⟨rfl, rfl⟩
    · rw [off]
      decide

end Sys2Proof.Machine
end

section
/-! PROOFS. The references of an analog group and the snapshots (R312, R313, R318, R321, R325, R333). -/

namespace Sys2Proof.Machine

/-! ### One window of the group reference (R312, R313) -/

/-- What a window of the reference leaves of the judgement. -/
def GrpSt.judged (g : GrpSt) : RefJudge × List (Nat × Nat) × List (Nat × Nat) × Nat := (g.judge, g.aWin, g.sWin, g.run)

/-- A reference within 0.5 % of V_NOM, or SUPPLY (R312). -/
def Pont.nearRef (x : Pont) (p v : Nat) : Prop := x.refSel p = 3 ∨ ((v : Int) - x.vNom p).natAbs * 200 ≤ x.vNom p

/-- What a window makes of the group: judged near or far, and its flag. -/
structure Pont.Watched (p v : Nat) (x y : Pont) : Prop where
  frame : ∃ g rc bells recs, y = { x with grp := g, rcInc := rc, bells := bells, recs := recs }
  vref : y.grp.vref = v
  judged : y.grp.judged = x.grp.judged
  calm : x.grp.uns = false → (y.grp.uns = true ↔ ¬x.nearRef p v)
  far : x.grp.uns = true → ¬x.nearRef p v → y.grp.uns = true ∧ y.grp.stable = 0
  settled : ∀ l, x.grp.uns = true → x.nearRef p v → x.grp.minWins ≤ x.grp.wins → x.grp.lastVref = some l →
    ((v : Int) - l).natAbs * 10000 < l → 1 ≤ x.grp.stable → y.grp.uns = false

theorem Pont.refWatch_watched (x : Pont) (p v : Nat) : x.Watched p v (x.refWatch p v) := by
  unfold Pont.refWatch
  extract_lets g nom supply near still put stable
  have nearIff : near = true ↔ x.nearRef p v := by
    simp [near, supply, nom, Pont.nearRef]
  by_cases uns : g.uns = true
  · have uns' : x.grp.uns = true := uns
    rw [if_pos uns]
    have not_calm {P : Prop} : x.grp.uns = false → P := fun h => absurd (h.symm.trans uns') (by decide)
    by_cases two : 2 ≤ stable
    · rw [if_pos two]
      have isNear : near = true := by
        by_contra off
        have zero : stable = 0 := if_neg (by simp [off])
        omega
      exact ⟨⟨_, _, _, _, rfl⟩, rfl, rfl, not_calm, fun _ far => absurd (nearIff.1 isNear) far, fun _ _ _ _ _ _ _ => rfl⟩
    · rw [if_neg two]
      refine ⟨⟨_, _, _, _, rfl⟩, rfl, rfl, not_calm, fun _ far => ⟨uns', if_neg ?_⟩, fun l _ close wins last calm one => ?_⟩
      · rw [Bool.eq_false_iff.2 (mt nearIff.1 far)]
        simp
      · have still' : still = true := by
          show (match x.grp.lastVref with | some l => decide (((v : Int) - l).natAbs * 10000 < l) | none => false) = true
          rw [last]
          exact decide_eq_true calm
        have more : stable = g.stable + 1 := if_pos (by rw [still', nearIff.2 close]; simpa [g] using wins)
        have : 1 ≤ g.stable := one
        omega
  · have uns' : x.grp.uns = false := Bool.eq_false_iff.2 uns
    rw [if_neg uns]
    have not_uns {P : Prop} : x.grp.uns = true → P := fun h => absurd (uns'.symm.trans h) (by decide)
    by_cases close : near = true
    · rw [if_pos close]
      exact ⟨⟨_, _, _, _, rfl⟩, rfl, rfl, fun _ => ⟨fun h => absurd (uns'.symm.trans h) (by decide), fun far => absurd (nearIff.1 close) far⟩,
        not_uns, fun _ => not_uns⟩
    · rw [if_neg close]
      exact ⟨⟨_, _, _, _, rfl⟩, rfl, rfl, fun _ => ⟨fun _ => mt nearIff.2 close, fun _ => rfl⟩, not_uns, fun _ => not_uns⟩

/-! ### The judgement of the references (R321) -/

/-- What the judgement of a window leaves of the reference's own flags. -/
def GrpSt.watched (g : GrpSt) : Bool × Nat × Nat := (g.uns, g.vref, g.stable)

structure Pont.RefJudged (a : Nat × Nat) (x y : Pont) : Prop where
  frame : ∃ g ais rc bells recs, y = { x with grp := g, ais := ais, rcInc := rc, bells := bells, recs := recs }
  watched : y.grp.watched = x.grp.watched
  agree : x.grp.judge = .agree → x.grp.aWin ≠ [] → within 3 a (meanRatio x.grp.aWin) = false → 1 ≤ x.grp.run →
    y.grp.judge = .judging ∧ y.grp.aWin = x.grp.aWin ∧ y.grp.sWin = x.grp.sWin
  judging : x.grp.judge = .judging → within 1 a (meanRatio x.grp.aWin) = true → y.grp.judge = .agree

theorem Pont.refJudgeStep_judged (x : Pont) (p : Nat) (a sm : Nat × Nat) : x.RefJudged a (x.refJudgeStep p a sm) := by
  unfold Pont.refJudgeStep
  extract_lets g bigA bigS known dev put rec_
  cases judge : x.grp.judge
  case agree =>
    have not_ {P : Prop} : x.grp.judge = .judging → P := fun h => absurd (judge.symm.trans h) (by decide)
    dsimp only
    split
    · exact ⟨⟨_, _, _, _, _, rfl⟩, rfl, fun _ _ _ _ => ⟨rfl, rfl, rfl⟩, not_⟩
    · next few =>
      refine ⟨⟨_, _, _, _, _, rfl⟩, rfl, fun _ some_ far one => absurd ?_ few, not_⟩
      have known' : known = true := by
        show (!x.grp.aWin.isEmpty) = true
        rw [Bool.not_eq_true']
        exact List.isEmpty_eq_false_iff.2 some_
      show (known && !within 3 a bigA && decide (2 ≤ g.run + 1)) = true
      rw [known', show within 3 a bigA = false from far]
      simpa [g] using one
  case judging =>
    have not_ {P : Prop} : x.grp.judge = .agree → P := fun h => absurd (judge.symm.trans h) (by decide)
    dsimp only
    split
    · exact ⟨⟨_, _, _, _, _, rfl⟩, rfl, not_, fun _ _ => rfl⟩
    · next far =>
      have not' {P : Prop} : x.grp.judge = .judging → within 1 a (meanRatio x.grp.aWin) = true → P := fun _ near => absurd near far
      split
      · exact ⟨⟨_, _, _, _, _, rfl⟩, rfl, not_, not'⟩
      · split
        · exact ⟨⟨_, _, _, _, _, rfl⟩, rfl, not_, not'⟩
        · split
          · exact ⟨⟨_, _, _, _, _, rfl⟩, rfl, not_, not'⟩
          · exact ⟨⟨_, _, _, _, _, rfl⟩, rfl, not_, not'⟩
  all_goals
    exact ⟨⟨_, _, _, _, _, rfl⟩, rfl, fun h => absurd (judge.symm.trans h) (by decide), fun h => absurd (judge.symm.trans h) (by decide)⟩

/-! ### The rows -/

/-- A window of a lit group with a store (R312, R321). -/
theorem refWindow_lit {s : State} {p : Fin 4} {w : RefMeas} (running : (s.pont p).running = true) (light : (s.pont p).dark = false)
    (store : (s.pont p).setup ≠ []) :
    ∃ t y, exec (.refWindow p w) s = .next t ∧ OnlyPont p s t ∧ (s.pont p).Watched p w.vref y ∧ y.RefJudged (w.iref, w.ckref) (t.pont p)
      ∧ (t.pont p).outs = (s.pont p).outs := by
  have runs : exec (.refWindow p w) s = .next (s.modPont p (fun _ => ((({ s.pont p with grp := { (s.pont p).grp with
      litWins := min ((s.pont p).grp.litWins + 1) 100 } } : Pont).refWatch p w.vref).refJudgeStep p (w.iref, w.ckref) (w.smref, w.ckref)).markUns p
        (s.pont p))) :=
    (if_neg (by rw [running]; decide)).trans ((if_neg (by rw [light]; decide)).trans (if_neg (by rw [List.isEmpty_iff]; exact store)))
  obtain ⟨watchedFrame, vref, judged, calm, far, settled⟩ := Pont.refWatch_watched { s.pont p with grp := { (s.pont p).grp with
      litWins := min ((s.pont p).grp.litWins + 1) 100 } } p w.vref
  generalize Pont.refWatch { s.pont p with grp := { (s.pont p).grp with
      litWins := min ((s.pont p).grp.litWins + 1) 100 } } p w.vref = y at *
  obtain ⟨g, rc, bells, recs, frameY⟩ := watchedFrame
  obtain ⟨⟨g', ais, rcZ, bells', recs', frameZ⟩, watched, agree, judging⟩ := y.refJudgeStep_judged p (w.iref, w.ckref) (w.smref, w.ckref)
  generalize y.refJudgeStep p (w.iref, w.ckref) (w.smref, w.ckref) = z at *
  obtain ⟨ais', rc', marked⟩ := z.markUns_frame p (s.pont p)
  refine ⟨_, y, runs, s.onlyPont_modPont p _, ⟨⟨g, rc, bells, recs, frameY⟩, vref, judged, calm, far, settled⟩, ?_, ?_⟩
  · rw [State.modPont_pont, marked]
    refine ⟨⟨g', ais', rc', bells', recs', ?_⟩, watched, agree, judging⟩
    rw [frameZ]
  · rw [State.modPont_pont, marked]
    exact (congrArg Pont.outs frameZ :).trans (congrArg Pont.outs frameY :)

/-- A window that is not judged: the time of the settling passes (R312, R313). -/
theorem Pont.refWait_spec (x : Pont) : (∃ st n, x.refWait = { x with grp := { x.grp with stable := st, wins := n } })
    ∧ (x.grp.uns = true → x.refWait.grp.wins = min (x.grp.wins + 1) 100) := by
  by_cases uns : x.grp.uns = true
  · rw [show x.refWait = _ from if_pos uns]
    exact ⟨⟨_, _, rfl⟩, fun _ => rfl⟩
  · rw [show x.refWait = x from if_neg uns]
    exact ⟨⟨x.grp.stable, x.grp.wins, rfl⟩, fun h => absurd h uns⟩

/-- Settles O28: windows of a reference, its judgement, and the slot that a snapshot takes. -/
theorem referencesAndSnapshots : Obligations.ReferencesAndSnapshots := by
  refine ⟨fun s p w => ?_, fun s p v vref low high => ?_⟩
  · intro x g near a
    refine ⟨fun running light store => ?_, fun running shade => ?_, fun stopped => if_pos ?_, fun running uns changed => ?_, fun calm => if_neg ?_⟩
    · obtain ⟨t, y, next, only, watched, judged, outs⟩ := refWindow_lit (w := w) running light store
      have flags := judged.watched
      have kept := watched.judged
      simp only [GrpSt.watched, Prod.mk.injEq] at flags
      simp only [GrpSt.judged, Prod.mk.injEq] at kept
      obtain ⟨uns, ref, stable⟩ := flags
      obtain ⟨judge, aWin, sWin, run⟩ := kept
      refine ⟨t, next, only, outs, ref.trans watched.vref, fun h => ?_, fun h far => ?_, fun l h close wins last calm one => ?_,
        fun h some_ far one => ?_, fun h close => judged.judging (judge.trans h) (by rw [aWin]; exact close)⟩
      · rw [uns]
        exact watched.calm h
      · rw [uns, stable]
        exact watched.far h far
      · rw [uns]
        exact watched.settled l h close wins last calm one
      · obtain ⟨goes, keepsA, keepsS⟩ := judged.agree (judge.trans h) (by rw [aWin]; exact some_) (by rw [aWin]; exact far) (by rw [run]; exact one)
        exact ⟨goes, keepsA.trans aWin, keepsS.trans sWin⟩
    · have waits (y : Pont) (lit : Nat) (from_ : y = { x with grp := { g with litWins := lit } })
          (eq : exec (.refWindow p w) s = .next (s.modPont p (fun _ => y.refWait))) :
          ∃ t, exec (.refWindow p w) s = .next t ∧ OnlyPont p s t
            ∧ t.pont p = { x with grp := (t.pont p).grp } ∧ (t.pont p).grp.uns = g.uns ∧ (t.pont p).grp.judge = g.judge
            ∧ (t.pont p).grp.vref = g.vref ∧ (t.pont p).grp.lastVref = g.lastVref
            ∧ (t.pont p).grp.aWin = g.aWin ∧ (t.pont p).grp.sWin = g.sWin
            ∧ (g.uns = true → (t.pont p).grp.wins = min (g.wins + 1) 100) := by
        obtain ⟨⟨st, n, frame⟩, wins⟩ := y.refWait_spec
        refine ⟨_, eq, s.onlyPont_modPont p _, ?_⟩
        rw [State.modPont_pont]
        subst from_
        exact ⟨frame.trans (by rw [frame]), (congrArg (fun y => y.grp.uns) frame :), (congrArg (fun y => y.grp.judge) frame :),
          (congrArg (fun y => y.grp.vref) frame :), (congrArg (fun y => y.grp.lastVref) frame :), (congrArg (fun y => y.grp.aWin) frame :),
          (congrArg (fun y => y.grp.sWin) frame :), wins⟩
      have runs : ¬ (!(s.pont p).running) = true := by rw [show (s.pont p).running = true from running]; decide
      by_cases dark : (s.pont p).dark = true
      · exact waits x g.litWins rfl ((if_neg runs).trans (if_pos dark))
      · have empty : (s.pont p).setup.isEmpty = true := List.isEmpty_iff.2 (shade.resolve_left dark)
        exact waits _ _ rfl ((if_neg runs).trans ((if_neg dark).trans (if_pos empty)))
    · rw [show (s.pont p).running = false from stopped]
      rfl
    · refine ⟨_, if_pos ?_, s.onlyPont_modPont p _, ?_⟩
      · rw [show (s.pont p).running = true from running, show (s.pont p).grp.uns = true from uns, show (s.pont p).grp.changed = true from changed]
        rfl
      · rw [State.modPont_pont]
        refine ⟨rfl, rfl, congrArg (fun w => x.recs ++ [(0x0A3, clsFault + 4, subj (0x10 + p.val), w, 0)]) ?_⟩
        show (if (x.dark || x.grp.lastVref.isNone) = true then 0x800000 else wd x.grp.vref) = _
        simp only [Bool.or_eq_true, Option.isNone_iff_eq_none]
        rfl
    · rw [show (s.pont p).grp.uns = false from calm, Bool.and_false, Bool.false_and]
      decide
  · intro c x
    refine ⟨fun n m l running snaps slots due => ?_, fun off => ?_⟩
    · let free := slotsOf ((s.pont p).rotation p) 7
      obtain ⟨wait, hw⟩ : ∃ w : SnapWait, w = ⟨n, (s.pont p).ckScaled p n c, c.sat, ((64 * ((s.pont p).grp.slotsUsed / free.length)
        + 8 * free.getD ((s.pont p).grp.slotsUsed % free.length) 0 : Nat) : Int)⟩ := ⟨_, rfl⟩
      have takes : exec (.snapshotConversion p v vref low high) s = .next (s.modPont p (fun x => { x with grp := { x.grp with
          snaps := l
          waits := x.grp.waits ++ [wait]
          slotsUsed := (s.pont p).grp.slotsUsed + 1 } })) := by
        show execSnapshotConversion p v vref low high s = _
        subst hw
        unfold execSnapshotConversion
        dsimp only
        rw [show (s.pont p).grp.snaps = (n, m) :: l from snaps]
        refine if_neg ?_
        rw [show (s.pont p).running = true from running, show (slotsOf ((s.pont p).rotation p) 7).isEmpty = false from List.isEmpty_eq_false_iff.2 slots,
          decide_eq_false (Nat.not_lt.2 due)]
        decide
      refine ⟨_, takes, ?_, ?_, wait, ?_, by rw [hw], by rw [hw], by rw [hw], fun first => ?_⟩
      · rw [State.modPont_pont]
        rfl
      · rw [State.modPont_pont]
      · rw [State.modPont_pont]
      · rw [hw, show (s.pont p).grp.slotsUsed = 0 from first, Nat.zero_div, Nat.zero_mod]
        show ((64 * 0 + 8 * free.getD 0 0 : Nat) : Int) = 8 * ((free.headD 0 : Nat) : Int)
        cases free <;> simp
    · show execSnapshotConversion p v vref low high s = _
      unfold execSnapshotConversion
      dsimp only
      split
      · rfl
      · next i from_ rest list =>
        have none_ : (slotsOf ((s.pont p).rotation p) 7).isEmpty = true :=
          List.isEmpty_iff.2 (off.resolve_left fun h => absurd (list.symm.trans h) (by simp))
        rw [none_, Bool.or_true, Bool.true_or]
        rfl

end Sys2Proof.Machine
end

section
/-! PROOFS. The sounding of a pontoon and its report (R44, R52, R53, R60). -/

namespace Sys2Proof.Machine

/-! ### What the parts of a sounding leave -/

theorem soundFold_spine (f : Pont → Nat → Pont × List (Nat × Word)) (step : ∀ x i, (f x i).1.spine = x.spine) (l : List Nat) (x : Pont) :
    (soundFold x l f).1.spine = x.spine := by
  suffices all : ∀ a : Pont × List (Nat × Word),
      (l.foldl (fun a i => let r := f a.1 i; (r.1, a.2 ++ r.2)) a).1.spine = a.1.spine from all (x, [])
  induction l with
  | nil => exact fun _ => rfl
  | cons i l ih => exact fun a => (ih _).trans (step _ _)

theorem Pont.soundLines_spine (x : Pont) (p : Nat) (m : SoundingMeas) (vddio : Bool) :
    (x.soundLines p m vddio).spine = ({ x with safenLow := !m.safen } : Pont).spine := by
  unfold Pont.soundLines
  extract_lets lv y z
  rw [Pont.refreshHolds_spine]
  refine (Pont.foldl_spine _ (fun x l => ?_) _ y).trans rfl
  split <;> rfl

theorem Pont.soundInputs_spine (x : Pont) (p : Nat) (m : SoundingMeas) : (x.soundInputs p m).spine = x.spine := by
  refine Pont.foldl_spine _ (fun x i => ?_) _ x
  extract_lets setup r y z
  have hy : y.spine = x.spine := rfl
  clear_value y
  have hz : z.spine = y.spine := Pont.spine_ite rfl rfl
  clear_value z
  refine Eq.trans (Pont.spine_ite (x := z) ?_ ?_) (hz.trans hy) <;> rfl

theorem Pont.soundCounter_spine (x : Pont) (p i : Nat) : (x.soundCounter p i).1.spine = x.spine := by
  unfold Pont.soundCounter
  extract_lets c k mode off ws y z zero c1 c2 c3
  have hy : y.spine = x.spine := Pont.spine_ite rfl rfl
  clear_value y
  have hz : z.spine = y.spine := Pont.spine_ite rfl rfl
  clear_value z
  exact Eq.trans (b := z.spine) rfl (hz.trans hy)

theorem Pont.soundRx_spine (x : Pont) (p : Nat) : (x.soundRx p).1.spine = x.spine :=
  Eq.trans (b := (x.judgeAllRx p).spine) rfl (x.judgeAllRx_spine p)

theorem Pont.soundSwitch_spine (x : Pont) (p i : Nat) (m : SoundingMeas) : (x.soundSwitch p i m).1.spine = x.spine := rfl

theorem Pont.soundPq_spine (x : Pont) (p j : Nat) : (x.soundPq p j).1.spine = x.spine := by
  unfold Pont.soundPq
  extract_lets q0 n b im coil ref q y z w
  have hy : y.spine = x.spine := rfl
  clear_value y
  have hz : z.spine = y.spine := Pont.spine_ite rfl rfl
  clear_value z
  exact Eq.trans (b := z.spine) rfl (hz.trans hy)

theorem Pont.soundExc_spine (x : Pont) (p : Nat) (m : SoundingMeas) : (x.soundExc p m).spine = x.spine := by
  unfold Pont.soundExc
  extract_lets y
  have hy : y.spine = x.spine := Pont.spine_ite rfl rfl
  clear_value y
  exact Eq.trans (b := y.spine) rfl hy

theorem Pont.soundSnaps_spine (x : Pont) (p : Nat) : (x.soundSnaps p).spine = x.spine := rfl

theorem Pont.soundAi_spine (x : Pont) (p i : Nat) (sat : Bool) : (x.soundAi p i sat).1.spine = x.spine := by
  unfold Pont.soundAi
  extract_lets en b a0 a1 a dark lat none_ val status per env rms words rep y z
  have hy : y.spine = x.spine := Pont.spine_ite rfl rfl
  clear_value y
  exact Eq.trans (b := y.spine) rfl hy

theorem Pont.resetDecim_spine (x : Pont) (p i : Nat) : (x.resetDecim p i).spine = x.spine := by
  unfold Pont.resetDecim
  extract_lets pre y z
  have hy : y.spine = x.spine := rfl
  clear_value y
  have hz : z.spine = y.spine := rfl
  clear_value z
  refine Eq.trans (Pont.spine_ite (x := z) ?_ ?_) (hz.trans hy) <;> rfl

theorem Pont.soundResets_spine (x : Pont) (p : Nat) (all : Bool) :
    (x.soundResets p all).spine = ({ x with decimDue := x.decimDue && !x.regLocked, gridDue := false } : Pont).spine := by
  unfold Pont.soundResets
  extract_lets due y z
  have hy : y.spine = x.spine := by
    refine Pont.foldl_spine _ (fun x i => ?_) _ x
    split
    · exact x.resetDecim_spine p i
    · rfl
  clear_value y
  have hz : z.spine = y.spine := Pont.spine_ite rfl rfl
  clear_value z
  have same := hz.trans hy
  exact (congrArg (fun w : Pont => ({ w with decimDue := w.decimDue && !w.regLocked, gridDue := false } : Pont)) same :)

theorem Pont.soundAis_spine (x : Pont) (p : Nat) (m : SoundingMeas) : (x.soundAis p m).1.spine = x.spine := by
  suffices all : ∀ (l : List Nat) (a : Pont × List (Nat × Word) × List AiRep),
      (l.foldl (fun a i => let r := a.1.soundAi p i (m.ckSat.getLsbD i)
        (r.1, a.2.1 ++ r.2.1, a.2.2 ++ [r.2.2])) a).1.spine = a.1.spine from all _ (x, [], [])
  intro l
  induction l with
  | nil => exact fun _ => rfl
  | cons i l ih => exact fun a => (ih _).trans (Pont.soundAi_spine a.1 p i (m.ckSat.getLsbD i))

/-! ### The report -/

/-- A report that shows what stands at a pontoon (R52). -/
structure Report.Of (x : Pont) (r : Report) : Prop where
  crossing : r.crossing = x.crossing
  verdict : r.verdict = x.verdict
  holder : r.holder = x.holder
  fromH : r.fromH = x.fromH
  configuring : r.configuring = x.configuring
  dark : r.dark = x.dark
  gwA : r.gwA = x.gwA.up
  gwB : r.gwB = x.gwB.up
  landed : r.landed = (List.finRange 8).map (fun i => x.outs[i].landed)

/-- A report that brings what the one before it told no helm (R281, R383). -/
def Report.Brings (r o : Report) : Prop := o.recs <+: r.recs ∧ o.rc <+: r.rc ∧ o.wakeTrig <+: r.wakeTrig ∧ o.bells &&& r.bells = o.bells

theorem Report.Of.after {x : Pont} {r : Report} (h : r.Of x) (old : Option Report) : (r.after old).Of x := by
  cases old
  · exact h
  · exact ⟨h.crossing, h.verdict, h.holder, h.fromH, h.configuring, h.dark, h.gwA, h.gwB, h.landed⟩

theorem Report.after_brings (r o : Report) : (r.after (some o)).Brings o := by
  refine ⟨List.prefix_append .., List.prefix_append .., List.prefix_append .., ?_⟩
  show o.bells &&& (o.bells ||| r.bells) = o.bells
  ext i hi
  simp
  tauto

theorem landed_list (v : Vector OutSt 8) : v.toList.map (·.landed) = (List.finRange 8).map (fun i => v[i].landed) := by
  apply List.ext_getElem
  · simp
  · intro i h1 h2
    simp

/-- A sounding: the report that it builds, and the pontoon after it (R52). -/
theorem Pont.sound_spec (x : Pont) (p : Nat) (m : SoundingMeas) (vddio all carry : Bool) :
    ∃ r, (x.sound p m vddio all carry).report = some r ∧ r.Of x
      ∧ ((x.sound p m vddio all carry).mark = .plain ∧ (x.sound p m vddio all carry).crossing = x.crossing
        ∧ (x.sound p m vddio all carry).safenLow = !m.safen)
      ∧ ∀ o, carry = true → x.told = false → x.report = some o → r.Brings o := by
  unfold Pont.sound
  extract_lets x0 x1 x2 cw r x3 sw pw x4 aw gw x5 trips x6 rep grp wake x7
  have h0 : x0.spine = ({ x with mark := .plain } : Pont).spine ∧ x0.landeds = x.landeds := ⟨rfl, rfl⟩
  clear_value x0
  have h1 : x1.spine = ({ x0 with safenLow := !m.safen } : Pont).spine ∧ x1.landeds = x0.landeds :=
    ⟨x0.soundLines_spine p m vddio, x0.soundLines_landeds p m vddio⟩
  clear_value x1
  have h2 : x2.spine = x1.spine ∧ x2.landeds = x1.landeds := ⟨x1.soundInputs_spine p m, x1.soundInputs_landeds p m⟩
  clear_value x2
  have h3 : cw.1.spine = x2.spine ∧ cw.1.landeds = x2.landeds :=
    ⟨soundFold_spine _ (fun y i => y.soundCounter_spine p i) _ _, soundFold_landeds _ (fun y i => y.soundCounter_landeds p i) _ _⟩
  clear_value cw
  have h4 : x3.spine = cw.1.spine ∧ x3.landeds = cw.1.landeds := ⟨cw.1.soundRx_spine p, cw.1.soundRx_landeds p⟩
  clear_value r
  clear_value x3
  have h5 : sw.1.spine = x3.spine ∧ sw.1.landeds = x3.landeds :=
    ⟨soundFold_spine _ (fun y i => y.soundSwitch_spine p i m) _ _, soundFold_landeds _ (fun y i => y.soundSwitch_landeds p i m) _ _⟩
  clear_value sw
  have h6 : pw.1.spine = sw.1.spine ∧ pw.1.landeds = sw.1.landeds :=
    ⟨soundFold_spine _ (fun y j => y.soundPq_spine p j) _ _, soundFold_landeds _ (fun y j => y.soundPq_landeds p j) _ _⟩
  clear_value pw
  have h7 : x4.spine = pw.1.spine ∧ x4.landeds = pw.1.landeds :=
    ⟨Eq.trans (b := (pw.1.soundExc p m).spine) rfl (pw.1.soundExc_spine p m), (Pont.soundSnaps_landeds ..).trans (Pont.soundExc_landeds ..)⟩
  clear_value x4
  have h8 : aw.1.spine = x4.spine ∧ aw.1.landeds = x4.landeds := ⟨x4.soundAis_spine p m, x4.soundAis_landeds p m⟩
  clear_value aw
  have h9 : x5.spine = aw.1.spine ∧ x5.landeds = aw.1.landeds := ⟨rfl, rfl⟩
  clear_value x5
  have h10 : x6.spine = x5.spine ∧ x6.landeds = x5.landeds := by
    show Pont.spine (if trips.isEmpty = true then x5 else _) = _ ∧ Pont.landeds (if trips.isEmpty = true then x5 else _) = _
    split <;> exact ⟨rfl, rfl⟩
  clear_value x6
  have spine : x6.spine = ({ x with mark := .plain, safenLow := !m.safen } : Pont).spine := by
    rw [h10.1, h9.1, h8.1, h7.1, h6.1, h5.1, h4.1, h3.1, h2.1, h1.1]
    exact (congrArg (fun w : Pont => ({ w with safenLow := !m.safen } : Pont)) h0.1 :)
  have landed : x6.landeds = x.landeds := by
    rw [h10.2, h9.2, h8.2, h7.2, h6.2, h5.2, h4.2, h3.2, h2.2, h1.2, h0.2]
  have of : rep.Of x := ⟨(congrArg Pont.crossing spine :), (congrArg Pont.verdict spine :), (congrArg Pont.holder spine :),
    (congrArg Pont.fromH spine :), (congrArg Pont.configuring spine :), (congrArg Pont.dark spine :), (congrArg (fun w => w.gwA.up) spine :),
    (congrArg (fun w => w.gwB.up) spine :), (landed_list x6.outs).trans (List.map_congr_left fun i _ => Pont.landed_of_landeds landed i)⟩
  have resets := x7.soundResets_spine p all
  have told : x6.untold carry = if (carry && !x.told) = true then x.report else none := by
    rw [Pont.untold, show x6.told = x.told from (congrArg Pont.told spine :), show x6.report = x.report from (congrArg Pont.report spine :)]
  refine ⟨rep.after (x6.untold carry), (congrArg Pont.report resets :), of.after _, ⟨(congrArg Pont.mark resets :).trans (congrArg Pont.mark spine :),
    (congrArg Pont.crossing resets :).trans (congrArg Pont.crossing spine :), (congrArg Pont.safenLow resets :).trans (congrArg Pont.safenLow spine :)⟩,
    fun o carries untold report => ?_⟩
  rw [told, if_pos (by rw [carries, untold]; rfl), report]
  exact Report.after_brings rep o

/-! ### Edges of SAFEn (R60) -/

/-- The lines as a sounding finds them. -/
def State.soundLanes (s : State) (p : Fin 4) (m : SoundingMeas) : State :=
  let here (k : Nat) : Bool := k / 2 = p.val
  let s := if s.lanes.sndAt = s.tb.crossing then s else { s with lanes := { s.lanes with
    sndAt := s.tb.crossing
    prevSnd := s.lanes.atSnd
    prevSafen := s.lanes.safenPin } }
  { s with lanes := { s.lanes with
    level := bits8 (fun k => if here k then m.dl.getLsbD k else s.lanes.level.getLsbD k)
    atSnd := bits8 (fun k => if here k then m.dl.getLsbD k && s.rst.vddio else s.lanes.atSnd.getLsbD k)
    safenPin := m.safen
    safenNow := m.safen } }

/-- The edges of SAFEn that a sounding tells, in a state in which the lines are noted. -/
def State.safenTold (u : State) (p : Fin 4) (m : SoundingMeas) (was : Bool) : State :=
  (u.safenRises p m.rises).safenFound p u.lanes.riseAt (u.safenRises p m.rises).lanes.riseAt was m.safen

theorem execSounding_eq {s t : State} {p : Fin 4} {m : SoundingMeas} (told : (s.soundLanes p m).safenTold p m s.lanes.safenNow = t) :
    exec (.sounding p m) s =
    if ((s.pont p).running && (s.pont p).marked && decide ((s.pont p).mark = .sounding)) = true then
      .next ((t.modField p (fun x => (x.newCrossing t.tb).sound p m t.rst.vddio (t.tb.decimAt = some x.crossing) t.landingsRun)).refreshMirror p)
    else .next t := by
  subst told
  rfl

theorem State.soundLanes_frame (s : State) (p : Fin 4) (m : SoundingMeas) : ∃ l, s.soundLanes p m = { s with lanes := l }
    ∧ l.riseAt = s.lanes.riseAt ∧ l.safenPin = m.safen ∧ l.safenNow = m.safen := by
  refine ⟨(s.soundLanes p m).lanes, ?_, ?_, rfl, rfl⟩ <;>
  · unfold State.soundLanes
    dsimp only
    split <;> rfl

/-- Only the note of a rising edge and the events that wait at the helms differ. -/
structure State.HeardEdges (s t : State) : Prop where
  frame : ∃ r ha hb, t = { s with lanes := { s.lanes with riseAt := r }, helmA := ha, helmB := hb }
  svc : ∀ h, (t.helm h).svc = (s.helm h).svc

theorem State.HeardEdges.refl {s : State} : HeardEdges s s := ⟨⟨s.lanes.riseAt, s.helmA, s.helmB, rfl⟩, fun _ => rfl⟩

theorem State.HeardEdges.trans {s t u : State} (h : HeardEdges s t) (h' : HeardEdges t u) : HeardEdges s u := by
  obtain ⟨r, ha, hb, rfl⟩ := h.frame
  obtain ⟨r', ha', hb', rfl⟩ := h'.frame
  exact ⟨⟨r', ha', hb', rfl⟩, fun g => (h'.svc g).trans (h.svc g)⟩

theorem State.HeardEdges.raise {s : State} {r : Option Stamp} {at_ : Stamp} {e : Ev} :
    HeardEdges s (State.raiseEv { s with lanes := { s.lanes with riseAt := r } } at_ e) :=
  ⟨⟨r, _, _, rfl⟩, fun h => by rw [State.raiseEv_helm]; cases h <;> rfl⟩

theorem State.safenRises_heard (p : Fin 4) : ∀ (l : List (Nat × Nat)) (s : State), HeardEdges s (s.safenRises p l)
  | [], _ => .refl
  | e :: l, s => by
    unfold State.safenRises
    rw [List.foldl_cons]
    dsimp only
    split
    · exact State.safenRises_heard p l s
    · exact State.HeardEdges.raise.trans (State.safenRises_heard p l _)

theorem State.safenFound_heard (s : State) (p : Fin 4) (was was' : Option Stamp) (old new : Bool) :
    HeardEdges s (s.safenFound p was was' old new) := by
  unfold State.safenFound
  split
  · exact .refl
  · exact .raise

/-- Rising edges that are told already are not told again. -/
theorem State.safenRises_told (p : Fin 4) : ∀ (l : List (Nat × Nat)) (s : State),
    (∀ e ∈ l, s.now.lt ⟨e.1, e.2⟩ = true ∨ s.lanes.riseAt.any (fun u => !u.lt ⟨e.1, e.2⟩) = true) → s.safenRises p l = s
  | [], _, _ => rfl
  | e :: l, s, told => by
    unfold State.safenRises
    rw [List.foldl_cons]
    dsimp only
    rw [if_pos (by simpa using told e (List.mem_cons_self ..))]
    exact State.safenRises_told p l s fun e mem => told e (List.mem_cons_of_mem _ mem)

/-- A rising edge that has been told (log entry 38). -/
def State.toldRise (s : State) (e : Nat × Nat) : Prop :=
  s.now.lt ⟨e.1, e.2⟩ = true ∨ s.lanes.riseAt.any (fun u => !u.lt ⟨e.1, e.2⟩) = true

theorem Stamp.lt_irrefl (a : Stamp) : a.lt a = false := by
  simp [Stamp.lt]

/-- What the edges of SAFEn that a sounding finds bring to the helms. -/
def State.EdgesTold (s : State) (p : Fin 4) (m : SoundingMeas) (was : Bool) (t : State) : Prop :=
  ((∀ e ∈ m.rises, s.toldRise e) → (m.safen ≠ was → Received s t s.now (.safenEdge p m.safen))
    ∧ (m.safen = was → t.helmA = s.helmA ∧ t.helmB = s.helmB))
  ∧ (∀ e, m.rises = [e] → ¬ s.toldRise e →
    (m.safen = true ∨ was = false → Received s t ⟨e.1, e.2⟩ (.safenEdge p true))
    ∧ (m.safen = false → was = true → ∀ h, (t.helm h).hs.evs = (s.helm h).hs.evs
        ++ (if (s.helm h).svc.inService = true then [{ at_ := ⟨e.1, e.2⟩, ev := .safenEdge p true },
          { at_ := s.now, ev := .safenEdge p false }] else [])))

theorem State.EdgesTold.congr {s t v : State} {p : Fin 4} {m : SoundingMeas} {was : Bool} (told : s.EdgesTold p m was t)
    (helmA : v.helmA = t.helmA) (helmB : v.helmB = t.helmB) : s.EdgesTold p m was v := by
  have helms (h : HelmId) : v.helm h = t.helm h := by cases h <;> assumption
  unfold State.EdgesTold Received at *
  simpa only [helms, helmA, helmB] using told

theorem State.safenTold_edges {s u : State} (helms : ∀ h, u.helm h = s.helm h) (now : u.now = s.now) (rise : u.lanes.riseAt = s.lanes.riseAt)
    (p : Fin 4) (m : SoundingMeas) (was : Bool) : s.EdgesTold p m was (u.safenTold p m was) := by
  refine ⟨fun told => ?_, fun e rises new => ?_⟩
  · have none_ : u.safenRises p m.rises = u := State.safenRises_told p m.rises u fun e mem => by
      rw [now, rise]
      exact told e mem
    have found : u.safenTold p m was = u.safenFound p u.lanes.riseAt u.lanes.riseAt was m.safen := by rw [State.safenTold, none_]
    rw [found]
    refine ⟨fun differs h => ?_, fun same => ?_⟩
    · rw [State.safenFound, if_neg (by simp [differs]), State.raiseEv_helm]
      rw [show State.helm { u with lanes := { u.lanes with riseAt := if m.safen then some u.now else u.lanes.riseAt } } h = s.helm h from
        (show _ = u.helm h by cases h <;> rfl).trans (helms h), now]
    · rw [State.safenFound, if_pos (by simp [same])]
      exact ⟨helms .a, helms .b⟩
  · rw [State.toldRise, not_or] at new
    obtain ⟨past, fresh⟩ := new
    let v : State := State.raiseEv { u with lanes := { u.lanes with riseAt := some ⟨e.1, e.2⟩ } } ⟨e.1, e.2⟩ (.safenEdge p true)
    have one : u.safenRises p m.rises = v := by
      rw [rises]
      refine if_neg ?_
      rw [now, rise, Bool.not_eq_true _ |>.mp past, Bool.not_eq_true _ |>.mp fresh]
      decide
    have evs (h : HelmId) : (v.helm h).hs.evs = (s.helm h).hs.evs
        ++ (if (s.helm h).svc.inService = true then [{ at_ := ⟨e.1, e.2⟩, ev := .safenEdge p true }] else []) := by
      rw [State.raiseEv_helm, show State.helm { u with lanes := { u.lanes with riseAt := some ⟨e.1, e.2⟩ } } h = s.helm h from
        (show _ = u.helm h by cases h <;> rfl).trans (helms h)]
    have svc (h : HelmId) : (v.helm h).svc = (s.helm h).svc := by
      rw [State.raiseEv_helm, show State.helm { u with lanes := { u.lanes with riseAt := some ⟨e.1, e.2⟩ } } h = s.helm h from
        (show _ = u.helm h by cases h <;> rfl).trans (helms h)]
    have moved : (u.lanes.riseAt != v.lanes.riseAt) = true := by
      rw [bne_iff_ne]
      intro same
      rw [rise] at same
      rw [same] at fresh
      exact fresh (by show (!Stamp.lt _ _) = true; rw [Stamp.lt_irrefl]; rfl)
    have found : u.safenTold p m was = v.safenFound p u.lanes.riseAt v.lanes.riseAt was m.safen := by rw [State.safenTold, one]
    rw [found]
    refine ⟨fun ends => ?_, fun low high h => ?_⟩
    · have quiet : (decide (m.safen = was) || (m.safen && u.lanes.riseAt != v.lanes.riseAt)) = true := by
        rw [moved]
        rcases ends with h | h
        · rw [h]
          simp
        · rw [h]
          cases m.safen <;> rfl
      rw [State.safenFound, if_pos quiet]
      exact evs
    · rw [State.safenFound, if_neg (by rw [low, high]; simp), State.raiseEv_helm,
        show State.helm { v with lanes := { v.lanes with riseAt := if m.safen then some v.now else v.lanes.riseAt } } h = v.helm h by cases h <;> rfl]
      dsimp only
      rw [evs h, svc h, low, show v.now = s.now from now]
      split <;> simp

/-- The state in which a sounding has told its edges. -/
theorem State.soundEdges (s : State) (p : Fin 4) (m : SoundingMeas) :
    ∃ l ha hb, (s.soundLanes p m).safenTold p m s.lanes.safenNow = { s with lanes := l, helmA := ha, helmB := hb }
      ∧ l.safenPin = m.safen ∧ l.safenNow = m.safen
      ∧ ({ s with lanes := l, helmA := ha, helmB := hb } : State).landingsRun = s.landingsRun
      ∧ s.EdgesTold p m s.lanes.safenNow { s with lanes := l, helmA := ha, helmB := hb } := by
  obtain ⟨l, lanes, rise, pin, now⟩ := s.soundLanes_frame p m
  rw [lanes]
  have edges := State.safenTold_edges (s := s) (u := { s with lanes := l }) (fun h => by cases h <;> rfl) rfl rise p m s.lanes.safenNow
  have heard : State.HeardEdges { s with lanes := l } (({ s with lanes := l } : State).safenTold p m s.lanes.safenNow) :=
    (State.safenRises_heard ..).trans (State.safenFound_heard ..)
  obtain ⟨r, ha, hb, frame⟩ := heard.frame
  rw [frame] at edges
  have svcA : ha.svc = s.helmA.svc := by
    have h := heard.svc .a
    rwa [frame] at h
  have svcB : hb.svc = s.helmB.svc := by
    have h := heard.svc .b
    rwa [frame] at h
  refine ⟨_, ha, hb, frame, pin, now, ?_, edges⟩
  show (s.tb.counting && s.rst.landed && (ha.svc.computes || hb.svc.computes)) = _
  rw [svcA, svcB]
  rfl

/-- Settles O30: the edges reach the helms first, and the report is built by `Pont.sound_spec`. -/
theorem sounding : Obligations.Sounding := by
  intro s p m x told edges
  obtain ⟨l, ha, hb, frame, pin, now, runs, heard⟩ := s.soundEdges p m
  refine ⟨fun running marked mark => ?_, fun still => ?_⟩
  · let t : State := { s with lanes := l, helmA := ha, helmB := hb }
    let f (w : Pont) : Pont := (w.newCrossing t.tb).sound p m t.rst.vddio (t.tb.decimAt = some w.crossing) t.landingsRun
    obtain ⟨y, change⟩ : ∃ y, f (t.pont p) = y := ⟨_, rfl⟩
    obtain ⟨r, report, of, ⟨plain, crossing, low⟩, brings⟩ :=
      Pont.sound_spec ((t.pont p).newCrossing t.tb) p m t.rst.vddio (t.tb.decimAt = some x.crossing) t.landingsRun
    have landed := Pont.sound_landeds ((t.pont p).newCrossing t.tb) p m t.rst.vddio (t.tb.decimAt = some x.crossing) t.landingsRun
    rw [show ((t.pont p).newCrossing t.tb).sound p m t.rst.vddio (t.tb.decimAt = some x.crossing) t.landingsRun = y from change] at report plain crossing low landed
    have spine := State.modField_spine (s := t) (f := f) change
    have landeds : ((t.modField p f).pont p).landeds = x.landeds := (State.modField_landeds ..).trans ((congrArg Pont.landeds change).trans landed)
    refine ⟨(t.modField p f).refreshMirror p, (execSounding_eq frame).trans (if_pos ?_), State.refreshMirror_only (State.onlyPont_modField t p _), heard.congr rfl rfl,
      r, (congrArg Pont.report spine :).trans report, of.crossing, of.verdict, of.holder, of.fromH, of.configuring, of.dark, of.gwA, of.gwB, of.landed,
      (congrArg Pont.mark spine :).trans plain, (congrArg Pont.crossing spine :).trans crossing, (congrArg Pont.safenLow spine :).trans low,
      fun i => Pont.landed_of_landeds landeds i, pin, fun o carries untold old => brings o (runs.trans carries) untold old⟩
    rw [show (s.pont p).running = true from running, show (s.pont p).marked = true from marked, show (s.pont p).mark = .sounding from mark]
    rfl
  · refine ⟨{ s with lanes := l, helmA := ha, helmB := hb }, (execSounding_eq frame).trans (if_neg ?_), rfl, now, heard⟩
    rcases still with h | h | h
    · rw [show (s.pont p).running = false from h]
      simp
    · rw [show (s.pont p).marked = false from h]
      simp
    · rw [decide_eq_false (show ¬ (s.pont p).mark = .sounding from h)]
      simp

end Sys2Proof.Machine
end

section
/-! PROOFS. The loss of VDDIO ends a hold that nothing causes (R377, R474). -/

namespace Sys2Proof.Machine

/-- A running machine in which output 5 of pontoon 0 is noted as held, though no cause of level 4 holds it. Lane 1 of that pontoon is a
PERMIT lane, for output 3. -/
def heldByNothing : State := (Tests.up).modPont 0 (fun x => x.modOut 5 (fun o => { o with held := true }))

/-- Whether output 5 of pontoon 0 is held after a row. -/
def holdsFive : Host.Outcome State Fault Refusal → Bool
  | .next t => (t.pont 0).outs[(5 : Fin 8)].held
  | _ => true

/-- The PERMIT lane that goes low has every hold of its pontoon judged afresh. -/
theorem vddioLow_releases : holdsFive (exec .vddioLow heldByNothing) = false := by decide +kernel

/-- Refutes O18: VDDIO_LOW keeps a hold only where a cause stands behind it. In a state whose note of a hold has no cause the PERMIT lane that
goes low has the holds of its pontoon judged afresh, and that one ends. -/
theorem not_vddAndVddio : ¬ Obligations.VddAndVddio := by
  intro h
  obtain ⟨-, vddio⟩ := h
  obtain ⟨⟨t, row, -, -, -, -, ponts⟩, -⟩ := vddio heldByNothing
  obtain ⟨-, -, -, -, keeps⟩ := ponts 0
  have held : (t.pont 0).outs[(5 : Fin 8)].held = true := keeps 5 (by decide +kernel)
  have released := vddioLow_releases
  rw [row] at released
  exact absurd (held.symm.trans released) (by decide)

end Sys2Proof.Machine
end

section
/-! PROOFS. The start of the device (R95, R462, R463) and the stop of the tides in MOORED (R389, R418). -/

namespace Sys2Proof.Machine

/-! ### Start-up -/

/-- The rings resumed: the next slot lies in the ring, and hold-up is over (R449). -/
theorem State.resumeRings_spec (s : State) : s.resumeRings = { s with com := s.resumeRings.com }
    ∧ s.resumeRings.com.slot < ringSlots ∧ s.resumeRings.com.holdUp = false := by
  refine ⟨rfl, ?_, rfl⟩
  unfold State.resumeRings
  dsimp only
  split
  · dsimp only
    split
    · assumption
    · exact (by decide : 0 < ringSlots)
  · exact (by decide : 0 < ringSlots)

/-- A record that the engine commits by itself: its words stand in the ring of each bank that reads them back. -/
theorem State.commitOwn_slot {s : State} (r : Rec) (slot : s.com.slot < ringSlots) {b : Bool} (good : bankGood (s.backAt 0) b = true) :
    ((s.commitOwn r).bank b).reads (8 * s.com.slot) 8 = r.words := by
  let u : State := { s with free := s.free + 8 }
  obtain ⟨n, m, bank⟩ := u.recWritten_bank r ⟨s.backAt 0, s.backAt 1⟩ b
  show ((u.commitOne r _).bank b).reads (8 * s.com.slot) 8 = _
  rw [State.commitOne_bank, bank, good]
  exact Bank.reads_commit_slot (u.bank b) (c := u.com) r _ n m slot

/-- With nothing in the slips, and no POWER_FAIL record, the engine has nothing to commit. -/
theorem State.commitSlips_empty {s : State} (none_ : s.com.take = none) (power : s.com.powerFail = none) : s.commitSlips = s := by
  have order : s.com.order 20 = [] := by rw [Commit.order, none_]
  have after : s.com.after 20 = s.com := by rw [Commit.after, none_]
  have drained : s.drainEngine = s := by rw [State.drainEngine, order, after]; rfl
  rw [State.commitSlips, State.finishHoldUp, drained, power]

theorem Bank.lastCrossing_blank {b : Bank} (blank : b.mem = []) : b.lastCrossing = none := by
  rw [Bank.lastCrossing, blank]
  rfl

/-- The device as it starts, before its START record. -/
def State.starting (s : State) : State :=
  let u := s.commitSlips.resumeRings
  { u with rst := { u.rst with started := true, vdd := true, powerOn := false }, tb := { u.tb with crossing := u.firstCrossing, stroke := 0 } }

/-- The START record (R463). -/
def State.startRec (s : State) : Rec := ⟨s.starting.now, 0xA, clsInfo, 0x002, 0, s.commitSlips.resumeRings.rst.causeWord, 0⟩

theorem execStart_on {s : State} (held : s.rst.held = false) (testen : s.rst.testen = false) (started : s.rst.started = false)
    (alive : s.rst.mooringAlive = true) : exec .start s = .next (s.starting.commitOwn s.startRec) :=
  if_neg (by simp [held, testen, started, alive])

theorem addrLatch_once (s : State) (a1 a0 : Strap) : (s.live = true → s.rst.vddio = true → s.rst.addr = none →
      exec (.addrLatch a1 a0) s = .next { s with rst := { s.rst with addr := some (3 * strapValue a1 + strapValue a0) } })
    ∧ (s.rst.addr ≠ none → exec (.addrLatch a1 a0) s = .next s) := by
  refine ⟨fun live vddio addr => if_pos (by simp [live, vddio, addr]), fun addr => if_neg ?_⟩
  rw [Option.isNone_eq_false_iff.2 (Option.isSome_iff_ne_none.2 addr), Bool.and_false]
  decide

/-! ### The stop of the tides -/

/-- A machine whose tides have stopped. -/
def State.tidesStopped (s : State) : State :=
  let t := s.toll.moor s.rst.tick
  let cut (f : PortFE) : PortFE := { f with slipA := [], slipB := [] }
  { s with
    tb := { s.tb with counting := false, tides := false }
    toll := { t with expPend := t.expPend ++ s.expiryLeft }
    hpa := cut s.hpa
    hpb := cut s.hpb
    helmA := s.helmA.moor
    helmB := s.helmB.moor }

/-- The toll keeper up to the present tick, no event of it being due. -/
theorem State.tollAt_now {s : State} (before : s.noneBefore s.rst.tick)
    (window : s.toll.st = .closed ∨ s.toll.st = .opened → s.rst.tick < s.toll.closing)
    (pulse : s.toll.st = .pulse → s.rst.tick < s.toll.pulseEnd) :
    s.tollAt s.rst.tick = s ∨ s.toll.st = .closed ∧ s.tollAt s.rst.tick = { s with toll := { s.toll with st := .opened } } := by
  have quiet : State.tollTo (s.rst.tick + 20) s.rst.tick s = s := State.tollTo_quiet (fun e event => by
    cases st : s.toll.st
    case idle => simp [Toll.nextEvent_idle (.inl st)] at event
    case mooring => simp [Toll.nextEvent_idle (.inr st)] at event
    case pulse =>
      rw [Toll.nextEvent_pulse st] at event
      cases event
      exact pulse st
    case closed =>
      rw [Toll.nextEvent_window (.inl st)] at event
      cases event
      exact window (.inl st)
    case opened =>
      rw [Toll.nextEvent_window (.inr st)] at event
      cases event
      exact window (.inr st)) before _
  rcases State.tollAt_of_to quiet with same | ⟨opens, st⟩
  · exact .inl same
  · exact .inr ⟨st, opens⟩

theorem execTidesStop_eq {s u : State} (live : s.live = true) (tides : s.tb.tides = true) (at_ : s.tollAt s.rst.tick = u) :
    exec .tidesStop s = if u.moorReady = true then .next u.tidesStopped else .next u := by
  show execTidesStop s = _
  unfold execTidesStop
  rw [live, tides, at_, if_neg (by decide)]
  dsimp only
  cases u.moorReady <;> rfl

/-- What the stop of the tides leaves, but for the toll keeper (R389). -/
theorem State.tidesStopped_spec (s : State) : let t := s.tidesStopped
    t.tb.tides = false ∧ t.tb.counting = false ∧ t.now = s.now ∧ t.rst = s.rst ∧ t.nvmA = s.nvmA ∧ t.nvmB = s.nvmB ∧ t.ponts = s.ponts
      ∧ (∀ h, (t.helm h).hs.evs = [] ∧ (t.helm h).hs.cmds = [] ∧ (t.helm h).hs.img = (s.helm h).hs.img)
      ∧ (∀ p, (t.port p).slipA = [] ∧ (t.port p).slipB = [] ∧ (t.port p).toll = (s.port p).toll ∧ (t.port p).opened = (s.port p).opened) :=
  ⟨rfl, rfl, rfl, rfl, rfl, rfl, rfl, fun h => by cases h <;> exact ⟨rfl, rfl, rfl⟩, fun p => by cases p <;> exact ⟨rfl, rfl, rfl, rfl⟩⟩

theorem Toll.moor_window {t : Toll} (tick : Nat) (window : t.st = .closed ∨ t.st = .opened) :
    t.moor tick = { t with st := .mooring, checked := 0, moorEnd := tick + t.cur.moorS * 32768 } := by
  unfold Toll.moor
  rcases window with h | h <;> rw [h]

theorem Toll.moor_idle {t : Toll} (tick : Nat) (idle : t.st = .idle) : t.moor tick = t := by
  unfold Toll.moor
  rw [idle]

/-- Settles O19: the engine commits what it holds and then START; as the tides stop the toll keeper has at most opened its window. -/
theorem startUpAndTidesStop : Obligations.StartUpAndTidesStop := by
  refine ⟨fun s => ⟨fun a1 a0 => (addrLatch_once s a1 a0).1, fun a1 a0 => (addrLatch_once s a1 a0).2, fun held testen started alive => ?_,
    fun started => if_pos (by simp [started])⟩, fun s => ?_⟩
  · intro k v
    have drained := s.commitSlips_drained
    obtain ⟨resumed, slot, up⟩ := s.commitSlips.resumeRings_spec
    have own := s.starting.commitOwn_committed s.startRec
    have rst : s.commitSlips.rst = s.rst := by rw [drained.frame]
    have crossing : s.commitSlips.tb = s.tb := by rw [drained.frame]
    have rsts : (s.starting.commitOwn s.startRec).rst = { s.rst with started := true, vdd := true, powerOn := false } := by
      rw [own.frame, ← rst]
      rfl
    have tb : (s.starting.commitOwn s.startRec).tb = s.starting.tb := by rw [own.frame]
    refine ⟨_, execStart_on held testen started alive, rsts, (congrArg Timebase.stroke tb :), fun warm => ?_, fun cold blankA blankB none_ power => ?_,
      ?_, ?_, slot, fun out => ?_, fun ok b good => ?_⟩
    · rw [tb]
      refine (if_neg ?_).trans (congrArg (·.crossing + 1) crossing)
      rw [show s.commitSlips.resumeRings.rst = s.rst from rst, warm]
      decide
    · have same : s.commitSlips = s := State.commitSlips_empty none_ power
      rw [tb]
      show s.commitSlips.resumeRings.firstCrossing = 0
      rw [same, State.firstCrossing]
      refine (if_pos cold).trans ?_
      rw [show s.resumeRings.nvmA = s.nvmA from rfl, show s.resumeRings.nvmB = s.nvmB from rfl, Bank.lastCrossing_blank blankA,
        Bank.lastCrossing_blank blankB]
    · obtain ⟨q, com⟩ := State.recWritten_com { s.starting with free := s.starting.free + 8 } s.startRec ⟨s.starting.backAt 0, s.starting.backAt 1⟩
      show (State.commitOne _ _ _).com.holdUp = false
      rw [State.commitOne_com, com]
      exact up
    · rw [own.frame]
      show s.commitSlips.ponts = s.ponts
      rw [drained.frame]
    · have helm (h : HelmId) : (s.starting.commitOwn s.startRec).helm h = s.helm h := by
        have first : s.starting.helm h = s.helm h := (drained.helm h).2 (out h)
        exact ((own.helm h).2 (by rw [first]; exact out h)).trans first
      exact ⟨helm .a, helm .b⟩
    · have words := State.commitOwn_slot (s := s.starting) s.startRec slot (b := b) good
      refine words.trans ?_
      rw [tb, State.startRec, show s.commitSlips.resumeRings.rst = s.rst from rst]
      rfl
  · intro te order window pulse
    have before : s.noneBefore s.rst.tick := order
    have now := State.tollAt_now before window pulse
    refine ⟨fun live tides ready => ?_, fun mode st => ?_⟩
    · rcases now with same | ⟨closed, opens⟩
      · obtain ⟨dead, stopped, at_, rst, nvmA, nvmB, ponts, helms, ports⟩ := s.tidesStopped_spec
        refine ⟨_, (execTidesStop_eq live tides same).trans (if_pos ready), dead, stopped, at_, rst, nvmA, nvmB, ponts, helms, ports,
          fun st => ?_, fun st => ?_⟩
        · rw [State.tidesStopped, Toll.moor_window _ st]
          exact ⟨rfl, rfl, rfl⟩
        · rw [State.tidesStopped, Toll.moor_idle _ st]
          exact st
      · let u : State := { s with toll := { s.toll with st := .opened } }
        obtain ⟨dead, stopped, at_, rst, nvmA, nvmB, ponts, helms, ports⟩ := u.tidesStopped_spec
        refine ⟨u.tidesStopped, (execTidesStop_eq live tides opens).trans (if_pos ready), dead, stopped, at_, rst, nvmA, nvmB, ponts,
          fun h => ?_, fun p => ?_, fun st => ⟨rfl, rfl, rfl⟩, fun st => ?_⟩
        · cases h <;> exact ⟨rfl, rfl, rfl⟩
        · cases p <;> exact ⟨rfl, rfl, rfl, rfl⟩
        · rw [closed] at st
          cases st
    · have same : s.tollAt s.rst.tick = s := now.resolve_right fun h => st h.1
      by_cases works : s.live = true ∧ s.tb.tides = true
      · refine (execTidesStop_eq works.1 works.2 same).trans (if_neg ?_)
        have held : s.moorHeld = false := by rw [State.moorHeld, beq_eq_false_iff_ne.2 mode]; rfl
        simp [State.moorReady, held]
      · refine if_pos ?_
        rw [Bool.not_eq_true', Bool.eq_false_iff]
        simpa using works

end Sys2Proof.Machine
end

section
/-! PROOFS. What exhausted hold-up leaves of a commit (R447), and the clearing of the first-fault area (R443). -/

namespace Sys2Proof.Machine

/-! ### A copy cut off -/

theorem xor_one_ne (w : Word) : w ^^^ 1 ≠ w := by
  intro h
  have : (1 : Word) = 0 := by
    have same := congrArg (w ^^^ ·) h
    simpa [← BitVec.xor_assoc] using same
  exact absurd this (by decide)

section
variable (x : Bank) (r : Rec) (l : CopyLeft) (n : Nat) {addr : Nat}

theorem Bank.read_leave_other {a : Nat} (apart : ¬(addr ≤ a ∧ a < addr + 8)) : (x.leave addr r.words l n).read a = x.read a := by
  cases l with
  | old => rfl
  | complete => exact Bank.read_writes_other _ x apart
  | corrupt => exact Bank.read_writes_other _ x (by simpa using apart)

/-- A bank's copy: the old one, the complete one, or one that is not intact (R447). -/
theorem Bank.leave_copy (inside : addr + 8 ≤ bankWords) : (l = .old → x.leave addr r.words l n = x)
    ∧ (l = .complete → (x.leave addr r.words l n).reads addr 8 = r.words)
    ∧ (l = .corrupt → copyIntact ((x.leave addr r.words l n).reads addr 8) = false) := by
  refine ⟨fun h => by rw [h]; rfl, fun h => by rw [h]; exact Bank.reads_writes r.words x inside, fun h => ?_⟩
  let w := freeWords 7 n
  let ws := w ++ [crc24 (bytesOfWords w) ^^^ 1]
  have len : w.length = 7 := freeWords_length 7 n
  have copy : (x.leave addr r.words l n).reads addr 8 = ws := by
    rw [h]
    exact Bank.reads_writes ws x inside
  have last : ws.getD 7 0 = crc24 (bytesOfWords w) ^^^ 1 := rfl
  have first : ws.take 7 = w := List.take_left' len
  rw [copy, copyIntact, last, first]
  exact beq_eq_false_iff_ne.2 (xor_one_ne _)

end

section
variable (x : Bank) {c : Commit} (r : Rec) (l : BankLeft) (n : Nat)

/-- A bank with the journal entry of a commit whose ring copies are both complete, if it has been written. -/
def Bank.journaled (x : Bank) (c : Commit) (l : BankLeft) : Bank := if l.journal = true then x.write c.entry.1 c.entry.2 else x

theorem Bank.leaveRest_eq : x.leaveRest c r l n
    = if c.takesFault r then (x.journaled c l).leave c.ffAddr r.words l.ff n else x.journaled c l := by
  show (if (decide (r.cls = clsFault) && decide (c.ffFill < 256)) = true then (x.journaled c l).leave c.ffAddr r.words l.ff n
    else x.journaled c l) = _
  by_cases first : c.takesFault r
  · rw [if_pos first, if_pos (by simpa using first)]
  · rw [if_neg first, if_neg (by simpa using first)]

theorem Bank.read_journaled_other {a : Nat} (other : a ≠ c.entry.1) : (x.journaled c l).read a = x.read a := by
  unfold Bank.journaled
  split
  · exact Bank.read_write_other _ _ other
  · rfl

theorem Bank.read_journaled_entry : (x.journaled c l).read c.entry.1 = if l.journal = true then c.entry.2 else x.read c.entry.1 := by
  unfold Bank.journaled
  split
  · exact Bank.read_write_same _ _ (c.entry_lt.trans ffBase_lt_bankWords)
  · rfl

theorem Bank.read_leaveRest_other {a : Nat} (copy : ¬(c.takesFault r ∧ c.ffAddr ≤ a ∧ a < c.ffAddr + 8)) :
    (x.leaveRest c r l n).read a = (x.journaled c l).read a := by
  rw [Bank.leaveRest_eq]
  split
  · next first => exact Bank.read_leave_other _ r l.ff n fun h => copy ⟨first, h⟩
  · rfl

/-- A bank after the end of a commit that hold-up has cut off. -/
def Bank.cutOff (x : Bank) (c : Commit) (r : Rec) (l : BankLeft) (full : Bool) (n : Nat) : Bank :=
  let y := x.leave c.slotAddr r.words l.ring n
  if full = true then y.leaveRest c r l (n + 7) else y

theorem Bank.cutOff_half : x.cutOff c r l false n = x.leave c.slotAddr r.words l.ring n := rfl

theorem Bank.cutOff_full : x.cutOff c r l true n = (x.leave c.slotAddr r.words l.ring n).leaveRest c r l (n + 7) := rfl

/-- The ring slot lies before the first-fault area. -/
theorem Commit.slotAddr_ff (h : c.slot < ringSlots) {a : Nat} (slot : a < c.slotAddr + 8) : a < ffBase :=
  (slot.trans_le (Commit.slotAddr_le h)).trans journalBase_lt_ffBase

/-- The ring copy of a commit that is cut off. -/
theorem Bank.cutOff_slot (full : Bool) (h : c.slot < ringSlots) :
    (x.cutOff c r l full n).reads c.slotAddr 8 = (x.leave c.slotAddr r.words l.ring n).reads c.slotAddr 8 := by
  cases full
  · rfl
  · refine Bank.reads_congr fun a _ slot => ?_
    have before : a < ffBase := Commit.slotAddr_ff h slot
    rw [Bank.cutOff_full, Bank.read_leaveRest_other]
    · exact Bank.read_journaled_other _ l (Nat.ne_of_lt ((slot.trans_le (Commit.slotAddr_le h)).trans_le c.journalBase_le_entry))
    · rintro ⟨-, above, -⟩
      exact absurd (above.trans_lt before) (Nat.not_lt.2 (Nat.le_add_right ..))

theorem Bank.cutOff_entry (full : Bool) (h : c.slot < ringSlots) :
    (x.cutOff c r l full n).read c.entry.1 = if full = true ∧ l.journal = true then c.entry.2 else x.read c.entry.1 := by
  have apart : ¬(c.slotAddr ≤ c.entry.1 ∧ c.entry.1 < c.slotAddr + 8) := fun ⟨_, below⟩ =>
    absurd (below.trans_le (Commit.slotAddr_le h)) (Nat.not_lt.2 c.journalBase_le_entry)
  have ring := Bank.read_leave_other x r l.ring n apart
  cases full
  · exact ring.trans (if_neg (by simp)).symm
  · rw [Bank.cutOff_full, Bank.read_leaveRest_other, Bank.read_journaled_entry, ring]
    · simp
    · rintro ⟨-, above, -⟩
      exact absurd (above.trans_lt c.entry_lt) (Nat.not_lt.2 (Nat.le_add_right ..))

/-- The copy in the first-fault area. -/
theorem Bank.cutOff_ff (h : c.slot < ringSlots) (first : c.takesFault r) : let y := x.cutOff c r l true n
    (l.ff = .old → y.reads c.ffAddr 8 = x.reads c.ffAddr 8) ∧ (l.ff = .complete → y.reads c.ffAddr 8 = r.words)
      ∧ (l.ff = .corrupt → copyIntact (y.reads c.ffAddr 8) = false) := by
  dsimp only
  rw [Bank.cutOff_full, Bank.leaveRest_eq, if_pos first]
  obtain ⟨old, complete, corrupt⟩ := Bank.leave_copy ((x.leave c.slotAddr r.words l.ring n).journaled c l) r l.ff (n + 7)
    (Commit.ffAddr_le first.2)
  refine ⟨fun k => ?_, complete, corrupt⟩
  rw [old k]
  refine Bank.reads_congr fun a above _ => ?_
  have from_ : ffBase ≤ a := (Nat.le_add_right ..).trans above
  rw [Bank.read_journaled_other _ l (Nat.ne_of_gt (c.entry_lt.trans_le from_))]
  exact Bank.read_leave_other x r l.ring n fun slot => absurd (Commit.slotAddr_ff h slot.2) (Nat.not_lt.2 from_)

theorem Bank.cutOff_other (full : Bool) {a : Nat} (slot : ¬(c.slotAddr ≤ a ∧ a < c.slotAddr + 8)) (entry : a ≠ c.entry.1)
    (copy : ¬(full = true ∧ c.takesFault r ∧ c.ffAddr ≤ a ∧ a < c.ffAddr + 8)) : (x.cutOff c r l full n).read a = x.read a := by
  have ring := Bank.read_leave_other x r l.ring n slot
  cases full
  · exact ring
  · rw [Bank.cutOff_full, Bank.read_leaveRest_other _ r l _ fun k => copy ⟨rfl, k⟩, Bank.read_journaled_other _ l entry, ring]

end

/-- The row of exhausted hold-up with a record in progress. -/
theorem execVholdExhausted_on {s : State} {x y : BankLeft} {r : Rec} {d : Commit} (up : s.com.holdUp = true) (take : s.com.take = some (r, d)) :
    let full : Bool := decide (x.ring = .complete ∧ y.ring = .complete)
    exec (.vholdExhausted x y) s = .next { s with
      nvmA := s.nvmA.cutOff s.com r x full s.free, nvmB := s.nvmB.cutOff s.com r y full (s.free + 14), free := s.free + 28
      com := { s.com with slipA := [], slipB := [], slipQ := [], powerFail := none } } := by
  show execVholdExhausted x y s = _
  unfold execVholdExhausted
  rw [up, take]
  rfl

/-! ### The first-fault area cleared -/

theorem Bank.read_zeros (b : Bank) {a n i : Nat} (inside : a + n ≤ bankWords) (h : i < n) :
    (b.writes a (List.replicate n 0)).read (a + i) = 0 := by
  have words := Bank.reads_writes (List.replicate n (0 : Word)) b (a := a) (by rwa [List.length_replicate])
  rw [List.length_replicate] at words
  have word := congrArg (fun l => l.getD i 1) words
  simp only [Bank.reads] at word
  simpa [h] using word

/-- The clearing, with the way in which a bank is wiped left open, so that the 2 048 words are not written out. -/
def State.clearBy (wipe : Bank → Bank) (s : State) (r : Rec) : State :=
  let s := { s with nvmA := wipe s.nvmA, nvmB := wipe s.nvmB
                    com := { s.com with ffFill := 1, recent := s.com.recent.map (fun (u : CommitUndo) => { u with inFf := false }) } }
  let t : State := { s with free := s.free + 8 }
  (t.writeBoth ffBase r.words none (s.backAt 0)).commitOne { r with cls := clsAct } ⟨s.backAt 1, s.backAt 1⟩

theorem State.clearFf_by (s : State) (r : Rec) : s.clearFf r = s.clearBy (fun b => b.writes ffBase (List.replicate 2048 0)) r := rfl

section
variable (wipe : Bank → Bank) (s : State) (r : Rec)

/-- A machine whose first-fault areas are wiped, before the record of the clearing is written. -/
def State.ffWiped : State :=
  { s with nvmA := wipe s.nvmA, nvmB := wipe s.nvmB, free := s.free + 8
           com := { s.com with ffFill := 1, recent := s.com.recent.map (fun (u : CommitUndo) => { u with inFf := false }) } }

/-- That, with the record of the clearing in the first slot. -/
def State.ffCleared : State := (s.ffWiped wipe).writeBoth ffBase r.words none (s.backAt 0)

theorem State.clearBy_eq : s.clearBy wipe r = (s.ffCleared wipe r).commitOne { r with cls := clsAct } ⟨s.backAt 1, s.backAt 1⟩ := rfl

theorem State.ffCleared_act : ¬ (s.ffCleared wipe r).com.takesFault { r with cls := clsAct } :=
  fun h => absurd (show clsAct = clsFault from h.1) (by decide)

theorem State.ffCleared_com : ∃ q, (s.ffCleared wipe r).com = { (s.ffWiped wipe).com with slipQ := q } := State.writeBoth_com ..

/-- What a clearing leaves of a bank. -/
theorem State.clearBy_bank (b : Bool) (zero : ∀ x i, i < 2048 → (wipe x).read (ffBase + i) = 0) (slot : s.com.slot < ringSlots) :
    let y := (s.clearBy wipe r).bank b
    (bankGood (s.backAt 0) b = true → y.reads ffBase 8 = r.words) ∧ (∀ i, 8 ≤ i → i < 2048 → y.read (ffBase + i) = 0)
      ∧ (bankGood (s.backAt 1) b = true → y.reads (8 * s.com.slot) 8 = Rec.words { r with cls := clsAct }) := by
  let u := s.ffCleared wipe r
  let q : Rec := { r with cls := clsAct }
  obtain ⟨n, wrote⟩ : ∃ n, u.bank b = (wipe (s.bank b)).put ffBase r.words none (bankGood (s.backAt 0) b) n := by
    obtain ⟨n, wrote⟩ := (s.ffWiped wipe).writeBoth_bank b ffBase r.words none (s.backAt 0)
    exact ⟨n, wrote.trans (by cases b <;> rfl)⟩
  obtain ⟨k, m, commit⟩ := u.recWritten_bank q ⟨s.backAt 1, s.backAt 1⟩ b
  obtain ⟨p, com⟩ := s.ffCleared_com wipe r
  have slots : u.com.slot = s.com.slot := (congrArg Commit.slot com :)
  have slot' : u.com.slot < ringSlots := slots ▸ slot
  have bank : (s.clearBy wipe r).bank b = (u.bank b).commit u.com q (bankGood (s.backAt 1) b) (bankGood (s.backAt 1) b) k m := by
    rw [State.clearBy_eq, State.commitOne_bank]
    exact commit
  have above {a : Nat} (h : ffBase ≤ a) : ((s.clearBy wipe r).bank b).read a = (u.bank b).read a := by
    rw [bank]
    exact Bank.read_commit_other _ q _ _ k m (fun h' => absurd (Commit.slotAddr_ff slot' h'.2) (Nat.not_lt.2 h))
      (Nat.ne_of_gt ((Commit.entry_lt _).trans_le h)) fun h' => s.ffCleared_act wipe r h'.1
  refine ⟨fun good => ?_, fun i low high => ?_, fun good => ?_⟩
  · have first : (u.bank b).reads ffBase 8 = r.words := by
      rw [wrote, good]
      exact Bank.reads_put_ok _ r none n (by decide) (by simp)
    exact (Bank.reads_congr fun a from_ _ => above from_).trans first
  · rw [above (Nat.le_add_right ..), wrote]
    exact (Bank.read_put_other _ r none _ n (by omega) (by simp)).trans (zero _ i high)
  · rw [bank, good, ← slots]
    exact Bank.reads_commit_slot _ q _ k m slot'

/-- All that a clearing changes. -/
theorem State.clearBy_frame : OnlyWritten s (s.clearBy wipe r) ∧ (s.clearBy wipe r).com.ffClear = s.com.ffClear
    ∧ (s.clearBy wipe r).com.ffFill = 1 := by
  let u := s.ffCleared wipe r
  let q : Rec := { r with cls := clsAct }
  let v : ReadBack := ⟨s.backAt 1, s.backAt 1⟩
  obtain ⟨p, com⟩ := s.ffCleared_com wipe r
  obtain ⟨p', com'⟩ := u.recWritten_com q v
  have wrote : s.clearBy wipe r = u.recWritten q v := by
    rw [State.clearBy_eq, State.commitOne_eq]
    exact if_neg fun h => s.ffCleared_act wipe r h.1
  have only : OnlyWritten s (u.recWritten q v) :=
    (OnlyWritten.trans (t := s.ffWiped wipe) rfl (State.writeBoth_onlyWritten ..)).trans (u.recWritten_onlyWritten q v)
  rw [wrote]
  refine ⟨only, ?_, ?_⟩
  · rw [com']
    exact (congrArg Commit.ffClear com :)
  · rw [com', if_neg (s.ffCleared_act wipe r)]
    exact (congrArg Commit.ffFill com :)

end

/-- The bell after a clearing, and what the helms hear. -/
theorem OnlyWritten.rings {s t : State} (only : OnlyWritten s t) (k : Nat) :
    RungByEvent s (t.quayCause k) k ∧ Received s (t.quayCause k) s.now (.cause k) := by
  have rung := t.quayCause_rungByEvent k
  have heard := t.quayCause_received k
  rw [only] at rung heard ⊢
  exact ⟨rung, heard⟩

/-- Settles O22: each bank of a commit cut off is the one that `Bank.cutOff` describes; a clearing writes FF_CLEAR into the wiped area
and commits it. -/
theorem holdUpAndFirstFault : Obligations.HoldUpAndFirstFault := by
  refine ⟨fun s x y r d up take ok slot => ?_, fun s off => ?_, fun s r l waits up ok slot => ?_⟩
  · intro k j ff full first left
    let f : Bool := decide (x.ring = .complete ∧ y.ring = .complete)
    have fullIff : f = true ↔ full := decide_eq_true_iff
    have leaves (l : BankLeft) (b : Bank) (n : Nat) (ring : full → l.ring = .complete) : left l b (b.cutOff s.com r l f n) := by
      obtain ⟨old, complete, corrupt⟩ := Bank.leave_copy b r l.ring n (addr := s.com.slotAddr)
        ((Commit.slotAddr_le slot).trans (journalBase_lt_ffBase.trans ffBase_lt_bankWords).le)
      have copy := b.cutOff_slot r l n f slot
      refine ⟨fun h => ?_, fun h => copy.trans (complete h), fun h => (congrArg copyIntact copy).trans (corrupt h), ?_, fun all fault => ?_,
        fun a other entry copies => ?_⟩
      · have half : f = false := Bool.eq_false_iff.2 fun on => by
          have := ring (fullIff.1 on)
          rw [h] at this
          cases this
        rw [half, Bank.cutOff_half]
        exact old h
      · refine (b.cutOff_entry r l n f slot).trans ?_
        simp only [fullIff]
        rfl
      · rw [fullIff.2 all]
        exact b.cutOff_ff r l n slot fault
      · exact b.cutOff_other r l n f other entry fun h => copies ⟨fullIff.1 h.1, h.2⟩
    exact ⟨_, execVholdExhausted_on up take, leaves x s.nvmA s.free fun h => h.1, leaves y s.nvmB (s.free + 14) fun h => h.2,
      rfl, rfl, rfl, rfl, rfl, rfl⟩
  · show execFirstFaultClear s = _
    unfold execFirstFaultClear
    rcases off with h | h
    · exact if_pos h
    · rw [h]
      split <;> rfl
  · intro good
    let u : State := { s with com := { s.com with ffClear := l } }
    obtain ⟨only, waits', one⟩ := u.clearBy_frame (fun b => b.writes ffBase (List.replicate 2048 0)) r
    rw [← State.clearFf_by] at only waits' one
    have banks (b : Bool) := u.clearBy_bank (fun b => b.writes ffBase (List.replicate 2048 0)) r b
      (fun x i h => x.read_zeros (by decide) h) slot
    rw [← State.clearFf_by] at banks
    obtain ⟨rung, heard⟩ := only.rings bellBlackbox
    have row : exec .firstFaultClear s = .next ((u.clearFf r).quayCause bellBlackbox) := by
      show execFirstFaultClear s = _
      unfold execFirstFaultClear
      rw [up, waits]
      rfl
    refine ⟨_, row, ?_, ?_, ?_, rung, heard, fun b => ?_⟩
    · rw [State.quayCause_com]
      exact waits'
    · rw [State.quayCause_com]
      exact one
    · exact (exec_keeps _ _ _ row).banks ok
    · rw [State.quayCause_bank]
      exact banks b

end Sys2Proof.Machine
end

section
/-! PROOFS. The halt of the holder while the other helm has handed HELM_JOIN over (R184, R206, R208). -/

namespace Sys2Proof.Machine

/-- Helm A holds the helm; helm B is JOINING, has taken all twelve chunks and handed HELM_JOIN over, so that it runs the next passage. -/
def joinHanded : State :=
  (Tests.svcB Tests.up .joining).modHelm .b (fun x => { x with resync := { r := some 80, chunks := 12, handed := true } })

/-- The events that wait at helm B after a row. -/
def eventsAtB : Host.Outcome State Fault Refusal → List EvAt
  | .next t => (t.helm .b).hs.evs
  | _ => []

/-- The halt ends the resynchronisation of the joiner before it asks whether the joiner runs passages: it gets no event. -/
theorem helmHalt_unheard : eventsAtB (exec (.helmHalt .a .lockstep) joinHanded) = [] := by decide +kernel

/-- Refutes O36: a holder that halts while the other helm, JOINING, has handed HELM_JOIN over tells it nothing. The abort of the
resynchronisation comes first and takes that helm out of those that run passages. -/
theorem not_haltsAndDebugClose : ¬ Obligations.HaltsAndDebugClose := by
  intro h
  obtain ⟨halts, -⟩ := h
  obtain ⟨row, -⟩ := halts joinHanded .a .lockstep
  obtain ⟨t, next, -, -, -, -, -, -, -, -, -, -, -, -, -, -, -, -, -, told, -⟩ := row (by decide +kernel) (by decide +kernel)
  obtain ⟨evs, -⟩ := told (by decide +kernel) (by decide +kernel)
  have unheard : (t.helm .b).hs.evs = [] := by
    have none_ := helmHalt_unheard
    rw [next] at none_
    exact none_
  rw [show otherHelm .a = .b from rfl, unheard] at evs
  exact absurd (congrArg List.length evs) (by simp)

end Sys2Proof.Machine
end

section
/-! PROOFS. Resynchronisation over the painter (R206 to R208). -/

namespace Sys2Proof.Machine

theorem Stamp.background_iff (t : Stamp) : t.background = true ↔ 208 ≤ t.stroke ∨ t.stroke < 32 := by
  simp [Stamp.background]

theorem State.joiner_spec {s : State} {h : HelmId} (joiner : s.joiner = some h) :
    (s.helm h).svc = .joining ∧ (s.helm h).resync.r.isSome = true ∧ (s.helm h).resync.handed = false := by
  unfold State.joiner at joiner
  dsimp only at joiner
  split at joiner
  · next is =>
    cases joiner
    simpa [and_assoc] using is
  · split at joiner
    · next is =>
      cases joiner
      simpa [and_assoc] using is
    · cases joiner

/-- An abort at a joiner (R208). -/
theorem State.abortResync_on {s : State} {g : HelmId} {n : Nat} (joining : (s.helm g).svc = .joining) (some_ : (s.helm g).resync.r.isSome = true) :
    s.abortResync g n = (s.modHelm g (fun x => { x with resync := { retryAt := n + 16 } })).rcAdd 0x60B 12 1 :=
  if_pos (by simp [joining, some_])

theorem execResyncChunk_on {s : State} {h : HelmId} (d : Nat) (joiner : s.joiner = some h) :
    exec (.resyncChunk d) s =
      if (!s.live || decide (12 ≤ (s.helm h).resync.chunks) || !s.now.background || decide (s.now.window ≤ (s.helm h).resync.win)) = true then .next s
      else if 1024 < d then .next (s.abortResync h s.tb.crossing)
      else .next (s.modHelm h (fun x => { x with resync := { x.resync with chunks := x.resync.chunks + 1, win := s.now.window } })) := by
  show execResyncChunk d s = _
  unfold execResyncChunk
  rw [joiner]

/-- The helm that a passage has been run for (R54). -/
theorem State.passage_passNo (s : State) (h : HelmId) (n : Nat) : ((s.passage h n).helm h).passNo = some n := by
  unfold State.passage
  extract_lets going u v w
  split
  · exact congrArg Helm.passNo (State.modHelm_helm ..)
  · exact congrArg Helm.passNo (State.modHelm_helm w h _)

/-- HELM_JOIN handed over (R206, R207). -/
def State.joined (s : State) (h : HelmId) : State :=
  let t := s.copyHelm h (otherHelm h)
  let u := if (t.helm h).passNo = some s.tb.crossing then t else t.passage h s.tb.crossing
  u.raiseEv u.now (.helmJoin h)

theorem execHelmJoin_eq (s : State) (h : HelmId) : let y := (s.helm h).resync
    exec (.helmJoin h) s = if (s.live && (s.helm h).svc == .joining && y.r.isSome && y.chunks == 12 && !y.handed
        && (s.helm (otherHelm h)).svc.computes && decide (y.r.getD 0 + 13 ≤ s.tb.crossing) && decide (32 ≤ s.tb.stroke)) = true
      then .next (s.joined h) else .next s := rfl

theorem execHelmJoin_on {s : State} {h : HelmId} {r : Nat} (live : s.live = true) (joining : (s.helm h).svc = .joining)
    (some_ : (s.helm h).resync.r = some r) (chunks : (s.helm h).resync.chunks = 12) (handed : (s.helm h).resync.handed = false)
    (other : (s.helm (otherHelm h)).svc.computes = true) (late : r + 13 ≤ s.tb.crossing) (stroke : 32 ≤ s.tb.stroke) :
    exec (.helmJoin h) s = .next (s.joined h) := by
  rw [execHelmJoin_eq]
  exact if_pos (by simp [live, joining, some_, chunks, handed, other, late, stroke])

theorem Svc.computes_inService {v : Svc} (h : v.computes = true) : v.inService = true := by
  cases v <;> simp_all [Svc.computes, Svc.inService]

/-- Settles O40: each row does its one step, and a joiner with the holder's state needs a passage only where that state lacks it. -/
theorem joining : Obligations.Joining := by
  intro s h x o live
  refine ⟨fun joining fresh painter at_ other => if_pos ?_, fun off => if_neg ?_, fun d => ?_, fun r joining some_ chunks handed other late stroke ran => ?_,
    fun r joining some_ chunks handed other late stroke => ?_, fun chunks => ?_⟩
  · simp [live, show (s.helm h).svc = .joining from joining, show (s.helm h).resync.r = none from fresh, show (s.helm h).painterOk = true from painter,
      show (s.helm h).resync.retryAt ≤ s.tb.crossing from at_, show (s.helm (otherHelm h)).svc.computes = true from other]
  · rcases off with h' | h' | h'
    · simp [show (s.helm h).svc ≠ .joining from h']
    · simp [show (s.helm h).painterOk = false from h']
    · simp [show s.tb.crossing < (s.helm h).resync.retryAt from h']
  · intro w joiner more
    obtain ⟨joining, some_, -⟩ := State.joiner_spec joiner
    have row := execResyncChunk_on d joiner
    have chunks : ¬ 12 ≤ (s.helm h).resync.chunks := Nat.not_le.2 more
    have live' : (!s.live) = false := by rw [live]; rfl
    refine ⟨fun window later => ?_, fun low high => row.trans (if_pos ?_), fun done => row.trans (if_pos ?_)⟩
    · have bg : s.now.background = true := (Stamp.background_iff _).2 window
      have fresh : ¬ s.now.window ≤ (s.helm h).resync.win := Nat.not_le.2 later
      have go := row.trans (if_neg (by simp [live', chunks, bg, fresh]))
      refine ⟨fun short => go.trans (if_neg (Nat.not_lt.2 short)), fun long => ⟨_, go.trans (if_pos long), ?_⟩⟩
      rw [State.abortResync_on joining some_]
      refine ⟨?_, ?_, ?_⟩
      · rw [State.rcAdd_frame]
        exact congrArg Helm.resync (State.modHelm_helm ..)
      · rw [State.rcAdd_frame]
        exact State.modHelm_helm_other ..
      · rw [State.rcAdd_winWith]
        cases h <;> rfl
    · have bg : s.now.background = false := by
        rw [Bool.eq_false_iff, Ne, Stamp.background_iff]
        exact not_or.2 ⟨Nat.not_le.2 high, Nat.not_lt.2 low⟩
      simp [bg]
    · have old : s.now.window ≤ (s.helm h).resync.win := done
      simp [old]
  · refine ⟨_, execHelmJoin_on live joining some_ chunks handed other late stroke, ?_⟩
    have copied : (s.copyHelm h (otherHelm h)).helm h = { s.helm h with
        hs := (s.helm o).hs, saved := (s.helm o).saved, lastCmds := (s.helm o).lastCmds, lastEvs := (s.helm o).lastEvs
        begun := (s.helm o).begun, viewWas := (s.helm o).viewWas, passNo := (s.helm o).passNo
        out := (s.helm o).out.map (manAs h), outAt := (s.helm o).outAt, resync := { (s.helm h).resync with handed := true } } := by
      cases h <;> rfl
    have same : (s.copyHelm h (otherHelm h)).helm o = s.helm o := by cases h <;> rfl
    have joined : s.joined h = (s.copyHelm h (otherHelm h)).raiseEv s.now (.helmJoin h) := by
      unfold State.joined
      extract_lets t u
      have none_ : u = t := if_pos (by rw [copied]; exact ran)
      rw [none_]
      cases h <;> rfl
    have atJoiner := State.raiseEv_helm (s.copyHelm h (otherHelm h)) s.now (.helmJoin h) h
    have atOther := State.raiseEv_helm (s.copyHelm h (otherHelm h)) s.now (.helmJoin h) o
    have joins : Svc.inService .joining = true := rfl
    rw [copied] at atJoiner
    rw [same] at atOther
    dsimp only at atJoiner
    rw [show (s.helm h).svc = .joining from joining, joins] at atJoiner
    rw [Svc.computes_inService other] at atOther
    rw [joined]
    refine ⟨(congrArg Helm.hs atJoiner :).trans ?_, (congrArg (·.hs.evs) atOther :), (congrArg (·.resync.handed) atJoiner :),
      (congrArg Helm.saved atJoiner :), (congrArg Helm.svc atJoiner :), ?_, ?_⟩
    · rfl
    · cases h <;> rfl
    · cases h <;> rfl
  · refine ⟨_, execHelmJoin_on live joining some_ chunks handed other late stroke, ?_⟩
    unfold State.joined
    extract_lets t u
    have ran : (u.helm h).passNo = some s.tb.crossing := by
      dsimp only [u]
      split
      · assumption
      · exact State.passage_passNo ..
    rw [State.raiseEv_helm]
    exact ran
  · rw [execHelmJoin_eq]
    refine if_neg ?_
    simp [show (s.helm h).resync.chunks ≠ 12 from chunks]

end Sys2Proof.Machine
end

section
/-! PROOFS. A helm's record port: what offering its records leaves (R27, R196). -/

namespace Sys2Proof.Machine

/-- A machine that differs in its helms, its engine and the test passages still to come to an outcome. -/
structure RecordSide (h : HelmId) (s t : State) : Prop where
  frame : t = { s with helmA := t.helmA, helmB := t.helmB, com := t.com, outcomes := t.outcomes }
  own : t.helm h = { s.helm h with recQ := (t.helm h).recQ, testRecs := (t.helm h).testRecs }
  other : t.helm (otherHelm h) = s.helm (otherHelm h)

theorem RecordSide.trans {h : HelmId} {s t u : State} (k : RecordSide h s t) (l : RecordSide h t u) : RecordSide h s u where
  frame := by rw [l.frame, k.frame]
  own := by rw [l.own, k.own]
  other := l.other.trans k.other

theorem RecordSide.tb {h : HelmId} {s t : State} (k : RecordSide h s t) : t.tb = s.tb := by rw [k.frame]

/-- Test passages that have come to a verdict, and are otherwise the same. -/
def Judged (l m : List TestRun) : Prop := ∃ f : TestRun → TestRun, (∀ q, (f q).key = q.key ∧ ∀ g, (f q).names g = q.names g) ∧ m = l.map f

theorem Judged.refl (l : List TestRun) : Judged l l := ⟨id, fun _ => ⟨rfl, fun _ => rfl⟩, (List.map_id l).symm⟩

theorem Judged.trans {l m n : List TestRun} (h : Judged l m) (k : Judged m n) : Judged l n := by
  obtain ⟨f, keeps, rfl⟩ := h
  obtain ⟨g, keeps', rfl⟩ := k
  exact ⟨g ∘ f, fun q => ⟨((keeps' _).1).trans (keeps q).1, fun h => ((keeps' _).2 h).trans ((keeps q).2 h)⟩, List.map_map⟩

theorem Judged.mem {l m : List TestRun} (h : Judged l m) : ∀ r ∈ m, ∃ q ∈ l, r.key = q.key ∧ ∀ g, r.names g = q.names g := by
  obtain ⟨f, keeps, rfl⟩ := h
  intro r mem
  obtain ⟨q, old, rfl⟩ := List.mem_map.1 mem
  exact ⟨q, old, keeps q⟩

/-- The test passages of which one has come to a verdict of a helm. -/
def verdictOf (h : HelmId) (l : List TestRun) (k : TestKey) (v : TestVerdict) : List TestRun := l.map (fun r => if r.key = k then r.reached h v else r)

theorem Judged.verdictOf (h : HelmId) (l : List TestRun) (k : TestKey) (v : TestVerdict) : Judged l (verdictOf h l k v) := by
  refine ⟨_, fun q => ?_, rfl⟩
  split
  · cases h <;> exact ⟨rfl, fun g => by cases g <;> rfl⟩
  · exact ⟨rfl, fun _ => rfl⟩

/-- No test window of a helm begins or ends with a verdict (R195). -/
theorem Judged.any {l m : List TestRun} (h : Judged l m) (p : TestRun → Bool)
    (same : ∀ r q : TestRun, r.key = q.key → (∀ g, r.names g = q.names g) → p r = p q) : m.any p = l.any p := by
  obtain ⟨f, keeps, rfl⟩ := h
  rw [List.any_map]
  exact congrArg (List.any l) (funext fun q => same _ _ (keeps q).1 (keeps q).2)

theorem Judged.testWindow {s t : State} {h : HelmId} (judged : Judged s.outcomes t.outcomes) (now : t.tb = s.tb) : t.testWindow h = s.testWindow h := by
  unfold State.testWindow State.now
  rw [now]
  dsimp only
  rw [judged.any]
  intro r q key names
  rw [key, names]

/-- What the records of a helm say of its test passages. -/
theorem State.results_spec (h : HelmId) : ∀ (l : List Rec) (s : State), RecordSide h s (s.results h l) ∧ Judged s.outcomes (s.results h l).outcomes
    ∧ (s.results h l).com = s.com ∧ ((s.results h l).helm h).recQ = (s.helm h).recQ
  | [], s => ⟨⟨rfl, rfl, rfl⟩, .refl _, rfl, rfl⟩
  | r :: l, s => by
    unfold State.results
    split
    · next k ks _ =>
      split
      · exact State.results_spec h l s
      · let v : TestVerdict := if fld r.d0 3 0 = 1 then .pass else .fail
        let u : State := { s with outcomes := verdictOf h s.outcomes k v }.modHelm h (fun x => { x with testRecs := ks })
        obtain ⟨⟨frame, own, other⟩, judged, com, recQ⟩ := State.results_spec h l u
        have own' : u.helm h = { s.helm h with testRecs := ks } := by cases h <;> rfl
        have other' : u.helm (otherHelm h) = s.helm (otherHelm h) := by cases h <;> rfl
        have outcomes : u.outcomes = verdictOf h s.outcomes k v := by cases h <;> rfl
        refine ⟨⟨?_, ?_, other.trans other'⟩, ((Judged.verdictOf h s.outcomes k v).trans (outcomes ▸ judged) :), ?_, ?_⟩
        · refine frame.trans ?_
          cases h <;> rfl
        · refine own.trans ?_
          rw [own']
          rfl
        · exact com.trans (by cases h <;> rfl)
        · exact recQ.trans (congrArg Helm.recQ own' :)
    · exact ⟨⟨rfl, rfl, rfl⟩, .refl _, rfl, rfl⟩

/-- How many records a helm's record slip takes; none in hold-up (R27, R446). -/
def State.recRoom (s : State) (h : HelmId) : Nat := if s.com.holdUp = true then 0 else 8 - (s.com.slip h).length

theorem Commit.enter_slip (c : Commit) (h : HelmId) (l : List Rec) : (c.enter h l).slip h = c.slip h ++ l
    ∧ (c.enter h l).slip (otherHelm h) = c.slip (otherHelm h) ∧ (c.enter h l).slipQ = c.slipQ := by
  cases h <;> exact ⟨rfl, rfl, rfl⟩

/-- The machine once a helm's record slip has taken n records, before what they say of test passages is noted. -/
def State.recsTaken (s : State) (h : HelmId) (n : Nat) : State :=
  { s with com := s.com.enter h ((s.helm h).recQ.take n) }.modHelm h (fun x => { x with recQ := (s.helm h).recQ.drop n })

theorem State.offerRecords_eq (s : State) (h : HelmId) : s.offerRecords h = if s.com.holdUp = true then s
    else (s.recsTaken h (8 - (s.com.slip h).length)).results h ((s.helm h).recQ.take (8 - (s.com.slip h).length)) := rfl

theorem State.recsTaken_spec (s : State) (h : HelmId) (n : Nat) : let u := s.recsTaken h n
    RecordSide h s u ∧ u.com = s.com.enter h ((s.helm h).recQ.take n) ∧ (u.helm h).recQ = (s.helm h).recQ.drop n ∧ u.outcomes = s.outcomes := by
  cases h <;> exact ⟨⟨rfl, rfl, rfl⟩, rfl, rfl, rfl⟩

/-- A helm that offers its records (R27). -/
theorem State.offerRecords_spec (s : State) (h : HelmId) : let t := s.offerRecords h
    RecordSide h s t ∧ Judged s.outcomes t.outcomes ∧ t.com = s.com.enter h ((s.helm h).recQ.take (s.recRoom h))
      ∧ (t.helm h).recQ = (s.helm h).recQ.drop (s.recRoom h) := by
  rw [State.offerRecords_eq, State.recRoom]
  cases up : s.com.holdUp
  · rw [if_neg (by decide), if_neg (by decide)]
    obtain ⟨taken, com', recQ', outcomes⟩ := s.recsTaken_spec h (8 - (s.com.slip h).length)
    obtain ⟨side, judged, com, recQ⟩ := State.results_spec h ((s.helm h).recQ.take (8 - (s.com.slip h).length))
      (s.recsTaken h (8 - (s.com.slip h).length))
    exact ⟨taken.trans side, outcomes ▸ judged, com.trans com', recQ.trans recQ'⟩
  · rw [if_pos rfl, if_pos rfl, List.take_zero, List.drop_zero]
    refine ⟨⟨rfl, rfl, rfl⟩, .refl _, ?_, rfl⟩
    cases h <;> simp [Commit.enter]

/-- A record that a helm queues and offers: it stands last of what slip and queue then hold. -/
theorem State.offers_of_queued {s u : State} {h : HelmId} {r : Rec} (com : u.com = s.com)
    (queued : (s.helm h).recQ.length < 64 → (u.helm h).recQ = (s.helm h).recQ ++ [r]) : s.Offers (u.offerRecords h) h r := by
  intro room
  obtain ⟨-, -, com', recQ⟩ := u.offerRecords_spec h
  rw [com', recQ, (Commit.enter_slip ..).1, List.append_assoc, List.take_append_drop, queued room, com, List.append_assoc]

theorem State.helmRec_queued (s : State) (h : HelmId) (at_ : Stamp) (cls code : Nat) (d0 d1 d2 : Word) (room : (s.helm h).recQ.length < 64) :
    ((s.helmRec h at_ cls code d0 d1 d2).helm h).recQ = (s.helm h).recQ ++ [⟨at_, helmSource h, cls, code, d0, d1, d2⟩] := by
  rw [State.helmRec, State.modHelm_helm, if_pos room]

theorem State.helmRec_side (s : State) (h : HelmId) (at_ : Stamp) (cls code : Nat) (d0 d1 d2 : Word) :
    let u := s.helmRec h at_ cls code d0 d1 d2
    RecordSide h s u ∧ u.outcomes = s.outcomes ∧ u.com = s.com := by
  refine ⟨⟨by cases h <;> rfl, ?_, State.modHelm_helm_other ..⟩, by cases h <;> rfl, by cases h <;> rfl⟩
  unfold State.helmRec
  rw [State.modHelm_helm]
  split <;> rfl

/-- A helm's record about itself (R438). -/
theorem State.selfRec_spec (s : State) (h : HelmId) (cls code : Nat) (d0 d1 d2 : Word) : let t := s.selfRec h cls code d0 d1 d2
    RecordSide h s t ∧ Judged s.outcomes t.outcomes
      ∧ s.Offers t h ⟨s.now, helmSource h, cls, code, subj (helmSubj h) + d0, d1, d2⟩ := by
  obtain ⟨queues, outcomes, com⟩ := s.helmRec_side h s.now cls code (subj (helmSubj h) + d0) d1 d2
  obtain ⟨side, judged, -, -⟩ := (s.helmRec h s.now cls code (subj (helmSubj h) + d0) d1 d2).offerRecords_spec h
  exact ⟨queues.trans side, outcomes ▸ judged, State.offers_of_queued com (s.helmRec_queued h _ _ _ _ _ _)⟩

end Sys2Proof.Machine
end

section
/-! PROOFS. The parts of a stroke token: the slips that a helm empties and fills in its windows (R27, R51). -/

namespace Sys2Proof.Machine

/-! ### Frames that a helm holds -/

/-- A helm state that differs in the replies held and the ports heard. -/
def HelmState.HoldsOf (a b : HelmState) : Prop := b = { a with heldA := b.heldA, heldB := b.heldB, heard := b.heard }

theorem HelmState.HoldsOf.refl (a : HelmState) : a.HoldsOf a := rfl

theorem HelmState.HoldsOf.trans {a b c : HelmState} (h : a.HoldsOf b) (k : b.HoldsOf c) : a.HoldsOf c := by
  unfold HelmState.HoldsOf at *
  rw [k, h]

theorem HelmState.setHeld_holds (a : HelmState) (p : Port) (l : List HeldReply) : a.HoldsOf (a.setHeld p l) := by
  cases p <;> rfl

theorem HelmState.hold_holds (a : HelmState) (e : Entered) : a.HoldsOf (a.hold e) := by
  unfold HelmState.hold
  extract_lets hs
  have heard : a.HoldsOf hs := by
    unfold HelmState.HoldsOf hs HelmState.hear
    split <;> rfl
  clear_value hs
  split
  · exact heard
  · exact heard.trans (hs.setHeld_holds _ _)

theorem HelmState.foldl_hold : ∀ (l : List Entered) (a : HelmState), a.HoldsOf (l.foldl HelmState.hold a)
  | [], a => .refl a
  | e :: l, a => (a.hold_holds e).trans (HelmState.foldl_hold l _)

/-! ### The machine around the helms -/

/-- A machine that differs in its helms, the front ends of its ports, the engine, the test passages and what the general ports serve. -/
def TokenSide (s t : State) : Prop :=
  t = { s with helmA := t.helmA, helmB := t.helmB, hpa := t.hpa, hpb := t.hpb, com := t.com, outcomes := t.outcomes, genTurn := t.genTurn
               cus := t.cus, snooped := t.snooped }

theorem TokenSide.trans {s t u : State} (h : TokenSide s t) (k : TokenSide t u) : TokenSide s u := by
  unfold TokenSide at *
  rw [k, h]

theorem TokenSide.tb {s t : State} (h : TokenSide s t) : t.tb = s.tb := by rw [h]

theorem TokenSide.modHelm (s : State) (h : HelmId) (f : Helm → Helm) : TokenSide s (s.modHelm h f) := by
  cases h <;> rfl

theorem TokenSide.of_records {h : HelmId} {s t : State} (k : RecordSide h s t) : TokenSide s t := by
  unfold TokenSide
  rw [k.frame]

/-! ### Slips drained -/

theorem State.flushSlips_spec (s : State) (h : HelmId) : let t := s.flushSlips h
    t = { s with hpa := t.hpa, hpb := t.hpb } ∧ t.hpa.slip h = [] ∧ t.hpb.slip h = []
      ∧ t.hpa.slip (otherHelm h) = s.hpa.slip (otherHelm h) ∧ t.hpb.slip (otherHelm h) = s.hpb.slip (otherHelm h) := by
  cases h <;> exact ⟨rfl, rfl, rfl, rfl, rfl⟩

/-- What a helm holds once it has drained its command slips (R56). -/
theorem State.drainSlips_spec (s : State) (h : HelmId) : let t := s.drainSlips h
    TokenSide s t ∧ t.com = s.com ∧ t.outcomes = s.outcomes
      ∧ t.helm h = { s.helm h with hs := (t.helm h).hs } ∧ t.helm (otherHelm h) = s.helm (otherHelm h)
      ∧ ({ (s.helm h).hs with cmds := (s.helm h).hs.cmds ++ (s.hpa.slip h ++ s.hpb.slip h) } : HelmState).HoldsOf (t.helm h).hs
      ∧ t.hpa.slip h = [] ∧ t.hpb.slip h = []
      ∧ t.hpa.slip (otherHelm h) = s.hpa.slip (otherHelm h) ∧ t.hpb.slip (otherHelm h) = s.hpb.slip (otherHelm h) := by
  intro t
  have held : (t.helm h).hs = (s.hpa.slip h ++ s.hpb.slip h).foldl HelmState.hold
      { (s.helm h).hs with cmds := (s.helm h).hs.cmds ++ (s.hpa.slip h ++ s.hpb.slip h) } := by
    cases h <;> rfl
  refine ⟨?_, ?_, ?_, ?_, ?_, ?_, ?_⟩
  · cases h <;> rfl
  · cases h <;> rfl
  · cases h <;> rfl
  · cases h <;> rfl
  · cases h <;> rfl
  · rw [held]
    exact HelmState.foldl_hold _ _
  · cases h <;> exact ⟨rfl, rfl, rfl, rfl⟩

/-! ### The general ports -/

/-- A helm that differs in what it asks of the general ports. -/
def Helm.Asking (x y : Helm) : Prop := y = { x with links := { x.links with nvmSlip := y.links.nvmSlip, nvmWait := y.links.nvmWait } }

theorem Helm.Asking.refl (x : Helm) : x.Asking x := rfl

theorem Helm.Asking.trans {x y z : Helm} (h : x.Asking y) (k : y.Asking z) : x.Asking z := by
  unfold Helm.Asking at *
  rw [k, h]

theorem State.modHelm_asking {s : State} {h : HelmId} {f : Helm → Helm} (asks : ∀ x : Helm, x.Asking (f x)) (g : HelmId) :
    (s.helm g).Asking ((s.modHelm h f).helm g) := by
  by_cases own : g = h
  · rw [own, State.modHelm_helm]
    exact asks _
  · have other : g = otherHelm h := by
      revert own
      cases g <;> cases h <;> simp [otherHelm]
    rw [other, State.modHelm_helm_other]
    exact .refl _

theorem State.servePorts_asking (g : HelmId) : ∀ (n : Nat) (s : State), (s.helm g).Asking ((State.servePorts n s).helm g)
  | 0, _ => .refl _
  | n + 1, s => by
    unfold State.servePorts
    split
    · exact .refl _
    · next h r _ =>
      let f (x : Helm) : Helm := { x with links := { x.links with nvmSlip := x.links.nvmSlip.drop 1 }.askNvm }
      have served : (s.helm g).Asking ((s.modHelm h f).helm g) := State.modHelm_asking (f := f) (fun _ => rfl) g
      refine served.trans (Helm.Asking.trans ?_ (State.servePorts_asking g n _))
      cases g <;> exact .refl _

/-- Every read asked of the general ports is served; nothing else of the helms changes (R456). -/
theorem State.serveReads_spec (s : State) : let t := s.serveReads
    TokenSide s t ∧ t.com = s.com ∧ t.outcomes = s.outcomes ∧ t.hpa = s.hpa ∧ t.hpb = s.hpb ∧ (∀ g, (s.helm g).Asking (t.helm g))
      ∧ t.readsAsked = 0 := by
  intro t
  let ask (x : Helm) : Helm := { x with links := x.links.askNvm }
  let u : State := (s.modHelm .a ask).modHelm .b ask
  obtain ⟨v, e, frame⟩ := State.servePorts_frame s.readsAsked u
  have same : t = v := e
  have asked (g : HelmId) : (s.helm g).Asking (u.helm g) :=
    (State.modHelm_asking (f := ask) (fun _ => rfl) g).trans (State.modHelm_asking (f := ask) (fun _ => rfl) g)
  refine ⟨?_, ?_, ?_, ?_, ?_, fun g => (asked g).trans (State.servePorts_asking g _ u), s.serveReads_done⟩
  · rw [same, TokenSide, frame]
    rfl
  · rw [same, frame]
    rfl
  · rw [same, frame]
    rfl
  · rw [same, frame]
    rfl
  · rw [same, frame]
    rfl

/-! ### Replies -/

/-- A helm that differs in its replies, and in the frames that wait for its passages. -/
def Helm.Replying (x y : Helm) : Prop :=
  y = { x with hs := { x.hs with cmds := y.hs.cmds, heldA := y.hs.heldA, heldB := y.hs.heldB, heard := y.hs.heard }
               slipA := y.slipA, slipB := y.slipB, waitA := y.waitA, waitB := y.waitB }

theorem Helm.Replying.refl (x : Helm) : x.Replying x := rfl

theorem Helm.Replying.trans {x y z : Helm} (h : x.Replying y) (k : y.Replying z) : x.Replying z := by
  unfold Helm.Replying at *
  rw [k, h]

theorem Helm.setWaiting_replying (x : Helm) (p : Port) (l : List (Nat × Reply)) : x.Replying (x.setWaiting p l) := by cases p <;> rfl

theorem Helm.setSlip_replying (x : Helm) (p : Port) (l : List (Nat × Reply)) : x.Replying (x.setSlip p l) := by cases p <;> rfl

/-- A machine in which one helm has given replies. -/
structure Replies (h : HelmId) (s t : State) : Prop where
  frame : t = { s with helmA := t.helmA, helmB := t.helmB, hpa := t.hpa, hpb := t.hpb }
  own : (s.helm h).Replying (t.helm h)
  other : t.helm (otherHelm h) = s.helm (otherHelm h)
  portA : t.hpa.slip (otherHelm h) = s.hpa.slip (otherHelm h) ∧ (s.hpa.slip h = [] → t.hpa.slip h = [])
  portB : t.hpb.slip (otherHelm h) = s.hpb.slip (otherHelm h) ∧ (s.hpb.slip h = [] → t.hpb.slip h = [])

theorem Replies.refl (h : HelmId) (s : State) : Replies h s s := ⟨rfl, .refl _, rfl, ⟨rfl, id⟩, ⟨rfl, id⟩⟩

theorem Replies.trans {h : HelmId} {s t u : State} (k : Replies h s t) (l : Replies h t u) : Replies h s u where
  frame := by rw [l.frame, k.frame]
  own := k.own.trans l.own
  other := l.other.trans k.other
  portA := ⟨l.portA.1.trans k.portA.1, fun e => l.portA.2 (k.portA.2 e)⟩
  portB := ⟨l.portB.1.trans k.portB.1, fun e => l.portB.2 (k.portB.2 e)⟩

theorem Replies.modHelm {s : State} {h : HelmId} {f : Helm → Helm} (replies : ∀ x : Helm, x.Replying (f x)) : Replies h s (s.modHelm h f) := by
  refine ⟨by cases h <;> rfl, ?_, by simp, ?_, ?_⟩
  · rw [State.modHelm_helm]
    exact replies _
  · cases h <;> exact ⟨rfl, id⟩
  · cases h <;> exact ⟨rfl, id⟩

theorem Replies.modHs {s : State} {h : HelmId} {f : HelmState → HelmState} (holds : ∀ a : HelmState, a.HoldsOf (f a)) : Replies h s (s.modHs h f) := by
  refine Replies.modHelm fun x => ?_
  have frame := holds x.hs
  unfold HelmState.HoldsOf at frame
  unfold Helm.Replying
  dsimp only
  rw [frame]

theorem State.claim_replies (s : State) (h : HelmId) (p : Port) (id : Nat) : Replies h s (s.claim h p id) := by
  cases p
  · cases h <;> exact ⟨rfl, rfl, rfl, ⟨rfl, fun e => (congrArg (List.filter _) e).trans rfl⟩, ⟨rfl, fun e => e⟩⟩
  · cases h <;> exact ⟨rfl, rfl, rfl, ⟨rfl, fun e => e⟩, ⟨rfl, fun e => (congrArg (List.filter _) e).trans rfl⟩⟩

theorem State.deliver_replies (s : State) (h : HelmId) (tag : Tag) (id : Nat) (silent : Bool) (r : Reply) : Replies h s (s.deliver h tag id silent r) := by
  unfold State.deliver
  split
  · exact .refl h s
  · refine Replies.trans ?_ (Replies.modHelm fun x => x.setWaiting_replying _ _)
    split
    · exact Replies.modHs fun a => a.setHeld_holds _ _
    · exact .refl h s

theorem State.answerCollection_replies (s : State) (h : HelmId) (e : Entered) : Replies h s (s.answerCollection h e) :=
  ((s.claim_replies h _ _).trans (Replies.modHs fun a => a.hold_holds e)).trans (State.deliver_replies ..)

theorem State.foldl_answer_replies (h : HelmId) : ∀ (l : List Entered) (s : State), Replies h s (l.foldl (fun s e => s.answerCollection h e) s)
  | [], s => .refl h s
  | e :: l, s => (s.answerCollection_replies h e).trans (State.foldl_answer_replies h l _)

theorem State.background_replies (s : State) (h : HelmId) : Replies h s (s.background h) := by
  unfold State.background
  split
  · exact .refl h s
  · exact State.foldl_answer_replies h _ s

/-! ### Replies drained and offered -/

/-- A helm after the replies that no one waits for are drained from its reply slips (R29). -/
def Helm.drained (x : Helm) (a b : List Nat) : Helm :=
  { x with slipA := x.slipA.filter (fun e => a.contains e.1), slipB := x.slipB.filter (fun e => b.contains e.1) }

theorem Helm.drained_replying (x : Helm) (a b : List Nat) : x.Replying (x.drained a b) := rfl

theorem Helm.offerReplies_replying (x : Helm) (p : Port) : x.Replying (x.offerReplies p) :=
  (x.setSlip_replying p _).trans (Helm.setWaiting_replying _ p _)

theorem State.drainReplies_helm (s : State) (h : HelmId) :
    ((s.drainReplies .hpa).drainReplies .hpb).helm h = (s.helm h).drained s.hpa.wants s.hpb.wants := by
  cases h <;> rfl

theorem Helm.offerReplies_hs (x : Helm) (p : Port) : (x.offerReplies p).hs = x.hs := by cases p <;> rfl

theorem Helm.offerReplies_other {x : Helm} {p q : Port} (other : q ≠ p) :
    (x.offerReplies p).waiting q = x.waiting q ∧ (x.offerReplies p).slip q = x.slip q := by
  cases p <;> cases q
  · contradiction
  · exact ⟨rfl, rfl⟩
  · exact ⟨rfl, rfl⟩
  · contradiction

/-- Replies are left to wait only where the slip is full. -/
theorem Helm.offerReplies_own (x : Helm) (p : Port) (waits : (x.offerReplies p).waiting p ≠ []) : 2 ≤ ((x.offerReplies p).slip p).length := by
  have wait : (x.offerReplies p).waiting p = (x.waiting p).drop (2 - (x.slip p).length) := by cases p <;> rfl
  have slip : (x.offerReplies p).slip p = x.slip p ++ (x.waiting p).take (2 - (x.slip p).length) := by cases p <;> rfl
  rw [wait] at waits
  have more : 2 - (x.slip p).length < (x.waiting p).length := Nat.lt_of_not_le fun le => waits (List.drop_eq_nil_of_le le)
  rw [slip, List.length_append, List.length_take]
  omega

theorem Helm.offerReplies_room (x : Helm) : let y := (x.offerReplies .hpa).offerReplies .hpb
    x.Replying y ∧ y.hs = x.hs ∧ ∀ p, y.waiting p ≠ [] → 2 ≤ (y.slip p).length := by
  refine ⟨(x.offerReplies_replying .hpa).trans (Helm.offerReplies_replying _ .hpb), ?_, fun p waits => ?_⟩
  · rw [Helm.offerReplies_hs, Helm.offerReplies_hs]
  · cases p
    · obtain ⟨wait, slip⟩ := Helm.offerReplies_other (x := x.offerReplies .hpa) (p := .hpb) (q := .hpa) (by decide)
      rw [slip]
      exact x.offerReplies_own .hpa (wait ▸ waits)
    · exact Helm.offerReplies_own _ .hpb waits

theorem State.modHelm_frame (s : State) (h : HelmId) (f : Helm → Helm) :
    s.modHelm h f = { s with helmA := (s.modHelm h f).helmA, helmB := (s.modHelm h f).helmB } := by
  cases h <;> rfl

/-- The reply work of a helm in its background window (R27, R29, R51). -/
theorem State.replyTime_spec (s : State) (h : HelmId) : let t := s.replyTime h
    t = { s with helmA := t.helmA, helmB := t.helmB, hpa := t.hpa, hpb := t.hpb } ∧ (s.helm h).Replying (t.helm h)
      ∧ (s.helm (otherHelm h)).Replying (t.helm (otherHelm h)) ∧ (t.helm (otherHelm h)).hs = (s.helm (otherHelm h)).hs
      ∧ (t.hpa.slip (otherHelm h) = s.hpa.slip (otherHelm h) ∧ (s.hpa.slip h = [] → t.hpa.slip h = []))
      ∧ (t.hpb.slip (otherHelm h) = s.hpb.slip (otherHelm h) ∧ (s.hpb.slip h = [] → t.hpb.slip h = []))
      ∧ (s.testWindow h = true → t = s)
      ∧ (s.testWindow h = false → ∀ p, (t.helm h).waiting p ≠ [] → 2 ≤ ((t.helm h).slip p).length)
      ∧ ((s.helm h).svc.computes = false → (t.helm h).hs = (s.helm h).hs ∧ t.hpa = s.hpa ∧ t.hpb = s.hpb) := by
  intro t
  by_cases window : s.testWindow h = true
  · have same : t = s := if_pos window
    rw [same]
    exact ⟨rfl, .refl _, .refl _, rfl, ⟨rfl, id⟩, ⟨rfl, id⟩, fun _ => rfl, fun off => absurd window (ne_true_of_eq_false off),
      fun _ => ⟨rfl, rfl, rfl⟩⟩
  · let u := if (s.helm h).svc.computes = true then s.background h else s
    have replies : Replies h s u := by
      dsimp only [u]
      split
      · exact s.background_replies h
      · exact .refl h s
    have idle (off : (s.helm h).svc.computes = false) : u = s := if_neg (ne_true_of_eq_false off)
    have at_ : t = ((u.drainReplies .hpa).drainReplies .hpb).modHelm h (fun x => (x.offerReplies .hpa).offerReplies .hpb) := if_neg window
    clear_value u t
    have own : t.helm h = (((u.helm h).drained u.hpa.wants u.hpb.wants).offerReplies .hpa).offerReplies .hpb := by
      rw [at_, State.modHelm_helm, State.drainReplies_helm]
    have other : t.helm (otherHelm h) = (s.helm (otherHelm h)).drained u.hpa.wants u.hpb.wants := by
      rw [at_, State.modHelm_helm_other, State.drainReplies_helm, replies.other]
    have ports : t.hpa = u.hpa ∧ t.hpb = u.hpb := by
      rw [at_]
      exact ⟨State.modHelm_hpa .., State.modHelm_hpb ..⟩
    have frame : t = { u with helmA := t.helmA, helmB := t.helmB } := by
      rw [at_]
      exact State.modHelm_frame ((u.drainReplies .hpa).drainReplies .hpb) h _
    obtain ⟨offers, hs, room⟩ := Helm.offerReplies_room ((u.helm h).drained u.hpa.wants u.hpb.wants)
    rw [← own] at offers hs room
    have drains := (u.helm h).drained_replying u.hpa.wants u.hpb.wants
    have drains' := (s.helm (otherHelm h)).drained_replying u.hpa.wants u.hpb.wants
    rw [← other] at drains'
    refine ⟨?_, replies.own.trans (drains.trans offers), drains', (congrArg Helm.hs other :), ?_, ?_, fun on => absurd on window, fun _ => room,
      fun off => ⟨?_, ?_, ?_⟩⟩
    · rw [frame, replies.frame]
    · rw [ports.1]
      exact replies.portA
    · rw [ports.2]
      exact replies.portB
    · rw [hs, idle off]
      rfl
    · rw [ports.1, idle off]
    · rw [ports.2, idle off]

/-! ### The painter -/

theorem Links.foldl_hear (l : List PainterWord) : ∀ x : Links, l.foldl Links.hear x = { x with
    peerSig := (l.foldl Links.hear x).peerSig, peerHealth := (l.foldl Links.hear x).peerHealth } := by
  induction l with
  | nil => exact fun _ => rfl
  | cons w l ih =>
    intro x
    have step : x.hear w = { x with peerSig := (x.hear w).peerSig, peerHealth := (x.hear w).peerHealth } := by
      unfold Links.hear
      split <;> rfl
    rw [List.foldl_cons, ih, step]

theorem Links.fill_full (l : Links) (waits : l.fill.painterWait ≠ []) : 32 ≤ l.fill.painterSlip.length := by
  have more : 32 - l.painterSlip.length < l.painterWait.length := Nat.lt_of_not_le fun le => waits (List.drop_eq_nil_of_le le)
  show 32 ≤ (l.painterSlip ++ l.painterWait.take (32 - l.painterSlip.length)).length
  rw [List.length_append, List.length_take]
  omega

/-- The painter port of a helm in its background window (R27, R32, R46). -/
theorem State.painterTime_spec (s : State) (h : HelmId) : let t := s.painterTime h
    let o := otherHelm h
    t = { s with helmA := t.helmA, helmB := t.helmB }
      ∧ (∀ g, t.helm g = { s.helm g with links := { (s.helm g).links with
          painterSlip := (t.helm g).links.painterSlip, painterWait := (t.helm g).links.painterWait
          peerSig := (t.helm g).links.peerSig, peerHealth := (t.helm g).links.peerHealth } })
      ∧ ((s.helm h).svc.inService = true → (s.helm h).painterOk = true → (t.helm o).links.painterSlip = []
        ∧ (t.helm h).links.painterSlip ++ (t.helm h).links.painterWait = (s.helm h).links.painterSlip ++ (s.helm h).links.painterWait
        ∧ ((t.helm h).links.painterWait ≠ [] → 32 ≤ (t.helm h).links.painterSlip.length)
        ∧ ∀ w, (s.helm o).links.painterSlip = [⟨false, w⟩] → (t.helm h).links.peerHealth = w)
      ∧ ((s.helm h).svc.inService = false ∨ (s.helm h).painterOk = false → t = s) := by
  intro t o
  by_cases on : ((s.helm h).svc.inService && (s.helm h).painterOk) = true
  · let got := (s.helm o).links.painterSlip
    have at_ : t = (s.modHelm o (fun x => { x with links := { x.links with painterSlip := [] } })).modHelm h (fun x =>
        { x with links := (got.foldl Links.hear x.links).fill }) := if_neg (by simp [on])
    have own : t.helm h = { s.helm h with links := (got.foldl Links.hear (s.helm h).links).fill } := by
      rw [at_]
      cases h <;> rfl
    have other : t.helm o = { s.helm o with links := { (s.helm o).links with painterSlip := [] } } := by
      rw [at_]
      cases h <;> rfl
    have heard := Links.foldl_hear got (s.helm h).links
    obtain ⟨l, hl⟩ : ∃ l, got.foldl Links.hear (s.helm h).links = l := ⟨_, rfl⟩
    rw [hl] at heard own
    refine ⟨?_, fun g => ?_, fun _ _ => ⟨by rw [other], ?_, fun waits => ?_, fun w word => ?_⟩, fun off => ?_⟩
    · rw [at_]
      cases h <;> rfl
    · by_cases here : g = h
      · subst here
        rw [own, heard]
        rfl
      · have away : g = otherHelm h := by
          revert here
          cases g <;> cases h <;> simp [otherHelm]
        rw [show g = o from away, other]
    · rw [own]
      refine (Links.fill_order l).trans ?_
      rw [heard]
    · rw [own] at waits ⊢
      exact Links.fill_full l waits
    · rw [own]
      show l.peerHealth = w
      rw [← hl, show got = [⟨false, w⟩] from word]
      rfl
    · rcases off with h' | h' <;> simp [h'] at on
  · have same : t = s := if_pos (by rw [Bool.not_eq_true', Bool.eq_false_iff]; exact on)
    refine ⟨by rw [same], fun g => by rw [same], fun svc ok => absurd (by rw [svc, ok]; rfl) on, fun _ => same⟩

end Sys2Proof.Machine
end

section
/-! PROOFS. The stroke token as a whole (R27, R51, R184). -/

namespace Sys2Proof.Machine

/-- A helm that differs in what a stroke token moves: its queue of records, its links, the bulk words and the replies, and the frames that
wait for its passages. -/
def Helm.Worked (x y : Helm) : Prop :=
  y = { x with hs := { x.hs with cmds := y.hs.cmds, heldA := y.hs.heldA, heldB := y.hs.heldB, heard := y.hs.heard }
               recQ := y.recQ, testRecs := y.testRecs, links := y.links, bulk := y.bulk, bulkSlip := y.bulkSlip
               slipA := y.slipA, slipB := y.slipB, waitA := y.waitA, waitB := y.waitB }

theorem Helm.Worked.refl (x : Helm) : x.Worked x := rfl

theorem Helm.Worked.trans {x y z : Helm} (h : x.Worked y) (k : y.Worked z) : x.Worked z := by
  unfold Helm.Worked at *
  rw [k, h]

theorem Helm.Replying.worked {x y : Helm} (h : x.Replying y) : x.Worked y := by
  unfold Helm.Worked
  unfold Helm.Replying at h
  rw [h]

theorem Helm.Asking.worked {x y : Helm} (h : x.Asking y) : x.Worked y := by
  unfold Helm.Worked
  unfold Helm.Asking at h
  rw [h]

theorem Helm.Worked.svc {x y : Helm} (h : x.Worked y) : y.svc = x.svc := by rw [h]

theorem Helm.Worked.painterOk {x y : Helm} (h : x.Worked y) : y.painterOk = x.painterOk := by rw [h]

/-- What waits of a helm's links to the general ports and to the painter. -/
def Links.nvm (l : Links) : List NvmRead × List NvmRead := (l.nvmSlip, l.nvmWait)

theorem State.readsAsked_congr {s t : State} (same : ∀ g, (t.helm g).links.nvm = (s.helm g).links.nvm) : t.readsAsked = s.readsAsked := by
  have a := same .a
  have b := same .b
  simp only [Links.nvm, Prod.mk.injEq, State.helm] at a b
  rw [State.readsAsked, a.1, a.2, b.1, b.2]
  rfl

/-! ### The background window -/

/-- The work of a helm in its background window (R27, R51). -/
def State.tokenWindow (s : State) (h : HelmId) : State := ((s.modHelm h Helm.readout).replyTime h).painterTime h

/-- What the replies of a helm are after a stroke token. -/
def State.RepliesOf (s t : State) (h : HelmId) (background : Prop) : Prop :=
  (¬ background ∨ s.testWindow h = true → ∀ p, (t.helm h).waiting p = (s.helm h).waiting p ∧ (t.helm h).slip p = (s.helm h).slip p)
  ∧ (background → s.testWindow h = false → ∀ p, (t.helm h).waiting p ≠ [] → 2 ≤ ((t.helm h).slip p).length)

/-- What has crossed the painter. -/
def State.PainterOf (s t : State) (h : HelmId) (background : Prop) : Prop :=
  let o := otherHelm h
  let x := s.helm h
  (background → x.svc.inService = true → x.painterOk = true → (t.helm o).links.painterSlip = []
    ∧ (t.helm h).links.painterSlip ++ (t.helm h).links.painterWait = x.links.painterSlip ++ x.links.painterWait
    ∧ ((t.helm h).links.painterWait ≠ [] → 32 ≤ (t.helm h).links.painterSlip.length)
    ∧ (∀ w, (s.helm o).links.painterSlip = [⟨false, w⟩] → (t.helm h).links.peerHealth = w))
  ∧ (¬ background ∨ x.svc.inService = false ∨ x.painterOk = false →
    ∀ g, (t.helm g).links.painterSlip = (s.helm g).links.painterSlip ∧ (t.helm g).links.painterWait = (s.helm g).links.painterWait)

theorem helm_cases (h g : HelmId) : g = h ∨ g = otherHelm h := by
  cases g <;> cases h <;> simp [otherHelm]

theorem State.tokenWindow_spec (s : State) (h : HelmId) : let t := s.tokenWindow h
    let o := otherHelm h
    t = { s with helmA := t.helmA, helmB := t.helmB, hpa := t.hpa, hpb := t.hpb }
      ∧ (∀ g, (s.helm g).Worked (t.helm g) ∧ (t.helm g).links.nvm = (s.helm g).links.nvm ∧ (t.helm g).recQ = (s.helm g).recQ
        ∧ (t.helm g).testRecs = (s.helm g).testRecs)
      ∧ (t.helm o).hs = (s.helm o).hs ∧ (t.helm h).bulkSlip = Vector.replicate 4 []
      ∧ (t.hpa.slip o = s.hpa.slip o ∧ (s.hpa.slip h = [] → t.hpa.slip h = []))
      ∧ (t.hpb.slip o = s.hpb.slip o ∧ (s.hpb.slip h = [] → t.hpb.slip h = []))
      ∧ ((s.helm h).svc.computes = false → (t.helm h).hs = (s.helm h).hs ∧ t.hpa = s.hpa ∧ t.hpb = s.hpb)
      ∧ s.RepliesOf t h True ∧ s.PainterOf t h True := by
  intro t o
  let u := s.modHelm h Helm.readout
  have uOwn : u.helm h = (s.helm h).readout := State.modHelm_helm ..
  have uOther : u.helm o = s.helm o := State.modHelm_helm_other ..
  have uFrame : u = { s with helmA := u.helmA, helmB := u.helmB } := State.modHelm_frame ..
  have window : u.testWindow h = s.testWindow h := by rw [uFrame]; rfl
  obtain ⟨v, hv⟩ : ∃ v, u.replyTime h = v := ⟨_, rfl⟩
  obtain ⟨vFrame, vOwn, vOther, vHs, portA, portB, still, room, idle⟩ := u.replyTime_spec h
  rw [hv] at vFrame vOwn vOther vHs portA portB still room idle
  obtain ⟨tFrame, tHelm, on, off⟩ := v.painterTime_spec h
  rw [show v.painterTime h = t from congrArg (State.painterTime · h) hv.symm] at tFrame tHelm on off
  clear_value t u
  have worked : (s.helm h).Worked (u.helm h) := by rw [uOwn]; rfl
  have vo : v.helm o = { s.helm o with slipA := (v.helm o).slipA, slipB := (v.helm o).slipB, waitA := (v.helm o).waitA, waitB := (v.helm o).waitB } := by
    have e := vOther
    rw [uOther] at e
    have hs : (v.helm o).hs = (s.helm o).hs := vHs.trans (congrArg Helm.hs uOther)
    unfold Helm.Replying at e
    rw [hs] at e
    exact e
  have vh : (v.helm h).links = (s.helm h).links ∧ (v.helm h).recQ = (s.helm h).recQ ∧ (v.helm h).testRecs = (s.helm h).testRecs
      ∧ (v.helm h).bulkSlip = Vector.replicate 4 [] ∧ (v.helm h).svc = (s.helm h).svc ∧ (v.helm h).painterOk = (s.helm h).painterOk := by
    rw [vOwn, uOwn]
    exact ⟨rfl, rfl, rfl, rfl, rfl, rfl⟩
  obtain ⟨linksH, recH, testH, bulkH, svcH, painterH⟩ := vh
  have linksO : (v.helm o).links = (s.helm o).links := by rw [vo]
  have tWorked (g : HelmId) : (v.helm g).Worked (t.helm g) := by
    have e := tHelm g
    unfold Helm.Worked
    rw [e]
  refine ⟨?_, fun g => ?_, ?_, ?_, ?_, ?_, fun c => ?_, ⟨fun test p => ?_, fun _ free p waits => ?_⟩, ⟨fun _ svc ok => ?_, fun down g => ?_⟩⟩
  · rw [tFrame, vFrame, uFrame]
  · have e := tHelm g
    rcases helm_cases h g with rfl | rfl
    · refine ⟨(worked.trans vOwn.worked).trans (tWorked g), ?_, ?_, ?_⟩
      · rw [e, ← linksH]
        rfl
      · rw [e]
        exact recH
      · rw [e]
        exact testH
    · refine ⟨Helm.Worked.trans ?_ (tWorked _), ?_, ?_, ?_⟩
      · rw [← uOther]
        exact vOther.worked
      · rw [e]
        exact (congrArg Links.nvm linksO :)
      · rw [e, vo]
      · rw [e, vo]
  · rw [tHelm o, vo]
  · rw [tHelm h]
    exact bulkH
  · rw [tFrame]
    rw [uFrame] at portA
    exact portA
  · rw [tFrame]
    rw [uFrame] at portB
    exact portB
  · obtain ⟨hs, a, b⟩ := idle (by rw [uOwn]; exact c)
    rw [uFrame] at a b
    refine ⟨?_, ?_, ?_⟩
    · rw [tHelm h]
      exact hs.trans (congrArg Helm.hs uOwn :)
    · rw [tFrame]
      exact a
    · rw [tFrame]
      exact b
  · have same := still (window.trans (test.resolve_left fun h => h trivial))
    have at_ : v.helm h = (s.helm h).readout := by rw [same, uOwn]
    rw [tHelm h, at_]
    cases p <;> exact ⟨rfl, rfl⟩
  · have r := room (window.trans free) p
    rw [tHelm h] at waits ⊢
    cases p <;> exact r waits
  · have works := on (svcH ▸ svc) (painterH ▸ ok)
    rwa [linksH, linksO] at works
  · have same := off (by rw [svcH, painterH]; exact down.resolve_left fun h => h trivial)
    rw [same]
    rcases helm_cases h g with rfl | rfl
    · rw [linksH]
      exact ⟨rfl, rfl⟩
    · rw [show otherHelm h = o from rfl, linksO]
      exact ⟨rfl, rfl⟩

/-! ### The whole token -/

/-- The token taken from its slip. -/
def State.tokenTaken (s : State) (h : HelmId) (k : Stamp) (rest : List Stamp) : State :=
  s.modHelm h (fun x => { x with strokeSlip := rest, strokeReg := some k, tokenAt := k.crossing })

/-- What a helm does at every token: its records are offered, its command slips drained, and the reads asked of the general ports served. -/
def State.tokenSlips (s : State) (h : HelmId) : State :=
  (if (s.helm h).svc.inService = true then (s.offerRecords h).drainSlips h else s.offerRecords h).serveReads

/-- All that a helm does at a token that follows the last. -/
def State.tokenWork (s : State) (h : HelmId) (k : Stamp) : State := if k.background = true then (s.tokenSlips h).tokenWindow h else s.tokenSlips h

theorem State.tokenSlips_spec (s : State) (h : HelmId) : let t := s.tokenSlips h
    let o := otherHelm h
    let x := s.helm h
    TokenSide s t ∧ Judged s.outcomes t.outcomes ∧ t.outcomes = (s.offerRecords h).outcomes
      ∧ t.com = s.com.enter h (x.recQ.take (s.recRoom h)) ∧ t.readsAsked = 0
      ∧ (t.helm h).recQ = x.recQ.drop (s.recRoom h) ∧ (t.helm h).testRecs = ((s.offerRecords h).helm h).testRecs
      ∧ t.helm h = { x with hs := (t.helm h).hs, recQ := (t.helm h).recQ, testRecs := (t.helm h).testRecs, links := { x.links with
          nvmSlip := (t.helm h).links.nvmSlip, nvmWait := (t.helm h).links.nvmWait } }
      ∧ (s.helm o).Asking (t.helm o)
      ∧ (x.svc.inService = true → ({ x.hs with cmds := x.hs.cmds ++ (s.hpa.slip h ++ s.hpb.slip h) } : HelmState).HoldsOf (t.helm h).hs
          ∧ t.hpa.slip h = [] ∧ t.hpb.slip h = [] ∧ t.hpa.slip o = s.hpa.slip o ∧ t.hpb.slip o = s.hpb.slip o)
      ∧ (x.svc.inService = false → (t.helm h).hs = x.hs ∧ t.hpa = s.hpa ∧ t.hpb = s.hpb) := by
  intro t o x
  obtain ⟨side, judged, com, recQ⟩ := s.offerRecords_spec h
  obtain ⟨u, hu⟩ : ∃ u, s.offerRecords h = u := ⟨_, rfl⟩
  rw [hu] at side judged com recQ
  have hs : (u.helm h).hs = x.hs := by rw [side.own]
  have links : (u.helm h).links = x.links := by rw [side.own]
  have portA : u.hpa = s.hpa := by rw [side.frame]
  have portB : u.hpb = s.hpb := by rw [side.frame]
  by_cases on : x.svc.inService = true
  · have at_ : t = (u.drainSlips h).serveReads := by
      rw [← hu]
      exact congrArg State.serveReads (if_pos on)
    obtain ⟨drain, dCom, dOut, dOwn, dOther, holds, ownA, ownB, otherA, otherB⟩ := u.drainSlips_spec h
    obtain ⟨serve, vCom, vOut, vA, vB, asks, done⟩ := (u.drainSlips h).serveReads_spec
    rw [← at_] at serve vCom vOut vA vB asks done
    generalize u.drainSlips h = v at drain dCom dOut dOwn dOther holds ownA ownB otherA otherB serve vCom vOut vA vB asks
    clear_value t
    rw [hs, portA, portB] at holds
    rw [portA] at otherA
    rw [portB] at otherB
    have own := asks h
    have other := asks o
    have tHs : (t.helm h).hs = (v.helm h).hs := by rw [own]
    refine ⟨((TokenSide.of_records side).trans drain).trans serve, ?_, ?_, ?_, done, ?_, ?_, ?_, ?_, fun _ => ⟨?_, ?_, ?_, ?_, ?_⟩, fun off => ?_⟩
    · rwa [vOut, dOut]
    · rw [vOut, dOut, hu]
    · rw [vCom, dCom, com]
    · rw [own, dOwn]
      exact recQ
    · rw [own, dOwn, hu]
    · unfold Helm.Asking at own
      rw [tHs, own, dOwn]
      conv_lhs => rw [side.own]
    · rwa [dOther, side.other] at other
    · rwa [tHs]
    · rwa [vA]
    · rwa [vB]
    · rwa [vA]
    · rwa [vB]
    · rw [on] at off
      cases off
  · have at_ : t = u.serveReads := by
      rw [← hu]
      exact congrArg State.serveReads (if_neg on)
    obtain ⟨serve, vCom, vOut, vA, vB, asks, done⟩ := u.serveReads_spec
    rw [← at_] at serve vCom vOut vA vB asks done
    clear_value t
    have own := asks h
    have other := asks o
    have tHs : (t.helm h).hs = x.hs := by rw [own]; exact hs
    refine ⟨(TokenSide.of_records side).trans serve, ?_, ?_, ?_, done, ?_, ?_, ?_, ?_, fun on' => absurd on' on, fun _ => ⟨tHs, ?_, ?_⟩⟩
    · rwa [vOut]
    · rw [vOut, hu]
    · rw [vCom, com]
    · rw [own]
      exact recQ
    · rw [own, hu]
    · unfold Helm.Asking at own
      rw [tHs, own]
      conv_lhs => rw [side.own]
    · rwa [side.other] at other
    · rw [vA, portA]
    · rw [vB, portB]

end Sys2Proof.Machine
end

section
/-! PROOFS. Rows of stroke tokens and background steps (R27, R51, R184, R211). -/

namespace Sys2Proof.Machine

/-! ### Halts -/

/-- The service state of a helm and its stroke tokens. -/
def Helm.standing (x : Helm) : Svc × List Stamp := (x.svc, x.strokeSlip)

theorem State.abortResync_standing (s : State) (g h : HelmId) (n : Nat) : ((s.abortResync g n).helm h).standing = (s.helm h).standing := by
  unfold State.abortResync
  extract_lets x
  split
  · cases g <;> cases h <;> rfl
  · rfl

theorem State.quayRec_standing (s : State) (r : Rec) (h : HelmId) : ((s.quayRec r).helm h).standing = (s.helm h).standing := by
  rw [State.quayRec_frame]
  cases h <;> rfl

theorem State.haltShown_standing (s : State) (g : HelmId) (at_ : Stamp) (c : BitVec 4) (held : Bool) (h : HelmId) :
    ((s.haltShown g at_ c held).helm h).standing = (s.helm h).standing := by
  unfold State.haltShown
  extract_lets u
  rw [State.quayRec_standing]
  cases g <;> cases h <;> rfl

theorem State.foldl_haltShown_standing (view : Option HelmId) (h : HelmId) : ∀ (l : List (HelmId × Stamp × BitVec 4)) (s : State),
    ((l.foldl (fun s e => s.haltShown e.1 e.2.1 e.2.2 (decide (view = some e.1))) s).helm h).standing = (s.helm h).standing
  | [], _ => rfl
  | e :: l, s => (State.foldl_haltShown_standing view h l _).trans (s.haltShown_standing ..)

theorem State.ring_standing (s : State) (k : Nat) (h : HelmId) : ((s.ring k).helm h).standing = (s.helm h).standing := by
  rcases s.ring_cases k with ⟨-, e⟩ | ⟨-, e⟩ <;> rw [e] <;> cases h <;> rfl

/-- A helm that halts (R184). -/
theorem State.haltNow_helm (s : State) (h : HelmId) (c : BitVec 4) :
    ((s.haltNow h c).helm h).svc = .halted ∧ ((s.haltNow h c).helm h).strokeSlip = (s.helm h).strokeSlip := by
  suffices both : ((s.haltNow h c).helm h).standing = (.halted, (s.helm h).strokeSlip) by
    simpa [Helm.standing] using both
  unfold State.haltNow
  extract_lets was view left s1 s2 s3 s4 s5
  have h1 : (s1.helm h).standing = (.halted, (s.helm h).strokeSlip) := by
    cases h <;> rfl
  clear_value s1
  have h2 : (s2.helm h).standing = (s1.helm h).standing := by
    dsimp only [s2]
    split
    · cases h <;> rfl
    · rfl
  clear_value s2
  have h3 : (s3.helm h).standing = (s2.helm h).standing := s2.abortResync_standing ..
  clear_value s3
  have base := h3.trans (h2.trans h1)
  split
  · refine Eq.trans ?_ base
    rw [State.raiseEv_helm]
    rfl
  · rw [State.ring_standing, State.haltShown_standing, State.foldl_haltShown_standing]
    exact base

/-! ### The token's row -/

theorem State.tokenTaken_helm (s : State) (h : HelmId) (k : Stamp) (rest : List Stamp) : let t := s.tokenTaken h k rest
    t.helm h = { s.helm h with strokeSlip := rest, strokeReg := some k, tokenAt := k.crossing }
      ∧ t.helm (otherHelm h) = s.helm (otherHelm h) ∧ t = { s with helmA := t.helmA, helmB := t.helmB } :=
  ⟨State.modHelm_helm .., State.modHelm_helm_other .., State.modHelm_frame ..⟩

/-- Whether a token leaves a gap after the last one that a helm took (R184). -/
def Helm.gapAt (x : Helm) (k : Stamp) : Bool :=
  match x.strokeReg with
  | some u => decide (k ≠ u.nextStroke)
  | none => false

theorem Helm.gapAt_iff (x : Helm) (k : Stamp) : x.gapAt k = false ↔ ∀ u, x.strokeReg = some u → k = u.nextStroke := by
  unfold Helm.gapAt
  cases x.strokeReg <;> simp

theorem execStrokeToken_eq {s : State} {h : HelmId} {k : Stamp} {rest : List Stamp} (live : s.live = true) (halted : (s.helm h).svc ≠ .halted)
    (debug : (s.helm h).svc ≠ .debug) (slip : (s.helm h).strokeSlip = k :: rest) :
    exec (.strokeToken h) s = if (s.helm h).gapAt k = true then .next ((s.tokenTaken h k rest).haltNow h 6)
      else .next ((s.tokenTaken h k rest).tokenWork h k) := by
  show execStrokeToken h s = _
  obtain ⟨taken, -, -⟩ := s.tokenTaken_helm h k rest
  have svc : ((s.tokenTaken h k rest).helm h).svc = (s.helm h).svc := by rw [taken]
  unfold execStrokeToken State.tokenWork State.tokenSlips State.tokenWindow
  rw [svc]
  dsimp only
  split
  · next none_ => rw [slip] at none_; cases none_
  · next k' rest' some_ =>
    rw [slip] at some_
    cases some_
    rw [if_neg (by simp [live, halted, debug])]
    unfold Helm.gapAt
    cases (s.helm h).strokeReg <;> rfl

theorem execStrokeToken_on {s : State} {h : HelmId} {k : Stamp} {rest : List Stamp} (live : s.live = true) (halted : (s.helm h).svc ≠ .halted)
    (debug : (s.helm h).svc ≠ .debug) (slip : (s.helm h).strokeSlip = k :: rest) (follows : ∀ u, (s.helm h).strokeReg = some u → k = u.nextStroke) :
    exec (.strokeToken h) s = .next ((s.tokenTaken h k rest).tokenWork h k) :=
  (execStrokeToken_eq live halted debug slip).trans (if_neg (ne_true_of_eq_false (((s.helm h).gapAt_iff k).2 follows)))

/-- What a helm's token leaves of the machine, its engine and its links (R27). -/
structure State.TokenOf (s t : State) (h : HelmId) (k : Stamp) (rest : List Stamp) : Prop where
  strokeSlip : (t.helm h).strokeSlip = rest
  strokeReg : (t.helm h).strokeReg = some k
  tokenAt : (t.helm h).tokenAt = k.crossing
  svc : (t.helm h).svc = (s.helm h).svc
  otherSvc : (t.helm (otherHelm h)).svc = (s.helm (otherHelm h)).svc
  otherHs : t.hsOf (otherHelm h) = s.hsOf (otherHelm h)
  slip : t.com.slip h = s.com.slip h ++ (s.helm h).recQ.take (s.recRoom h)
  recQ : (t.helm h).recQ = (s.helm h).recQ.drop (s.recRoom h)
  otherSlip : t.com.slip (otherHelm h) = s.com.slip (otherHelm h)
  otherRecQ : (t.helm (otherHelm h)).recQ = (s.helm (otherHelm h)).recQ
  slipQ : t.com.slipQ = s.com.slipQ
  bulkSlip : (t.helm h).bulkSlip = if k.background = true then Vector.replicate 4 [] else (s.helm h).bulkSlip
  readsAsked : t.readsAsked = 0
  tb : t.tb = s.tb
  ponts : t.ponts = s.ponts
  nvmA : t.nvmA = s.nvmA
  nvmB : t.nvmB = s.nvmB

/-- What a token leaves of the frames that lead to a helm, and of its helm state. -/
structure State.DrainedBy (s t : State) (h : HelmId) (k : Stamp) : Prop where
  inService : (s.helm h).svc.inService = true → t.hpa.slip h = [] ∧ t.hpb.slip h = []
    ∧ t.hpa.slip (otherHelm h) = s.hpa.slip (otherHelm h) ∧ t.hpb.slip (otherHelm h) = s.hpb.slip (otherHelm h)
    ∧ (k.background = false ∨ (s.helm h).svc.computes = false → (t.hsOf h).cmds = (s.hsOf h).cmds ++ s.hpa.slip h ++ s.hpb.slip h)
    ∧ t.hsOf h = { s.hsOf h with cmds := (t.hsOf h).cmds, heldA := (t.hsOf h).heldA, heldB := (t.hsOf h).heldB, heard := (t.hsOf h).heard }
  outside : (s.helm h).svc.inService = false → t.hsOf h = s.hsOf h ∧ t.hpa = s.hpa ∧ t.hpb = s.hpb

/-- The background window of a token, if it falls into one. -/
theorem State.tokenWindow_if (v : State) (h : HelmId) (b : Bool) : let t := if b = true then v.tokenWindow h else v
    let o := otherHelm h
    t = { v with helmA := t.helmA, helmB := t.helmB, hpa := t.hpa, hpb := t.hpb }
      ∧ (∀ g, (v.helm g).Worked (t.helm g) ∧ (t.helm g).links.nvm = (v.helm g).links.nvm ∧ (t.helm g).recQ = (v.helm g).recQ
        ∧ (t.helm g).testRecs = (v.helm g).testRecs)
      ∧ (t.helm o).hs = (v.helm o).hs ∧ (t.helm h).bulkSlip = (if b = true then Vector.replicate 4 [] else (v.helm h).bulkSlip)
      ∧ (t.hpa.slip o = v.hpa.slip o ∧ (v.hpa.slip h = [] → t.hpa.slip h = []))
      ∧ (t.hpb.slip o = v.hpb.slip o ∧ (v.hpb.slip h = [] → t.hpb.slip h = []))
      ∧ ((v.helm h).svc.computes = false → (t.helm h).hs = (v.helm h).hs ∧ t.hpa = v.hpa ∧ t.hpb = v.hpb)
      ∧ v.RepliesOf t h (b = true) ∧ v.PainterOf t h (b = true) ∧ (b = false → (t.helm h).hs = (v.helm h).hs) := by
  cases b
  · rw [if_neg (by decide)]
    exact ⟨rfl, fun g => ⟨.refl _, rfl, rfl, rfl⟩, rfl, rfl, ⟨rfl, id⟩, ⟨rfl, id⟩, fun _ => ⟨rfl, rfl, rfl⟩, ⟨fun _ p => ⟨rfl, rfl⟩, nofun⟩,
      ⟨nofun, fun _ g => ⟨rfl, rfl⟩⟩, fun _ => rfl⟩
  · rw [if_pos rfl, if_pos rfl]
    obtain ⟨frame, worked, otherHs, bulk, portA, portB, idle, replies, painter⟩ := v.tokenWindow_spec h
    exact ⟨frame, worked, otherHs, bulk, portA, portB, idle, ⟨fun c => replies.1 (c.imp_left fun n => absurd rfl n), fun _ => replies.2 trivial⟩,
      ⟨fun _ => painter.1 trivial, fun c => painter.2 (c.imp_left fun n => absurd rfl n)⟩, nofun⟩

/-- All that a token that follows the last does. -/
theorem State.token_spec (s : State) (h : HelmId) (k : Stamp) (rest : List Stamp) : let t := (s.tokenTaken h k rest).tokenWork h k
    s.TokenOf t h k rest ∧ s.RepliesOf t h (k.background = true) ∧ s.PainterOf t h (k.background = true) ∧ s.DrainedBy t h k
      ∧ t.outcomes = ((s.tokenTaken h k rest).offerRecords h).outcomes
      ∧ (t.helm h).testRecs = (((s.tokenTaken h k rest).offerRecords h).helm h).testRecs := by
  intro t
  obtain ⟨own, other, frame⟩ := s.tokenTaken_helm h k rest
  obtain ⟨u, hu⟩ : ∃ u, s.tokenTaken h k rest = u := ⟨_, rfl⟩
  rw [hu] at own other frame
  rw [hu]
  obtain ⟨side, judged, outcomes, com, reads, recQ, testRecs, vOwn, vOther, inService, outside⟩ := u.tokenSlips_spec h
  obtain ⟨v, hv⟩ : ∃ v, u.tokenSlips h = v := ⟨_, rfl⟩
  rw [hv] at side judged outcomes com reads recQ testRecs vOwn vOther inService outside
  have room : u.recRoom h = s.recRoom h := by rw [frame]; rfl
  obtain ⟨tFrame, worked, otherHs, bulk, portA, portB, idle, replies, painter, still⟩ := v.tokenWindow_if h k.background
  have at_ : t = if k.background = true then v.tokenWindow h else v := by
    show (s.tokenTaken h k rest).tokenWork h k = _
    rw [hu, State.tokenWork, hv]
  rw [← at_] at tFrame worked otherHs bulk portA portB idle replies painter still
  clear_value t
  obtain ⟨ownWorked, ownNvm, ownRecQ, ownTest⟩ := worked h
  obtain ⟨otherWorked, -, otherRecQ, -⟩ := worked (otherHelm h)
  rw [other] at vOther
  have vTb : v.tb = s.tb := by rw [side.tb, frame]
  have vOutcomes : s.outcomes = u.outcomes := by rw [frame]
  have window : v.testWindow h = s.testWindow h := Judged.testWindow (vOutcomes ▸ judged) vTb
  have xRecQ : (u.helm h).recQ = (s.helm h).recQ := by rw [own]
  have xSvc : (u.helm h).svc = (s.helm h).svc := by rw [own]
  have vSvc : (v.helm h).svc = (s.helm h).svc := by rw [vOwn]; exact xSvc
  have uHs : (u.helm h).hs = (s.helm h).hs := by rw [own]
  have uCom : u.com = s.com := by rw [frame]
  have uPorts : u.hpa = s.hpa ∧ u.hpb = s.hpb := by rw [frame]; exact ⟨rfl, rfl⟩
  have tCom : t.com = s.com.enter h ((s.helm h).recQ.take (s.recRoom h)) := by rw [tFrame]; exact com.trans (by rw [uCom, xRecQ, room])
  rw [xRecQ, room] at recQ
  rw [uHs, uPorts.1, uPorts.2, xSvc] at inService outside
  unfold Helm.Worked at ownWorked
  unfold Helm.Asking at vOther
  unfold TokenSide at side
  have vReplies (p : Port) : (v.helm h).waiting p = (s.helm h).waiting p ∧ (v.helm h).slip p = (s.helm h).slip p := by
    rw [vOwn, own]
    cases p <;> exact ⟨rfl, rfl⟩
  have vLinks (g : HelmId) : (v.helm g).links.painterSlip = (s.helm g).links.painterSlip
      ∧ (v.helm g).links.painterWait = (s.helm g).links.painterWait := by
    rcases helm_cases h g with rfl | rfl
    · rw [vOwn, own]
      exact ⟨rfl, rfl⟩
    · rw [vOther]
      exact ⟨rfl, rfl⟩
  have vPainter : (v.helm h).painterOk = (s.helm h).painterOk := by rw [vOwn, own]
  refine ⟨⟨?_, ?_, ?_, ?_, ?_, ?_, ?_, ownRecQ.trans recQ, ?_, ?_, ?_, ?_, ?_, ?_, ?_, ?_, ?_⟩, ⟨fun c p => ?_, fun bg free p => ?_⟩,
    ⟨fun bg svc ok => ?_, fun c g => ?_⟩, ⟨fun on => ?_, fun off => ?_⟩, ?_, ?_⟩
  · rw [ownWorked, vOwn, own]
  · rw [ownWorked, vOwn, own]
  · rw [ownWorked, vOwn, own]
  · rw [ownWorked]
    exact vSvc
  · exact otherWorked.svc.trans (by rw [vOther])
  · exact otherHs.trans (congrArg Helm.hs vOther :)
  · rw [tCom, (Commit.enter_slip ..).1]
  · rw [tCom, (Commit.enter_slip ..).2.1]
  · exact otherRecQ.trans (by rw [vOther])
  · rw [tCom, (Commit.enter_slip ..).2.2]
  · rw [bulk, vOwn, own]
  · exact (State.readsAsked_congr fun g => (worked g).2.1).trans reads
  · rw [tFrame]
    exact vTb
  · rw [tFrame, side, frame]
  · rw [tFrame, side, frame]
  · rw [tFrame, side, frame]
  · obtain ⟨waits, slip⟩ := replies.1 (c.imp_right window.trans) p
    exact ⟨waits.trans (vReplies p).1, slip.trans (vReplies p).2⟩
  · exact replies.2 bg (window.trans free) p
  · have works := painter.1 bg (vSvc ▸ svc) (vPainter ▸ ok)
    rwa [(vLinks h).1, (vLinks h).2, (vLinks (otherHelm h)).1] at works
  · obtain ⟨slip, waits⟩ := painter.2 (c.imp_right fun c => c.imp (fun off => vSvc ▸ off) vPainter.trans) g
    exact ⟨slip.trans (vLinks g).1, waits.trans (vLinks g).2⟩
  · obtain ⟨holds, emptyA, emptyB, keptA, keptB⟩ := inService on
    unfold HelmState.HoldsOf at holds
    refine ⟨portA.2 emptyA, portB.2 emptyB, portA.1.trans keptA, portB.1.trans keptB, fun c => ?_, ?_⟩
    · have same : (t.helm h).hs = (v.helm h).hs := c.elim still fun c => (idle (vSvc ▸ c)).1
      show (t.helm h).hs.cmds = _
      rw [same, holds]
      exact (List.append_assoc ..).symm
    · have moved : (t.helm h).hs = { (v.helm h).hs with
          cmds := (t.helm h).hs.cmds, heldA := (t.helm h).hs.heldA, heldB := (t.helm h).hs.heldB, heard := (t.helm h).hs.heard } := (congrArg Helm.hs ownWorked :)
      rw [holds] at moved
      exact moved
  · obtain ⟨hs, a, b⟩ := outside off
    have computes : (v.helm h).svc.computes = false := by
      rw [vSvc]
      by_contra on
      exact absurd (Svc.computes_inService (Bool.eq_true_of_not_eq_false on)) (by rw [off]; decide)
    obtain ⟨same, a', b'⟩ := idle computes
    exact ⟨same.trans hs, a'.trans a, b'.trans b⟩
  · rw [tFrame]
    exact outcomes
  · exact ownTest.trans testRecs

/-! ### Background steps -/

theorem execBackgroundStep_off {s : State} {h : HelmId} (b : Bool)
    (off : s.testWindow h = true ∨ (32 ≤ s.tb.stroke ∧ s.tb.stroke < 208)) : exec (.backgroundStep h b) s = .next s := by
  refine if_pos ?_
  rcases off with test | ⟨low, high⟩
  · rw [test, Bool.or_true]
  · have bg : s.now.background = false := by
      rw [Bool.eq_false_iff, Ne, Stamp.background_iff]
      exact not_or.2 ⟨Nat.not_le.2 high, Nat.not_lt.2 low⟩
    rw [bg, Bool.and_false]
    rfl

/-- The machine in which a helm has moved on to its next background step (R211). -/
def State.stepped (s : State) (h : HelmId) : State :=
  s.modHelm h (fun x => { x with bgStep := stepAfter (s.lead h) ((s.helm h).stepNow (s.lead h)) })

section
variable {s : State} {h : HelmId}

theorem State.stepped_spec (s : State) (h : HelmId) : let u := s.stepped h
    u.helm h = { s.helm h with bgStep := stepAfter (s.lead h) ((s.helm h).stepNow (s.lead h)) } ∧ u.helm (otherHelm h) = s.helm (otherHelm h)
      ∧ u = { s with helmA := u.helmA, helmB := u.helmB } :=
  ⟨State.modHelm_helm .., State.modHelm_helm_other .., State.modHelm_frame ..⟩

variable (live : s.live = true) (computes : (s.helm h).svc.computes = true) (free : s.testWindow h = false)
  (window : 208 ≤ s.tb.stroke ∨ s.tb.stroke < 32)
include live computes free window

theorem backgroundStep_runs : ¬ (!(s.live && (s.helm h).svc.computes && s.now.background) || s.testWindow h) = true := by
  have bg : s.now.background = true := (Stamp.background_iff _).2 window
  rw [live, computes, bg, free]
  decide

theorem execBackgroundStep_good : exec (.backgroundStep h true) s
    = .next ((if (s.helm h).stepNow (s.lead h) = 6 then (s.stepped h).setPainter true else s.stepped h).modHelm h (fun x => { x with
        testOk := x.testOk || (s.helm h).stepNow (s.lead h) == 7
        memOk := x.memOk || (s.helm h).stepNow (s.lead h) == 7 })) :=
  (if_neg (backgroundStep_runs live computes free window)).trans (if_pos rfl)

theorem execBackgroundStep_four (four : (s.helm h).stepNow (s.lead h) = 4) : exec (.backgroundStep h false) s = .next ((s.stepped h).haltNow h 7) := by
  refine (if_neg (backgroundStep_runs live computes free window)).trans ((if_neg (by decide)).trans ?_)
  split
  · rfl
  all_goals simp_all

theorem execBackgroundStep_six (six : (s.helm h).stepNow (s.lead h) = 6) : exec (.backgroundStep h false) s
    = .next (((((s.stepped h).selfRec h clsFault 0x029 0 (wd ((s.helm h).stepNow (s.lead h))) 0).setPainter false).abortResync .a (s.stepped h).tb.crossing).abortResync .b
        (s.stepped h).tb.crossing) := by
  refine (if_neg (backgroundStep_runs live computes free window)).trans ((if_neg (by decide)).trans ?_)
  split
  · simp_all
  · rfl
  all_goals simp_all

theorem execBackgroundStep_other (four : (s.helm h).stepNow (s.lead h) ≠ 4) (six : (s.helm h).stepNow (s.lead h) ≠ 6)
    (seven : (s.helm h).stepNow (s.lead h) ≠ 7) : exec (.backgroundStep h false) s
      = .next (((s.stepped h).selfRec h clsFault 0x029 0 (wd ((s.helm h).stepNow (s.lead h))) 0).raiseEv
          (s.stepped h).now (.helmFence h 2 ((s.helm h).stepNow (s.lead h)))) := by
  refine (if_neg (backgroundStep_runs live computes free window)).trans ((if_neg (by decide)).trans ?_)
  split
  · simp_all
  · simp_all
  · simp_all
  · rfl

end

theorem Helm.stepNow_lead (x : Helm) : 2 ≤ x.stepNow true ∧ x.stepNow true ≤ 4 := by
  unfold Helm.stepNow
  split
  · exact ⟨le_rfl, by decide⟩
  · next within => simp at within; omega

theorem State.abortResync_spec (s : State) (g : HelmId) (n : Nat) : (s.abortResync g n).com = s.com
    ∧ ∀ q, ((s.abortResync g n).helm q) = { s.helm q with resync := ((s.abortResync g n).helm q).resync } := by
  unfold State.abortResync
  extract_lets x
  split
  · cases g <;> exact ⟨rfl, fun q => by cases q <;> rfl⟩
  · exact ⟨rfl, fun q => rfl⟩

/-- A record offered, read from a state with the same queue and slip. -/
theorem State.Offers.congr {s s' t t' : State} {h : HelmId} {r : Rec} (offers : s.Offers t h r) (com : s'.com = s.com)
    (recQ : (s'.helm h).recQ = (s.helm h).recQ) (com' : t'.com = t.com) (recQ' : (t'.helm h).recQ = (t.helm h).recQ) : s'.Offers t' h r := by
  unfold State.Offers at *
  rwa [com, recQ, com', recQ']

/-- A helm that records a failed step about itself. -/
theorem State.failedStep_spec (s : State) (h : HelmId) (d1 : Word) : let u := (s.stepped h).selfRec h clsFault 0x029 0 d1 0
    s.Offers u h ⟨s.now, helmSource h, clsFault, 0x029, subj (helmSubj h), d1, 0⟩
      ∧ (∀ g, (u.helm g).svc = (s.helm g).svc ∧ (u.helm g).hs = (s.helm g).hs) := by
  obtain ⟨own, other, frame⟩ := s.stepped_spec h
  obtain ⟨side, -, offers⟩ := (s.stepped h).selfRec_spec h clsFault 0x029 0 d1 0
  have now : (s.stepped h).now = s.now := by rw [frame]; rfl
  rw [now, show subj (helmSubj h) + 0 = subj (helmSubj h) from BitVec.add_zero _] at offers
  refine ⟨offers.congr (by rw [frame]) (by rw [own]) rfl rfl, fun g => ?_⟩
  rcases helm_cases h g with rfl | rfl
  · rw [side.own, own]
    exact ⟨rfl, rfl⟩
  · rw [side.other, other]
    exact ⟨rfl, rfl⟩

/-- Settles O37: the parts of a token each leave what `State.TokenOf` names, and a background step leaves its own helm alone but for its
record, its halt or the painter. -/
theorem strokeTokensAndBackground : Obligations.StrokeTokensAndBackground := by
  refine ⟨fun s h k rest => ?_, fun s h => ?_⟩
  · intro x o room taken replies painter live halted debug slip
    have done : let t := (s.tokenTaken h k rest).tokenWork h k
        taken t ∧ replies t ∧ painter t ∧ s.DrainedBy t h k := by
      obtain ⟨token, rep, paint, drained, -, -⟩ := s.token_spec h k rest
      refine ⟨⟨token.strokeSlip, token.strokeReg, token.tokenAt, token.svc, token.otherSvc, token.otherHs, token.slip, token.recQ, token.otherSlip,
        token.otherRecQ, token.slipQ, token.bulkSlip, token.readsAsked, token.tb, token.ponts, token.nvmA, token.nvmB⟩,
        ⟨fun c => rep.1 (c.imp_left ne_true_of_eq_false), rep.2⟩, ⟨paint.1, fun c => paint.2 (c.imp_left ne_true_of_eq_false)⟩, drained⟩
    obtain ⟨took, rep, paint, drained⟩ := done
    refine ⟨fun u reg gap => ?_, fun on follows => ⟨_, execStrokeToken_on live halted debug slip follows, took, rep, paint, drained.inService on⟩,
      fun off follows => ⟨_, execStrokeToken_on live halted debug slip follows, took, rep, paint, drained.outside off⟩⟩
    obtain ⟨svc, tokens⟩ := (s.tokenTaken h k rest).haltNow_helm h 6
    refine ⟨_, (execStrokeToken_eq live halted debug slip).trans (if_pos ?_), svc, tokens.trans ?_⟩
    · unfold Helm.gapAt
      rw [show (s.helm h).strokeReg = some u from reg]
      exact decide_eq_true gap
    · rw [(s.tokenTaken_helm h k rest).1]
  · intro x k
    refine ⟨fun off b => execBackgroundStep_off b off, fun live computes free window => ⟨?_, fun four => ?_, fun six => ?_, fun four six seven => ?_⟩⟩
    · refine ⟨_, execBackgroundStep_good live computes free window, fun other => ?_, ?_, fun six => ?_, ?_, ?_, fun lead => ?_⟩
      · rw [if_neg other]
        cases h <;> rfl
      · cases h <;> split <;> rfl
      · rw [if_pos six]
        cases h <;> rfl
      · cases h <;> split <;> rfl
      · cases h <;> split <;> rfl
      · have bounds := (s.helm h).stepNow_lead
        rwa [← lead] at bounds
    · exact ⟨_, execBackgroundStep_four live computes free window four, ((s.stepped h).haltNow_helm h 7).1⟩
    · obtain ⟨offers, helms⟩ := s.failedStep_spec h (wd ((s.helm h).stepNow (s.lead h)))
      obtain ⟨u, hu⟩ : ∃ u, (s.stepped h).selfRec h clsFault 0x029 0 (wd ((s.helm h).stepNow (s.lead h))) 0 = u := ⟨_, rfl⟩
      have row := execBackgroundStep_six live computes free window six
      rw [hu] at row offers helms
      obtain ⟨comA, helmA⟩ := (u.setPainter false).abortResync_spec .a (s.stepped h).tb.crossing
      obtain ⟨comB, helmB⟩ := ((u.setPainter false).abortResync .a (s.stepped h).tb.crossing).abortResync_spec .b (s.stepped h).tb.crossing
      have painter (g : HelmId) : (u.setPainter false).helm g = { u.helm g with painterOk := false } := by cases g <;> rfl
      refine ⟨_, row, fun g => ?_, ?_⟩
      · obtain ⟨svc, hs⟩ := helms g
        rw [helmB g, helmA g, painter g]
        exact ⟨rfl, hs, svc⟩
      · rw [show (s.helm h).stepNow (s.lead h) = 6 from six] at offers
        refine offers.congr rfl rfl (comB.trans comA) ?_
        rw [helmB h, helmA h, painter h]
    · obtain ⟨offers, helms⟩ := s.failedStep_spec h (wd ((s.helm h).stepNow (s.lead h)))
      have row := execBackgroundStep_other live computes free window four six seven
      obtain ⟨u, hu⟩ : ∃ u, (s.stepped h).selfRec h clsFault 0x029 0 (wd ((s.helm h).stepNow (s.lead h))) 0 = u := ⟨_, rfl⟩
      rw [hu] at row offers helms
      have now : (s.stepped h).now = s.now := by rw [(s.stepped_spec h).2.2]; rfl
      obtain ⟨svc, hs⟩ := helms h
      refine ⟨_, row, ?_, ?_, offers.congr rfl rfl rfl ?_⟩
      · rw [State.raiseEv_helm, svc, hs, Svc.computes_inService computes, now]
        rfl
      · rw [State.raiseEv_helm]
        exact svc
      · rw [State.raiseEv_helm]

end Sys2Proof.Machine
end

section
/-! PROOFS. Test passages and their outcome (R195 to R197), and the full self-test (R186, R212). -/

namespace Sys2Proof.Machine

/-! ### Test passages -/

/-- A helm with the signature of its oldest test passage (R195, R196). -/
def State.signed (s : State) (h : HelmId) (k : TestKey) (l : List TestKey) (sig : BitVec 48) : State :=
  s.modHelm h (fun x => { x with
      links := x.links.say true [wd (sig.toNat / 2 ^ 24), wd sig.toNat]
      tests := l, sig := sig, testOk := decide (sig = Config.goldenSig)
      testRecs := if x.recQ.length < 64 then x.testRecs ++ [k] else x.testRecs })

/-- The TEST_RESULT record of a signature. -/
def State.testRec (s : State) (h : HelmId) (sig : BitVec 48) : Rec :=
  ⟨s.now, helmSource h, clsInfo, 0x022, subj (helmSubj h) + (if sig = Config.goldenSig then 1 else 2), wd (sig.toNat / 2 ^ 24), wd sig.toNat⟩

theorem execTestPassage_on {s : State} {h : HelmId} {sig : BitVec 48} {k : TestKey} {l : List TestKey} (live : s.live = true)
    (computes : (s.helm h).svc.computes = true) (tests : (s.helm h).tests = k :: l) (window : 208 ≤ s.tb.stroke ∨ s.tb.stroke < 32) :
    exec (.testPassage h sig) s = .next ((s.signed h k l sig).selfRec h clsInfo 0x022 (if sig = Config.goldenSig then 1 else 2)
      (wd (sig.toNat / 2 ^ 24)) (wd sig.toNat)) := by
  have bg : s.now.background = true := (Stamp.background_iff _).2 window
  show execTestPassage h sig s = _
  unfold execTestPassage
  dsimp only
  split
  · next none_ => rw [tests] at none_; cases none_
  · next k' l' some_ =>
    rw [tests] at some_
    cases some_
    rw [if_neg (by rw [live, computes, bg]; decide)]
    simp only [decide_eq_true_eq]
    rfl

/-- A verdict as a record gives it. -/
def Rec.verdict (r : Rec) : TestVerdict := if fld r.d0 3 0 = 1 then .pass else .fail

theorem State.testRec_verdict (s : State) (h : HelmId) (sig : BitVec 48) :
    (s.testRec h sig).verdict = if sig = Config.goldenSig then .pass else .fail := by
  show (if fld (subj (helmSubj h) + (if sig = Config.goldenSig then 1 else 2)) 3 0 = 1 then TestVerdict.pass else .fail) = _
  cases h <;> split <;> rfl

/-- One TEST_RESULT record that enters the slip while one test passage waits for its verdict (R196). -/
theorem State.offerRecords_verdict {s : State} {h : HelmId} {r : Rec} {k : TestKey} (up : s.com.holdUp = false) (room : (s.com.slip h).length < 8)
    (recQ : (s.helm h).recQ = [r]) (testRecs : (s.helm h).testRecs = [k]) (code : r.code = 0x022) :
    (s.offerRecords h).outcomes = verdictOf h s.outcomes k r.verdict ∧ ((s.offerRecords h).helm h).testRecs = [] := by
  rw [State.offerRecords_eq, if_neg (by rw [up]; decide), recQ]
  obtain ⟨n, space⟩ : ∃ n, 8 - (s.com.slip h).length = n + 1 := ⟨7 - (s.com.slip h).length, by omega⟩
  obtain ⟨side, -, -, outcomes⟩ := s.recsTaken_spec h (n + 1)
  rw [space, List.take_succ_cons, List.take_nil]
  have waits : ((s.recsTaken h (n + 1)).helm h).testRecs = [k] := by
    have keeps : ((s.recsTaken h (n + 1)).helm h).testRecs = (s.helm h).testRecs := by cases h <;> rfl
    rw [keeps, testRecs]
  generalize s.recsTaken h (n + 1) = u at outcomes waits
  unfold State.results
  split
  · next k' ks e =>
    rw [waits] at e
    cases e
    rw [if_neg (by simp [code])]
    unfold State.results
    refine ⟨?_, ?_⟩
    · rw [← outcomes]
      cases h <;> rfl
    · rw [State.modHelm_helm]
  · next e => rw [waits] at e; cases e

/-- A record slip that takes nothing tells no verdict. -/
theorem State.offerRecords_full {s : State} {h : HelmId} (full : s.com.holdUp = true ∨ 8 ≤ (s.com.slip h).length) :
    (s.offerRecords h).outcomes = s.outcomes := by
  rw [State.offerRecords_eq]
  split
  · rfl
  · next up =>
    rw [Nat.sub_eq_zero_of_le (full.resolve_left up), List.take_zero]
    exact (s.recsTaken_spec h 0).2.2.2

/-- What a test passage leaves of its helm (R195, R196). -/
theorem testPassage_spec {s : State} {h : HelmId} {sig : BitVec 48} {k : TestKey} {l : List TestKey} :
    let t := (s.signed h k l sig).selfRec h clsInfo 0x022 (if sig = Config.goldenSig then 1 else 2) (wd (sig.toNat / 2 ^ 24)) (wd sig.toNat)
    (t.helm h).tests = l ∧ (t.helm h).sig = sig ∧ (t.helm h).hs = (s.helm h).hs ∧ ((t.helm h).testOk = true ↔ sig = Config.goldenSig)
      ∧ s.Offers t h (s.testRec h sig) ∧ Judged s.outcomes t.outcomes
      ∧ (s.com.holdUp = true ∨ 8 ≤ (s.com.slip h).length → t.outcomes = s.outcomes)
      ∧ (s.com.holdUp = false → (s.com.slip h).length < 8 → (s.helm h).recQ = [] → (s.helm h).testRecs = [] →
          t.outcomes = verdictOf h s.outcomes k (if sig = Config.goldenSig then .pass else .fail))
      ∧ t.helm (otherHelm h) = s.helm (otherHelm h) := by
  intro t
  let d0 : Word := if sig = Config.goldenSig then 1 else 2
  obtain ⟨u, hu⟩ : ∃ u, s.signed h k l sig = u := ⟨_, rfl⟩
  have own : u.helm h = { s.helm h with
      links := (s.helm h).links.say true [wd (sig.toNat / 2 ^ 24), wd sig.toNat]
      tests := l, sig := sig, testOk := decide (sig = Config.goldenSig)
      testRecs := if (s.helm h).recQ.length < 64 then (s.helm h).testRecs ++ [k] else (s.helm h).testRecs } := by
    rw [← hu]
    exact State.modHelm_helm ..
  have other : u.helm (otherHelm h) = s.helm (otherHelm h) := by
    rw [← hu]
    exact State.modHelm_helm_other ..
  have frame : u = { s with helmA := u.helmA, helmB := u.helmB } := by
    rw [← hu]
    cases h <;> rfl
  obtain ⟨side, judged, offers⟩ := u.selfRec_spec h clsInfo 0x022 d0 (wd (sig.toNat / 2 ^ 24)) (wd sig.toNat)
  have at_ : t = u.selfRec h clsInfo 0x022 d0 (wd (sig.toNat / 2 ^ 24)) (wd sig.toNat) := by rw [← hu]
  have now : u.now = s.now := by rw [frame]; rfl
  have outcomes : u.outcomes = s.outcomes := by rw [frame]
  have com : u.com = s.com := by rw [frame]
  rw [← at_] at side judged offers
  rw [now] at offers
  refine ⟨?_, ?_, ?_, ?_, offers.congr com.symm (by rw [own]) rfl rfl, outcomes ▸ judged, fun full => ?_, fun up room recQ testRecs => ?_, side.other.trans other⟩
  · rw [side.own, own]
  · rw [side.own, own]
  · rw [side.own, own]
  · rw [side.own, own]
    exact decide_eq_true_iff
  · obtain ⟨-, same, comV⟩ := u.helmRec_side h u.now clsInfo 0x022 (subj (helmSubj h) + d0) (wd (sig.toNat / 2 ^ 24)) (wd sig.toNat)
    rw [at_]
    refine (State.offerRecords_full ?_).trans (same.trans outcomes)
    rwa [comV, com]
  · obtain ⟨sideV, same, comV⟩ := u.helmRec_side h u.now clsInfo 0x022 (subj (helmSubj h) + d0) (wd (sig.toNat / 2 ^ 24)) (wd sig.toNat)
    have queued := u.helmRec_queued h u.now clsInfo 0x022 (subj (helmSubj h) + d0) (wd (sig.toNat / 2 ^ 24)) (wd sig.toNat)
      (by rw [own, recQ]; decide)
    have due : ((u.helmRec h u.now clsInfo 0x022 (subj (helmSubj h) + d0) (wd (sig.toNat / 2 ^ 24)) (wd sig.toNat)).helm h).testRecs = [k] := by
      have keeps : ((u.helmRec h u.now clsInfo 0x022 (subj (helmSubj h) + d0) (wd (sig.toNat / 2 ^ 24)) (wd sig.toNat)).helm h).testRecs
          = (u.helm h).testRecs := by
        rw [State.helmRec, State.modHelm_helm]
        split <;> rfl
      rw [keeps, own, recQ, testRecs]
      rfl
    rw [show (u.helm h).recQ = [] by rw [own]; exact recQ, List.nil_append, now] at queued
    rw [now] at due comV same
    obtain ⟨verdict, -⟩ := State.offerRecords_verdict (r := s.testRec h sig) (by rw [comV, com]; exact up) (by rw [comV, com]; exact room) queued due rfl
    rw [same, outcomes, s.testRec_verdict] at verdict
    rw [at_, State.selfRec, now]
    exact verdict

/-! ### Outcomes -/

theorem Stamp.lt_iff (a b : Stamp) : a.lt b = true ↔ a.crossing < b.crossing ∨ (a.crossing = b.crossing ∧ a.stroke < b.stroke) := by
  simp [Stamp.lt]

theorem execTestOutcome_none {s : State} (early : ∀ r ∈ s.outcomes, s.tb.crossing < r.key.1 ∨ (s.tb.crossing = r.key.1 ∧ s.tb.stroke < 64)) :
    exec .testOutcome s = .next s := by
  have none_ : s.outcomes.find? (fun t => !(s.now.lt ⟨t.key.1, 64⟩)) = none := by
    refine List.find?_eq_none.2 fun r mem => ?_
    rw [Bool.not_eq_true', Bool.not_eq_false]
    exact (Stamp.lt_iff ..).2 (early r mem)
  show execTestOutcome s = _
  unfold execTestOutcome
  rw [none_]

theorem execTestOutcome_first {s : State} {r : TestRun} {l : List TestRun} (first : s.outcomes = r :: l)
    (due : r.key.1 < s.tb.crossing ∨ (r.key.1 = s.tb.crossing ∧ 64 ≤ s.tb.stroke)) :
    exec .testOutcome s = .next ((s.dropTest r.key).raiseEv ⟨r.key.1, 64⟩ (.testOutcome (r.outcome .a) (r.outcome .b) r.key.2)) := by
  have some_ : s.outcomes.find? (fun t => !(s.now.lt ⟨t.key.1, 64⟩)) = some r := by
    rw [first, List.find?_cons_of_pos]
    rw [Bool.not_eq_true', Bool.eq_false_iff, Ne, Stamp.lt_iff]
    simp only [State.now]
    omega
  show execTestOutcome s = _
  unfold execTestOutcome
  rw [some_]

theorem TestRun.outcome_eq (r : TestRun) (h : HelmId) : r.outcome h = if r.names h = true then (match h with | .a => r.resA | .b => r.resB) else .pass := by
  unfold TestRun.outcome
  cases r.names h <;> rfl

/-! ### The full self-test -/

/-- The window once a full self-test is counted, unless a wake made a test passage stand in for it (R459). -/
def State.countTest (s : State) : State := if s.rst.cause = 7 && !s.rst.firstGiven then s else s.rcAdd 0x60B 6 1

/-- A helm as a passed full self-test leaves it (R186, R212). -/
def Helm.tested (x : Helm) : Helm :=
  { x with
    svc := .starting, testing := false, bistFail := false, bistTries := 0, silent := false
    lockOk := true, memOk := true, testOk := true, loaded := false, ready := false
    strokeReg := none, strokeSlip := [] }

/-- What both helms note of a helm that has passed (R186, R212). -/
def State.testNoted (s : State) (h : HelmId) : State :=
  (s.countTest.setDecided h .starting).modAllHs (fun hs =>
    { hs with red := { hs.red with doubleFail := hs.red.doubleFail.filter (fun d => d ≠ h) } })

/-- A helm that has passed its full self-test (R186, R212). -/
def State.testPassed (s : State) (h : HelmId) : State := ((s.testNoted h).setPainter true).modHelm h Helm.tested

theorem State.countTest_spec (s : State) : s.countTest = { s with win := s.countTest.win }
    ∧ s.countTest.win = if s.rst.cause = 7 ∧ s.rst.firstGiven = false then s.win else s.winWith 0x60B 6 := by
  unfold State.countTest
  by_cases stand : s.rst.cause = 7 ∧ s.rst.firstGiven = false
  · rw [if_pos (by simp [stand]), if_pos stand]
    exact ⟨rfl, rfl⟩
  · rw [if_neg (by simpa using stand), if_neg stand]
    exact ⟨s.rcAdd_frame .., s.rcAdd_winWith ..⟩

section
variable {s : State} {h : HelmId} (live : s.live = true) (testing : (s.helm h).testing = true) (off : (s.helm h).svc.inService = false)
  (debug : (s.helm h).svc ≠ .debug)
include live testing off debug

theorem execFullSelftestDone_pass : exec (.fullSelftestDone h true) s = .next (if (s.helm h).svc = .starting then s.testPassed h
    else ((s.testPassed h).selfRec h clsInfo 0x025 0 (wd (s.helm h).outCause.toNat) 0).ring bellHelm) :=
  (if_neg (by simp [live, testing, off, debug])).trans (if_pos rfl)

theorem execFullSelftestDone_fail : exec (.fullSelftestDone h false) s
    = .next ((s.countTest.selfRec h clsFault 0x02A 0 (wd (s.helm h).bistTries) 0).modHelm h (fun x => { x with testing := false, bistFail := true })) :=
  (if_neg (by simp [live, testing, off, debug])).trans (if_neg (by decide))

end

theorem State.modAllHs_helm (s : State) (f : HelmState → HelmState) (g : HelmId) :
    (s.modAllHs f).helm g = { s.helm g with hs := f (s.helm g).hs, saved := f (s.helm g).saved } := by
  cases g <;> rfl

theorem State.setPainter_helm (s : State) (ok : Bool) (g : HelmId) : (s.setPainter ok).helm g = { s.helm g with painterOk := ok } := by
  cases g <;> rfl

/-- What a pass leaves, before its record (R186, R212). -/
theorem State.testPassed_spec (s : State) (h : HelmId) : let t := s.testPassed h
    let x := s.helm h
    ((t.helm h).svc = .starting ∧ (t.helm h).testing = false ∧ (t.helm h).lockOk = true ∧ (t.helm h).memOk = true ∧ (t.helm h).testOk = true
      ∧ (t.helm h).loaded = false ∧ (t.helm h).bistFail = false ∧ (t.helm h).recQ = x.recQ) ∧ (∀ g, (t.helm g).painterOk = true)
      ∧ (t.hsOf h).red.svc h = .starting ∧ (t.helm (otherHelm h)).svc = (s.helm (otherHelm h)).svc
      ∧ (∀ g, h ∉ (t.hsOf g).red.doubleFail) ∧ t = { s with helmA := t.helmA, helmB := t.helmB, win := s.countTest.win } := by
  obtain ⟨frame, -⟩ := s.countTest_spec
  generalize s.countTest.win = w at frame
  intro t x
  obtain ⟨u, hu⟩ : ∃ u, s.testNoted h = u := ⟨_, rfl⟩
  have svc (g : HelmId) : (u.helm g).svc = (s.helm g).svc := by
    rw [← hu, State.testNoted, State.modAllHs_helm, State.setDecided, State.modAllHs_helm, frame]
    cases g <;> rfl
  have recQ : (u.helm h).recQ = x.recQ := by
    rw [← hu, State.testNoted, State.modAllHs_helm, State.setDecided, State.modAllHs_helm, frame]
    cases h <;> rfl
  have decided : (u.helm h).hs.red.svc h = .starting := by
    rw [← hu, State.testNoted, State.modAllHs_helm, State.setDecided, State.modAllHs_helm]
    cases h <;> rfl
  have filtered (g : HelmId) : h ∉ (u.helm g).hs.red.doubleFail := by
    rw [← hu, State.testNoted, State.modAllHs_helm]
    simp
  have uFrame : u = { s with helmA := u.helmA, helmB := u.helmB, win := w } := by
    rw [← hu, State.testNoted, frame]
    rfl
  have at_ : t = (u.setPainter true).modHelm h Helm.tested := congrArg (fun v : State => (v.setPainter true).modHelm h Helm.tested) hu
  have own : t.helm h = { u.helm h with painterOk := true }.tested := by
    rw [at_, State.modHelm_helm, State.setPainter_helm]
  have other : t.helm (otherHelm h) = { u.helm (otherHelm h) with painterOk := true } := by
    rw [at_, State.modHelm_helm_other, State.setPainter_helm]
  have tFrame : t = { u with helmA := t.helmA, helmB := t.helmB } := by
    rw [at_]
    exact (u.setPainter true).modHelm_frame h _
  clear_value t
  refine ⟨?_, fun g => ?_, ?_, ?_, fun g => ?_, ?_⟩
  · rw [own]
    exact ⟨rfl, rfl, rfl, rfl, rfl, rfl, rfl, recQ⟩
  · obtain rfl | rfl := helm_cases h g
    · rw [own]
      rfl
    · rw [other]
  · rw [State.hsOf, own]
    exact decided
  · rw [other]
    exact svc _
  · rw [State.hsOf]
    obtain rfl | rfl := helm_cases h g
    · rw [own]
      exact filtered _
    · rw [other]
      exact filtered _
  · rw [tFrame, uFrame]

theorem State.landingsRun_computes {s t : State} (tb : t.tb = s.tb) (rst : t.rst = s.rst)
    (same : ∀ g, (t.helm g).svc.computes = (s.helm g).svc.computes) : t.landingsRun = s.landingsRun := by
  have a : t.helmA.svc.computes = s.helmA.svc.computes := same .a
  have b : t.helmB.svc.computes = s.helmB.svc.computes := same .b
  unfold State.landingsRun
  rw [tb, rst, a, b]

/-- A pass of a helm that comes from FENCED or HALTED: its HELM_JOIN record and the bell (R212, R219). -/
theorem State.testPassed_told (s : State) (h : HelmId) (off : (s.helm h).svc.inService = false) (d1 : Word) :
    let v := (s.testPassed h).selfRec h clsInfo 0x025 0 d1 0
    RecordSide h (s.testPassed h) v ∧ Rung s (v.ring bellHelm) bellHelm
      ∧ s.Offers v h ⟨s.now, helmSource h, clsInfo, 0x025, subj (helmSubj h), d1, 0⟩ := by
  obtain ⟨⟨svc, -, -, -, -, -, -, recQ⟩, -, -, other, -, frame⟩ := s.testPassed_spec h
  intro v
  obtain ⟨u, hu⟩ : ∃ u, s.testPassed h = u := ⟨_, rfl⟩
  rw [hu] at svc recQ other frame
  obtain ⟨side, -, offers⟩ := u.selfRec_spec h clsInfo 0x025 0 d1 0
  have at_ : v = u.selfRec h clsInfo 0x025 0 d1 0 := by rw [← hu]
  rw [← at_] at side offers
  clear_value v
  rw [hu]
  have now : u.now = s.now := by rw [frame]; rfl
  have tb : v.tb = s.tb := by rw [side.tb, frame]
  have rst : v.rst = s.rst := by rw [side.frame, frame]
  have bell : v.bell = s.bell := by rw [side.frame, frame]
  have idle : (s.helm h).svc.computes = false := by
    cases x : (s.helm h).svc.computes
    · rfl
    · rw [Svc.computes_inService x] at off
      cases off
  have runs : v.landingsRun = s.landingsRun := by
    refine State.landingsRun_computes tb rst fun g => ?_
    obtain rfl | rfl := helm_cases h g
    · rw [side.own, idle]
      show (u.helm _).svc.computes = false
      rw [svc]
      rfl
    · rw [side.other, other]
  refine ⟨side, ?_, ?_⟩
  · unfold Rung
    rcases v.ring_cases bellHelm with ⟨on, e⟩ | ⟨on, e⟩
    · rw [e, if_pos (runs.symm.trans on), bell]
    · rw [e, if_neg (by rw [← runs, on]; decide), bell]
  · rw [now, show subj (helmSubj h) + 0 = subj (helmSubj h) from BitVec.add_zero _] at offers
    exact offers.congr (by rw [frame]) recQ.symm rfl rfl

/-- Settles O38: a helm's verdict comes with the record that enters its slip, and the Quay's outcome is the first test passage due. -/
theorem testPassagesAndSelfTests : Obligations.TestPassagesAndSelfTests := by
  refine ⟨fun s h sig => ⟨?_, ?_, ?_, ?_, execTestOutcome_none⟩, fun s h live off => ⟨fun testing debug => ⟨?_, ?_⟩, fun testing b => ?_, ?_, fun spent => ?_⟩⟩
  · intro k l live computes tests window
    obtain ⟨rest, sigIs, hs, ok, offers, judged, kept, verdict, other⟩ := testPassage_spec (s := s) (h := h) (sig := sig) (k := k) (l := l)
    exact ⟨_, execTestPassage_on live computes tests window, rest, sigIs, hs, ok, offers, judged.mem, kept, verdict, other⟩
  · intro tests
    show execTestPassage h sig s = _
    unfold execTestPassage
    dsimp only
    rw [tests]
  · intro k r c live computes slip reg testRecs recQ code up room
    obtain ⟨-, -, -, -, outcomes, tests⟩ := s.token_spec h c []
    have halted : (s.helm h).svc ≠ .halted := fun x => by rw [x] at computes; cases computes
    have debug : (s.helm h).svc ≠ .debug := fun x => by rw [x] at computes; cases computes
    obtain ⟨own, -, frame⟩ := s.tokenTaken_helm h c []
    obtain ⟨u, hu⟩ : ∃ u, s.tokenTaken h c [] = u := ⟨_, rfl⟩
    rw [hu] at own frame outcomes tests
    obtain ⟨verdict, none_⟩ := State.offerRecords_verdict (s := u) (h := h) (r := r) (k := k) (by rw [frame]; exact up) (by rw [frame]; exact room)
      (by rw [own]; exact recQ) (by rw [own]; exact testRecs) code
    have same : u.outcomes = s.outcomes := by rw [frame]
    rw [same] at verdict
    refine ⟨u.tokenWork h c, ?_, outcomes.trans verdict, tests.trans none_⟩
    rw [← hu]
    exact execStrokeToken_on live halted debug slip (by rw [reg]; nofun)
  · intro r l first due
    refine ⟨_, execTestOutcome_first first due, rfl, ?_, fun g => ?_, rfl⟩
    · have told := State.raiseEv_received (s := s.dropTest r.key) (at_ := ⟨r.key.1, 64⟩) (e := .testOutcome (r.outcome .a) (r.outcome .b) r.key.2)
      rw [r.outcome_eq, r.outcome_eq] at told ⊢
      exact fun g => (told g).trans (by cases g <;> rfl)
    · rw [State.raiseEv_helm]
      cases g <;> rfl
  · obtain ⟨⟨svc, tested, lock, mem, ok, loaded, fail, -⟩, painter, decided, other, double, frame⟩ := s.testPassed_spec h
    have counted := s.countTest_spec.2
    by_cases starting : (s.helm h).svc = .starting
    · refine ⟨_, (execFullSelftestDone_pass live testing off debug).trans (congrArg _ (if_pos starting)), svc, tested, lock, mem, ok, loaded, fail, painter,
        decided, other, ?_, double, fun _ => ?_, fun no => absurd starting no, ?_⟩
      · rw [frame]
        exact counted
      · rw [frame]
        exact ⟨rfl, rfl⟩
      · rw [frame]
    · obtain ⟨side, rung, offers⟩ := s.testPassed_told h off (wd (s.helm h).outCause.toNat)
      refine ⟨_, (execFullSelftestDone_pass live testing off debug).trans (congrArg _ (if_neg starting)), ?_⟩
      obtain ⟨v, hv⟩ : ∃ v, (s.testPassed h).selfRec h clsInfo 0x025 0 (wd (s.helm h).outCause.toNat) 0 = v := ⟨_, rfl⟩
      rw [hv] at side rung offers ⊢
      have ring : v.ring bellHelm = { v with bell := (v.ring bellHelm).bell } := by
        rcases v.ring_cases bellHelm with ⟨-, e⟩ | ⟨-, e⟩ <;> rw [e]
      generalize (v.ring bellHelm).bell = bell at ring
      rw [ring] at rung ⊢
      have own : v.helm h = { (s.testPassed h).helm h with recQ := (v.helm h).recQ, testRecs := (v.helm h).testRecs } := side.own
      have hs (g : HelmId) : (v.helm g).hs = ((s.testPassed h).helm g).hs ∧ (v.helm g).painterOk = ((s.testPassed h).helm g).painterOk := by
        obtain rfl | rfl := helm_cases h g
        · rw [own]
          exact ⟨rfl, rfl⟩
        · rw [side.other]
          exact ⟨rfl, rfl⟩
      have whole : v = { s with helmA := v.helmA, helmB := v.helmB, win := s.countTest.win, com := v.com, outcomes := v.outcomes } := by
        rw [side.frame, frame]
      refine ⟨(congrArg Helm.svc own :).trans svc, (congrArg Helm.testing own :).trans tested, (congrArg Helm.lockOk own :).trans lock,
        (congrArg Helm.memOk own :).trans mem, (congrArg Helm.testOk own :).trans ok, (congrArg Helm.loaded own :).trans loaded,
        (congrArg Helm.bistFail own :).trans fail, fun g => (hs g).2.trans (painter g), ?_, ?_, ?_, fun g => ?_,
        fun yes => absurd yes starting, fun _ => ⟨rung, offers⟩, ?_⟩
      · exact (congrArg (fun a : HelmState => a.red.svc h) (hs h).1 :).trans decided
      · exact (congrArg Helm.svc side.other :).trans other
      · exact (congrArg State.win whole :).trans counted
      · show h ∉ (v.helm g).hs.red.doubleFail
        rw [(hs g).1]
        exact double g
      · rw [whole]
  · obtain ⟨frame, counted⟩ := s.countTest_spec
    obtain ⟨u, hu⟩ : ∃ u, s.countTest = u := ⟨_, rfl⟩
    have out := execFullSelftestDone_fail live testing off debug
    rw [hu] at frame counted out
    obtain ⟨side, -, offers⟩ := u.selfRec_spec h clsFault 0x02A 0 (wd (s.helm h).bistTries) 0
    have now : u.now = s.now := by rw [frame]; rfl
    rw [now, show subj (helmSubj h) + 0 = subj (helmSubj h) from BitVec.add_zero _] at offers
    have before : u.com = s.com ∧ u.helm h = s.helm h := by
      rw [frame]
      cases h <;> exact ⟨rfl, rfl⟩
    obtain ⟨v, hv⟩ : ∃ v, u.selfRec h clsFault 0x02A 0 (wd (s.helm h).bistTries) 0 = v := ⟨_, rfl⟩
    rw [hv] at side offers out
    have own : (v.modHelm h (fun x => { x with testing := false, bistFail := true })).helm h = { v.helm h with testing := false, bistFail := true } :=
      State.modHelm_helm ..
    have other : (v.modHelm h (fun x => { x with testing := false, bistFail := true })).helm (otherHelm h) = v.helm (otherHelm h) :=
      State.modHelm_helm_other ..
    have whole := v.modHelm_frame h (fun x => { x with testing := false, bistFail := true })
    obtain ⟨t, ht⟩ : ∃ t, v.modHelm h (fun x => { x with testing := false, bistFail := true }) = t := ⟨_, rfl⟩
    rw [ht] at own other whole out
    refine ⟨t, out, ?_, by rw [own], by rw [own], ?_, ?_, ?_⟩
    · rw [own, side.own, frame]
      cases h <;> rfl
    · rw [whole, side.frame]
      exact counted
    · rw [other, side.other, frame]
      cases h <;> rfl
    · exact offers.congr before.1.symm (by rw [before.2]) (by rw [whole]) (by rw [own])
  · exact if_pos (by simp [show (s.helm h).testing = false from testing])
  · intro fail joinable testing left
    exact if_pos (by simp [live, show (s.helm h).testing = false from testing, show (s.helm h).bistFail = true from fail,
      show (s.helm h).joinable = true from joinable, show (s.helm h).svc.inService = false from off, show (s.helm h).bistTries < (s.helm h).retries from left])
  · exact if_neg (by simp [show ¬ (s.helm h).bistTries < (s.helm h).retries from Nat.not_lt.2 spent])

end Sys2Proof.Machine
end

section
/-! PROOFS. Taking the helm (R186, R209, R464 to R466). -/

namespace Sys2Proof.Machine

/-! ### What reading and writing the banks leaves -/

/-- Only the banks, what the check units see of them and the number of the next free value differ. -/
def OnlyStore (s t : State) : Prop := t = { s with nvmA := t.nvmA, nvmB := t.nvmB, cus := t.cus, snooped := t.snooped, free := t.free }

theorem OnlyStore.refl (s : State) : OnlyStore s s := rfl

theorem OnlyStore.trans {s t u : State} (h : OnlyStore s t) (k : OnlyStore t u) : OnlyStore s u := by
  unfold OnlyStore at *
  rw [k, h]

theorem OnlyStore.foldl {α : Type} {f : State → α → State} (step : ∀ s a, OnlyStore s (f s a)) : ∀ (l : List α) (s : State), OnlyStore s (l.foldl f s)
  | [], s => .refl s
  | a :: l, s => (step s a).trans (foldl step l (f s a))

theorem State.readWords_store (s : State) (b : Bool) (addr n : Nat) : OnlyStore s (s.readWords b addr n) := rfl

theorem State.modBank_store (s : State) (b : Bool) (f : Bank → Bank) : OnlyStore s (s.modBank b f) := by
  cases b <;> rfl

theorem State.readCopy_store (s : State) (c : Nat) : OnlyStore s (s.readCopy c) := s.readWords_store ..

theorem State.readCopies_store (s : State) : OnlyStore s s.readCopies := OnlyStore.foldl State.readCopy_store _ s

theorem State.putCopy_store (s : State) (c : Nat) (ch : List Word) (good : Bool) : OnlyStore s (s.putCopy c ch good) := by
  unfold State.putCopy
  refine OnlyStore.trans ?_ (State.readCopy_store ..)
  split
  · exact s.modBank_store ..
  · exact OnlyStore.trans (t := { s with free := s.free + ch.length }) rfl (State.modBank_store ..)

theorem State.rewriteCopy_store (s : State) (c : Nat) (ch : List Word) : OnlyStore s (s.rewriteCopy c ch) :=
  OnlyStore.trans (t := { s with free := s.free + 1 }) rfl (State.putCopy_store ..)

theorem OnlyStore.ite {s t : State} {c : Prop} [Decidable c] (h : OnlyStore s t) : OnlyStore s (if c then t else s) := by
  split
  · exact h
  · exact .refl s

/-! ### The rewrites and the record of a vote -/

/-- Only the helms, the banks, and what records and reads bring along differ. -/
def OnlyRepair (s t : State) : Prop :=
  t = { s with nvmA := t.nvmA, nvmB := t.nvmB, cus := t.cus, snooped := t.snooped, free := t.free, helmA := t.helmA, helmB := t.helmB,
               com := t.com, outcomes := t.outcomes, bell := t.bell }

/-- A helm that differs in its records and the copies found intact. -/
def Helm.Repaired (x y : Helm) : Prop := y = { x with recQ := y.recQ, testRecs := y.testRecs, hs := { x.hs with copyOk := y.hs.copyOk } }

theorem State.ring_frame (s : State) (k : Nat) : s.ring k = { s with bell := (s.ring k).bell } := by
  rcases s.ring_cases k with ⟨-, e⟩ | ⟨-, e⟩ <;> rw [e]

theorem State.repair_none {s : State} {h : HelmId} (silent : s.vote.code = none) : s.repair h = s := by
  unfold State.repair
  dsimp only
  rw [silent]

theorem State.repair_spec (s : State) (h : HelmId) : OnlyRepair s (s.repair h) ∧ (s.helm h).Repaired ((s.repair h).helm h)
    ∧ (s.repair h).helm (otherHelm h) = s.helm (otherHelm h) := by
  unfold State.repair
  dsimp only
  split
  · exact ⟨rfl, rfl, rfl⟩
  · next cls code _ =>
    have store : OnlyStore s ((List.range 3).foldl (fun s' c => if s.vote.rewrite.testBit c then s'.rewriteCopy c s.vote.charter else s') s) :=
      OnlyStore.foldl (fun s' c => OnlyStore.ite (State.rewriteCopy_store ..)) _ s
    generalize (List.range 3).foldl (fun s' c => if s.vote.rewrite.testBit c then s'.rewriteCopy c s.vote.charter else s') s = u at store ⊢
    have own := u.modHelm_helm h (fun x => { x with hs := { x.hs with copyOk := u.copiesOk } })
    have other := u.modHelm_helm_other h (fun x => { x with hs := { x.hs with copyOk := u.copiesOk } })
    have frame := u.modHelm_frame h (fun x => { x with hs := { x.hs with copyOk := u.copiesOk } })
    unfold State.modHs
    generalize u.modHelm h (fun x => { x with hs := { x.hs with copyOk := u.copiesOk } }) = v at own other frame ⊢
    obtain ⟨side, -, -⟩ := v.helmRec_side h v.now cls code (wd (s.vote.intact * 2 ^ 21 + s.vote.rewrite * 2 ^ 18 + s.vote.winner * 2 ^ 16))
      (if s.vote.winner = 0 then 0 else chGen s.vote.charter) (s.voteD2 s.vote)
    obtain ⟨side', -, -, -⟩ := (v.helmRec h v.now cls code (wd (s.vote.intact * 2 ^ 21 + s.vote.rewrite * 2 ^ 18 + s.vote.winner * 2 ^ 16))
      (if s.vote.winner = 0 then 0 else chGen s.vote.charter) (s.voteD2 s.vote)).offerRecords_spec h
    have side := side.trans side'
    generalize (v.helmRec h v.now cls code (wd (s.vote.intact * 2 ^ 21 + s.vote.rewrite * 2 ^ 18 + s.vote.winner * 2 ^ 16))
      (if s.vote.winner = 0 then 0 else chGen s.vote.charter) (s.voteD2 s.vote)).offerRecords h = w at side ⊢
    have ring := w.ring_frame bellCharter
    generalize (w.ring bellCharter).bell = bell at ring
    rw [ring]
    have helms (g : HelmId) : u.helm g = s.helm g := by rw [store]; cases g <;> rfl
    refine ⟨?_, ?_, ?_⟩
    · unfold OnlyRepair
      rw [side.frame, frame, store]
    · obtain ⟨q, l, e⟩ : ∃ q l, w.helm h = { s.helm h with recQ := q, testRecs := l, hs := { (s.helm h).hs with copyOk := u.copiesOk } } :=
        ⟨_, _, by rw [side.own, own, helms]⟩
      show (s.helm h).Repaired (w.helm h)
      rw [e]
      rfl
    · exact side.other.trans (other.trans (helms _))

/-! ### The helm taken -/

/-- A helm with its start-up state, before its record (R465, R466). -/
def State.startsAs (s : State) (h : HelmId) (modes : ModeSt) : State :=
  let hs := (s.helm h).hs.startUp h s.tb.crossing modes (s.helm (otherHelm h)).svc
  let u := s.modHelm h (fun x => { x.runImage hs.imgTab with
    svc := .holding, ready := false, outCause := 0, strokeReg := none, strokeSlip := []
    tokenAt := s.tb.crossing, begun := none, passNo := none, lastNo := none
    hs := hs, saved := hs, lastCmds := [], lastEvs := [], crossOut := 0xF, cfgOut := 0xF, gwSeen := 0 })
  { u with rst := { u.rst with firstGiven := true } }

/-- The data word that names a helm, or none. -/
def formerWord : Option HelmId → Word
  | some g => wd (helmSubj g)
  | none => 0

/-- The record of a helm that takes the helm (R219). -/
def State.tookRec (s : State) (h : HelmId) (former : Option HelmId) : Rec :=
  ⟨⟨s.tb.crossing, 240⟩, helmSource h, clsInfo, 0x027, subj (helmSubj h), 0, formerWord former⟩

/-- The machine once the record of the new holder is offered and HELM rung. -/
def State.tookTold (s : State) (h : HelmId) (modes : ModeSt) (former : Option HelmId) : State :=
  (((s.startsAs h modes).helmRec h ⟨(s.startsAs h modes).tb.crossing, 240⟩ clsInfo 0x027 (subj (helmSubj h)) 0 (formerWord former)).offerRecords h).ring bellHelm

theorem State.takeHelm_eq (s : State) (h : HelmId) (modes : ModeSt) (former : Option HelmId) : s.takeHelm h modes former =
    if ((s.tookTold h modes former).helm (otherHelm h)).svc = .starting && ((s.tookTold h modes former).helm (otherHelm h)).ready
    then (s.tookTold h modes former).toJoining (otherHelm h) else s.tookTold h modes former := by
  cases former <;> rfl

/-- What a helm that takes the helm stands at (R466). -/
structure State.Took (s t : State) (h : HelmId) (modes : ModeSt) (former : Option HelmId) : Prop where
  frame : t = { s with helmA := t.helmA, helmB := t.helmB, rst := { s.rst with firstGiven := true }, com := t.com, outcomes := t.outcomes,
                       bell := t.bell }
  svc : (t.helm h).svc = .holding
  crossOut : (t.helm h).crossOut = 0xF
  cfgOut : (t.helm h).cfgOut = 0xF
  hs : t.hsOf h = { (s.hsOf h).startUp h s.tb.crossing modes (s.helm (otherHelm h)).svc with red := (t.hsOf h).red }
  view : (t.hsOf h).red.view = some h
  retHold : (t.hsOf h).red.retHold = (s.hsOf h).red.retHold
  bell : (t.bell.cause ||| t.bell.raised) = s.bell.cause ||| s.bell.raised ||| oneBit bellHelm ∧ t.bell.mask = s.bell.mask
  room : (t.helm h).recQ.length ≤ (s.helm h).recQ.length + 1
  offers : s.Offers t h (s.tookRec h former)

theorem State.startsAs_spec (s : State) (h : HelmId) (modes : ModeSt) : let u := s.startsAs h modes
    u = { s with helmA := u.helmA, helmB := u.helmB, rst := { s.rst with firstGiven := true } }
      ∧ (u.helm h).svc = .holding ∧ (u.helm h).crossOut = 0xF ∧ (u.helm h).cfgOut = 0xF
      ∧ (u.helm h).hs = (s.helm h).hs.startUp h s.tb.crossing modes (s.helm (otherHelm h)).svc ∧ (u.helm h).recQ = (s.helm h).recQ
      ∧ u.helm (otherHelm h) = s.helm (otherHelm h) := by
  unfold State.startsAs
  dsimp only
  generalize (s.helm h).hs.startUp h s.tb.crossing modes (s.helm (otherHelm h)).svc = hs
  cases h <;> exact ⟨rfl, rfl, rfl, rfl, rfl, rfl, rfl⟩

theorem HelmState.startUp_red (hs : HelmState) (h : HelmId) (n : Nat) (modes : ModeSt) (other : Svc) :
    (hs.startUp h n modes other).red.view = some h ∧ (hs.startUp h n modes other).red.retHold = hs.red.retHold := by
  cases h <;> exact ⟨rfl, rfl⟩

/-- A ring, whether it waits for a landing or not. -/
theorem State.ring_either (s : State) (k : Nat) : ((s.ring k).bell.cause ||| (s.ring k).bell.raised) = s.bell.cause ||| s.bell.raised ||| oneBit k
    ∧ (s.ring k).bell.mask = s.bell.mask := by
  rcases s.ring_cases k with ⟨-, e⟩ | ⟨-, e⟩ <;> rw [e]
  · exact ⟨(BitVec.or_assoc ..).symm, rfl⟩
  · refine ⟨?_, rfl⟩
    show s.bell.cause ||| oneBit k ||| s.bell.raised = _
    rw [BitVec.or_assoc, BitVec.or_comm (oneBit k), BitVec.or_assoc]

/-- A ready helm that joins leaves the new holder but for the service state it shows (R186). -/
theorem State.toJoining_spec (s : State) (g : HelmId) : let t := s.toJoining g
    t = { s with helmA := t.helmA, helmB := t.helmB } ∧ (t.helm g).svc = .joining ∧ (t.helm g).resync = {}
      ∧ (∀ k, (t.helm k).hs = { (s.helm k).hs with red := (s.helm k).hs.red.setSvc g .joining } ∧ (t.helm k).recQ = (s.helm k).recQ)
      ∧ t.helm (otherHelm g) = { s.helm (otherHelm g) with hs := (t.helm (otherHelm g)).hs, saved := (t.helm (otherHelm g)).saved } := by
  cases g <;> exact ⟨rfl, rfl, rfl, fun k => by cases k <;> exact ⟨rfl, rfl⟩, rfl⟩

theorem State.helmRec_length (s : State) (h : HelmId) (at_ : Stamp) (cls code : Nat) (d0 d1 d2 : Word) :
    ((s.helmRec h at_ cls code d0 d1 d2).helm h).recQ.length ≤ (s.helm h).recQ.length + 1 := by
  rw [State.helmRec, State.modHelm_helm]
  split
  · exact Nat.le_of_eq List.length_append
  · exact Nat.le_succ _

theorem State.tookTold_took (s : State) (h : HelmId) (modes : ModeSt) (former : Option HelmId) :
    s.Took (s.tookTold h modes former) h modes former ∧ (s.tookTold h modes former).helm (otherHelm h) = s.helm (otherHelm h) := by
  obtain ⟨frame, svc, crossOut, cfgOut, hs, recQ, other⟩ := s.startsAs_spec h modes
  unfold State.tookTold
  generalize s.startsAs h modes = u at frame svc crossOut cfgOut hs recQ other ⊢
  have tb : u.tb = s.tb := by rw [frame]
  have com : u.com = s.com := by rw [frame]
  have uBell : u.bell = s.bell := by rw [frame]
  rw [tb]
  obtain ⟨side, -, com'⟩ := u.helmRec_side h ⟨s.tb.crossing, 240⟩ clsInfo 0x027 (subj (helmSubj h)) 0 (formerWord former)
  have queued := u.helmRec_queued h ⟨s.tb.crossing, 240⟩ clsInfo 0x027 (subj (helmSubj h)) 0 (formerWord former)
  generalize hv : u.helmRec h ⟨s.tb.crossing, 240⟩ clsInfo 0x027 (subj (helmSubj h)) 0 (formerWord former) = v at side com' queued ⊢
  have length : (v.helm h).recQ.length ≤ (u.helm h).recQ.length + 1 := hv ▸ u.helmRec_length ..
  obtain ⟨side', -, -, left⟩ := v.offerRecords_spec h
  have offers : s.Offers (v.offerRecords h) h (s.tookRec h former) := State.offers_of_queued (com'.trans com) (by rw [← recQ]; exact queued)
  have side := side.trans side'
  generalize v.offerRecords h = w at side left offers ⊢
  obtain ⟨view, retHold⟩ := (s.helm h).hs.startUp_red h s.tb.crossing modes (s.helm (otherHelm h)).svc
  have bell := w.ring_either bellHelm
  have ring := w.ring_frame bellHelm
  generalize (w.ring bellHelm).bell = bell_ at bell ring
  have wBell : w.bell = s.bell := by rw [side.frame, frame]
  rw [wBell] at bell
  have wHs : (w.helm h).hs = (s.helm h).hs.startUp h s.tb.crossing modes (s.helm (otherHelm h)).svc := by rw [side.own]; exact hs
  rw [ring]
  refine ⟨⟨?_, ?_, ?_, ?_, ?_, ?_, ?_, bell, ?_, offers⟩, side.other.trans other⟩
  · rw [side.frame, frame]
  · exact (congrArg Helm.svc side.own :).trans svc
  · exact (congrArg Helm.crossOut side.own :).trans crossOut
  · exact (congrArg Helm.cfgOut side.own :).trans cfgOut
  · show (w.helm h).hs = { (s.helm h).hs.startUp h s.tb.crossing modes (s.helm (otherHelm h)).svc with red := (w.helm h).hs.red }
    rw [wHs]
  · show (w.helm h).hs.red.view = _
    rw [wHs, view]
  · show (w.helm h).hs.red.retHold = _
    rw [wHs, retHold]
    rfl
  · show (w.helm h).recQ.length ≤ _
    rw [left, List.length_drop]
    rw [recQ] at length
    omega

theorem State.Took.join {s t : State} {h : HelmId} {modes : ModeSt} {former : Option HelmId} (took : s.Took t h modes former) :
    s.Took (t.toJoining (otherHelm h)) h modes former := by
  obtain ⟨frame, -, -, hs, own⟩ := t.toJoining_spec (otherHelm h)
  obtain ⟨newHs, recQ⟩ := hs h
  rw [otherHelm_otherHelm] at own
  generalize t.toJoining (otherHelm h) = u at frame own newHs recQ ⊢
  have red : (u.helm h).hs.red.view = (t.helm h).hs.red.view ∧ (u.helm h).hs.red.retHold = (t.helm h).hs.red.retHold := by
    rw [newHs]
    cases h <;> exact ⟨rfl, rfl⟩
  refine ⟨?_, ?_, ?_, ?_, ?_, red.1.trans took.view, red.2.trans took.retHold, ?_, recQ ▸ took.room, ?_⟩
  · rw [frame, took.frame]
  · exact (congrArg Helm.svc own :).trans took.svc
  · exact (congrArg Helm.crossOut own :).trans took.crossOut
  · exact (congrArg Helm.cfgOut own :).trans took.cfgOut
  · have old : (t.helm h).hs = { (s.helm h).hs.startUp h s.tb.crossing modes (s.helm (otherHelm h)).svc with red := (t.helm h).hs.red } := took.hs
    show (u.helm h).hs = { (s.helm h).hs.startUp h s.tb.crossing modes (s.helm (otherHelm h)).svc with red := (u.helm h).hs.red }
    rw [newHs, old]
  · rw [frame]
    exact took.bell
  · exact took.offers.congr rfl rfl (by rw [frame]) recQ

theorem State.takeHelm_took (s : State) (h : HelmId) (modes : ModeSt) (former : Option HelmId) :
    s.Took (s.takeHelm h modes former) h modes former := by
  rw [State.takeHelm_eq]
  split
  · exact (s.tookTold_took h modes former).1.join
  · exact (s.tookTold_took h modes former).1

/-! ### The first holder after a reset -/

/-- A helm that holds the helm as the first after a reset (R464 to R466). -/
def State.HoldsFirst (s t : State) (g : HelmId) : Prop :=
  (t.helm g).svc = .holding ∧ (t.helm g).crossOut = 0xF ∧ (t.helm g).cfgOut = 0xF
    ∧ (s.vote.code = none → s.Offers t g (s.tookRec g none)) ∧ (t.hsOf g).red.view = some g ∧ t.rst.firstGiven = true
    ∧ (t.hsOf g).charter = (s.hsOf g).charter ∧ (t.hsOf g).img = startImg (s.hsOf g).charter
    ∧ (t.hsOf g).modes.mode = (if isFallback (s.hsOf g).charter = true then .anchored else .berthed)
    ∧ (isFallback (s.hsOf g).charter = true → (t.hsOf g).modes.cause = 6)
    ∧ (t.hsOf g).roleA.held = none ∧ (t.hsOf g).roleB.held = none ∧ t.now = s.now

/-- The mode words of the first holder (R466). -/
def firstModes (ch : List Word) (wake : Bool) (n : Nat) : ModeSt :=
  if isFallback ch then .entered .anchored .unreported 6 n else .entered .berthed .unreported (if wake then 0x0A else 0) n

theorem State.firstHolder_spec (s : State) (h : HelmId) : s.HoldsFirst (s.firstHolder h) h := by
  obtain ⟨frame, own, other⟩ := s.repair_spec h
  have silent : s.vote.code = none → s.repair h = s := State.repair_none
  unfold State.firstHolder
  dsimp only
  generalize s.repair h = u at frame own other silent ⊢
  have took := u.takeHelm_took h (firstModes (s.helm h).hs.charter (decide (u.rst.cause = 7)) u.tb.crossing) none
  have fallback : isFallback (s.helm h).hs.charter = true →
      firstModes (s.helm h).hs.charter (decide (u.rst.cause = 7)) u.tb.crossing = .entered .anchored .unreported 6 u.tb.crossing := fun is => if_pos is
  have mode : (firstModes (s.helm h).hs.charter (decide (u.rst.cause = 7)) u.tb.crossing).mode
      = if isFallback (s.helm h).hs.charter = true then .anchored else .berthed := by
    unfold firstModes
    split <;> rfl
  rw [show (if isFallback (s.helm h).hs.charter then ModeSt.entered .anchored .unreported 6 u.tb.crossing
    else .entered .berthed .unreported (if decide (u.rst.cause = 7) = true then 0x0A else 0) u.tb.crossing)
      = firstModes (s.helm h).hs.charter (decide (u.rst.cause = 7)) u.tb.crossing from rfl]
  generalize firstModes (s.helm h).hs.charter (decide (u.rst.cause = 7)) u.tb.crossing = modes at took fallback mode ⊢
  generalize u.takeHelm h modes none = v at took ⊢
  obtain ⟨t, ht⟩ : ∃ t : State, (if decide (u.rst.cause = 7) = true
      then { v with toll := { v.toll with first := (v.toll.takeCharter (s.helm h).hs.charter).due }, bell := { v.bell with cause := v.bell.cause ||| oneBit bellToll } }
      else { v with toll := { v.toll with first := (v.toll.takeCharter (s.helm h).hs.charter).due } }) = t := ⟨_, rfl⟩
  have same : t = { v with toll := t.toll, bell := t.bell } := by
    rw [← ht]
    split <;> rfl
  rw [ht]
  have helm : t.helm h = v.helm h := by
    rw [same]
    cases h <;> rfl
  have charter : (u.hsOf h).charter = (s.hsOf h).charter := (congrArg (fun x : Helm => x.hs.charter) own :)
  have hs : t.hsOf h = { (u.hsOf h).startUp h u.tb.crossing modes (u.helm (otherHelm h)).svc with red := (v.hsOf h).red } :=
    (congrArg Helm.hs helm :).trans took.hs
  have tb : u.tb = s.tb := by rw [frame]
  refine ⟨(congrArg Helm.svc helm :).trans took.svc, (congrArg Helm.crossOut helm :).trans took.crossOut, (congrArg Helm.cfgOut helm :).trans took.cfgOut,
    fun none_ => ?_, (congrArg (fun x : Helm => x.hs.red.view) helm :).trans took.view, ?_, ?_, ?_, ?_, fun is => ?_, ?_, ?_, ?_⟩
  · have offers := took.offers
    rw [silent none_] at offers
    exact offers.congr rfl rfl (by rw [same]) (by rw [helm])
  · rw [same, took.frame]
  · rw [hs]
    exact charter
  · rw [hs]
    exact congrArg startImg charter
  · rw [hs]
    exact mode
  · rw [hs, fallback is]
    rfl
  · rw [hs]
    rfl
  · rw [hs]
    rfl
  · show (⟨t.tb.crossing, t.tb.stroke⟩ : Stamp) = ⟨s.tb.crossing, s.tb.stroke⟩
    rw [same, took.frame, tb]

/-- As `firstHolder_spec`, once the deadline of the primary has been noted (R464). -/
theorem State.lateHolder (s : State) (g : HelmId) : s.HoldsFirst ({ s with rst := { s.rst with firstLate := true } }.firstHolder g) g := by
  have holds := { s with rst := { s.rst with firstLate := true } }.firstHolder_spec g
  cases g <;> exact holds

/-! ### The start while no helm is in service -/

/-- The machine that a helm takes the helm of under R209: counts and bell at reset, and the hold that lasts. -/
def State.freshFor (s : State) (h : HelmId) : State :=
  { s with
    win := { s.win with rc := [], since := [], base := [], tags := [], pend := [] }
    bell := { s.bell with cause := 0x800000, raised := 0, due := 0, cleared := 0 } }.modHelm h
      (fun x => { x with hs := { x.hs with red := { x.hs.red with retHold := (s.helm s.lastPassage).hs.red.retHold } } })

/-- The mode words of a start under R209. -/
def soleModes (debug : Bool) (old : Mode) (last : ModeSt) (n : Nat) : ModeSt :=
  if debug then .entered .berthed old 0 n
  else if old = .anchored && last.mode = .anchored then { mode := .anchored, prev := last.prev, cause := last.cause, since := last.since, old := .anchored }
  else .entered .anchored old 8 n

/-- The record of the change of mode at a start under R209 (R386). -/
def State.soleRec (s : State) (h : HelmId) (debug : Bool) : Rec :=
  ⟨⟨s.tb.crossing, 240⟩, helmSource h, if debug then clsAct else clsFault, 0x04E,
    if debug then wd (0x10000 + s.mode.code * 2 ^ 12) else wd (0x50008 + s.mode.code * 2 ^ 12), 0, 0⟩

/-- The start under R209 up to its MODE_CHANGE record. -/
def State.soleTaken (s : State) (h : HelmId) (debug : Bool) : State :=
  (s.freshFor h).takeHelm h (soleModes debug s.mode (s.helm s.lastPassage).hs.modes (s.freshFor h).tb.crossing) (s.helm s.lastPassage).hs.red.view

/-- Both helms had been attached to debug. -/
def State.bothDebug (s : State) : Bool := s.helmA.outCause == (8 : BitVec 4) && s.helmB.outCause == (8 : BitVec 4)

theorem State.soleHolder_eq (s : State) (h : HelmId) : s.soleHolder h =
    let r := s.soleRec h s.bothDebug
    let t := s.soleTaken h s.bothDebug
    let u := (t.helmRec h ⟨t.tb.crossing, 240⟩ r.cls r.code r.d0 r.d1 r.d2).offerRecords h
    if s.bothDebug && s.mode == .berthed then t
    else if !s.bothDebug || s.mode == .anchored || s.mode == .singleHanded then u.ring bellMode else u := by
  rfl

theorem State.freshFor_spec (s : State) (h : HelmId) : let u := s.freshFor h
    u = { s with helmA := u.helmA, helmB := u.helmB, win := u.win, bell := u.bell } ∧ u.win.rc = []
      ∧ u.bell.cause = 0x800000 ∧ u.bell.raised = 0 ∧ u.bell.mask = s.bell.mask
      ∧ u.helm h = { s.helm h with hs := (u.helm h).hs } ∧ (u.hsOf h).red.retHold = (s.helm s.lastPassage).hs.red.retHold := by
  unfold State.freshFor
  generalize (s.helm s.lastPassage).hs.red.retHold = hold
  cases h <;> exact ⟨rfl, rfl, rfl, rfl, rfl, rfl, rfl⟩

/-- What a helm that takes the helm under R209 stands at. -/
theorem State.soleTaken_spec (s : State) (h : HelmId) (debug : Bool) : let t := s.soleTaken h debug
    (t.helm h).svc = .holding ∧ (t.helm h).crossOut = 0xF ∧ (t.helm h).cfgOut = 0xF
      ∧ (t.hsOf h).modes = soleModes debug s.mode (s.helm s.lastPassage).hs.modes s.tb.crossing
      ∧ (t.hsOf h).red.retHold = (s.helm s.lastPassage).hs.red.retHold
      ∧ (t.bell.cause ||| t.bell.raised) = 0x800000 ||| oneBit bellHelm ∧ t.bell.mask = s.bell.mask ∧ t.win.rc = [] ∧ t.tb = s.tb
      ∧ (t.helm h).recQ.length ≤ (s.helm h).recQ.length + 1
      ∧ s.Offers t h (s.tookRec h (s.helm s.lastPassage).hs.red.view) := by
  obtain ⟨frame, rc, cause, raised, mask, own, hold⟩ := s.freshFor_spec h
  have took := (s.freshFor h).takeHelm_took h (soleModes debug s.mode (s.helm s.lastPassage).hs.modes (s.freshFor h).tb.crossing)
    (s.helm s.lastPassage).hs.red.view
  unfold State.soleTaken
  generalize s.freshFor h = u at frame rc cause raised mask own hold took ⊢
  have tb : u.tb = s.tb := by rw [frame]
  have recQ : (u.helm h).recQ = (s.helm h).recQ := (congrArg Helm.recQ own :)
  generalize u.takeHelm h (soleModes debug s.mode (s.helm s.lastPassage).hs.modes u.tb.crossing) (s.helm s.lastPassage).hs.red.view = t at took ⊢
  obtain ⟨bell, mask'⟩ := took.bell
  have offers := took.offers
  unfold State.tookRec at offers ⊢
  rw [tb] at offers
  refine ⟨took.svc, took.crossOut, took.cfgOut, ?_, took.retHold.trans hold, ?_, mask'.trans mask, ?_, ?_, recQ ▸ took.room,
    offers.congr (by rw [frame]) recQ.symm rfl rfl⟩
  · rw [took.hs, tb]
    rfl
  · rw [bell, cause, raised]
    rfl
  · rw [took.frame]
    exact rc
  · rw [took.frame]
    exact tb

/-- The change of mode, recorded after the record of the new holder. -/
theorem State.soleHolder_told (s : State) (h : HelmId) (r : Rec) (t : State) (took : Rec) (room : (s.helm h).recQ.length < 63)
    (length : (t.helm h).recQ.length ≤ (s.helm h).recQ.length + 1) (offers : s.Offers t h took) (from_ : r.source = helmSource h) :
    ((t.helmRec h r.at_ r.cls r.code r.d0 r.d1 r.d2).offerRecords h).com.slip h ++ (((t.helmRec h r.at_ r.cls r.code r.d0 r.d1 r.d2).offerRecords h).helm h).recQ
      = s.com.slip h ++ (s.helm h).recQ ++ [took, r] := by
  obtain ⟨-, -, com⟩ := t.helmRec_side h r.at_ r.cls r.code r.d0 r.d1 r.d2
  have next : t.Offers ((t.helmRec h r.at_ r.cls r.code r.d0 r.d1 r.d2).offerRecords h) h ⟨r.at_, helmSource h, r.cls, r.code, r.d0, r.d1, r.d2⟩ := State.offers_of_queued com (t.helmRec_queued h _ _ _ _ _ _)
  rw [← from_] at next
  rw [next (by omega), offers (by omega), List.append_assoc]
  rfl

/-- A start under R209 that is recorded as a change of mode: what it leaves. -/
theorem State.soleHolder_changed {s : State} {h : HelmId} {debug : Bool} (is : s.bothDebug = debug) (changed : (debug && s.mode == .berthed) = false) :
    let t := s.soleHolder h
    let k := s.soleTaken h debug
    t.helm h = { k.helm h with recQ := (t.helm h).recQ, testRecs := (t.helm h).testRecs } ∧ t.win = k.win
      ∧ (debug = false → (t.bell.cause ||| t.bell.raised) = k.bell.cause ||| k.bell.raised ||| oneBit bellMode ∧ t.bell.mask = k.bell.mask)
      ∧ ((s.helm h).recQ.length < 63 → t.com.slip h ++ (t.helm h).recQ
        = s.com.slip h ++ (s.helm h).recQ ++ [s.tookRec h (s.helm s.lastPassage).hs.red.view, s.soleRec h debug]) := by
  obtain ⟨-, -, -, -, -, -, -, -, tb, length, offers⟩ := s.soleTaken_spec h debug
  rw [State.soleHolder_eq, is]
  dsimp only
  rw [changed, if_neg (by decide)]
  have told := fun room => State.soleHolder_told s h (s.soleRec h debug) (s.soleTaken h debug) _ room length offers rfl
  obtain ⟨side, -, -⟩ := (s.soleTaken h debug).helmRec_side h (s.soleRec h debug).at_ (s.soleRec h debug).cls (s.soleRec h debug).code
    (s.soleRec h debug).d0 (s.soleRec h debug).d1 (s.soleRec h debug).d2
  obtain ⟨side', -, -, -⟩ := ((s.soleTaken h debug).helmRec h (s.soleRec h debug).at_ (s.soleRec h debug).cls (s.soleRec h debug).code
    (s.soleRec h debug).d0 (s.soleRec h debug).d1 (s.soleRec h debug).d2).offerRecords_spec h
  have at_ : (⟨(s.soleTaken h debug).tb.crossing, 240⟩ : Stamp) = (s.soleRec h debug).at_ := by rw [tb]; rfl
  rw [at_]
  have side := side.trans side'
  generalize ((s.soleTaken h debug).helmRec h (s.soleRec h debug).at_ (s.soleRec h debug).cls (s.soleRec h debug).code
    (s.soleRec h debug).d0 (s.soleRec h debug).d1 (s.soleRec h debug).d2).offerRecords h = u at side told ⊢
  have win : u.win = (s.soleTaken h debug).win := by rw [side.frame]
  have same : u.bell = (s.soleTaken h debug).bell := by rw [side.frame]
  have bell := u.ring_either bellMode
  rw [same] at bell
  split
  · have ring := u.ring_frame bellMode
    generalize u.ring bellMode = t at ring bell ⊢
    have helm : t.helm h = u.helm h := by
      rw [ring]
      cases h <;> rfl
    rw [helm, show t.com = u.com by rw [ring]]
    exact ⟨side.own, by rw [ring]; exact win, fun _ => bell, told⟩
  · next silent =>
    exact ⟨side.own, win, fun off => absurd (by rw [off]; rfl) silent, told⟩

/-- Settles O39: a helm takes the helm by its start-up state; its records come after those it had queued. -/
theorem takingTheHelm : Obligations.TakingTheHelm := by
  intro s h x o took last stood former holds live
  have free (off : (s.helm o).svc.inService = false) : s.otherInSvc h = false := off
  refine ⟨fun started svc testing fail loaded => ?_, fun fail => ?_, fun given late => ?_, fun given => ?_⟩
  · have go : exec (.helmLoaded h) s = if s.otherInSvc h = true then .next (s.toJoining h)
        else if s.rst.firstGiven = true then .next (s.soleHolder h)
        else if (firstPrimary x.hs.charter = h || s.rst.firstLate) = true then .next (s.firstHolder h)
        else .next (s.modHelm h (fun y => { y with ready := true })) :=
      if_neg (by simp [live, started, show (s.helm h).svc = .starting from svc, show (s.helm h).testing = false from testing,
        show (s.helm h).bistFail = false from fail, show (s.helm h).loaded = true from loaded])
    refine ⟨fun other => ?_, fun other given first => ?_, fun other given debug => ?_, fun other given debugA debugB => ?_, fun other given not_ late => ?_⟩
    · obtain ⟨-, joins, resync, hs, rest⟩ := s.toJoining_spec h
      refine ⟨_, go.trans (if_pos other), joins, resync, (congrArg Helm.svc rest :), (congrArg HelmState.img (hs o).1 :), ?_⟩
      refine (congrArg (fun a : HelmState => a.red.svc h) (hs o).1 :).trans ?_
      cases h <;> rfl
    · refine ⟨_, go.trans ((if_neg (by rw [free other]; decide)).trans ((if_neg (by rw [given]; decide)).trans (if_pos ?_))), s.firstHolder_spec h⟩
      simpa using first
    · have is : s.bothDebug = false := by
        unfold State.bothDebug
        rw [Bool.and_eq_false_iff, beq_eq_false_iff_ne, beq_eq_false_iff_ne]
        exact debug
      obtain ⟨holding, cross, cfg, modes, hold, bell, mask, rc, -, -, -⟩ := s.soleTaken_spec h false
      obtain ⟨own, win', rung, told⟩ := State.soleHolder_changed (h := h) is rfl
      obtain ⟨rung, mask'⟩ := rung rfl
      refine ⟨_, go.trans ((if_neg (by rw [free other]; decide)).trans (if_pos given)), ?_⟩
      generalize s.soleHolder h = t at own win' rung mask' told ⊢
      have hs : t.hsOf h = (s.soleTaken h false).hsOf h := (congrArg Helm.hs own :)
      rw [hs, modes, hold]
      refine ⟨(congrArg Helm.svc own :).trans holding, ?_, fun no => ?_, fun yes => ?_, rfl, (congrArg Helm.crossOut own :).trans cross,
        (congrArg Helm.cfgOut own :).trans cfg, rung.trans (by rw [bell]), mask'.trans mask, (congrArg Window.rc win' :).trans rc, told⟩
      · unfold soleModes
        rw [if_neg (by decide)]
        split <;> rfl
      · unfold soleModes
        rw [if_neg (by decide), if_neg (by simpa using (show s.mode = .anchored → ¬(s.helm s.lastPassage).hs.modes.mode = .anchored from fun a b => no ⟨a, b⟩))]
        exact ⟨rfl, rfl, rfl⟩
      · unfold soleModes
        rw [if_neg (by decide), if_pos (by simpa using (show s.mode = .anchored ∧ (s.helm s.lastPassage).hs.modes.mode = .anchored from yes))]
        exact ⟨rfl, rfl, rfl⟩
    · have is : s.bothDebug = true := by
        unfold State.bothDebug
        rw [debugA, debugB]
        decide
      obtain ⟨holding, cross, cfg, modes, -, -, -, -, -, -, offers⟩ := s.soleTaken_spec h true
      have berthed : ((s.soleTaken h true).hsOf h).modes.mode = .berthed := (congrArg ModeSt.mode modes :)
      have run := go.trans ((if_neg (by rw [free other]; decide)).trans (if_pos given))
      by_cases stays : s.mode = .berthed
      · rw [s.soleHolder_eq h, is] at run
        refine ⟨_, run.trans (congrArg _ (if_pos (by rw [stays]; decide))), holding, berthed, cross, cfg, fun _ => offers, fun no => absurd stays no⟩
      · obtain ⟨own, -, -, told⟩ := State.soleHolder_changed (h := h) is (by simpa using stays)
        refine ⟨_, run, ?_⟩
        generalize s.soleHolder h = t at own told ⊢
        exact ⟨(congrArg Helm.svc own :).trans holding, (congrArg (fun x : Helm => x.hs.modes.mode) own :).trans berthed,
          (congrArg Helm.crossOut own :).trans cross, (congrArg Helm.cfgOut own :).trans cfg, fun yes => absurd yes stays, fun _ => told⟩
    · exact go.trans ((if_neg (by rw [free other]; decide)).trans ((if_neg (by rw [given]; decide)).trans (if_neg (by simpa [late] using not_))))
  · exact if_pos (by simp [show (s.helm h).bistFail = true from fail])
  · have timely : exec .firstHolderTimeout s =
        let u : State := { s with rst := { s.rst with firstLate := true } }
        if u.helmA.ready = true then .next (u.firstHolder .a) else if u.helmB.ready = true then .next (u.firstHolder .b) else .next u :=
      if_neg (by simp [live, given, late])
    refine ⟨fun ready => ?_, fun notA ready => ?_, fun notA notB => ?_⟩
    · exact ⟨_, timely.trans (if_pos ready), s.lateHolder .a⟩
    · exact ⟨_, timely.trans ((if_neg (ne_true_of_eq_false notA)).trans (if_pos ready)), s.lateHolder .b⟩
    · exact timely.trans ((if_neg (ne_true_of_eq_false notA)).trans (if_neg (ne_true_of_eq_false notB)))
  · exact if_pos (by simp [given])

end Sys2Proof.Machine
end

section
/-! PROOFS. The host ports' front ends: what a frame's steps leave of the machine (R90 to R131). -/

namespace Sys2Proof.Machine

/-! ### Frames of the front end -/

/-- A step of the front end of port p: only the front ends, what frames bring the helms and the check units, and the RC fields differ;
of the helms only the events and the reply slips, and nothing of the other port. -/
structure Front (p : Port) (s t : State) : Prop where
  frame : t = { s with hpa := t.hpa, hpb := t.hpb, helmA := t.helmA, helmB := t.helmB, win := t.win, nextId := t.nextId,
                       cus := t.cus, snooped := t.snooped }
  other : t.port (otherPort p) = s.port (otherPort p)
  helms : ∀ h, t.helm h = { s.helm h with
    hs := { (s.helm h).hs with evs := (t.helm h).hs.evs }, slipA := (t.helm h).slipA, slipB := (t.helm h).slipB }

variable {p : Port} {s t u : State}

theorem Front.refl (p : Port) (s : State) : Front p s s := ⟨rfl, rfl, fun _ => rfl⟩

theorem Front.trans (h : Front p s t) (k : Front p t u) : Front p s u where
  frame := by rw [k.frame, h.frame]
  other := k.other.trans h.other
  helms g := by rw [k.helms g, h.helms g]

theorem Front.ite {c : Prop} [Decidable c] (h : Front p s t) (k : Front p s u) : Front p s (if c then t else u) := by
  split
  · exact h
  · exact k

theorem Front.svc (k : Front p s t) (h : HelmId) : (t.helm h).svc = (s.helm h).svc := by rw [k.helms h]

theorem Front.tb (k : Front p s t) : t.tb = s.tb := by rw [k.frame]
theorem Front.rst (k : Front p s t) : t.rst = s.rst := by rw [k.frame]
theorem Front.mode (k : Front p s t) : t.mode = s.mode := by rw [k.frame]
theorem Front.holder (k : Front p s t) : t.holder = s.holder := by rw [k.frame]

theorem Front.only (k : Front p s t) : OnlyFront s t := ⟨k.frame, fun h => ⟨k.svc h, by rw [k.helms h]⟩⟩

theorem Front.landingsRun (k : Front p s t) : t.landingsRun = s.landingsRun :=
  State.landingsRun_computes k.tb k.rst fun g => by rw [k.svc]

theorem Front.winWith (k : Front p s t) (win : t.win = s.win) (addr lo : Nat) (n : Int := 1) : t.winWith addr lo n = s.winWith addr lo n := by
  unfold State.winWith
  rw [k.landingsRun, win]

theorem Front.fold (k : Front p s t) : t.fold = s.fold := by
  unfold State.fold
  rw [k.rst]

theorem Front.now (k : Front p s t) : t.now = s.now := by
  unfold State.now
  rw [k.tb]

theorem Front.ul2Bytes (k : Front p s t) (r : Reply) : t.ul2Bytes r = s.ul2Bytes r := by
  unfold State.ul2Bytes State.withCrc16
  rw [k.fold]

theorem Front.ul3Bytes (k : Front p s t) (r : Reply) : t.ul3Bytes r = s.ul3Bytes r := by
  unfold State.ul3Bytes State.withCrc16
  rw [k.fold]

theorem Front.effL (k : Front p s t) : t.effL = s.effL := by
  unfold State.effL
  rw [k.mode, k.tb, k.now]

theorem Front.noHelm (k : Front p s t) : t.noHelm = s.noHelm := by
  have a : t.helmA.svc = s.helmA.svc := k.svc .a
  have b : t.helmB.svc = s.helmB.svc := k.svc .b
  unfold State.noHelm
  rw [a, b]

theorem Front.slipRoom (k : Front p s t) (slipA : (t.port p).slipA = (s.port p).slipA) (slipB : (t.port p).slipB = (s.port p).slipB) :
    t.slipRoom p = s.slipRoom p := by
  have a : t.helmA.svc = s.helmA.svc := k.svc .a
  have b : t.helmB.svc = s.helmB.svc := k.svc .b
  unfold State.slipRoom
  rw [a, b, slipA, slipB]

/-! ### Its steps -/

theorem State.modPort_front (s : State) (p : Port) (f : PortFE → PortFE) : Front p s (s.modPort p f) := by
  cases p <;> exact ⟨rfl, rfl, fun _ => rfl⟩

theorem State.raiseEv_front (s : State) (p : Port) (at_ : Stamp) (e : Ev) : Front p s (s.raiseEv at_ e) :=
  ⟨rfl, by cases p <;> rfl, fun h => by rw [State.raiseEv_helm]⟩

theorem State.raiseEv_port (s : State) (at_ : Stamp) (e : Ev) (p : Port) : (s.raiseEv at_ e).port p = s.port p := by
  cases p <;> rfl

theorem State.drainReplies_front (s : State) (p : Port) : Front p s (s.drainReplies p) := by
  refine ⟨rfl, by cases p <;> rfl, fun h => ?_⟩
  cases h <;> cases p <;> rfl

theorem State.drainReplies_port (s : State) (p q : Port) : (s.drainReplies p).port q = s.port q := by
  cases q <;> rfl

theorem State.rcAdd_front (s : State) (p : Port) (addr lo : Nat) (n : Int) : Front p s (s.rcAdd addr lo n) := by
  refine ⟨rfl, by cases p <;> rfl, fun h => ?_⟩
  cases h <;> rfl

theorem State.rcAdd_port (s : State) (addr lo : Nat) (n : Int) (q : Port) : (s.rcAdd addr lo n).port q = s.port q := by
  cases q <;> rfl

theorem State.heardNow_front (s : State) (p : Port) : Front p s (s.heardNow p) :=
  .ite (.refl p s) ((State.modPort_front ..).trans (State.raiseEv_front ..))

theorem State.heardNow_spec (s : State) (p : Port) : (s.heardNow p).port p = { s.port p with heardAt := some s.tb.crossing }
    ∧ (s.heardNow p).win = s.win ∧ (s.heardNow p).nextId = s.nextId := by
  unfold State.heardNow
  split
  · next heard =>
    refine ⟨?_, rfl, rfl⟩
    rw [← heard]
  · exact ⟨(State.raiseEv_port ..).trans (State.modPort_port ..), State.modPort_win .., State.modPort_nextId ..⟩

/-- What a front end's own reply makes of its port (R112). -/
def PortFE.reply (f : PortFE) (g : Gen) (bs : List Byte) (r : Reply) : PortFE :=
  match g with
  | .ul3 => { f with fetch := .ready r.alive r }
  | _ => { f with due := some (.raw bs none) }

theorem State.feReply_front (s : State) (p : Port) (g : Gen) (r : Reply) : Front p s (s.feReply p g r) :=
  (State.modPort_front ..).trans (State.drainReplies_front ..)

theorem State.feReply_spec (s : State) (p : Port) (g : Gen) (r : Reply) : (s.feReply p g r).port p = (s.port p).reply g (s.ul2Bytes r) r
    ∧ (s.feReply p g r).win = s.win ∧ (s.feReply p g r).nextId = s.nextId := by
  refine ⟨(State.drainReplies_port ..).trans ((State.modPort_port ..).trans ?_), State.modPort_win .., State.modPort_nextId ..⟩
  cases g <;> rfl

theorem State.ul1Reply_front (s : State) (p : Port) (bs : List Byte) : Front p s (s.ul1Reply p bs) :=
  (State.modPort_front ..).trans (State.drainReplies_front ..)

theorem State.ul1Reply_spec (s : State) (p : Port) (bs : List Byte) : (s.ul1Reply p bs).port p = { s.port p with due := some (.raw bs none) }
    ∧ (s.ul1Reply p bs).win = s.win ∧ (s.ul1Reply p bs).nextId = s.nextId :=
  ⟨(State.drainReplies_port ..).trans (State.modPort_port ..), State.modPort_win .., State.modPort_nextId ..⟩

theorem State.setAlive_front (s : State) (p : Port) (a : Byte) : Front p s (s.setAlive p a) := State.modPort_front ..

theorem State.setAlive_spec (s : State) (p : Port) (a : Byte) : (s.setAlive p a).port p = { s.port p with alive := a }
    ∧ (s.setAlive p a).win = s.win ∧ (s.setAlive p a).nextId = s.nextId :=
  ⟨State.modPort_port .., State.modPort_win .., State.modPort_nextId ..⟩

theorem State.countReject_front (s : State) (p : Port) (st : Status) : Front p s (s.countReject p st) := by
  unfold State.countReject
  split
  · exact State.rcAdd_front ..
  · exact .ite (State.rcAdd_front ..) (.refl p s)

theorem State.countReject_port (s : State) (p q : Port) (st : Status) : (s.countReject p st).port q = s.port q
    ∧ (s.countReject p st).nextId = s.nextId := by
  unfold State.countReject
  split
  · exact ⟨State.rcAdd_port .., rfl⟩
  · split
    · exact ⟨State.rcAdd_port .., rfl⟩
    · exact ⟨rfl, rfl⟩

/-- A rejected frame (R112, R113). -/
theorem State.rejectFrame_spec (s : State) (p : Port) (g : Gen) (st : Status) (echo next : Byte) : let t := s.rejectFrame p g st echo next
    let r : Reply := ⟨st, echo, wd s.tb.crossing, [], none⟩
    Front p s t ∧ t.port p = { (s.port p).reply g (s.ul2Bytes r) r with alive := next } ∧ t.win = (s.countReject p st).win := by
  have count := s.countReject_front p st
  obtain ⟨port, -⟩ := s.countReject_port p p st
  refine ⟨(count.trans (State.feReply_front ..)).trans (State.setAlive_front ..), ?_, ?_⟩
  · refine (State.setAlive_spec ..).1.trans ?_
    rw [(State.feReply_spec ..).1, port, count.ul2Bytes]
  · exact (State.setAlive_spec ..).2.1.trans (State.feReply_spec ..).2.1

/-- A frame that enters the command slips (R28). -/
theorem State.enter_spec (s : State) (p : Port) (g : Gen) (alive op : Byte) (prm bytes : List Byte) : let t := s.enter p g alive op prm bytes
    let e : Entered := ⟨⟨p, alive, g⟩, op, prm, s.now, s.nextId, {}⟩
    Front p s t ∧ t.port p = { s.port p with
        slipA := (s.port p).slipA ++ (if s.helmA.svc.inService = true then [e] else [])
        slipB := (s.port p).slipB ++ (if s.helmB.svc.inService = true then [e] else []) }
      ∧ t.nextId = s.nextId + 1 ∧ t.win = s.win := by
  refine ⟨⟨?_, ?_, fun h => ?_⟩, ?_, ?_, ?_⟩
  · cases p <;> rfl
  · cases p <;> rfl
  · cases p <;> cases h <;> rfl
  · have nil (c : Prop) [Decidable c] (l : List Entered) (e : Entered) : (if c then l ++ [e] else l) = l ++ (if c then [e] else []) := by
      split
      · rfl
      · exact (List.append_nil l).symm
    rw [← nil, ← nil]
    cases p <;> rfl
  · cases p <;> rfl
  · cases p <;> rfl

theorem State.keepDue_front (s : State) (p : Port) : Front p s (s.keepDue p) := State.modPort_front ..

/-- The port once n more bytes are clocked. -/
def State.clocks (s : State) (p : Port) (n : Nat) : State := s.modPort p (fun f => { f with clocked := (s.port p).clocked + n })

theorem State.clocks_front (s : State) (p : Port) (n : Nat) : Front p s (s.clocks p n) := State.modPort_front ..

theorem State.clocks_port (s : State) (p : Port) (n : Nat) : (s.clocks p n).port p = { s.port p with clocked := (s.port p).clocked + n } :=
  State.modPort_port ..

/-- No reply is sent in full with these bytes (R147). -/
theorem State.clockOut_idle {s : State} {p : Port} {n : Nat}
    (idle : ∀ bs id, (s.port p).sending = some bs → (s.port p).sendId = some id → (s.port p).clocked + n < bs.length) :
    s.clockOut p n = s.clocks p n := by
  unfold State.clockOut
  dsimp only
  have port := s.clocks_port p n
  have sending : ((s.clocks p n).port p).sending = (s.port p).sending := by rw [port]
  have sendId : ((s.clocks p n).port p).sendId = (s.port p).sendId := by rw [port]
  split
  · next bs id some_ someId =>
    exact if_neg (Nat.not_le.2 (idle bs id (sending.symm.trans some_) (sendId.symm.trans someId)))
  · rfl

/-- A reply sent in full with these bytes (R147). -/
theorem State.clockOut_sent {s : State} {p : Port} {n id : Nat} {bs : List Byte} (sending : (s.port p).sending = some bs)
    (sendId : (s.port p).sendId = some id) (full : bs.length ≤ (s.port p).clocked + n) :
    s.clockOut p n = ((s.clocks p n).modPort p (fun f => { f with sendId := none })).raiseEv (s.clocks p n).now (.rcClear id) := by
  unfold State.clockOut
  dsimp only
  have port := s.clocks_port p n
  split
  · next bs' id' some_ someId =>
    have sending' : ((s.clocks p n).port p).sending = some bs' := some_
    have sendId' : ((s.clocks p n).port p).sendId = some id' := someId
    rw [port] at sending' sendId'
    cases sending.symm.trans sending'
    cases sendId.symm.trans sendId'
    exact if_pos full
  · next none_ =>
    exact absurd (show ((s.clocks p n).port p).sendId = some id by rw [port]; exact sendId)
      (none_ bs id (show ((s.clocks p n).port p).sending = some bs by rw [port]; exact sending))

theorem State.clockOut_spec (s : State) (p : Port) (n : Nat) : let t := s.clockOut p n
    Front p s t ∧ t.port p = { s.port p with clocked := (t.port p).clocked, sendId := (t.port p).sendId } ∧ t.win = s.win ∧ t.nextId = s.nextId := by
  by_cases idle : ∀ bs id, (s.port p).sending = some bs → (s.port p).sendId = some id → (s.port p).clocked + n < bs.length
  · rw [State.clockOut_idle idle]
    exact ⟨s.clocks_front .., by rw [s.clocks_port], State.modPort_win .., State.modPort_nextId ..⟩
  · simp only [not_forall, Nat.not_lt] at idle
    obtain ⟨bs, id, sending, sendId, full⟩ := idle
    rw [State.clockOut_sent sending sendId full]
    refine ⟨((s.clocks_front ..).trans (State.modPort_front ..)).trans (State.raiseEv_front ..), ?_, ?_, ?_⟩
    · rw [State.raiseEv_port, State.modPort_port, s.clocks_port]
    · exact (State.modPort_win ..).trans (State.modPort_win ..)
    · exact (State.modPort_nextId ..).trans (State.modPort_nextId ..)

/-! ### A whole frame -/

/-- A frame that has been taken: the rest of its select period only clocks (R92, R93). -/
def State.taken (s : State) (p : Port) (n : Nat) : State := (s.modPort p (fun x => { x with done := true })).clockTo p n

/-- A port after the rest of a select period. -/
def PortFE.Rests (x y : PortFE) : Prop := y = { x with done := true, clocked := y.clocked, sendId := y.sendId }

theorem State.taken_spec (s : State) (p : Port) (n : Nat) : let t := s.taken p n
    Front p s t ∧ (s.port p).Rests (t.port p) ∧ t.win = s.win ∧ t.nextId = s.nextId := by
  intro t
  obtain ⟨front, port, win, nextId⟩ := (s.modPort p (fun x => { x with done := true })).clockOut_spec p
    (n - ((s.modPort p (fun x => { x with done := true })).port p).clocked)
  refine ⟨(State.modPort_front ..).trans front, ?_, win.trans (State.modPort_win ..), nextId.trans (State.modPort_nextId ..)⟩
  exact port.trans (congrArg (fun x : PortFE => { x with clocked := (t.port p).clocked, sendId := (t.port p).sendId }) (State.modPort_port ..) :)

/-- A frame taken by a machine that the front end has brought from another. -/
theorem Front.taken {v : State} {x : PortFE} (front : Front p s v) (port : v.port p = x) (n : Nat) : let t := v.taken p n
    Front p s t ∧ x.Rests (t.port p) ∧ t.win = v.win ∧ t.nextId = v.nextId := by
  obtain ⟨rest, rests, win, nextId⟩ := v.taken_spec p n
  exact ⟨front.trans rest, port ▸ rests, win, nextId⟩

section
variable {f : List Byte} (receives : s.receiving p)
include receives

theorem State.bytesIn_eq : s.bytesIn p f = match s.framed f with
    | .unfinished => if genOf f [] = .ul3 then s else s.clockTo p f.length
    | .bad st => (s.badFrame p f st).taken p f.length
    | .ul1 g => (s.ul1In p g).taken p f.length
    | .packet .ul3 alive op prm good bytes => ((s.keepDue p).packetIn p .ul3 alive op prm bytes good).taken p f.length
    | .packet g alive op prm good bytes => (s.packetIn p g alive op prm bytes good).taken p f.length
    | .fetch alive req good =>
      (((s.keepDue p).modPort p (fun x => { x with lanes := (pb f 0).toNat / 8 % 4, dummies := 4 * ((pb f 0).toNat % 4 + 1) })).fetchIn p alive req good).taken p f.length := by
  obtain ⟨on, sel, done⟩ := receives
  unfold State.bytesIn
  rw [if_neg (by rw [on]; decide), sel]
  dsimp only
  rw [if_pos rfl, if_neg (by rw [done]; decide)]
  rfl

end

end Sys2Proof.Machine
end

section
/-! PROOFS. UL1 frames (R99 to R102). -/

namespace Sys2Proof.Machine

theorem crc8_eq_crcStep (bs : List Byte) : crc8 bs = (bs.flatMap bitsOfByte).foldl (crcStep 0x07) 0 := by
  unfold crc8
  rw [show crcRun 8 0x07 false 0 bs = _ from crcRun_eq_crcStep (0x07 : BitVec 8) 0 bs]
  rw [BitVec.ofNat_toNat, BitVec.setWidth_eq]

/-- Bytes with their CRC-8 after them pass its check (R99). -/
theorem crc8_append_crc8 (bs : List Byte) : crc8 (bs ++ [crc8 bs]) = 0 := by
  have bits : ([crc8 bs]).flatMap bitsOfByte = (List.range 8).map fun i => (crc8 bs).getLsbD (8 - 1 - i) := by
    rw [List.flatMap_singleton, bitsOfByte_eq_map]
  rw [crc8_eq_crcStep, List.flatMap_append, List.foldl_append, ← crc8_eq_crcStep, bits,
    foldl_crcStep_eq_zero_iff (by decide) (crc8 bs) 8 _ le_rfl, BitVec.shiftLeft_zero]

variable {s : State} {p : Port} {f : List Byte}

theorem State.framed_ul1 (on : s.ul1On = true) (length : f.length = 4) (first : (pb f 0).toNat < 0x80) : s.framed f = .ul1 f := by
  obtain ⟨b, g, rfl⟩ := List.exists_cons_of_length_eq_add_one length
  have lead : b.toNat < 0x80 := first
  show (if b.toNat < 0x80 then if !s.ul1On then Framed.bad .headerBad else if (b :: g).length < 4 then .unfinished else .ul1 ((b :: g).take 4) else _) = _
  rw [if_pos lead, if_neg (by rw [on]; decide), if_neg (by omega), List.take_of_length_le (by omega)]

theorem State.ul1In_bad (bad : ¬ crc8 (s.fold ++ f.take 3) = pb f 3) :
    s.ul1In p f = (s.ul1Reply p (s.ul1Err (pb f 0) .crcBad)).rcAdd (portStatusAddr p) 16 1 := if_pos bad

section
variable (good : crc8 (s.fold ++ f.take 3) = pb f 3)
include good

theorem State.ul1In_closed (write : (pb f 0).getLsbD 6 = true) (closed : (s.port p).opened = false) :
    s.ul1In p f = s.ul1Reply p (s.ul1Err (pb f 0) .sessionRequired) :=
  (if_neg (not_not.2 good)).trans (if_pos (by rw [write, closed]; rfl))

theorem State.ul1In_read {v : Nat} (mode : s.mode ≠ .moored) (read : (pb f 0).getLsbD 6 = false) (value : s.classic p ((pb f 0).toNat % 64) = some v) :
    s.ul1In p f = (s.ul1Reply p (s.ul1Bytes (pb f 0) false v)).heardNow p := by
  unfold State.ul1In
  dsimp only
  rw [if_neg (not_not.2 good), if_neg (by rw [read]; exact Bool.false_ne_true), if_neg mode]
  split
  · next none_ => rw [value] at none_; cases none_
  · next w some_ =>
    rw [value] at some_
    cases some_
    exact if_pos (by rw [read]; rfl)

/-- The frame that a masked output write of UL1 enters as (R101). -/
def State.ul1Enters (s : State) (p : Port) (f : List Byte) : State :=
  s.enter p .ul1 0 0x10 [BitVec.ofNat 8 ((pb f 0).toNat % 64 - 8), pb f 1, pb f 2] f

theorem State.ul1In_write {g : HelmId} {r : Role} (mode : s.mode ≠ .moored) (write : (pb f 0).getLsbD 6 = true)
    (addr : (pb f 0).toNat % 64 = 8 ∨ (pb f 0).toNat % 64 = 9) (defined : (s.classic p ((pb f 0).toNat % 64)).isSome = true)
    (opened : (s.port p).opened = true) (holder : s.holder = some g) (role : ((s.hsOf g).role p).held = some r) (helm : s.noHelm = false)
    (room : s.slipRoom p = true) :
    s.ul1In p f = ((s.ul1Enters p f).ul1Reply p (s.ul1Bytes (pb f 0) false (pn f 1 2))).heardNow p := by
  unfold State.ul1In
  dsimp only
  rw [if_neg (not_not.2 good), if_neg (by rw [write, opened]; decide), if_neg mode]
  split
  · next none_ => rw [none_] at defined; cases defined
  · have here : ((s.helm g).hs.role p).held = some r := role
    have known : ¬ (match s.holder with | some h => ((s.helm h).hs.role p).held | none => none).isNone = true := by
      rw [holder]
      dsimp only
      rw [here]
      exact Bool.false_ne_true
    rw [if_neg (by rw [write]; decide), if_neg (by simpa [← not_or] using addr)]
    exact (if_neg known).trans ((if_neg (by rw [helm]; decide)).trans (if_neg (by rw [room]; decide)))

end

/-- An answer in the next reply slot: the port otherwise stays. -/
theorem Front.answered {v : State} (front : Front p s v) (bs : List Byte) : let t := v.ul1Reply p bs
    Front p s t ∧ t.port p = { v.port p with due := some (.raw bs none) } ∧ t.win = v.win ∧ t.nextId = v.nextId :=
  ⟨front.trans (State.ul1Reply_front ..), State.ul1Reply_spec ..⟩

theorem Front.heard {v : State} (front : Front p s v) : let t := v.heardNow p
    Front p s t ∧ t.port p = { v.port p with heardAt := some s.tb.crossing } ∧ t.win = v.win ∧ t.nextId = v.nextId := by
  obtain ⟨port, win, nextId⟩ := v.heardNow_spec p
  exact ⟨front.trans (State.heardNow_front ..), front.tb ▸ port, win, nextId⟩

/-- Settles O12: each frame takes one branch of `ul1In`, and the rest of its select period only clocks. -/
theorem ul1Frames : Obligations.Ul1Frames := by
  intro s p f receives on length first b0 a good reply
  have read : exec (.ul1Read p f) s = .next ((s.ul1In p f).taken p f.length) := by
    refine congrArg Host.Outcome.next ((State.bytesIn_eq receives).trans ?_)
    rw [State.framed_ul1 on length first]
  have write : exec (.ul1Write p f) s = .next ((s.ul1In p f).taken p f.length) := read
  refine ⟨fun good mode isRead v value => ?_, fun bad => ?_, fun good isWrite closed => ?_, fun good mode isWrite addr defined opened held helm room => ?_,
    fun bs => ?_⟩
  · obtain ⟨answered, aPort, -, -⟩ := (Front.refl p s).answered (s.ul1Bytes b0 false v)
    obtain ⟨heard, hPort, -, -⟩ := answered.heard
    obtain ⟨front, rests, -, -⟩ := heard.taken (hPort.trans (by rw [aPort])) f.length
    rw [State.ul1In_read good mode isRead value] at read
    exact ⟨_, read, front.only, ⟨(congrArg PortFE.slipA rests :), (congrArg PortFE.slipB rests :)⟩, (congrArg PortFE.alive rests :), (congrArg PortFE.due rests :)⟩
  · obtain ⟨answered, aPort, win, -⟩ := (Front.refl p s).answered (s.ul1Err b0 .crcBad)
    obtain ⟨front, rests, win', -⟩ := (answered.trans (State.rcAdd_front ..)).taken ((State.rcAdd_port ..).trans aPort) f.length
    rw [State.ul1In_bad bad] at read
    exact ⟨_, read, read, front.only, ⟨(congrArg PortFE.slipA rests :), (congrArg PortFE.slipB rests :)⟩, win'.trans (answered.winWith win ..), (congrArg PortFE.due rests :)⟩
  · obtain ⟨answered, aPort, win, -⟩ := (Front.refl p s).answered (s.ul1Err b0 .sessionRequired)
    obtain ⟨front, rests, win', -⟩ := answered.taken aPort f.length
    rw [State.ul1In_closed good isWrite closed] at write
    exact ⟨_, write, front.only, ⟨(congrArg PortFE.slipA rests :), (congrArg PortFE.slipB rests :)⟩, win'.trans win, (congrArg PortFE.due rests :)⟩
  · obtain ⟨g, r, holder, role⟩ := held
    obtain ⟨enters, ePort, nextId, -⟩ := s.enter_spec p .ul1 0 0x10 [BitVec.ofNat 8 (a - 8), pb f 1, pb f 2] f
    obtain ⟨answered, aPort, -, aId⟩ := enters.answered (s.ul1Bytes b0 false (pn f 1 2))
    obtain ⟨heard, hPort, -, hId⟩ := answered.heard
    obtain ⟨front, rests, -, id⟩ := heard.taken (hPort.trans (by rw [aPort, ePort])) f.length
    rw [State.ul1In_write good mode isWrite addr defined opened holder role helm room] at write
    exact ⟨_, write, front.only, (congrArg PortFE.alive rests :), ⟨(congrArg PortFE.slipA rests :), (congrArg PortFE.slipB rests :)⟩, id.trans (hId.trans (aId.trans nextId)), (congrArg PortFE.due rests :)⟩
  · rw [← List.append_assoc]
    exact crc8_append_crc8 _

end Sys2Proof.Machine
end

section
/-! PROOFS. UL2 and UL3 frames (R103 to R113, R129). -/

namespace Sys2Proof.Machine

variable {s : State} {p : Port} {g : Gen} {alive op : Byte} {prm bytes f : List Byte} {good : Bool}

/-! ### Packets -/

theorem State.packetOf_whole {n : Nat} (short : pn f 3 1 + n ≤ 192) (length : f.length = 6 + n + pn f 3 1) : s.packetOf g n f
    = .packet g (pb f 1) (pb f 2) ((f.drop 4).take (n + pn f 3 1)) (crc16 (s.fold ++ f) == 0) f := by
  unfold State.packetOf
  rw [if_neg (by omega)]
  dsimp only
  rw [if_neg (by omega), if_neg (by omega), ← length, List.take_length]

/-- The checks of R111 that a packet of no SESSION_RESET passes, in their order. -/
theorem State.packetIn_bad (bad : good = false) :
    s.packetIn p g alive op prm bytes good = s.rejectFrame p g .crcBad (s.port p).alive ((s.port p).alive + 1) :=
  if_pos (by rw [bad]; rfl)

section
variable (intact : good = true) (other : ¬ (g = .ul2 ∧ op = 0x02 ∧ prm = []))
include intact other

theorem State.packetIn_eq : s.packetIn p g alive op prm bytes good =
    if (s.port p).opened = false then s.rejectFrame p g .sessionRequired (s.port p).alive (s.port p).alive
    else if alive ≠ (s.port p).alive then s.rejectFrame p g .aliveSkip alive (alive + 1)
    else if s.slipRoom p = false then s.rejectFrame p g .busy (s.port p).alive (alive + 1)
    else s.acceptFrame p g alive op prm bytes := by
  unfold State.packetIn
  rw [if_neg (by rw [intact]; decide), if_neg (by simpa [and_assoc] using other)]
  simp only [Bool.not_eq_true']

theorem State.packetIn_closed (closed : (s.port p).opened = false) :
    s.packetIn p g alive op prm bytes good = s.rejectFrame p g .sessionRequired (s.port p).alive (s.port p).alive :=
  (State.packetIn_eq intact other).trans (if_pos closed)

theorem State.packetIn_skip (opened : (s.port p).opened = true) (skip : alive ≠ (s.port p).alive) :
    s.packetIn p g alive op prm bytes good = s.rejectFrame p g .aliveSkip alive (alive + 1) :=
  (State.packetIn_eq intact other).trans ((if_neg (by rw [opened]; decide)).trans (if_pos skip))

theorem State.packetIn_busy (opened : (s.port p).opened = true) (next : alive = (s.port p).alive) (full : s.slipRoom p = false) :
    s.packetIn p g alive op prm bytes good = s.rejectFrame p g .busy (s.port p).alive (alive + 1) :=
  (State.packetIn_eq intact other).trans ((if_neg (by rw [opened]; decide)).trans ((if_neg (not_not.2 next)).trans (if_pos full)))

theorem State.packetIn_accept (opened : (s.port p).opened = true) (next : alive = (s.port p).alive) (room : s.slipRoom p = true) :
    s.packetIn p g alive op prm bytes good = s.acceptFrame p g alive op prm bytes :=
  (State.packetIn_eq intact other).trans ((if_neg (by rw [opened]; decide)).trans ((if_neg (not_not.2 next)).trans (if_neg (by rw [room]; decide))))

end

/-- What a port waits for after a frame of a helm's command (R27, R110). -/
def PortFE.awaits (x : PortFE) (g : Gen) (alive : Byte) (id : Nat) (eff : Word) : PortFE :=
  match g with
  | .ul3 => { x with fetch := .pending alive id eff }
  | _ => { x with due := some (.helm id alive eff) }

theorem State.acceptFrame_helm (known : op ≠ 0x02) (command : op ≠ 0x40) (mode : s.mode ≠ .moored) (helm : s.noHelm = false) :
    s.acceptFrame p g alive op prm bytes = (((((s.enter p g alive op prm bytes).modPort p
      (fun x => x.awaits g alive s.nextId (effOfOp op s.effL false))).drainReplies p).setAlive p (alive + 1)).heardNow p) := by
  unfold State.acceptFrame
  dsimp only
  rw [if_neg (fun c => known (of_decide_eq_true (Bool.and_eq_true_iff.1 c).1)), if_neg mode, if_neg command, if_neg (by rw [helm]; decide)]
  rfl

theorem State.acceptFrame_own (known : op ≠ 0x02) (mode : s.mode = .moored) (sleep : ¬ (op = 0x20 ∧ prm = [0x01])) :
    s.acceptFrame p g alive op prm bytes
      = (((s.feReply p g ⟨.modeDenied, alive, wd s.effL, [], none⟩).setAlive p (alive + 1)).heardNow p) := by
  unfold State.acceptFrame
  dsimp only
  rw [if_neg (fun c => known (of_decide_eq_true (Bool.and_eq_true_iff.1 c).1)), if_pos mode, if_neg (by simpa using sleep)]

/-- A command that enters the slips of the helms (R28, R129). -/
theorem State.acceptFrame_spec (known : op ≠ 0x02) (command : op ≠ 0x40) (mode : s.mode ≠ .moored) (helm : s.noHelm = false) :
    let t := s.acceptFrame p g alive op prm bytes
    let e : Entered := ⟨⟨p, alive, g⟩, op, prm, s.now, s.nextId, {}⟩
    Front p s t ∧ t.port p = { ({ s.port p with
        slipA := (s.port p).slipA ++ (if s.helmA.svc.inService = true then [e] else [])
        slipB := (s.port p).slipB ++ (if s.helmB.svc.inService = true then [e] else []) }).awaits g alive s.nextId (effOfOp op s.now.landing false) with
          alive := alive + 1, heardAt := some s.tb.crossing } ∧ t.nextId = s.nextId + 1 := by
  obtain ⟨enters, ePort, eId, -⟩ := s.enter_spec p g alive op prm bytes
  have waits := enters.trans (State.modPort_front _ p (fun x => x.awaits g alive s.nextId (effOfOp op s.effL false)))
  have drains := waits.trans (State.drainReplies_front _ p)
  obtain ⟨aPort, -, aId⟩ := State.setAlive_spec (((s.enter p g alive op prm bytes).modPort p
      (fun x => x.awaits g alive s.nextId (effOfOp op s.effL false))).drainReplies p) p (alive + 1)
  obtain ⟨heard, hPort, -, hId⟩ := (drains.trans (State.setAlive_front _ p (alive + 1))).heard
  have eff : s.effL = s.now.landing := if_neg mode
  rw [State.acceptFrame_helm known command mode helm]
  refine ⟨heard, hPort.trans ?_, hId.trans (aId.trans ((State.modPort_nextId ..).trans eId))⟩
  rw [aPort, State.drainReplies_port, State.modPort_port, ePort, eff]

/-- A frame that the front end answers itself, and takes as accepted (R129). -/
theorem State.own_spec (s : State) (p : Port) (g : Gen) (r : Reply) (next : Byte) :
    let t := ((s.feReply p g r).setAlive p next).heardNow p
    Front p s t ∧ t.port p = { (s.port p).reply g (s.ul2Bytes r) r with alive := next, heardAt := some s.tb.crossing } ∧ t.win = s.win
      ∧ t.nextId = s.nextId := by
  have reply := s.feReply_front p g r
  obtain ⟨rPort, rWin, rId⟩ := s.feReply_spec p g r
  obtain ⟨aPort, aWin, aId⟩ := (s.feReply p g r).setAlive_spec p next
  obtain ⟨heard, hPort, hWin, hId⟩ := (reply.trans (State.setAlive_front ..)).heard
  exact ⟨heard, hPort.trans (by rw [aPort, rPort]), hWin.trans (aWin.trans rWin), hId.trans (aId.trans rId)⟩

/-! ### UL2 -/

theorem State.framed_ul2 (first : pb f 0 = 0x96) (short : pn f 3 1 ≤ 192) (length : f.length = 6 + pn f 3 1) :
    s.framed f = .packet .ul2 (pb f 1) (pb f 2) ((f.drop 4).take (pn f 3 1)) (crc16 (s.fold ++ f) == 0) f := by
  obtain ⟨b, l, rfl⟩ := List.exists_cons_of_length_pos (by omega : 0 < f.length)
  have lead : b = 0x96 := first
  have whole := s.packetOf_whole (g := .ul2) (n := 0) short length
  rw [Nat.zero_add] at whole
  rw [← whole, lead]
  unfold State.framed
  dsimp only
  rw [if_neg (show ¬ (0x96 : Byte).toNat < 0x80 by decide), if_pos (show (0x96 : Byte).toNat = 0x96 by decide)]

/-- Settles O13: a frame passes the checks of `packetIn` one after the other; what fails is rejected with the count of that check. -/
theorem ul2Frames : Obligations.Ul2Frames := by
  intro s p f receives first short length alive op prm x good now
  have run : exec (.ul2Frame p f) s = .next ((s.packetIn p .ul2 alive op prm f (crc16 (s.fold ++ f) == 0)).taken p f.length) := by
    refine congrArg Host.Outcome.next ((State.bytesIn_eq receives).trans ?_)
    rw [State.framed_ul2 first short length]
  have isGood (k : good) : (crc16 (s.fold ++ f) == 0) = true := beq_iff_eq.2 k
  have other (k : op ≠ 0x02) : ¬ (Gen.ul2 = .ul2 ∧ op = 0x02 ∧ prm = []) := fun c => k c.2.1
  have rejected (st : Status) (echo next : Byte)
      (is : s.packetIn p .ul2 alive op prm f (crc16 (s.fold ++ f) == 0) = s.rejectFrame p .ul2 st echo next) :
      ∃ u, exec (.ul2Frame p f) s = .next u ∧ OnlyFront s u ∧ NotEntered s u p ∧ (u.port p).alive = next ∧ OwnReply s u p st echo now
        ∧ u.win = (s.countReject p st).win := by
    obtain ⟨reject, port, win⟩ := s.rejectFrame_spec p .ul2 st echo next
    obtain ⟨front, rests, win', -⟩ := reject.taken port f.length
    rw [is] at run
    exact ⟨_, run, front.only, ⟨(congrArg PortFE.slipA rests :), (congrArg PortFE.slipB rests :)⟩, (congrArg PortFE.alive rests :),
      (congrArg PortFE.due rests :), win'.trans win⟩
  refine ⟨fun intact known command opened next room mode helm => ?_, fun bad => ?_, fun intact known closed => ?_, fun intact known opened skip => ?_,
    fun intact known opened next full => ?_, fun intact sleep notSleep opened next room mode => ?_⟩
  · obtain ⟨accept, port, nextId⟩ := State.acceptFrame_spec (s := s) (p := p) (g := .ul2) (alive := alive) (prm := prm) (bytes := f) known command mode helm
    obtain ⟨front, rests, -, id⟩ := accept.taken port f.length
    rw [State.packetIn_accept (isGood intact) (other known) opened next room] at run
    have eff : effOfOp op s.now.landing false = if opIsRead op = true then wd (s.now.landing - 1) else if op = 0x70 then wd (s.now.landing + 1)
        else wd s.now.landing := by simp [effOfOp]
    refine ⟨_, run, front.only, (congrArg PortFE.alive rests :).trans (by rw [next]), ⟨(congrArg PortFE.slipA rests :), (congrArg PortFE.slipB rests :)⟩,
      id.trans nextId, (congrArg PortFE.due rests :).trans ?_, front.other⟩
    rw [← eff]
    rfl
  · obtain ⟨u, run, front, entered, next, reply, win⟩ := rejected .crcBad x (x + 1) (State.packetIn_bad (beq_eq_false_iff_ne.2 bad))
    exact ⟨u, run, front, entered, next, reply, win⟩
  · obtain ⟨u, run, front, entered, next, reply, win⟩ := rejected .sessionRequired x x (State.packetIn_closed (isGood intact) (other known) closed)
    exact ⟨u, run, front, entered, next, reply, win⟩
  · obtain ⟨u, run, front, entered, next, reply, win⟩ := rejected .aliveSkip alive (alive + 1) (State.packetIn_skip (isGood intact) (other known) opened skip)
    exact ⟨u, run, front, entered, next, reply, win⟩
  · obtain ⟨u, run, front, entered, next', reply, -⟩ := rejected .busy x (alive + 1) (State.packetIn_busy (isGood intact) (other known) opened next full)
    exact ⟨u, run, front, entered, next ▸ next', reply⟩
  · have known : op ≠ 0x02 := by rw [sleep]; decide
    have eff : s.effL = s.tb.crossing := if_pos mode
    obtain ⟨own, port, -, -⟩ := s.own_spec p .ul2 ⟨.modeDenied, alive, wd s.effL, [], none⟩ (alive + 1)
    obtain ⟨front, rests, -, -⟩ := own.taken port f.length
    rw [State.packetIn_accept (isGood intact) (other known) opened next room, State.acceptFrame_own known mode (fun c => notSleep c.2)] at run
    refine ⟨_, run, front.only, ⟨(congrArg PortFE.slipA rests :), (congrArg PortFE.slipB rests :)⟩, (congrArg PortFE.alive rests :).trans (by rw [next]),
      (congrArg PortFE.due rests :).trans ?_⟩
    rw [eff]
    rfl

/-! ### UL3 -/

theorem State.framed_ul3 (first : 0xC0 ≤ (pb f 0).toNat) (request : isFetch (pb f 0) = false) (dir : (pb f 0).getLsbD 0 = false)
    (short : addrBytes (pb f 0) + pn f 3 1 ≤ 192) (length : f.length = 6 + addrBytes (pb f 0) + pn f 3 1) : s.framed f
    = .packet .ul3 (pb f 1) (pb f 2) ((f.drop 4).take (addrBytes (pb f 0) + pn f 3 1)) (crc16 (s.fold ++ f) == 0) f := by
  obtain ⟨b, l, rfl⟩ := List.exists_cons_of_length_pos (by omega : 0 < f.length)
  rw [← s.packetOf_whole (by omega) length]
  have lead : 0xC0 ≤ b.toNat := first
  unfold State.framed
  dsimp only
  rw [if_neg (by omega), if_neg (by omega), if_neg (by omega), show isFetch b = false from request, show b.getLsbD 0 = false from dir]
  rfl

theorem State.framed_fetch (fetch : isFetch (pb f 0) = true) (plain : (pb f 0).getLsbD 2 = false) (length : f.length = 5) :
    s.framed f = .fetch (pb f 1) (pb f 2) (crc16 (s.fold ++ f) == 0) := by
  obtain ⟨b, l, rfl⟩ := List.exists_cons_of_length_eq_add_one length
  have is : isFetch b = true := fetch
  have lead : 0xC0 ≤ b.toNat := by
    unfold isFetch at is
    exact of_decide_eq_true (Bool.and_eq_true_iff.1 is).1
  unfold State.framed
  dsimp only
  rw [if_neg (by omega), if_neg (by omega), if_neg (by omega), if_pos is, show b.getLsbD 2 = false from plain, if_neg (by decide), if_neg (by omega),
    ← length, List.take_length]

/-- The reply due is kept for the next frame (R97). -/
theorem State.keepDue_spec (s : State) (p : Port) : let t := s.keepDue p
    t.port p = { s.port p with due := (t.port p).due, head := (t.port p).head, sending := none, sendId := none } ∧ t.win = s.win
      ∧ t.nextId = s.nextId := by
  intro t
  have port : t.port p = _ := State.modPort_port ..
  exact ⟨by rw [port], State.modPort_win .., State.modPort_nextId ..⟩

end Sys2Proof.Machine
end

section
/-! PROOFS. UL3 requests and fetches (R106 to R110). -/

namespace Sys2Proof.Machine

variable {s v : State} {p : Port} {alive req : Byte} {f : List Byte} {good : Bool}

/-! ### The data phase of a fetch -/

/-- A reply in the data phase of a fetch (R109). -/
def State.fetchSends (s : State) (p : Port) (r : Reply) : State := s.modPort p (fun f => { f with sending := some (s.ul3Bytes r), sendId := none })

theorem Front.fetchSends (front : Front p s v) (r : Reply) : Front p s (v.fetchSends p r)
    ∧ (v.fetchSends p r).port p = { v.port p with sending := some (s.ul3Bytes r), sendId := none } ∧ (v.fetchSends p r).win = v.win := by
  refine ⟨front.trans (State.modPort_front ..), ?_, State.modPort_win ..⟩
  rw [← front.ul3Bytes]
  exact State.modPort_port ..

/-- The reply to a fetch for which the buffer has none (R110). -/
def State.gone (s : State) (req : Byte) : Reply := ⟨.replyGone, req, wd s.tb.crossing, [], none⟩

/-- The port once a fetch is accepted (R113). -/
def State.fetched (s : State) (p : Port) (alive : Byte) : State := (s.setAlive p (alive + 1)).heardNow p

theorem State.fetched_spec (s : State) (p : Port) (alive : Byte) : Front p s (s.fetched p alive)
    ∧ (s.fetched p alive).port p = { s.port p with alive := alive + 1, heardAt := some s.tb.crossing } ∧ (s.fetched p alive).win = s.win := by
  obtain ⟨port, win, -⟩ := s.setAlive_spec p (alive + 1)
  obtain ⟨front, hPort, hWin, -⟩ := (s.setAlive_front p (alive + 1)).heard
  exact ⟨front, hPort.trans (by rw [port]), hWin.trans win⟩

theorem State.helmReply_congr {s t : State} (holder : t.holder = s.holder) (slips : ∀ h, (t.helm h).slip p = (s.helm h).slip p) (id : Nat) :
    t.helmReply p id = s.helmReply p id := by
  unfold State.helmReply
  rw [holder]
  cases s.holder with
  | none => rfl
  | some h => exact congrArg (assocGet · id) (slips h)

theorem State.fetched_reply (s : State) (p : Port) (alive : Byte) (id : Nat) : (s.fetched p alive).helmReply p id = s.helmReply p id := by
  obtain ⟨front, -, -⟩ := s.fetched_spec p alive
  refine State.helmReply_congr front.holder (fun h => ?_) id
  unfold State.fetched State.heardNow
  split
  · exact congrArg (Helm.slip · p) (State.modPort_helm ..)
  · rw [State.raiseEv_helm, State.modPort_helm]
    refine Eq.trans ?_ (congrArg (Helm.slip · p) (State.modPort_helm s p (fun f => { f with alive := alive + 1 }) h))
    cases p <;> rfl

theorem State.fetchIn_bad (bad : good = false) : s.fetchIn p alive req good
    = ((s.countReject p .crcBad).setAlive p ((s.port p).alive + 1)).fetchSends p ⟨.crcBad, (s.port p).alive, wd s.tb.crossing, [], none⟩ :=
  if_pos (by rw [bad]; rfl)

section
variable (intact : good = true) (opened : (s.port p).opened = true) (next : alive = (s.port p).alive)
include intact opened next

theorem State.fetchIn_eq : s.fetchIn p alive req good = match ((s.fetched p alive).port p).fetch with
    | .ready a r => if a = req then (s.fetched p alive).fetchSends p r else (s.fetched p alive).fetchSends p ((s.fetched p alive).gone req)
    | .pending a id eff =>
      if a ≠ req then (s.fetched p alive).fetchSends p ((s.fetched p alive).gone req)
      else match (s.fetched p alive).helmReply p id with
        | some r => (((s.fetched p alive).modPort p (fun f => { f with fetch := .ready a r })).drainReplies p).fetchSends p r
        | none => (s.fetched p alive).fetchSends p ⟨.acceptedPending, req, eff, [], none⟩
    | .empty => (s.fetched p alive).fetchSends p ((s.fetched p alive).gone req) := by
  unfold State.fetchIn
  dsimp only
  rw [if_neg (by rw [intact]; decide), if_neg (by rw [opened]; decide), if_neg (not_not.2 next)]
  rfl

theorem State.fetchIn_ready {a : Byte} {r : Reply} (fetch : (s.port p).fetch = .ready a r) : s.fetchIn p alive req good
    = (s.fetched p alive).fetchSends p (if a = req then r else s.gone req) := by
  obtain ⟨front, port, -⟩ := s.fetched_spec p alive
  have same : ((s.fetched p alive).port p).fetch = .ready a r := by rw [port]; exact fetch
  have gone : (s.fetched p alive).gone req = s.gone req := by unfold State.gone; rw [front.tb]
  rw [State.fetchIn_eq intact opened next, same, gone]
  dsimp only
  split <;> rfl

theorem State.fetchIn_empty (fetch : (s.port p).fetch = .empty) : s.fetchIn p alive req good = (s.fetched p alive).fetchSends p (s.gone req) := by
  obtain ⟨front, port, -⟩ := s.fetched_spec p alive
  have same : ((s.fetched p alive).port p).fetch = .empty := by rw [port]; exact fetch
  have gone : (s.fetched p alive).gone req = s.gone req := by unfold State.gone; rw [front.tb]
  rw [State.fetchIn_eq intact opened next, same, gone]

theorem State.fetchIn_pending {a : Byte} {id : Nat} {eff : Word} (fetch : (s.port p).fetch = .pending a id eff) : s.fetchIn p alive req good
    = if a ≠ req then (s.fetched p alive).fetchSends p (s.gone req)
      else match s.helmReply p id with
        | some r => (((s.fetched p alive).modPort p (fun f => { f with fetch := .ready a r })).drainReplies p).fetchSends p r
        | none => (s.fetched p alive).fetchSends p ⟨.acceptedPending, req, eff, [], none⟩ := by
  obtain ⟨front, port, -⟩ := s.fetched_spec p alive
  have same : ((s.fetched p alive).port p).fetch = .pending a id eff := by rw [port]; exact fetch
  have gone : (s.fetched p alive).gone req = s.gone req := by unfold State.gone; rw [front.tb]
  rw [State.fetchIn_eq intact opened next, same, gone]
  dsimp only
  rw [State.fetched_reply]

end

/-! ### UL3 -/

/-- The port as a fetch finds it (R97, R107). -/
def State.fetches (s : State) (p : Port) (b : Byte) : State :=
  (s.keepDue p).modPort p (fun x => { x with lanes := b.toNat / 8 % 4, dummies := 4 * (b.toNat % 4 + 1) })

theorem State.fetches_spec (s : State) (p : Port) (b : Byte) : let t := s.fetches p b
    Front p s t ∧ t.port p = { s.port p with
      due := (t.port p).due, head := (t.port p).head, sending := none, sendId := none
      lanes := (t.port p).lanes, dummies := (t.port p).dummies } ∧ t.win = s.win := by
  intro t
  obtain ⟨port, win, -⟩ := s.keepDue_spec p
  have tPort : t.port p = _ := State.modPort_port (s.keepDue p) p _
  refine ⟨(s.keepDue_front p).trans (State.modPort_front ..), ?_, (State.modPort_win ..).trans win⟩
  rw [tPort, port]

theorem State.fetches_reply (s : State) (p : Port) (b : Byte) (id : Nat) : (s.fetches p b).helmReply p id = s.helmReply p id :=
  State.helmReply_congr (s.fetches_spec p b).1.holder
    (fun _ => congrArg (Helm.slip · p) ((State.modPort_helm ..).trans (State.modPort_helm ..))) id

/-- What a fetch leaves of its port, but for its fetch buffer and the reply that it sends. -/
def PortFE.cleaned (x : PortFE) : PortFE :=
  { x with
    done := false, sending := none, sendId := none, heardAt := none, alive := 0, fetch := .empty, due := none
    clocked := 0, head := [], lanes := 0, dummies := 0 }

/-- A fetch answered with the buffer as it is (R109, R110). -/
theorem State.fetch_answered (s : State) (p : Port) (b alive : Byte) (r : Reply) (n : Nat) :
    let u := (((s.fetches p b).fetched p alive).fetchSends p r).taken p n
    OnlyFront s u ∧ (u.port p).sending = some (s.ul3Bytes r) ∧ (u.port p).fetch = (s.port p).fetch ∧ (u.port p).alive = alive + 1
      ∧ (u.port p).cleaned = (s.port p).cleaned := by
  obtain ⟨fetches, fPort, -⟩ := s.fetches_spec p b
  obtain ⟨fetched, gPort, -⟩ := (s.fetches p b).fetched_spec p alive
  obtain ⟨sends, sPort, -⟩ := (fetches.trans fetched).fetchSends r
  obtain ⟨front, rests, -, -⟩ := sends.taken (sPort.trans (by rw [gPort, fPort])) n
  exact ⟨front.only, (congrArg PortFE.sending rests :), (congrArg PortFE.fetch rests :), (congrArg PortFE.alive rests :),
    (congrArg PortFE.cleaned rests :)⟩

/-- A fetch answered with the reply that the holder has by then (R110). -/
theorem State.fetch_drawn (s : State) (p : Port) (b alive a : Byte) (r : Reply) (n : Nat) :
    let u := (((((s.fetches p b).fetched p alive).modPort p (fun f => { f with fetch := .ready a r })).drainReplies p).fetchSends p r).taken p n
    OnlyFront s u ∧ (u.port p).sending = some (s.ul3Bytes r) ∧ (u.port p).fetch = .ready a r := by
  obtain ⟨fetches, -, -⟩ := s.fetches_spec p b
  obtain ⟨fetched, -, -⟩ := (s.fetches p b).fetched_spec p alive
  obtain ⟨sends, sPort, -⟩ := (((fetches.trans fetched).trans (State.modPort_front _ p (fun f => { f with fetch := .ready a r }))).trans
    (State.drainReplies_front ..)).fetchSends r
  obtain ⟨front, rests, -, -⟩ := sends.taken (sPort.trans (by rw [State.drainReplies_port, State.modPort_port])) n
  exact ⟨front.only, (congrArg PortFE.sending rests :), (congrArg PortFE.fetch rests :)⟩

/-- A fetch whose own CRC fails (R112). -/
theorem State.fetch_rejected (s : State) (p : Port) (b : Byte) (n : Nat) :
    let x := (s.port p).alive
    let r : Reply := ⟨.crcBad, x, wd s.tb.crossing, [], none⟩
    let u := (((((s.fetches p b).countReject p .crcBad).setAlive p (x + 1))).fetchSends p r).taken p n
    OnlyFront s u ∧ (u.port p).fetch = (s.port p).fetch ∧ (u.port p).sending = some (s.ul3Bytes r) ∧ (u.port p).alive = x + 1
      ∧ u.win = s.winWith (portStatusAddr p) 16 := by
  intro x r
  obtain ⟨fetches, fPort, fWin⟩ := s.fetches_spec p b
  obtain ⟨cPort, -⟩ := (s.fetches p b).countReject_port p p .crcBad
  obtain ⟨aPort, aWin, -⟩ := ((s.fetches p b).countReject p .crcBad).setAlive_spec p (x + 1)
  obtain ⟨sends, sPort, sWin⟩ := ((fetches.trans (State.countReject_front _ p .crcBad)).trans (State.setAlive_front _ p (x + 1))).fetchSends r
  obtain ⟨front, rests, win, -⟩ := sends.taken (sPort.trans (by rw [aPort, cPort, fPort])) n
  exact ⟨front.only, (congrArg PortFE.fetch rests :), (congrArg PortFE.sending rests :), (congrArg PortFE.alive rests :),
    win.trans (sWin.trans (aWin.trans (fetches.winWith fWin ..)))⟩

/-- Settles O14: a request takes the branches of `packetIn`, a fetch those of `fetchIn`; what the port drove before goes with the next
frame. -/
theorem ul3Frames : Obligations.Ul3Frames := by
  intro s p f receives mode opened next aw op clean
  have request (first : 0xC0 ≤ (pb f 0).toNat) (packet : isFetch (pb f 0) = false) (dir : (pb f 0).getLsbD 0 = false)
      (short : aw + pn f 3 1 ≤ 192) (length : f.length = 6 + aw + pn f 3 1) : exec (.ul3Request p f) s = .next
        (((s.keepDue p).packetIn p .ul3 (pb f 1) op ((f.drop 4).take (aw + pn f 3 1)) f (crc16 (s.fold ++ f) == 0)).taken p f.length) := by
    refine congrArg Host.Outcome.next ((State.bytesIn_eq receives).trans ?_)
    rw [State.framed_ul3 first packet dir short length]
  have fetch (is : isFetch (pb f 0) = true) (plain : (pb f 0).getLsbD 2 = false) (length : f.length = 5) : exec (.ul3Fetch p f) s = .next
        (((s.fetches p (pb f 0)).fetchIn p (pb f 1) (pb f 2) (crc16 (s.fold ++ f) == 0)).taken p f.length) := by
    refine congrArg Host.Outcome.next ((State.bytesIn_eq receives).trans ?_)
    rw [State.framed_fetch is plain length]
    rfl
  have keeps := s.keepDue_front p
  obtain ⟨kPort, kWin, kId⟩ := s.keepDue_spec p
  have kOpened : ((s.keepDue p).port p).opened = true := (congrArg PortFE.opened kPort :).trans opened
  have kAlive : ((s.keepDue p).port p).alive = (s.port p).alive := (congrArg PortFE.alive kPort :)
  obtain ⟨fetches, fPort, -⟩ := s.fetches_spec p (pb f 0)
  have fOpened : ((s.fetches p (pb f 0)).port p).opened = true := (congrArg PortFE.opened fPort :).trans opened
  have fAlive : ((s.fetches p (pb f 0)).port p).alive = (s.port p).alive := (congrArg PortFE.alive fPort :)
  have fFetch : ((s.fetches p (pb f 0)).port p).fetch = (s.port p).fetch := (congrArg PortFE.fetch fPort :)
  have gone : (s.fetches p (pb f 0)).gone (pb f 2) = ⟨.replyGone, pb f 2, wd s.tb.crossing, [], none⟩ := by
    unfold State.gone
    rw [fetches.tb]
  refine ⟨fun first packet dir short length intact known command room helm => ?_, fun is plain length intact => ⟨fun r ready => ?_, fun a r ready other => ?_,
    fun empty => ?_, fun a id e pending => ?_⟩, fun is plain length bad => ?_, fun first packet dir short length bad => ?_⟩
  · have run := request first packet dir short length
    rw [State.packetIn_accept (beq_iff_eq.2 intact) (show ¬ (Gen.ul3 = .ul2 ∧ op = 0x02 ∧ (f.drop 4).take (aw + pn f 3 1) = []) from fun c => nomatch c.1) kOpened (next.trans kAlive.symm)
      ((keeps.slipRoom (congrArg PortFE.slipA kPort :) (congrArg PortFE.slipB kPort :)).trans room)] at run
    obtain ⟨accept, port, -⟩ := State.acceptFrame_spec (s := s.keepDue p) (p := p) (g := .ul3) (alive := pb f 1) (prm := (f.drop 4).take (aw + pn f 3 1))
      (bytes := f) known command (fun m => mode (keeps.mode.symm.trans m)) (keeps.noHelm.trans helm)
    have svcA : (s.keepDue p).helmA.svc = s.helmA.svc := keeps.svc .a
    have svcB : (s.keepDue p).helmB.svc = s.helmB.svc := keeps.svc .b
    rw [kId, keeps.now, svcA, svcB] at port
    obtain ⟨front, rests, -, -⟩ := (keeps.trans accept).taken port f.length
    refine ⟨_, run, front.only, ⟨(congrArg PortFE.slipA rests :).trans ?_, (congrArg PortFE.slipB rests :).trans ?_⟩, (congrArg PortFE.fetch rests :),
      (congrArg PortFE.alive rests :).trans (by rw [next])⟩
    · rw [kPort]
      rfl
    · rw [kPort]
      rfl
  · have run := fetch is plain length
    rw [State.fetchIn_ready (beq_iff_eq.2 intact) fOpened (next.trans fAlive.symm) (fFetch.trans ready), if_pos rfl] at run
    obtain ⟨front, sends, kept, alive, cleaned⟩ := s.fetch_answered p (pb f 0) (pb f 1) r f.length
    exact ⟨_, run, front, sends, kept, alive.trans (by rw [next]), cleaned⟩
  · have run := fetch is plain length
    rw [State.fetchIn_ready (beq_iff_eq.2 intact) fOpened (next.trans fAlive.symm) (fFetch.trans ready), if_neg other, gone] at run
    obtain ⟨front, sends, kept, -, cleaned⟩ := s.fetch_answered p (pb f 0) (pb f 1) ⟨.replyGone, pb f 2, wd s.tb.crossing, [], none⟩ f.length
    exact ⟨_, run, front, sends, kept, cleaned⟩
  · have run := fetch is plain length
    rw [State.fetchIn_empty (beq_iff_eq.2 intact) fOpened (next.trans fAlive.symm) (fFetch.trans empty), gone] at run
    obtain ⟨front, sends, kept, -, -⟩ := s.fetch_answered p (pb f 0) (pb f 1) ⟨.replyGone, pb f 2, wd s.tb.crossing, [], none⟩ f.length
    exact ⟨_, run, front, sends, kept.trans empty⟩
  · have run := fetch is plain length
    rw [State.fetchIn_pending (beq_iff_eq.2 intact) fOpened (next.trans fAlive.symm) (fFetch.trans pending), gone, State.fetches_reply] at run
    by_cases other : a ≠ pb f 2
    · rw [if_pos other] at run
      obtain ⟨front, sends, kept, -, -⟩ := s.fetch_answered p (pb f 0) (pb f 1) ⟨.replyGone, pb f 2, wd s.tb.crossing, [], none⟩ f.length
      exact ⟨_, run, front, fun _ => ⟨kept, sends⟩, fun same => absurd same other, fun same => absurd same other⟩
    · rw [if_neg other] at run
      cases reply : s.helmReply p id with
      | none =>
        rw [reply] at run
        obtain ⟨front, sends, kept, -, -⟩ := s.fetch_answered p (pb f 0) (pb f 1) ⟨.acceptedPending, pb f 2, e, [], none⟩ f.length
        exact ⟨_, run, front, fun no => absurd no other, fun _ _ => ⟨kept, sends⟩, nofun⟩
      | some r =>
        rw [reply] at run
        obtain ⟨front, sends, drawn⟩ := s.fetch_drawn p (pb f 0) (pb f 1) a r f.length
        refine ⟨_, run, front, fun no => absurd no other, nofun, fun _ r' same => ?_⟩
        cases same
        exact ⟨drawn, sends⟩
  · have run := fetch is plain length
    rw [State.fetchIn_bad (beq_eq_false_iff_ne.2 bad), fAlive, fetches.tb] at run
    obtain ⟨front, kept, sends, alive, win⟩ := s.fetch_rejected p (pb f 0) f.length
    exact ⟨_, run, front, kept, sends, alive, win⟩
  · have run := request first packet dir short length
    rw [State.packetIn_bad (beq_eq_false_iff_ne.2 bad), kAlive] at run
    obtain ⟨reject, port, win⟩ := (s.keepDue p).rejectFrame_spec p .ul3 .crcBad (s.port p).alive ((s.port p).alive + 1)
    rw [keeps.tb, kPort] at port
    obtain ⟨front, rests, win', -⟩ := (keeps.trans reject).taken port f.length
    exact ⟨_, run, front.only, ⟨(congrArg PortFE.slipA rests :), (congrArg PortFE.slipB rests :)⟩, (congrArg PortFE.alive rests :),
      win'.trans (win.trans (keeps.winWith kWin ..)), (congrArg PortFE.fetch rests :)⟩

end Sys2Proof.Machine
end

section
/-! PROOFS. Select periods, sessions and check-ins (R92 to R98, R114, R118 to R120, R161). -/

namespace Sys2Proof.Machine

variable {s : State} {p : Port}

/-! ### Select periods -/

/-- The port as a select period begins with a reply or none (R92, R96). -/
def State.selStarts (s : State) (p : Port) (bs : Option (List Byte)) (c : Option Nat) : State :=
  s.modPort p (fun f => { f with
    sel := true, done := false, clocked := 0, head := [], lanes := 0, dummies := 0, sending := bs, sendId := c })

theorem State.selDown_none (due : (s.port p).due = none) : s.selDown p = s.selStarts p none none := by
  unfold State.selDown
  rw [due]
  rfl

theorem State.selDown_raw {bs : List Byte} {c : Option Nat} (due : (s.port p).due = some (.raw bs c)) : s.selDown p = s.selStarts p (some bs) c := by
  unfold State.selDown
  rw [due]
  rfl

theorem State.selDown_reply {id : Nat} {a : Byte} {e : Word} {r : Reply} (due : (s.port p).due = some (.helm id a e))
    (reply : s.helmReply p id = some r) : s.selDown p = s.selStarts p (some (s.ul2Bytes r)) r.clr := by
  unfold State.selDown
  rw [due]
  dsimp only
  rw [reply]
  rfl

theorem State.selDown_pending {id : Nat} {a : Byte} {e : Word} (due : (s.port p).due = some (.helm id a e))
    (reply : s.helmReply p id = none) : s.selDown p = s.selStarts p (some (s.ul2Bytes ⟨.acceptedPending, a, e, [], none⟩)) none := by
  unfold State.selDown
  rw [due]
  dsimp only
  rw [reply]
  rfl

/-- What the lanes showed of a reply (R98). -/
def PortFE.shown (f : PortFE) (n : Nat) : List Byte := ((f.sending.getD []).take n) ++ List.replicate (n - (f.sending.getD []).length) 0xFF

/-- The port after a select period with edges (R114). -/
def PortFE.ended (f : PortFE) (n : Nat) : PortFE :=
  { f with
    sel := false
    done := false
    driven := if f.head.isEmpty then f.shown n else f.head ++ (if f.dummies = 0 then [] else f.shown n)
    io := if f.dummies ≠ 0 then (f.shown n).flatMap (onLanes f.lanes) else []
    sending := none
    sendId := none }

theorem State.selUp_edges {n : Nat} {got : List Byte} {part : List Bool} (on : s.portOn = true) (sel : (s.port p).sel = true) :
    s.selUp p true n got part =
      if ((s.bytesIn p got).port p).done = true then ((s.bytesIn p got).endReply p n).modPort p (fun f => f.ended n)
      else ((if genOf got part = .ul3 then (s.bytesIn p got).keepDue p else (s.bytesIn p got).endReply p n).cutFrame p got part).modPort p
        (fun f => f.ended n) := by
  unfold State.selUp
  rw [if_neg (by rw [on, sel]; decide)]
  dsimp only
  rw [if_neg (by decide)]
  simp only [Bool.true_and, decide_eq_true_eq]
  rfl

theorem State.bytesIn_done {got : List Byte} (on : s.portOn = true) (sel : (s.port p).sel = true) (done : (s.port p).done = true) :
    s.bytesIn p got = s.clockOut p got.length := by
  unfold State.bytesIn
  rw [if_neg (by rw [on]; decide), sel]
  dsimp only
  rw [if_pos rfl, if_pos done]

theorem State.bytesIn_unfinished {got : List Byte} (on : s.portOn = true) (sel : (s.port p).sel = true) (done : (s.port p).done = false)
    (framed : s.framed got = .unfinished) : s.bytesIn p got = if genOf got [] = .ul3 then s else s.clockTo p got.length := by
  rw [State.bytesIn_eq ⟨on, sel, done⟩, framed]

theorem State.endReply_cut {n : Nat} {bs : List Byte} (sending : (s.port p).sending = some bs) (cut : n < bs.length) :
    s.endReply p n = s.rcAdd (portStatusAddr p) 0 1 := by
  unfold State.endReply
  dsimp only
  rw [sending]
  exact if_pos cut

theorem State.endReply_none {n : Nat} (sending : (s.port p).sending = none) : s.endReply p n = s := by
  unfold State.endReply
  dsimp only
  rw [sending]

theorem State.endReply_whole {n : Nat} {bs : List Byte} (sending : (s.port p).sending = some bs) (whole : bs.length ≤ n) :
    s.endReply p n = match (s.port p).sendId with
      | some id => s.raiseEv s.now (.rcClear id)
      | none => s := by
  unfold State.endReply
  dsimp only
  rw [sending]
  exact if_neg (Nat.not_lt.2 whole)

section
variable {n : Nat} {got : List Byte} {part : List Bool} (on : s.portOn = true) (sel : (s.port p).sel = true)
include on sel

section
variable {bs : List Byte} (done : (s.port p).done = true) (sending : (s.port p).sending = some bs)
include done sending

theorem State.selUp_cut (clocked : (s.port p).clocked + got.length ≤ n) (cut : n < bs.length) : ∃ u, s.selUp p true n got part = u ∧ u.win = s.winWith (portStatusAddr p) 0
    ∧ (u.port p).sel = false ∧ ((s.port p).head = [] → (u.port p).driven = bs.take n) ∧ ∀ h, u.helm h = s.helm h := by
  have idle : s.bytesIn p got = s.clocks p got.length := by
    rw [State.bytesIn_done on sel done]
    refine State.clockOut_idle fun bs' id some_ _ => ?_
    rw [sending] at some_
    cases some_
    exact Nat.lt_of_le_of_lt clocked cut
  have port := s.clocks_port p got.length
  refine ⟨_, rfl, ?_⟩
  rw [State.selUp_edges on sel, idle, if_pos (by rw [port]; exact done), State.endReply_cut (bs := bs) (by rw [port]; exact sending) cut]
  refine ⟨?_, ?_, fun head => ?_, fun h => ?_⟩
  · exact (State.modPort_win ..).trans ((s.clocks_front ..).winWith (State.modPort_win ..) ..)
  · rw [State.modPort_port]
    rfl
  · rw [State.modPort_port, State.rcAdd_port, port]
    show (if (s.port p).head.isEmpty = true then ((s.port p).sending.getD []).take n ++ List.replicate (n - ((s.port p).sending.getD []).length) 0xFF
      else _) = _
    rw [head, List.isEmpty_nil, if_pos rfl, sending, Option.getD_some, Nat.sub_eq_zero_of_le (Nat.le_of_lt cut), List.replicate_zero, List.append_nil]
  · have clocks : (s.clocks p got.length).helm h = s.helm h := State.modPort_helm ..
    refine (State.modPort_helm ..).trans (Eq.trans ?_ clocks)
    cases h <;> rfl

theorem State.selUp_sent {id : Nat} (whole : bs.length ≤ n) (sendId : (s.port p).sendId = some id) : ∃ w, Front p s w ∧ w.win = s.win
    ∧ (∀ h, w.helm h = s.helm h) ∧ s.selUp p true n got part = (w.raiseEv s.now (.rcClear id)).modPort p (fun f => f.ended n) := by
  have port := s.clocks_port p got.length
  have clocks := s.clocks_front p got.length
  rw [State.selUp_edges on sel, State.bytesIn_done on sel done]
  by_cases full : bs.length ≤ (s.port p).clocked + got.length
  · refine ⟨(s.clocks p got.length).modPort p (fun f => { f with sendId := none }), clocks.trans (State.modPort_front ..),
      (State.modPort_win ..).trans (State.modPort_win ..), fun h => (State.modPort_helm ..).trans (State.modPort_helm ..), ?_⟩
    rw [State.clockOut_sent sending sendId full, clocks.now]
    have after : (((s.clocks p got.length).modPort p (fun f => { f with sendId := none })).raiseEv s.now (.rcClear id)).port p
        = { s.port p with clocked := (s.port p).clocked + got.length, sendId := none } := by
      rw [State.raiseEv_port, State.modPort_port, port]
    rw [if_pos (by rw [after]; exact done), State.endReply_whole (bs := bs) (by rw [after]; exact sending) whole, after]
  · refine ⟨s.clocks p got.length, clocks, State.modPort_win .., fun h => State.modPort_helm .., ?_⟩
    have idle : s.clockOut p got.length = s.clocks p got.length := by
      refine State.clockOut_idle fun bs' id' some_ _ => ?_
      rw [sending] at some_
      cases some_
      exact Nat.lt_of_not_le full
    have still : ((s.clocks p got.length).port p).sendId = some id := by rw [port]; exact sendId
    rw [idle, if_pos (by rw [port]; exact done), State.endReply_whole (bs := bs) (by rw [port]; exact sending) whole, still, clocks.now]

end

/-- A UL2 frame cut off before it was whole (R111 to R114). -/
theorem State.selUp_frameCut (done : (s.port p).done = false) (sending : (s.port p).sending = none) (framed : s.framed got = .unfinished)
    (gen : genOf got part = .ul2) : ∃ v, Front p s v ∧ v.win = s.win ∧ (v.port p) = { s.port p with clocked := (v.port p).clocked, sendId := (v.port p).sendId }
      ∧ s.selUp p true n got part = (v.rejectFrame p .ul2 .frameCut (s.port p).alive (if 2 ≤ got.length then (s.port p).alive + 1 else (s.port p).alive)).modPort p
        (fun f => f.ended n) := by
  obtain ⟨v, came, front, win, port⟩ : ∃ v, s.bytesIn p got = v ∧ Front p s v ∧ v.win = s.win
      ∧ (v.port p) = { s.port p with clocked := (v.port p).clocked, sendId := (v.port p).sendId } := by
    refine ⟨_, rfl, ?_⟩
    rw [State.bytesIn_unfinished on sel done framed]
    split
    · exact ⟨.refl p s, rfl, rfl⟩
    · obtain ⟨front, port, win, -⟩ := s.clockOut_spec p (got.length - (s.port p).clocked)
      exact ⟨front, win, port⟩
  refine ⟨v, front, win, port, ?_⟩
  have alive : (v.port p).alive = (s.port p).alive := (congrArg PortFE.alive port :)
  rw [State.selUp_edges on sel, came, if_neg (by rw [port, done]; decide), if_neg (by rw [gen]; decide),
    State.endReply_none (by rw [port]; exact sending)]
  unfold State.cutFrame
  dsimp only
  rw [gen, alive]

end

/-- Settles O15: a select period is a chain of steps of the front end; which of them sends the reply's last byte decides its event. -/
theorem selectPeriods : Obligations.SelectPeriods := by
  intro s p n got part on x starts
  refine ⟨fun sel => ?_, fun sel => ⟨?_, fun bs done sending clocked => ⟨fun cut => ?_, fun id whole sendId => ?_⟩, fun done sending framed gen => ?_⟩⟩
  · have falls : exec (.selFall p) s = .next (s.selDown p) := if_pos (by rw [on, show (s.port p).sel = false from sel]; rfl)
    exact ⟨fun due => falls.trans (congrArg _ (State.selDown_none due)), fun bs c due => falls.trans (congrArg _ (State.selDown_raw due)),
      fun id a e r due reply => falls.trans (congrArg _ (State.selDown_reply due reply)),
      fun id a e due reply => falls.trans (congrArg _ (State.selDown_pending due reply))⟩
  · exact congrArg Host.Outcome.next ((if_neg (by rw [on, show (s.port p).sel = true from sel]; decide)).trans (if_pos rfl))
  · obtain ⟨u, is, win, ended, driven, helms⟩ := State.selUp_cut (got := got) (part := part) on sel done sending clocked cut
    exact ⟨u, congrArg Host.Outcome.next is, win, ended, driven, helms⟩
  · obtain ⟨w, front, win, helms, is⟩ := State.selUp_sent (got := got) (part := part) on sel done sending whole sendId
    refine ⟨_, congrArg Host.Outcome.next is, (State.modPort_win ..).trans win, fun h => ?_, by rw [State.modPort_port]; rfl⟩
    rw [State.modPort_helm, State.raiseEv_helm, helms]
  · obtain ⟨v, front, vWin, port, is⟩ := State.selUp_frameCut (n := n) on sel done sending framed gen
    obtain ⟨reject, rPort, rWin⟩ := v.rejectFrame_spec p .ul2 .frameCut (s.port p).alive (if 2 ≤ got.length then (s.port p).alive + 1 else (s.port p).alive)
    have after := front.trans reject
    have ends := State.modPort_port (v.rejectFrame p .ul2 .frameCut (s.port p).alive (if 2 ≤ got.length then (s.port p).alive + 1 else (s.port p).alive)) p
      (fun f => f.ended n)
    rw [rPort, front.ul2Bytes, front.tb, port] at ends
    exact ⟨_, congrArg Host.Outcome.next is, (after.trans (State.modPort_front ..)).only, ⟨(congrArg PortFE.slipA ends :), (congrArg PortFE.slipB ends :)⟩,
      (State.modPort_win ..).trans (rWin.trans (front.winWith vWin ..)), (congrArg PortFE.due ends :), (congrArg PortFE.alive ends :)⟩

end Sys2Proof.Machine
end

section
/-! PROOFS. Sessions and check-ins (R118 to R120, R161). -/

namespace Sys2Proof.Machine

variable {s : State} {p : Port}

/-- A session opened (R118 to R120). -/
theorem State.sessionIn_spec (s : State) (p : Port) (a : Byte) : ∃ v st, Front p s v ∧ v.nextId = s.nextId
    ∧ v.port p = { s.port p with
      opened := true, alive := a + 1, slipA := [], slipB := [], fetch := .empty, heardAt := some s.tb.crossing
      due := some (.raw (s.ul2Bytes ⟨.ok, a, wd s.effL, bytesOfWords [s.sessionWord, st], none⟩) none) }
    ∧ s.sessionIn p a = v.raiseEv s.now (.sessionReset p s.nextId) := by
  let st := mergeRc s.win.rc (portStatusAddr p) (s.portStatus (match s.holder with | some h => (s.helm h).hs | none => {}) p)
  let u := s.modPort p (fun f => { f with opened := true, alive := a + 1, slipA := [], slipB := [], fetch := .empty })
  let r : Reply := ⟨.ok, a, wd s.effL, bytesOfWords [s.sessionWord, st], none⟩
  have opens : Front p s u := State.modPort_front ..
  have uPort : u.port p = { s.port p with opened := true, alive := a + 1, slipA := [], slipB := [], fetch := .empty } := State.modPort_port ..
  have uId : u.nextId = s.nextId := State.modPort_nextId ..
  obtain ⟨rPort, -, rId⟩ := u.feReply_spec p .ul2 r
  obtain ⟨heard, hPort, -, hId⟩ := (opens.trans (State.feReply_front u p .ul2 r)).heard
  refine ⟨(u.feReply p .ul2 r).heardNow p, st, heard, hId.trans (rId.trans uId), ?_, ?_⟩
  · rw [hPort, rPort, uPort, opens.ul2Bytes]
    rfl
  · rw [← opens.now, ← uId]
    rfl

/-- The status of a check-in (R161). -/
def State.tollStatus (s : State) (p : Port) (prm : List Byte) : Status :=
  if prm.length ≠ 3 then .paramBad else if 8 ≤ (s.port p).toll.length then .busy else .ok

/-- A check-in that enters its slip (R25). -/
def State.tolled (s : State) (p : Port) (prm : List Byte) : State :=
  s.modPort p (fun f => { f with toll := f.toll ++ [⟨wd (natOfBytes prm), p, s.rst.tick, s.now⟩] })

theorem State.tollIn_ok {a : Byte} {prm : List Byte} (ok : s.tollStatus p prm = .ok) : s.tollIn p .ul2 a prm
    = (((s.tolled p prm).feReply p .ul2 ⟨.ok, a, wd (s.tolled p prm).tb.crossing, [], none⟩).setAlive p (a + 1)).heardNow p := by
  unfold State.tollIn
  rw [show (if prm.length ≠ 3 then Status.paramBad else if 8 ≤ (s.port p).toll.length then .busy else .ok) = .ok from ok]
  rfl

theorem State.tollIn_refused {a : Byte} {prm : List Byte} {st : Status} (is : s.tollStatus p prm = st) (refused : st ≠ .ok) : s.tollIn p .ul2 a prm
    = ((s.feReply p .ul2 ⟨st, a, wd s.effL, [], none⟩).setAlive p (a + 1)).heardNow p := by
  unfold State.tollIn
  rw [show (if prm.length ≠ 3 then Status.paramBad else if 8 ≤ (s.port p).toll.length then .busy else .ok) = st from is]
  dsimp only
  rw [if_neg refused, if_neg refused]

/-- Settles O16: a session's answer and a check-in's are the front end's own, and stamp what they note with the present instant. -/
theorem sessionAndToll : Obligations.SessionAndToll := by
  intro s p a on
  have own (st : Status) (eff : Word) : let t := ((s.feReply p .ul2 ⟨st, a, eff, [], none⟩).setAlive p (a + 1)).heardNow p
      OnlyFront s t ∧ (t.port p).toll = (s.port p).toll ∧ OwnReply s t p st a eff := by
    obtain ⟨front, port, -, -⟩ := s.own_spec p .ul2 ⟨st, a, eff, [], none⟩ (a + 1)
    exact ⟨front.only, (congrArg PortFE.toll port :), (congrArg PortFE.due port :)⟩
  have notRead {prm : List Byte} : ¬ (decide ((0x40 : Byte) = 0x02) && !prm.isEmpty) = true := Bool.false_ne_true
  have notWake {prm : List Byte} : ¬ (decide ((0x40 : Byte) = 0x20) && decide (prm = [0x01])) = true := Bool.false_ne_true
  have go (prm : List Byte) (opened : (s.port p).opened = true) : exec (.toll p a prm) s = .next (s.acceptFrame p .ul2 a 0x40 prm []) :=
    if_pos (by rw [on, opened]; rfl)
  refine ⟨?_, fun prm opened mode landed => ?_, fun prm opened mode early => ?_, fun prm opened mode => ?_⟩
  · obtain ⟨v, st, front, -, port, is⟩ := s.sessionIn_spec p a
    have run : exec (.sessionReset p a) s = .next (v.raiseEv s.now (.sessionReset p s.nextId)) := (if_pos on).trans (congrArg _ is)
    have raised := front.trans (State.raiseEv_front v p s.now (.sessionReset p s.nextId))
    have after : (v.raiseEv s.now (.sessionReset p s.nextId)).port p = _ := (State.raiseEv_port ..).trans port
    refine ⟨_, run, raised.only, (congrArg PortFE.opened after :), (congrArg PortFE.alive after :), (congrArg PortFE.slipA after :),
      (congrArg PortFE.slipB after :), (congrArg PortFE.fetch after :), (congrArg PortFE.toll after :), fun h served => ?_, st, (congrArg PortFE.due after :)⟩
    rw [State.raiseEv_helm, front.svc h, if_pos served]
    exact List.getLast?_concat
  · have eff : s.effL = s.now.landing := if_neg mode
    have toll : s.acceptFrame p .ul2 a 0x40 prm [] = s.tollIn p .ul2 a prm := by
      unfold State.acceptFrame
      dsimp only
      rw [if_neg notRead, if_neg mode, if_pos (by decide), if_pos landed]
    have run := (go prm opened).trans (congrArg _ toll)
    refine ⟨fun three room => ?_, fun three full => ?_, fun other => ?_⟩
    · have ok : s.tollStatus p prm = .ok := (if_neg (not_not.2 three)).trans (if_neg (Nat.not_le.2 room))
      have enters : Front p s (s.tolled p prm) := State.modPort_front ..
      have ePort : (s.tolled p prm).port p = { s.port p with toll := (s.port p).toll ++ [⟨wd (natOfBytes prm), p, s.rst.tick, s.now⟩] } :=
        State.modPort_port ..
      obtain ⟨front, port, -, -⟩ := (s.tolled p prm).own_spec p .ul2 ⟨.ok, a, wd (s.tolled p prm).tb.crossing, [], none⟩ (a + 1)
      rw [ePort, enters.ul2Bytes, enters.tb] at port
      rw [State.tollIn_ok ok, enters.tb] at run
      exact ⟨_, run, (enters.trans (enters.tb ▸ front)).only, (congrArg PortFE.toll port :), (congrArg PortFE.alive port :),
        ⟨(congrArg PortFE.slipA port :), (congrArg PortFE.slipB port :)⟩, (congrArg PortFE.due port :)⟩
    · rw [State.tollIn_refused (st := .busy) ((if_neg (not_not.2 three)).trans (if_pos full)) (by decide), eff] at run
      exact ⟨_, run, own ..⟩
    · rw [State.tollIn_refused (st := .paramBad) (if_pos other) (by decide), eff] at run
      exact ⟨_, run, own ..⟩
  · have eff : s.effL = s.now.landing := if_neg mode
    refine ⟨_, (go prm opened).trans (congrArg _ ?_), own .noHelm (wd s.now.landing)⟩
    unfold State.acceptFrame
    dsimp only
    rw [if_neg notRead, if_neg mode, if_pos (by decide), if_neg (by rw [early]; decide), eff]
  · have eff : s.effL = s.tb.crossing := if_pos mode
    refine ⟨_, (go prm opened).trans (congrArg _ ?_), own .modeDenied (wd s.tb.crossing)⟩
    unfold State.acceptFrame
    dsimp only
    rw [if_neg notRead, if_pos mode, if_neg notWake, eff]

end Sys2Proof.Machine
end

section
/-! PROOFS. Host commands: three statements that a state refutes. -/

namespace Sys2Proof.Machine

/-! ### A record of a mode change that both helms hold back -/

/-- A MODE_CHANGE record of the crossing that stands. -/
def changeRec : Rec := ⟨⟨100, 240⟩, helmSource .a, clsAct, 0x04E, 0x10000, 0, 0⟩

/-- The running machine, its holder with a record of a mode change held back from the passage before. -/
def heldChange : State := Tests.up.modHelm .a (fun x => { x with held := [changeRec] })

theorem heldChange_settled : heldChange.settled := Tests.settled_of (by decide +kernel)

theorem heldChange_underWay : heldChange.underWay := Tests.underWay_of (by decide +kernel)

theorem heldChange_modeStands (g : HelmId) : heldChange.modeStands g := by
  unfold State.modeStands ModeSt.same
  cases g <;> decide +kernel

/-- A row that brings nothing but itself along leaves what a helm holds back. -/
theorem State.BareRow.held {s u : State} {t : Tag} (bare : s.BareRow u t) {g : HelmId} (computes : (s.helm g).svc.computes = true) :
    (u.helm g).held = (s.helm g).held := by
  obtain ⟨-, -, -, -, -, helms⟩ := bare
  obtain ⟨-, -, -, -, rest⟩ := (helms g).2 computes
  rw [rest]

/-- What a command leaves of the records that the holder holds back. -/
def heldAfter (c : Instr) : Option (List Rec) :=
  match exec c heldChange with
  | .next u => some (u.helm .a).held
  | _ => none

/-- Refutes O50: settling the mode drops a MODE_CHANGE record held back too, while `modeStands` speaks of the shared ones alone; so a
refused command may leave more changed than a bare row. -/
theorem not_hostCommandsComplete : ¬ Obligations.HostCommandsComplete := by
  intro all
  obtain ⟨-, reads, -⟩ := (all heldChange .a Tests.tg).2
  obtain ⟨u, run, -, -, -, -, bare⟩ := reads 0 100 .lenOver (by decide +kernel) heldChange_settled heldChange_underWay (by decide +kernel)
    (fun g _ => by cases g <;> decide +kernel)
  have kept := (bare fun g _ => heldChange_modeStands g).held (g := .a) (by decide +kernel)
  have dropped : heldAfter (.readWindow Tests.tg 0 100) = some [] := by decide +kernel
  rw [heldAfter, run] at dropped
  rw [Option.some.inj dropped] at kept
  exact absurd kept (by decide +kernel)

/-- Refutes O54: as above, for a SET_MODE of the mode that stands. -/
theorem not_setMode : ¬ Obligations.SetMode := by
  intro all
  obtain ⟨-, -, -, stays, -⟩ := all heldChange .a Tests.tg 2 (Tests.takes_of (by decide +kernel))
  obtain ⟨u, run, -, -, -, bare⟩ := stays fun g _ => by cases g <;> decide +kernel
  have kept := (bare fun g _ => heldChange_modeStands g).held (g := .a) (by decide +kernel)
  have dropped : heldAfter (.setMode Tests.tg 2) = some [] := by decide +kernel
  rw [heldAfter, run] at dropped
  rw [Option.some.inj dropped] at kept
  exact absurd kept (by decide +kernel)

/-! ### A landed value above its ceiling -/

/-- Host loss, with a landed value of a proportional output above its ceiling. -/
def lostHigh : State :=
  Tests.lost.modHs .a (fun hs => { hs with landed := Vector.replicate 32 1000000000 })

/-- The host image of output 0 after a command. -/
def imgAfter (c : Instr) (s : State) : Option Int :=
  match exec c s with
  | .next u => some (u.hsOf .a).img[0]
  | _ => none

/-- Refutes O53: the first output command after host loss caps at its ceiling the landed value of an output that it does not name
(R287). -/
theorem not_outputAndPropCommands : ¬ Obligations.OutputAndPropCommands := by
  intro all
  obtain ⟨u, run, -, -, images⟩ := all.2.2 lostHigh .a Tests.tg 4 4 (by decide +kernel) (by decide +kernel) (Tests.takes_of (by decide +kernel))
  have kept := images 0
  have capped : imgAfter (.setOutputs Tests.tg 4 4) lostHigh ≠ some 1000000000 := by decide +kernel
  rw [imgAfter, run] at capped
  exact capped (congrArg some (kept.trans (by decide +kernel)))

end Sys2Proof.Machine
end

section
/-! PROOFS. Rows of host commands: what the steps of a row leave beside what the command does (R28, R132). -/

namespace Sys2Proof.Machine

/-! ### A row's surroundings -/

/-- A helm that differs only in its helm state, not in who holds and serves there, and in the frames, replies and records of a passage. -/
structure Helm.Calm (x y : Helm) : Prop where
  frame : y = { x with hs := y.hs, lastCmds := y.lastCmds, resync := y.resync, waitA := y.waitA, waitB := y.waitB, shared := y.shared
                       held := y.held, links := y.links, tests := y.tests }
  view : y.hs.red.view = x.hs.red.view
  svc : ∀ g, y.hs.red.svc g = x.hs.red.svc g
  charter : y.hs.charter = x.hs.charter

theorem Helm.Calm.refl (x : Helm) : x.Calm x := ⟨rfl, rfl, fun _ => rfl, rfl⟩

theorem Helm.Calm.trans {x y z : Helm} (h : x.Calm y) (k : y.Calm z) : x.Calm z where
  frame := by rw [k.frame, h.frame]
  view := k.view.trans h.view
  svc g := (k.svc g).trans (h.svc g)
  charter := k.charter.trans h.charter

/-- Helms that all stay calm. -/
def Calm (s t : State) : Prop := t.tb.crossing = s.tb.crossing ∧ t.tb.counting = s.tb.counting ∧ t.rst = s.rst ∧ ∀ g, (s.helm g).Calm (t.helm g)

section
variable {s t u : State}

theorem Calm.refl (s : State) : Calm s s := ⟨rfl, rfl, rfl, fun _ => .refl _⟩

theorem Calm.trans (h : Calm s t) (k : Calm t u) : Calm s u :=
  ⟨k.1.trans h.1, k.2.1.trans h.2.1, k.2.2.1.trans h.2.2.1, fun g => (h.2.2.2 g).trans (k.2.2.2 g)⟩

theorem Calm.svc (h : Calm s t) (g : HelmId) : (t.helm g).svc = (s.helm g).svc := (congrArg Helm.svc (h.2.2.2 g).frame :)
theorem Calm.begun (h : Calm s t) (g : HelmId) : (t.helm g).begun = (s.helm g).begun := (congrArg Helm.begun (h.2.2.2 g).frame :)
theorem Calm.passNo (h : Calm s t) (g : HelmId) : (t.helm g).passNo = (s.helm g).passNo := (congrArg Helm.passNo (h.2.2.2 g).frame :)
theorem Calm.boot (h : Calm s t) (g : HelmId) : (t.helm g).boot = (s.helm g).boot := (congrArg Helm.boot (h.2.2.2 g).frame :)

theorem Calm.landingsRun (h : Calm s t) : t.landingsRun = s.landingsRun := by
  have a : t.helmA.svc = s.helmA.svc := h.svc .a
  have b : t.helmB.svc = s.helmB.svc := h.svc .b
  unfold State.landingsRun
  rw [h.2.1, h.2.2.1, a, b]

theorem Calm.acts (h : Calm s t) (g : HelmId) : t.acts g = s.acts g := by
  have view : (t.helm g).hs.red.view = (s.helm g).hs.red.view := (h.2.2.2 g).view
  unfold State.acts State.lead
  rw [view]
  cases (s.helm g).hs.red.view with
  | none => rfl
  | some v =>
    dsimp only
    rw [h.svc, h.passNo, h.1]

/-- What a row brings along whatever its command does: the helms stay calm, and of the bell only what a cause raised by the landing changes. -/
structure Mach (s t : State) : Prop where
  frame : t = { s with helmA := t.helmA, helmB := t.helmB, hpa := t.hpa, hpb := t.hpb, bell := t.bell, nextId := t.nextId }
  bell : t.bell = { s.bell with due := t.bell.due, cause := t.bell.cause }
  cause : s.landingsRun = true → t.bell.cause = s.bell.cause
  helms : ∀ g, (s.helm g).Calm (t.helm g)
  tests : ∀ g, (t.helm g).tests = (s.helm g).tests

theorem Mach.refl (s : State) : Mach s s := ⟨rfl, rfl, fun _ => rfl, fun _ => .refl _, fun _ => rfl⟩

theorem Mach.calm (h : Mach s t) : Calm s t := ⟨by rw [h.frame], by rw [h.frame], by rw [h.frame], h.helms⟩

theorem Mach.trans (h : Mach s t) (k : Mach t u) : Mach s u where
  frame := by rw [k.frame, h.frame]
  bell := by rw [k.bell, h.bell]
  cause runs := (k.cause (h.calm.landingsRun.trans runs)).trans (h.cause runs)
  helms g := (h.helms g).trans (k.helms g)
  tests g := (k.tests g).trans (h.tests g)

/-- The charter in force stays. -/
theorem Mach.inForce (h : Mach s t) : t.inForce = s.inForce := by
  have holder : t.holder = s.holder := by rw [h.frame]
  have charterA : t.helmA.hs.charter = s.helmA.hs.charter := (h.helms .a).charter
  have charterB : t.helmB.hs.charter = s.helmB.hs.charter := (h.helms .b).charter
  have loaded : t.helmA.loaded = s.helmA.loaded := (congrArg Helm.loaded (h.helms .a).frame :)
  have charter (g : HelmId) : (t.helm g).hs.charter = (s.helm g).hs.charter := (h.helms g).charter
  unfold State.inForce
  rw [holder, charterA, charterB, loaded]
  cases s.holder with
  | none => rfl
  | some g => exact charter g

theorem Mach.only (h : Mach s t) : OnlyHelmSide s t := h.frame

theorem OnlyHelmSide.trans (h : OnlyHelmSide s t) (k : OnlyHelmSide t u) : OnlyHelmSide s u := by
  unfold OnlyHelmSide at *
  rw [k, h]

end

/-! ### Changes of one helm -/

/-- A change of one helm alone. -/
theorem State.modHelm_mach {s : State} {h : HelmId} {f : Helm → Helm} (calm : (s.helm h).Calm (f (s.helm h)))
    (tests : (f (s.helm h)).tests = (s.helm h).tests) : Mach s (s.modHelm h f) := by
  refine ⟨?_, ?_, fun _ => ?_, fun g => ?_, fun g => ?_⟩
  · cases h <;> rfl
  · cases h <;> rfl
  · cases h <;> rfl
  · obtain rfl | rfl := helm_cases h g
    · rw [State.modHelm_helm]
      exact calm
    · rw [State.modHelm_helm_other]
      exact .refl _
  · obtain rfl | rfl := helm_cases h g
    · rw [State.modHelm_helm, tests]
    · rw [State.modHelm_helm_other]

/-- Nothing but the bell differs. -/
def OnlyBell (s t : State) : Prop := t = { s with bell := t.bell }

theorem OnlyBell.helm {s t : State} (k : OnlyBell s t) (g : HelmId) : t.helm g = s.helm g := by
  rw [k]
  cases g <;> rfl

theorem OnlyBell.ports {s t : State} (k : OnlyBell s t) : t.hpa = s.hpa ∧ t.hpb = s.hpb ∧ t.nextId = s.nextId := by rw [k]; exact ⟨rfl, rfl, rfl⟩

/-- A change of the bell that leaves what the host wrote, made by the helm that acts. -/
theorem State.byLead_mach {s : State} {h : HelmId} {f : State → State} (mach : Mach s (f s)) (bell : OnlyBell s (f s)) :
    Mach s (s.byLead h f) ∧ OnlyBell s (s.byLead h f) := by
  unfold State.byLead
  split
  · exact ⟨mach, bell⟩
  · exact ⟨.refl s, rfl⟩

theorem State.due_mach (s : State) (due : Word) : Mach s { s with bell := { s.bell with due := due } } :=
  ⟨rfl, rfl, fun _ => rfl, fun g => by cases g <;> exact .refl _, fun g => by cases g <;> rfl⟩

theorem State.ringDue_mach (s : State) (k : Nat) : Mach s (s.ringDue k) ∧ OnlyBell s (s.ringDue k) := by
  unfold State.ringDue
  split
  · exact ⟨s.due_mach _, rfl⟩
  · next off =>
    rcases s.ring_cases k with ⟨on, -⟩ | ⟨-, e⟩
    · exact absurd on off
    · rw [e]
      exact ⟨⟨rfl, rfl, fun on => absurd on off, fun g => by cases g <;> exact .refl _, fun g => by cases g <;> rfl⟩, rfl⟩

/-- A cause that the landing raises (R68, R128). -/
theorem State.chime_mach (s : State) (h : HelmId) (k : Nat) : Mach s (s.chime h k) ∧ OnlyBell s (s.chime h k) :=
  State.byLead_mach (s.ringDue_mach k).1 (s.ringDue_mach k).2

/-- A record that both helms compute. -/
theorem State.note_spec (s : State) (h : HelmId) (n cls code : Nat) (d0 d1 d2 : Word) : let t := s.note h n cls code d0 d1 d2
    Mach s t ∧ t = { s with helmA := t.helmA, helmB := t.helmB }
      ∧ t.helm h = { s.helm h with shared := (s.helm h).shared ++ [⟨⟨n, 240⟩, helmSource h, cls, code, d0, d1, d2⟩] }
      ∧ t.helm (otherHelm h) = s.helm (otherHelm h) := by
  unfold State.note State.sharedRec
  exact ⟨State.modHelm_mach ⟨rfl, rfl, fun _ => rfl, rfl⟩ rfl, State.modHelm_frame .., State.modHelm_helm .., State.modHelm_helm_other ..⟩

/-! ### The mode and the service states settled -/

/-- What settling the mode leaves at its helm. -/
structure Helm.Moded (x y : Helm) (n : Nat) : Prop where
  frame : y = { x with hs := { x.hs with modes := y.hs.modes }, shared := y.shared, held := y.held }
  kept : ∀ r ∈ x.shared, r.isChange n = false → r ∈ y.shared

theorem Helm.Moded.trans {x y z : Helm} {n : Nat} (h : x.Moded y n) (k : y.Moded z n) : x.Moded z n where
  frame := by rw [k.frame, h.frame]
  kept r mem no := k.kept r (h.kept r mem no) no

/-- A step that settles the mode at a helm. -/
def State.Moding (s t : State) (h : HelmId) (n : Nat) : Prop :=
  Mach s t ∧ (s.helm h).Moded (t.helm h) n ∧ t.helm (otherHelm h) = s.helm (otherHelm h)
    ∧ t.hpa = s.hpa ∧ t.hpb = s.hpb ∧ t.nextId = s.nextId

theorem State.Moding.trans {s t u : State} {h : HelmId} {n : Nat} (k : s.Moding t h n) (l : t.Moding u h n) : s.Moding u h n :=
  ⟨k.1.trans l.1, k.2.1.trans l.2.1, l.2.2.1.trans k.2.2.1, l.2.2.2.1.trans k.2.2.2.1, l.2.2.2.2.1.trans k.2.2.2.2.1,
    l.2.2.2.2.2.trans k.2.2.2.2.2⟩

/-- A change of the helm whose mode is settled. -/
theorem State.modHelm_moding {s : State} {h : HelmId} {n : Nat} {f : Helm → Helm} (calm : (s.helm h).Calm (f (s.helm h)))
    (tests : (f (s.helm h)).tests = (s.helm h).tests) (moded : (s.helm h).Moded (f (s.helm h)) n) : s.Moding (s.modHelm h f) h n := by
  refine ⟨State.modHelm_mach calm tests, ?_, State.modHelm_helm_other .., by cases h <;> rfl, by cases h <;> rfl, by cases h <;> rfl⟩
  rw [State.modHelm_helm]
  exact moded

theorem OnlyBell.moding {s t : State} {h : HelmId} {n : Nat} (mach : Mach s t) (bell : OnlyBell s t) : s.Moding t h n := by
  rw [State.Moding, bell.helm, bell.helm]
  exact ⟨mach, ⟨rfl, fun r mem _ => mem⟩, rfl, bell.ports⟩

theorem State.setModes_moding {s : State} {h : HelmId} {n : Nat} {f : HelmState → HelmState}
    (frame : ∀ hs, f hs = { hs with modes := (f hs).modes }) : s.Moding (s.modHs h f) h n :=
  State.modHelm_moding ⟨rfl, congrArg (fun hs => hs.red.view) (frame _), fun g => by rw [frame], by rw [frame]⟩ rfl
    ⟨congrArg (fun hs => { s.helm h with hs := hs }) (frame _), fun r mem _ => mem⟩

theorem State.dropChange_moding (s : State) (h : HelmId) (n : Nat) : s.Moding (s.dropChange h n) h n := by
  unfold State.dropChange
  dsimp only
  split
  · have cut : s.Moding (s.modHelm h (fun x => { x with
        shared := x.shared.filter (fun r => !r.isChange n), held := x.held.filter (fun r => !r.isChange n) })) h n :=
      State.modHelm_moding ⟨rfl, rfl, fun _ => rfl, rfl⟩ rfl ⟨rfl, fun r mem no => List.mem_filter.2 ⟨mem, by rw [no]; rfl⟩⟩
    have mute (v : State) : v.Moding (v.byLead h fun v => { v with bell := { v.bell with due := v.bell.due &&& ~~~oneBit bellMode } }) h n := by
      obtain ⟨mach, bell⟩ := State.byLead_mach (s := v) (h := h)
        (f := fun v => { v with bell := { v.bell with due := v.bell.due &&& ~~~oneBit bellMode } }) (v.due_mach _) rfl
      exact bell.moding mach
    exact cut.trans (mute _)
  · exact OnlyBell.moding (.refl s) rfl

theorem State.note_moding (s : State) (h : HelmId) (n m cls code : Nat) (d0 d1 d2 : Word) : s.Moding (s.note h m cls code d0 d1 d2) h n := by
  unfold State.note State.sharedRec
  exact State.modHelm_moding ⟨rfl, rfl, fun _ => rfl, rfl⟩ rfl ⟨rfl, fun r mem _ => List.mem_append_left _ mem⟩

theorem State.chime_moding (s : State) (h : HelmId) (n k : Nat) : s.Moding (s.chime h k) h n :=
  (s.chime_mach h k).2.moding (s.chime_mach h k).1

theorem State.Moding.ite {c : Prop} [Decidable c] {s t u : State} {h : HelmId} {n : Nat} (k : s.Moding t h n) (l : s.Moding u h n) :
    s.Moding (if c then t else u) h n := by
  split
  · exact k
  · exact l

theorem State.settleMode_spec (s : State) (h : HelmId) (n : Nat) : s.Moding (s.settleMode h n) h n := by
  have dropped := s.dropChange_moding h n
  unfold State.settleMode
  dsimp only
  generalize s.dropChange h n = t at dropped ⊢
  have set (f : HelmState → HelmState) (frame : ∀ hs, f hs = { hs with modes := (f hs).modes }) : s.Moding (t.modHs h f) h n :=
    dropped.trans (State.setModes_moding frame)
  refine .ite (set _ fun _ => rfl) ?_
  have changed (f : HelmState → HelmState) (frame : ∀ hs, f hs = { hs with modes := (f hs).modes }) (cls code : Nat) (d0 d1 d2 : Word) :
      s.Moding ((t.modHs h f).note h n cls code d0 d1 d2) h n := (set f frame).trans (State.note_moding ..)
  exact .ite ((changed _ (fun _ => rfl) ..).trans (State.chime_moding ..)) (changed _ (fun _ => rfl) ..)

/-- Service states that have come about as a helm has decided them stay, and only a resynchronisation is given up (R186, R208). -/
theorem State.settleSvc_spec {s : State} {h : HelmId} (computes : (s.helm h).svc.computes = true)
    (settled : ∀ g, (s.helm h).hs.red.svc g = (s.helm g).svc) : s.settleSvc h false = s.modHelm h (fun x => { x with resync := {} }) := by
  have serves := Svc.computes_inService computes
  have joins : (s.helm h).svc ≠ .joining := fun is => by rw [is] at computes; cases computes
  have keep : s.takeSvc h (s.helm h).svc = s.modHelm h (fun x => { x with resync := {} }) := by
    unfold State.takeSvc
    dsimp only
    rw [if_pos serves]
    simp only [joins, if_false]
    cases h <;> rfl
  have own : (s.hsOf h).red.svc h = (s.helm h).svc := settled h
  have others : (s.hsOf h).red.svc (otherHelm h) = (s.helm (otherHelm h)).svc := settled _
  unfold State.settleSvc
  dsimp only
  rw [if_pos serves, own, others, keep, State.modHelm_helm_other]
  refine if_neg fun leaves => ?_
  simp only [Bool.and_eq_true, Bool.not_eq_true'] at leaves
  rw [leaves.1.1.2] at leaves
  cases leaves.1.2

end Sys2Proof.Machine
end

section
/-! PROOFS. A row of a host command: what it leaves where its command is calm (R28, R58, R132). -/

namespace Sys2Proof.Machine

section
variable {s t u : State} {h : HelmId}

theorem Calm.settled (k : Calm s t) (settled : s.settled) : t.settled := by
  intro g computes x
  have at_ := (k.2.2.2 g).svc x
  rw [k.svc] at computes ⊢
  exact at_.trans (settled g computes x)

theorem Calm.underWay (k : Calm s t) (under : s.underWay) : t.underWay := by
  intro g computes
  rw [k.svc] at computes
  rw [k.begun, k.1]
  exact under g computes

/-- What the row of the other helm leaves of helm h and of its frames. -/
structure Aside (h : HelmId) (s t : State) : Prop where
  helm : t.helm h = { s.helm h with tests := (t.helm h).tests }
  slips : ∀ p, (t.port p).slip h = (s.port p).slip h
  nextId : t.nextId = s.nextId

theorem Aside.refl (h : HelmId) (s : State) : Aside h s s := ⟨rfl, fun _ => rfl, rfl⟩

theorem Aside.trans (k : Aside h s t) (l : Aside h t u) : Aside h s u where
  helm := by rw [l.helm, k.helm]
  slips p := (l.slips p).trans (k.slips p)
  nextId := l.nextId.trans k.nextId

theorem Aside.hs (k : Aside h s t) : t.hsOf h = s.hsOf h := (congrArg Helm.hs k.helm :)

theorem Aside.waiting (k : Aside h s t) (tag : Tag) : t.waiting h tag = s.waiting h tag := by
  unfold State.waiting
  rw [k.hs, k.slips]

theorem Aside.ctxOf (k : Aside h s t) (crossing : t.tb.crossing = s.tb.crossing) (tag : Tag) : t.ctxOf h tag = s.ctxOf h tag := by
  unfold State.ctxOf
  rw [k.waiting, crossing, k.nextId]

/-- A command that leaves who holds and serves, the frames, and the replies of its helm as they are. -/
structure Quiet (h : HelmId) (s t : State) : Prop where
  calm : Calm s t
  other : t.helm (otherHelm h) = { s.helm (otherHelm h) with tests := (t.helm (otherHelm h)).tests }
  ports : t.hpa = s.hpa ∧ t.hpb = s.hpb
  nextId : t.nextId = s.nextId
  waits : (t.helm h).waitA = (s.helm h).waitA ∧ (t.helm h).waitB = (s.helm h).waitB

theorem Quiet.refl (h : HelmId) (s : State) : Quiet h s s := ⟨.refl s, rfl, ⟨rfl, rfl⟩, rfl, rfl, rfl⟩

theorem Quiet.trans (k : Quiet h s t) (l : Quiet h t u) : Quiet h s u where
  calm := k.calm.trans l.calm
  other := by rw [l.other, k.other]
  ports := ⟨l.ports.1.trans k.ports.1, l.ports.2.trans k.ports.2⟩
  nextId := l.nextId.trans k.nextId
  waits := ⟨l.waits.1.trans k.waits.1, l.waits.2.trans k.waits.2⟩

theorem Quiet.aside (k : Quiet h s t) : Aside (otherHelm h) s t where
  helm := k.other
  slips p := by cases p <;> simp only [State.port, k.ports.1, k.ports.2]
  nextId := k.nextId

theorem Quiet.slip (k : Quiet h s t) (p : Port) : (t.helm h).slip p = (s.helm h).slip p := by
  cases p
  · exact (congrArg Helm.slipA (k.calm.2.2.2 h).frame :)
  · exact (congrArg Helm.slipB (k.calm.2.2.2 h).frame :)

theorem Quiet.waiting (k : Quiet h s t) (p : Port) : (t.helm h).waiting p = (s.helm h).waiting p := by
  cases p
  · exact k.waits.1
  · exact k.waits.2

end

/-! ### Up to the command -/

/-- The waiting frame of a row, or what stands in for it (log entry 23, DESIGN CHOICE). -/
def State.rowFrame (s : State) (h : HelmId) (t : Tag) : Entered := (s.waiting h t).getD ⟨t, 0, [], ⟨s.tb.crossing, 0⟩, s.nextId, {}⟩

/-- A row's frame taken and noted, the mode opened: the state in which its command is applied. -/
def State.readied (s : State) (h : HelmId) (t : Tag) : State :=
  let e := s.rowFrame h t
  let v := ((s.claim h t.port e.id).modHs h (fun hs => hs.hold e)).openMode h s.tb.crossing
  if (s.waiting h t).isSome then v.modHelm h (fun x => { x with lastCmds := x.lastCmds ++ [e] }) else v

/-- A row at a helm that computes passages and has begun that of the crossing. -/
theorem State.rowAt_eq {s : State} {h : HelmId} (t : Tag) (c : Cmd) (computes : (s.helm h).svc.computes = true)
    (begun : (s.helm h).begun = some s.tb.crossing) :
    s.rowAt h t c = (((s.readied h t).applyCmd (s.ctxOf h t) c).settleMode h s.tb.crossing).settleSvc h false := by
  have going : s.beginFor h s.tb.crossing = s := by
    unfold State.beginFor
    exact if_pos (by simp [begun])
  unfold State.rowAt State.readied State.rowFrame State.ctxOf
  simp only [computes, going, Bool.not_true, Bool.false_eq_true, if_false]
  cases s.waiting h t <;> rfl

theorem State.rowAt_idle {s : State} {h : HelmId} (t : Tag) (c : Cmd) (idle : (s.helm h).svc.computes = false) : s.rowAt h t c = s := by
  unfold State.rowAt
  simp only [idle, Bool.not_false, if_true]

/-- What readies a row at a helm. -/
structure Readied (h : HelmId) (s v : State) : Prop where
  mach : Mach s v
  aside : Aside (otherHelm h) s v
  frame : v.helm h = { s.helm h with hs := v.hsOf h, lastCmds := (v.helm h).lastCmds }
  like : (v.hsOf h).like (s.hsOf h)
  mode : (v.hsOf h).modes.mode = (s.hsOf h).modes.mode

theorem HelmState.like.refl (a : HelmState) : a.like a := rfl

theorem HelmState.like.trans {a b c : HelmState} (k : a.like b) (l : b.like c) : a.like c := by
  unfold HelmState.like at *
  rw [k, l]

theorem HelmState.like.red {a b : HelmState} (k : a.like b) : a.red = b.red := (congrArg HelmState.red k :)

theorem HelmState.like.charter {a b : HelmState} (k : a.like b) : a.charter = b.charter := (congrArg HelmState.charter k :)

theorem Aside.modHelm (s : State) (h : HelmId) (f : Helm → Helm) : Aside (otherHelm h) s (s.modHelm h f) :=
  ⟨by rw [State.modHelm_helm_other], fun p => by cases h <;> cases p <;> rfl, by cases h <;> rfl⟩

theorem Readied.trans {h : HelmId} {s t u : State} (k : Readied h s t) (l : Readied h t u) : Readied h s u where
  mach := k.mach.trans l.mach
  aside := k.aside.trans l.aside
  frame := by rw [l.frame, k.frame]
  like := l.like.trans k.like
  mode := l.mode.trans k.mode

theorem Readied.waiting {h : HelmId} {s t : State} (k : Readied h s t) (p : Port) : (t.helm h).waiting p = (s.helm h).waiting p := by
  rw [k.frame]
  cases p <;> rfl

/-- A change of the helm state in what every row brings along. -/
theorem State.modHs_readied {s : State} {h : HelmId} {f : HelmState → HelmState} (like : (f (s.hsOf h)).like (s.hsOf h))
    (mode : (f (s.hsOf h)).modes.mode = (s.hsOf h).modes.mode) : Readied h s (s.modHs h f) where
  mach := State.modHelm_mach ⟨rfl, congrArg Redund.view like.red, fun g => congrArg (fun r => r.svc g) like.red, like.charter⟩ rfl
  aside := .modHelm ..
  frame := by rw [State.modHs, State.hsOf, State.modHelm_helm]
  like := by rw [State.modHs, State.hsOf, State.modHelm_helm]; exact like
  mode := by rw [State.modHs, State.hsOf, State.modHelm_helm]; exact mode

theorem State.modPort_readied {s : State} {h : HelmId} {p : Port} {f : PortFE → PortFE} (slip : (f (s.port p)).slip (otherHelm h) = (s.port p).slip (otherHelm h)) :
    Readied h s (s.modPort p f) where
  mach := ⟨by cases p <;> rfl, by cases p <;> rfl, fun _ => by cases p <;> rfl, fun g => by cases p <;> cases g <;> exact .refl _,
    fun g => by cases p <;> cases g <;> rfl⟩
  aside := by
    refine ⟨by cases p <;> cases h <;> rfl, fun q => ?_, by cases p <;> rfl⟩
    cases p <;> cases q
    · exact slip
    · rfl
    · rfl
    · exact slip
  frame := by cases p <;> cases h <;> rfl
  like := by cases p <;> cases h <;> rfl
  mode := by cases p <;> cases h <;> rfl

theorem State.claim_readied (s : State) (h : HelmId) (p : Port) (id : Nat) : Readied h s (s.claim h p id) := by
  refine (State.modHs_readied (f := fun hs => { hs with cmds := hs.cmds.filter (fun e => e.id ≠ id) }) rfl rfl).trans ?_
  unfold State.claim
  refine State.modPort_readied (f := fun f => match h with
    | .a => { f with slipA := f.slipA.filter (fun e => e.id ≠ id) }
    | .b => { f with slipB := f.slipB.filter (fun e => e.id ≠ id) }) ?_
  cases h <;> rfl

theorem State.hold_readied (s : State) (h : HelmId) (e : Entered) : Readied h s (s.modHs h (fun hs => hs.hold e)) := by
  have holds : (s.hsOf h).HoldsOf ((s.hsOf h).hold e) := HelmState.hold_holds _ _
  refine State.modHs_readied ?_ ?_
  · unfold HelmState.like
    rw [holds]
  · rw [holds]

theorem State.openMode_readied (s : State) (h : HelmId) (n : Nat) : Readied h s (s.openMode h n) := by
  refine State.modHs_readied rfl ?_
  show ((s.hsOf h).modes.openAt n).mode = _
  unfold ModeSt.openAt
  split <;> rfl

theorem State.lastCmds_readied (s : State) (h : HelmId) (e : Entered) :
    Readied h s (s.modHelm h (fun x => { x with lastCmds := x.lastCmds ++ [e] })) where
  mach := State.modHelm_mach ⟨rfl, rfl, fun _ => rfl, rfl⟩ rfl
  aside := .modHelm ..
  frame := by rw [State.hsOf, State.modHelm_helm]
  like := by rw [State.hsOf, State.modHelm_helm]; rfl
  mode := by rw [State.hsOf, State.modHelm_helm]; rfl

theorem State.readied_spec (s : State) (h : HelmId) (t : Tag) : Readied h s (s.readied h t) := by
  unfold State.readied
  dsimp only
  have ready := ((s.claim_readied h t.port (s.rowFrame h t).id).trans (State.hold_readied _ h (s.rowFrame h t))).trans
    (State.openMode_readied _ h s.tb.crossing)
  split
  · exact ready.trans (State.lastCmds_readied ..)
  · exact ready

/-! ### The command, and what follows it -/

/-- A reply is handed over. -/
structure Told (h : HelmId) (s t : State) (p : Port) (rs : List (Nat × Reply)) : Prop where
  mach : Mach s t
  aside : Aside (otherHelm h) s t
  like : (t.hsOf h).like (s.hsOf h)
  waiting : (t.helm h).waiting p = (s.helm h).waiting p ++ rs
  shared : (t.helm h).shared = (s.helm h).shared

theorem State.modHelm_told {s : State} {h : HelmId} {p : Port} {rs : List (Nat × Reply)} {f : Helm → Helm} (calm : (s.helm h).Calm (f (s.helm h)))
    (tests : (f (s.helm h)).tests = (s.helm h).tests) (like : (f (s.helm h)).hs.like (s.hsOf h))
    (waiting : (f (s.helm h)).waiting p = (s.helm h).waiting p ++ rs) (shared : (f (s.helm h)).shared = (s.helm h).shared) :
    Told h s (s.modHelm h f) p rs := by
  refine ⟨State.modHelm_mach calm tests, .modHelm .., ?_, ?_, ?_⟩
  · rw [State.hsOf, State.modHelm_helm]
    exact like
  · rw [State.modHelm_helm]
    exact waiting
  · rw [State.modHelm_helm]
    exact shared

theorem Told.trans {h : HelmId} {s t u : State} {p : Port} {rs qs : List (Nat × Reply)} (k : Told h s t p rs) (l : Told h t u p qs) :
    Told h s u p (rs ++ qs) where
  mach := k.mach.trans l.mach
  aside := k.aside.trans l.aside
  like := l.like.trans k.like
  waiting := by rw [l.waiting, k.waiting, List.append_assoc]
  shared := l.shared.trans k.shared

theorem Told.refl (h : HelmId) (s : State) (p : Port) : Told h s s p [] :=
  ⟨.refl s, .refl _ s, .refl _, (List.append_nil _).symm, rfl⟩

theorem State.deliver_told (s : State) (h : HelmId) (t : Tag) (id : Nat) (silent : Bool) (r : Reply) :
    Told h s (s.deliver h t id silent r) t.port (if silent = true ∨ t.gen = .ul1 then [] else [(id, r)]) := by
  unfold State.deliver
  split
  · next mute =>
    have mute : silent = true ∨ t.gen = .ul1 := by simpa using mute
    rw [if_pos mute]
    exact .refl h s _
  · next heard =>
    have heard : ¬ (silent = true ∨ t.gen = .ul1) := by simpa using heard
    rw [if_neg heard]
    have held (f : List HeldReply → List HeldReply) : Told h s (s.modHs h (fun hs => hs.setHeld t.port (f (hs.held t.port)))) t.port [] := by
      refine State.modHelm_told ⟨rfl, ?_, fun g => ?_, ?_⟩ rfl ?_ ?_ rfl
      · cases t.port <;> rfl
      · cases t.port <;> rfl
      · cases t.port <;> rfl
      · cases t.port <;> rfl
      · cases t.port <;> exact (List.append_nil _).symm
    have last (v : State) : Told h v (v.modHelm h (fun x => x.setWaiting t.port (x.waiting t.port ++ [(id, r)]))) t.port [(id, r)] := by
      refine State.modHelm_told ?_ ?_ ?_ ?_ ?_
      · cases t.port <;> exact ⟨rfl, rfl, fun _ => rfl, rfl⟩
      all_goals cases t.port <;> rfl
    dsimp only
    split
    · exact (held (fun l => l.map (fun e => if e.id = id then { e with reply := some r } else e))).trans (last _)
    · exact last s

theorem State.ctxOf_h (s : State) (h : HelmId) (t : Tag) : (s.ctxOf h t).h = h := by
  unfold State.ctxOf
  split <;> rfl

theorem State.ctxOf_tag (s : State) (h : HelmId) (t : Tag) : (s.ctxOf h t).tag = t := by
  unfold State.ctxOf
  split <;> rfl

theorem State.ctxOf_n (s : State) (h : HelmId) (t : Tag) : (s.ctxOf h t).n = s.tb.crossing := by
  unfold State.ctxOf
  split <;> rfl

/-- The checks of R132 look at what no row brings along. -/
theorem State.checkCmd_like {s v : State} {k : Ctx} (c : Cmd) (like : (v.hsOf k.h).like (s.hsOf k.h))
    (mode : (v.hsOf k.h).modes.mode = (s.hsOf k.h).modes.mode) : v.checkCmd k c = s.checkCmd k c := by
  have role : (v.hsOf k.h).roleNo k.tag.port = (s.hsOf k.h).roleNo k.tag.port := by
    unfold HelmState.roleNo
    rw [like]
    cases k.tag.port <;> rfl
  have charter : (v.hsOf k.h).charter = (s.hsOf k.h).charter := (congrArg HelmState.charter like :)
  unfold State.checkCmd
  dsimp only
  rw [role, mode, charter]

/-- The replies that a command hands over. -/
def Ans.replies (a : Ans) (c : Cmd) (k : Ctx) : List (Nat × Reply) :=
  if a.later = true then [] else if k.moved.silent = true ∨ k.tag.gen = .ul1 then [] else [(k.id, a.reply c k)]

/-- What follows a command in its row: its reply, the mode and the service states settled. -/
structure Followed (h : HelmId) (n : Nat) (s t : State) (p : Port) (rs : List (Nat × Reply)) : Prop where
  mach : Mach s t
  aside : Aside (otherHelm h) s t
  like : (t.hsOf h).like (s.hsOf h)
  waiting : (t.helm h).waiting p = (s.helm h).waiting p ++ rs
  shared : ∀ r ∈ (s.helm h).shared, r.isChange n = false → r ∈ (t.helm h).shared

theorem Calm.slip {s t : State} (k : Calm s t) (h : HelmId) (p : Port) : (t.helm h).slip p = (s.helm h).slip p := by
  cases p
  · exact (congrArg Helm.slipA (k.2.2.2 h).frame :)
  · exact (congrArg Helm.slipB (k.2.2.2 h).frame :)

theorem State.applyCmd_told (s : State) (k : Ctx) (c : Cmd) :
    Told k.h (s.runCmd k c).1 (s.applyCmd k c) k.tag.port ((s.runCmd k c).2.replies c k) := by
  unfold State.applyCmd Ans.replies
  dsimp only
  split
  · exact .refl ..
  · exact State.deliver_told ..

/-- After its command, a row of a calm one. -/
theorem State.applyCmd_followed {s : State} {k : Ctx} (c : Cmd) (n : Nat) (settled : (s.runCmd k c).1.settled)
    (computes : ((s.runCmd k c).1.helm k.h).svc.computes = true) :
    Followed k.h n (s.runCmd k c).1 (((s.applyCmd k c).settleMode k.h n).settleSvc k.h false) k.tag.port ((s.runCmd k c).2.replies c k) := by
  obtain ⟨told, aside, like, waiting, shared⟩ := s.applyCmd_told k c
  generalize (s.runCmd k c).1 = v at *
  generalize s.applyCmd k c = w at *
  obtain ⟨moded, ⟨frame, kept⟩, other, ports⟩ := w.settleMode_spec k.h n
  generalize w.settleMode k.h n = x at *
  have mach : Mach v x := told.trans moded
  have own : (x.helm k.h).svc.computes = true := by rw [mach.calm.svc]; exact computes
  rw [State.settleSvc_spec own (mach.calm.settled settled k.h own)]
  refine ⟨mach.trans (State.modHelm_mach ⟨rfl, rfl, fun _ => rfl, rfl⟩ rfl), ?_, ?_, ?_, ?_⟩
  · have side : Aside (otherHelm k.h) w x :=
      ⟨by rw [other], fun p => by cases p <;> simp only [State.port, ports.1, ports.2.1], ports.2.2⟩
    exact (aside.trans side).trans (.modHelm ..)
  · rw [State.hsOf, State.modHelm_helm]
    show (x.helm k.h).hs.like _
    rw [frame]
    exact HelmState.like.trans rfl like
  · rw [State.modHelm_helm, ← waiting, frame]
    cases k.tag.port <;> rfl
  · rw [State.modHelm_helm]
    exact fun r mem no => kept r (shared ▸ mem) no

/-- A row of a calm command at a helm that computes passages and has begun that of the crossing. -/
theorem State.rowAt_spec {s : State} {h : HelmId} {t : Tag} {c : Cmd} (settled : s.settled) (under : s.underWay)
    (computes : (s.helm h).svc.computes = true) (quiet : ∀ v, Quiet h v (v.runCmd (s.ctxOf h t) c).1) :
    ∃ v, Readied h s v ∧ Followed h s.tb.crossing (v.runCmd (s.ctxOf h t) c).1 (s.rowAt h t c) t.port
      ((v.runCmd (s.ctxOf h t) c).2.replies c (s.ctxOf h t)) := by
  have ready := s.readied_spec h t
  refine ⟨s.readied h t, ready, ?_⟩
  rw [State.rowAt_eq t c computes (under h computes)]
  have calm := ready.mach.calm.trans (quiet (s.readied h t)).calm
  have follow := State.applyCmd_followed (s := s.readied h t) (k := s.ctxOf h t) c s.tb.crossing (calm.settled settled)
    (by rw [calm.svc, State.ctxOf_h]; exact computes)
  rwa [State.ctxOf_h, State.ctxOf_tag] at follow

/-! ### A row at both helms -/

/-- A relation that what a row brings along never leaves. -/
structure Env (R : State → State → Prop) : Prop where
  refl : ∀ s, R s s
  trans : ∀ {s t u}, R s t → R t u → R s u
  mach : ∀ {s t}, Mach s t → R s t

theorem Env.mach' : Env Mach := ⟨.refl, .trans, id⟩

theorem Env.onlyHelmSide : Env OnlyHelmSide := ⟨fun _ => rfl, .trans, Mach.only⟩

theorem Quiet.runCmd {h : HelmId} {k : Ctx} {c : Cmd} {v : State} (quiet : Quiet h v (v.doCmd k c).1) : Quiet h v (v.runCmd k c).1 := by
  unfold State.runCmd
  split
  · exact .refl h v
  · exact quiet

/-- The row of the other helm. -/
theorem State.rowAt_aside {R : State → State → Prop} (env : Env R) {s : State} {h : HelmId} {t : Tag} {c : Cmd} (settled : s.settled)
    (under : s.underWay) (quiet : ∀ v k, k.h = otherHelm h → Quiet (otherHelm h) v (v.doCmd k c).1)
    (aside : ∀ v k, k.h = otherHelm h → (s.helm (otherHelm h)).svc.computes = true → Calm s v → R v (v.doCmd k c).1) :
    R s (s.rowAt (otherHelm h) t c) ∧ Calm s (s.rowAt (otherHelm h) t c) ∧ Aside h s (s.rowAt (otherHelm h) t c) := by
  cases computes : (s.helm (otherHelm h)).svc.computes with
  | false =>
    rw [State.rowAt_idle t c computes]
    exact ⟨env.refl s, .refl s, .refl h s⟩
  | true =>
    have at_ : (s.ctxOf (otherHelm h) t).h = otherHelm h := s.ctxOf_h ..
    obtain ⟨v, ready, follow⟩ := State.rowAt_spec (t := t) (c := c) settled under computes fun v => (quiet v _ at_).runCmd
    have run : Quiet (otherHelm h) v (v.runCmd (s.ctxOf (otherHelm h) t) c).1 := (quiet v _ at_).runCmd
    have effect : R v (v.runCmd (s.ctxOf (otherHelm h) t) c).1 := by
      unfold State.runCmd
      split
      · exact env.refl v
      · exact aside v _ at_ computes ready.mach.calm
    have whole := (ready.aside.trans run.aside).trans follow.aside
    rw [otherHelm_otherHelm] at whole
    exact ⟨env.trans (env.trans (env.mach ready.mach) effect) (env.mach follow.mach),
      (ready.mach.calm.trans run.calm).trans follow.mach.calm, whole⟩

/-- What a row gives at helm h: v is the state in which its command is applied there, r what the command makes of it, with its answer, and u
the state after the row. -/
structure RowGives (R : State → State → Prop) (s : State) (h : HelmId) (t : Tag) (c : Cmd) (v : State) (r : State × Ans) (u : State) : Prop where
  before : R s v
  first : h = .a ∨ (s.helm .a).svc.computes = false → Readied h s v
  calm : Calm s v
  ready : (v.hsOf h).like (s.hsOf h)
  mode : (v.hsOf h).modes.mode = (s.hsOf h).modes.mode
  sharedReady : (v.helm h).shared = (s.helm h).shared
  after : R r.1 u
  like : (u.hsOf h).like (r.1.hsOf h)
  slip : (u.helm h).slip t.port = (s.helm h).slip t.port
  waiting : (u.helm h).waiting t.port = (s.helm h).waiting t.port ++ r.2.replies c (s.ctxOf h t)
  shared : ∀ x ∈ (r.1.helm h).shared, x.isChange s.tb.crossing = false → x ∈ (u.helm h).shared

/-- A row of a calm command at helm h. -/
theorem State.hostRow_runs {R : State → State → Prop} (env : Env R) {s : State} {h : HelmId} {t : Tag} {c : Cmd} (live : s.live = true)
    (settled : s.settled) (under : s.underWay) (computes : (s.helm h).svc.computes = true)
    (quiet : ∀ g v k, k.h = g → Quiet g v (v.doCmd k c).1)
    (aside : ∀ v k, k.h = otherHelm h → (s.helm (otherHelm h)).svc.computes = true → Calm s v → R v (v.doCmd k c).1) :
    ∃ v, RowGives R s h t c v (v.runCmd (s.ctxOf h t) c) (s.hostRow t c) := by
  have own (x : State) (calm : Calm s x) (side : Aside h s x) : ∃ v, Readied h x v ∧ Calm s (x.rowAt h t c) ∧ Aside (otherHelm h) x (x.rowAt h t c)
      ∧ Followed h s.tb.crossing (v.runCmd (s.ctxOf h t) c).1 (x.rowAt h t c) t.port ((v.runCmd (s.ctxOf h t) c).2.replies c (s.ctxOf h t)) := by
    have ctx := side.ctxOf calm.1 t
    obtain ⟨v, ready, follow⟩ := State.rowAt_spec (t := t) (c := c) (calm.settled settled) (calm.underWay under) (by rw [calm.svc]; exact computes)
      fun v => (quiet h v _ (x.ctxOf_h h t)).runCmd
    have quietly := (quiet h v (s.ctxOf h t) (s.ctxOf_h h t)).runCmd
    rw [ctx, calm.1] at follow
    exact ⟨v, ready, calm.trans ((ready.mach.calm.trans quietly.calm).trans follow.mach.calm),
      (ready.aside.trans quietly.aside).trans follow.aside, follow⟩
  have row : s.hostRow t c = { (s.rowAt .a t c).rowAt .b t c with nextId := ((s.rowAt .a t c).rowAt .b t c).nextId + 1 } := by
    unfold State.hostRow
    rw [live]
    rfl
  have other (x : State) (calm : Calm s x) := State.rowAt_aside (t := t) (c := c) env (calm.settled settled) (calm.underWay under)
    (quiet (otherHelm h)) (fun v k at_ computes more => aside v k at_ (by rw [← calm.svc]; exact computes) (calm.trans more))
  have done (x z : State) (before : R s x) (calm : Calm s x) (side : Aside h s x) (after : R (x.rowAt h t c) z) (late : Aside h (x.rowAt h t c) z)
      (first : h = .a ∨ (s.helm .a).svc.computes = false → x = s)
      (whole : s.hostRow t c = { z with nextId := z.nextId + 1 }) : ∃ v, RowGives R s h t c v (v.runCmd (s.ctxOf h t) c) (s.hostRow t c) := by
    obtain ⟨v, ready, -, -, follow⟩ := own x calm side
    have count : Mach z (s.hostRow t c) := by
      rw [whole]
      exact ⟨rfl, rfl, fun _ => rfl, fun g => by cases g <;> exact .refl _, fun g => by cases g <;> rfl⟩
    have helm : (s.hostRow t c).helm h = z.helm h := by
      rw [whole]
      cases h <;> rfl
    have mine : ((s.hostRow t c).helm h).hs = ((x.rowAt h t c).helm h).hs := helm ▸ late.hs
    have calmly : Calm s v := calm.trans ready.mach.calm
    have quietly := (quiet h v (s.ctxOf h t) (s.ctxOf_h h t)).runCmd
    refine ⟨v, env.trans before (env.mach ready.mach), fun yes => first yes ▸ ready, calmly, side.hs ▸ ready.like, side.hs ▸ ready.mode, ?_,
      env.trans (env.mach follow.mach) (env.trans after (env.mach count)), ?_, ?_, ?_, ?_⟩
    · rw [ready.frame, side.helm]
    · rw [State.hsOf, mine]
      exact follow.like
    · rw [helm, late.helm, ← calm.slip h t.port, ← ready.mach.calm.slip h t.port, ← quietly.slip, ← follow.mach.calm.slip h t.port]
      cases t.port <;> rfl
    · rw [helm, late.helm]
      have start : (x.helm h).waiting t.port = (s.helm h).waiting t.port := by
        rw [side.helm]
        cases t.port <;> rfl
      rw [← start, ← ready.waiting, ← quietly.waiting, ← follow.waiting]
      cases t.port <;> rfl
    · rw [helm, late.helm]
      exact follow.shared
  cases h with
  | a =>
    obtain ⟨-, -, calm, -⟩ := own s (.refl s) (.refl _ s)
    obtain ⟨after, -, late⟩ := other (s.rowAt .a t c) calm
    exact done s _ (env.refl s) (.refl s) (.refl _ s) after late (fun _ => rfl) row
  | b =>
    obtain ⟨before, calm, side⟩ := other s (.refl s)
    exact done (s.rowAt .a t c) _ before calm side (env.refl _) (.refl _ _)
      (fun yes => State.rowAt_idle t c (yes.resolve_left nofun)) row

/-- A row of a calm command that executes at helm h. -/
theorem State.hostRow_gives {R : State → State → Prop} (env : Env R) {s : State} {h : HelmId} {t : Tag} {c : Cmd} (takes : s.takes h t c)
    (quiet : ∀ g v k, k.h = g → Quiet g v (v.doCmd k c).1)
    (aside : ∀ v k, k.h = otherHelm h → (s.helm (otherHelm h)).svc.computes = true → Calm s v → R v (v.doCmd k c).1) :
    ∃ v, RowGives R s h t c v (v.doCmd (s.ctxOf h t) c) (s.hostRow t c) := by
  obtain ⟨live, settled, under, computes, passes⟩ := takes
  obtain ⟨v, gives⟩ := State.hostRow_runs (t := t) env live settled under computes quiet aside
  have free : v.checkCmd (s.ctxOf h t) c = none :=
    (State.checkCmd_like (s := s) c (by rw [State.ctxOf_h]; exact gives.ready) (by rw [State.ctxOf_h]; exact gives.mode)).trans passes
  have run : v.runCmd (s.ctxOf h t) c = v.doCmd (s.ctxOf h t) c := by
    unfold State.runCmd
    rw [free]
  exact ⟨v, run ▸ gives⟩

end Sys2Proof.Machine
end

section
/-! PROOFS. Calm host commands: those that change their own helm alone, and those that change what the acting helm changes (R132, R185). -/

namespace Sys2Proof.Machine

section
variable {s t u : State} {h : HelmId}

/-- A command that changes its own helm alone. -/
def Own (h : HelmId) (s t : State) : Prop := Mach s t ∧ Quiet h s t

/-- A calm command that changes its own helm, and more where that helm makes the changes outside the helm states. -/
def Led (h : HelmId) (s t : State) : Prop := (s.acts h = false → Mach s t) ∧ Quiet h s t

theorem Own.refl (h : HelmId) (s : State) : Own h s s := ⟨.refl s, .refl h s⟩

theorem Own.trans (k : Own h s t) (l : Own h t u) : Own h s u := ⟨k.1.trans l.1, k.2.trans l.2⟩

theorem Own.led (k : Own h s t) : Led h s t := ⟨fun _ => k.1, k.2⟩

theorem Led.trans (k : Led h s t) (l : Led h t u) : Led h s u :=
  ⟨fun mute => (k.1 mute).trans (l.1 ((k.2.calm.acts h).trans mute)), k.2.trans l.2⟩

theorem Own.modHelm {f : Helm → Helm} (calm : (s.helm h).Calm (f (s.helm h))) (tests : (f (s.helm h)).tests = (s.helm h).tests)
    (waits : (f (s.helm h)).waitA = (s.helm h).waitA ∧ (f (s.helm h)).waitB = (s.helm h).waitB) : Own h s (s.modHelm h f) := by
  have mach := State.modHelm_mach calm tests
  refine ⟨mach, mach.calm, by rw [State.modHelm_helm_other], by cases h <;> exact ⟨rfl, rfl⟩, by cases h <;> rfl, ?_⟩
  rw [State.modHelm_helm]
  exact waits

theorem Own.modHs {f : HelmState → HelmState} (view : (f (s.hsOf h)).red.view = (s.hsOf h).red.view)
    (svc : ∀ g, (f (s.hsOf h)).red.svc g = (s.hsOf h).red.svc g)
    (charter : (f (s.hsOf h)).charter = (s.hsOf h).charter) : Own h s (s.modHs h f) :=
  .modHelm ⟨rfl, view, svc, charter⟩ rfl ⟨rfl, rfl⟩

theorem Own.modHs_red (s : State) (h : HelmId) (f : HelmState → HelmState) (red : ∀ a, (f a).red = a.red)
    (charter : ∀ a, (f a).charter = a.charter) : Own h s (s.modHs h f) :=
  .modHs (by rw [red]) (fun g => by rw [red]) (charter _)

theorem OnlyBell.own (mach : Mach s t) (bell : OnlyBell s t) : Own h s t :=
  ⟨mach, mach.calm, by rw [bell.helm], ⟨bell.ports.1, bell.ports.2.1⟩, bell.ports.2.2, by rw [bell.helm]; exact ⟨rfl, rfl⟩⟩

theorem Own.note (s : State) (h : HelmId) (n cls code : Nat) (d0 d1 d2 : Word) : Own h s (s.note h n cls code d0 d1 d2) := by
  unfold State.note State.sharedRec
  exact .modHelm ⟨rfl, rfl, fun _ => rfl, rfl⟩ rfl ⟨rfl, rfl⟩

theorem Own.act (s : State) (h : HelmId) (n : Nat) (p : Port) (cls code detail : Nat) (data : Word) : Own h s (s.act h n p cls code detail data) :=
  .note ..

theorem Own.chime (s : State) (h : HelmId) (k : Nat) : Own h s (s.chime h k) := (s.chime_mach h k).2.own (s.chime_mach h k).1

theorem Own.ite {c : Prop} [Decidable c] (k : c → Own h s t) (l : ¬ c → Own h s u) : Own h s (if c then t else u) := by
  split
  · next yes => exact k yes
  · next no => exact l no

/-- A change outside the helms, made by the helm that acts. -/
theorem Led.byLead {f : State → State} (quiet : Quiet h s (f s)) : Led h s (s.byLead h f) := by
  unfold State.byLead
  split
  · next on => exact ⟨fun off => absurd on (by rw [off]; exact Bool.false_ne_true), quiet⟩
  · exact (Own.refl h s).led

/-- Nothing of the helms, the ports, the crossing and the reset controller differs. -/
structure Outside (s t : State) : Prop where
  helmA : t.helmA = s.helmA
  helmB : t.helmB = s.helmB
  hpa : t.hpa = s.hpa
  hpb : t.hpb = s.hpb
  nextId : t.nextId = s.nextId
  crossing : t.tb.crossing = s.tb.crossing
  counting : t.tb.counting = s.tb.counting
  rst : t.rst = s.rst

theorem Outside.helm (k : Outside s t) (g : HelmId) : t.helm g = s.helm g := by
  cases g
  · exact k.helmA
  · exact k.helmB

theorem Outside.quiet (k : Outside s t) : Quiet h s t :=
  ⟨⟨k.crossing, k.counting, k.rst, fun g => k.helm g ▸ .refl _⟩, by rw [k.helm], ⟨k.hpa, k.hpb⟩, k.nextId, by rw [k.helm]; exact ⟨rfl, rfl⟩⟩

end

/-! ### The records of a command -/

@[simp] theorem State.note_hsOf (s : State) (h g : HelmId) (n cls code : Nat) (d0 d1 d2 : Word) :
    (s.note h n cls code d0 d1 d2).hsOf g = s.hsOf g := by
  cases h <;> cases g <;> rfl

@[simp] theorem State.act_hsOf (s : State) (h g : HelmId) (n : Nat) (p : Port) (cls code detail : Nat) (data : Word) :
    (s.act h n p cls code detail data).hsOf g = s.hsOf g := by
  unfold State.act
  exact State.note_hsOf ..

@[simp] theorem State.modHs_hsOf (s : State) (h : HelmId) (f : HelmState → HelmState) : (s.modHs h f).hsOf h = f (s.hsOf h) := by
  cases h <;> rfl

@[simp] theorem State.chime_hsOf (s : State) (h g : HelmId) (k : Nat) : (s.chime h k).hsOf g = s.hsOf g := by
  unfold State.hsOf
  rw [(s.chime_mach h k).2.helm]

/-! ### Rows of calm commands -/

/-- A row of a command that changes its own helm alone. -/
theorem State.hostRow_mach {s : State} {h : HelmId} {t : Tag} {c : Cmd} (takes : s.takes h t c) (own : ∀ v k, Own k.h v (v.doCmd k c).1) :
    ∃ v, RowGives Mach s h t c v (v.doCmd (s.ctxOf h t) c) (s.hostRow t c) ∧ Mach s (s.hostRow t c) := by
  obtain ⟨v, gives⟩ := State.hostRow_gives .mach' takes (fun g v k at_ => at_ ▸ (own v k).2) (fun v k _ _ _ => (own v k).1)
  exact ⟨v, gives, (gives.before.trans (own v _).1).trans gives.after⟩

theorem RowGives.mono {Q R : State → State → Prop} (weaker : ∀ {s t}, Q s t → R s t) {s : State} {h : HelmId} {t : Tag} {c : Cmd} {v : State}
    {r : State × Ans} {u : State} (gives : RowGives Q s h t c v r u) : RowGives R s h t c v r u :=
  { gives with before := weaker gives.before, after := weaker gives.after }

/-- The same, in the vocabulary of the statements. -/
theorem State.hostRow_own {s : State} {h : HelmId} {t : Tag} {c : Cmd} (takes : s.takes h t c) (own : ∀ v k, Own k.h v (v.doCmd k c).1) :
    ∃ v, RowGives OnlyHelmSide s h t c v (v.doCmd (s.ctxOf h t) c) (s.hostRow t c) ∧ OnlyHelmSide s (s.hostRow t c) := by
  obtain ⟨v, gives, mach⟩ := State.hostRow_mach takes own
  exact ⟨v, gives.mono Mach.only, mach.only⟩

/-- A row of a command at the helm that acts, and no other. -/
theorem State.hostRow_led {s : State} {h : HelmId} {t : Tag} {c : Cmd} (takes : s.takes h t c) (sole : s.soleActor h)
    (led : ∀ v k, Led k.h v (v.doCmd k c).1) : ∃ v, RowGives Mach s h t c v (v.doCmd (s.ctxOf h t) c) (s.hostRow t c) := by
  refine State.hostRow_gives .mach' takes (fun g v k at_ => at_ ▸ (led v k).2) fun v k at_ computes calm => (led v k).1 ?_
  rw [calm.acts, at_]
  exact sole.2 computes

section
variable {R : State → State → Prop} {s : State} {h : HelmId} {t : Tag} {c : Cmd} {v : State} {r : State × Ans} {u : State}

theorem RowGives.answered (gives : RowGives R s h t c v r u) {a : Ans} (ans : r.2 = a) (now : a.later = false) : Answered s u h t c a := by
  have waiting := gives.waiting
  unfold Ans.replies at waiting
  rw [ans, if_neg (by rw [now]; exact Bool.false_ne_true), State.ctxOf_tag] at waiting
  exact ⟨waiting, gives.slip⟩

theorem RowGives.later (gives : RowGives R s h t c v r u) (later : r.2.later = true) :
    (u.helm h).slip t.port = (s.helm h).slip t.port ∧ (u.helm h).waiting t.port = (s.helm h).waiting t.port := by
  have waiting := gives.waiting
  unfold Ans.replies at waiting
  rw [if_pos later, List.append_nil] at waiting
  exact ⟨gives.slip, waiting⟩

/-- The helm state in which a command is applied is the one before the row, but for what every row brings along. -/
theorem RowGives.like_of (gives : RowGives R s h t c v r u) {f : HelmState → HelmState} (does : r.1.hsOf h = f (v.hsOf h))
    (f_like : ∀ a b, a.like b → (f a).like (f b)) : (u.hsOf h).like (f (s.hsOf h)) :=
  gives.like.trans (does ▸ f_like _ _ gives.ready)

/-- A command that leaves the state as it is, with its answer. -/
theorem RowGives.refused (gives : RowGives R s h t c v r u) {a : Ans} (does : r = (v, a)) (now : a.later = false) :
    (u.hsOf h).like (s.hsOf h) ∧ Answered s u h t c a :=
  ⟨gives.like.trans ((congrArg (fun r : State × Ans => r.1.hsOf h) does) ▸ gives.ready), gives.answered (congrArg Prod.snd does) now⟩

end

/-- A row's context, named. -/
theorem State.ctxOf_named (s : State) (h : HelmId) (t : Tag) : ∃ k, s.ctxOf h t = k ∧ k.h = h ∧ k.tag = t ∧ k.n = s.tb.crossing :=
  ⟨_, rfl, s.ctxOf_h h t, s.ctxOf_tag h t, s.ctxOf_n h t⟩

end Sys2Proof.Machine
end

section
/-! PROOFS. Roles: challenges, responses and drops (R395 to R398). -/

namespace Sys2Proof.Machine

theorem HelmState.modRole_red (a : HelmState) (p : Port) (f : RoleSt → RoleSt) : (a.modRole p f).red = a.red := by cases p <;> rfl

theorem HelmState.modRole_charter (a : HelmState) (p : Port) (f : RoleSt → RoleSt) : (a.modRole p f).charter = a.charter := by cases p <;> rfl

theorem HelmState.modRole_same (a : HelmState) (p : Port) (f : RoleSt → RoleSt) : (a.modRole p f).role p = f (a.role p) := by cases p <;> rfl

theorem HelmState.modRole_other (a : HelmState) (p : Port) (f : RoleSt → RoleSt) : (a.modRole p f).role (otherPort p) = a.role (otherPort p) := by
  cases p <;> rfl

theorem HelmState.like.role {a b : HelmState} (k : a.like b) (p : Port) : a.role p = b.role p := by
  rw [k]
  cases p <;> rfl

theorem HelmState.like.crossings {a b : HelmState} (k : a.like b) (n : Nat) : a.crossings n = b.crossings n := by
  unfold HelmState.crossings HelmState.strokeTide
  rw [k.charter]

theorem Own.modRole {s : State} {h : HelmId} {p : Port} (f : HelmState → RoleSt → RoleSt) : Own h s (s.modHs h (fun hs => hs.modRole p (f hs))) :=
  .modHs_red s h _ (fun _ => HelmState.modRole_red ..) (fun _ => HelmState.modRole_charter ..)

theorem State.endRole_own (s : State) (h : HelmId) (n : Nat) (p : Port) (cause : Nat) : Own h s (s.endRole h n p cause) := by
  unfold State.endRole
  exact .ite (fun _ => .refl h s) fun _ => (Own.act ..).trans (.modRole fun _ r => { r with held := none, fp := 0, chal := none })

theorem State.roleFail_own (s : State) (h : HelmId) (n : Nat) (p : Port) : Own h s (s.roleFail h n p) := by
  unfold State.roleFail
  dsimp only
  exact (Own.act ..).trans (.modRole fun hs r => { r with
    chal := none
    fails := r.fails + 1
    lockedUntil := if 3 ≤ r.fails + 1 && r.lockedUntil.isNone then some (n + hs.crossings 10) else r.lockedUntil })

theorem State.challenge_own (s : State) (k : Ctx) (b : Byte) : Own k.h s (s.challenge k b).1 := by
  unfold State.challenge
  dsimp only
  split
  · exact .refl ..
  · split
    · exact .refl ..
    · exact .modRole fun hs r => { r with
        chal := some ⟨roleOf b, (List.range 32).map (Config.noise k.id), wd (if k.moved.again then k.at_.landing else k.L), k.n + hs.crossings 30⟩ }

theorem State.response_own (s : State) (k : Ctx) (resp : List Byte) : Own k.h s (s.response k resp).1 := by
  unfold State.response
  dsimp only
  split
  · exact State.roleFail_own ..
  · split
    · exact State.roleFail_own ..
    · split
      · exact (Own.modRole fun _ r => { r with
          held := some _, fp := keyFp _, chal := none, fails := 0, lastHeard := k.at_.crossing }).trans (Own.act ..)
      · exact State.roleFail_own ..

/-- A challenge of a port that is not locked, for a role that has a key. -/
theorem State.challenge_spec {s : State} {k : Ctx} {b : Byte} (free : ((s.hsOf k.h).role k.tag.port).lockedUntil = none)
    (key : (roleKey (s.hsOf k.h).charter (roleOf b)).isSome = true) :
    (s.challenge k b).2 = { status := .ok, data := (List.range 32).map (Config.noise k.id) }
    ∧ ((s.challenge k b).1.hsOf k.h).role k.tag.port = { (s.hsOf k.h).role k.tag.port with
        chal := some ⟨roleOf b, (List.range 32).map (Config.noise k.id), wd (if k.moved.again then k.at_.landing else k.L),
          k.n + (s.hsOf k.h).crossings 30⟩ } := by
  have keyed : (roleKey (s.hsOf k.h).charter (roleOf b)).isNone = false := by rw [Option.isNone_eq_false_iff]; exact key
  unfold State.challenge
  dsimp only
  rw [free, keyed]
  refine ⟨rfl, ?_⟩
  show (((s.modHs _ _).hsOf k.h).role _) = _
  rw [State.modHs_hsOf, HelmState.modRole_same, free]

/-- A response to a challenge whose role has a key, that is right. -/
theorem State.response_right {s : State} {k : Ctx} {resp key : List Byte} {c : Chal} (chal : ((s.hsOf k.h).role k.tag.port).chal = some c)
    (keyed : roleKey (s.hsOf k.h).charter c.role = some key) (right : hmac256 key (roleMsg c k.tag.port) = resp) :
    ((s.response k resp).1.hsOf k.h).role k.tag.port = { (s.hsOf k.h).role k.tag.port with
      held := some c.role, fp := keyFp key, chal := none, fails := 0, lastHeard := k.at_.crossing } := by
  unfold State.response
  dsimp only
  rw [chal]
  dsimp only
  rw [keyed]
  dsimp only
  rw [if_pos right]
  show ((((s.modHs _ _).act ..).hsOf k.h).role _) = _
  rw [State.act_hsOf, State.modHs_hsOf, HelmState.modRole_same]

theorem State.response_wrong {s : State} {k : Ctx} {resp key : List Byte} {c : Chal} (chal : ((s.hsOf k.h).role k.tag.port).chal = some c)
    (keyed : roleKey (s.hsOf k.h).charter c.role = some key) (wrong : hmac256 key (roleMsg c k.tag.port) ≠ resp) :
    s.response k resp = (s.roleFail k.h k.n k.tag.port, Ans.st .authFailed) := by
  unfold State.response
  dsimp only
  rw [chal]
  dsimp only
  rw [keyed]
  dsimp only
  rw [if_neg wrong]

theorem State.roleFail_role (s : State) (h : HelmId) (n : Nat) (p : Port) : let r := (s.hsOf h).role p
    ((s.roleFail h n p).hsOf h).role p = { r with
      chal := none
      fails := r.fails + 1
      lockedUntil := if 3 ≤ r.fails + 1 && r.lockedUntil.isNone then some (n + (s.hsOf h).crossings 10) else r.lockedUntil } := by
  unfold State.roleFail
  dsimp only
  rw [State.modHs_hsOf, HelmState.modRole_same, State.act_hsOf]

theorem State.endRole_role (s : State) (h : HelmId) (n : Nat) (p : Port) (cause : Nat) :
    (((s.endRole h n p cause).hsOf h).role p).held = none ∧ (((s.endRole h n p cause).hsOf h).role p).chal = none
    ∧ ((s.endRole h n p cause).hsOf h).role (otherPort p) = (s.hsOf h).role (otherPort p) := by
  unfold State.endRole
  dsimp only
  split
  · next idle =>
    simp only [Bool.and_eq_true, Option.isNone_iff_eq_none] at idle
    exact ⟨idle.1, idle.2, rfl⟩
  · rw [State.modHs_hsOf, State.act_hsOf, HelmState.modRole_same, HelmState.modRole_other]
    exact ⟨rfl, rfl, rfl⟩

/-- A frame that waits has moved with its stamp alone. -/
theorem State.ctxOf_moved (s : State) (h : HelmId) (t : Tag) :
    (if (s.ctxOf h t).moved.again then (s.ctxOf h t).at_.landing else (s.ctxOf h t).L) = (s.ctxOf h t).L := by
  unfold State.ctxOf
  split
  · exact ite_self _
  · rfl

/-- Settles O55: each command changes the roles of its own helm alone. -/
theorem roleCommands : Obligations.RoleCommands := by
  intro s h t
  have moved := s.ctxOf_moved h t
  obtain ⟨k, ctx, rfl, rfl, n⟩ := s.ctxOf_named h t
  rw [ctx] at moved
  dsimp only
  rw [ctx, ← n]
  refine ⟨fun b takes free key => ?_, fun c key resp takes chal keyed right => ?_, fun c key resp takes chal keyed wrong => ?_, fun takes => ?_⟩
  · obtain ⟨v, gives, only⟩ := State.hostRow_own takes fun v k => v.challenge_own k b
    have like := gives.like
    have ready := gives.ready
    obtain ⟨ans, role⟩ := State.challenge_spec (s := v) (k := k) (b := b) (by rw [ready.role]; exact free) (by rw [ready.charter]; exact key)
    rw [ctx] at like
    rw [ready.role, ready.crossings, moved] at role
    exact ⟨_, rfl, only, (like.role _).trans role, gives.answered (by rw [ctx]; exact ans) rfl⟩
  · obtain ⟨v, gives, only⟩ := State.hostRow_own takes fun v k => v.response_own k resp
    have like := gives.like
    have ready := gives.ready
    have role := State.response_right (s := v) (k := k) (by rw [ready.role]; exact chal) (by rw [ready.charter]; exact keyed) right
    rw [ctx] at like
    have roles := (like.role k.tag.port).trans role
    exact ⟨_, rfl, only, by rw [roles], by rw [roles], by rw [roles], by rw [roles]⟩
  · obtain ⟨v, gives, only⟩ := State.hostRow_own takes fun v k => v.response_own k resp
    have like := gives.like
    have ready := gives.ready
    have does : v.doCmd k (.roleResponse resp) = (v.roleFail k.h k.n k.tag.port, Ans.st .authFailed) :=
      State.response_wrong (by rw [ready.role]; exact chal) (by rw [ready.charter]; exact keyed) wrong
    have role := v.roleFail_role k.h k.n k.tag.port
    dsimp only at role
    rw [ready.role, ready.crossings] at role
    rw [ctx, does] at like
    have roles := (like.role k.tag.port).trans role
    refine ⟨_, rfl, only, by rw [roles], by rw [roles], by rw [roles], fun third free => ?_, gives.answered (by rw [ctx, does]) rfl⟩
    rw [roles]
    exact if_pos (by rw [free]; simpa using third)
  · obtain ⟨v, gives, only⟩ := State.hostRow_own takes fun v k => v.endRole_own k.h k.n k.tag.port 1
    obtain ⟨held, chal, other⟩ := v.endRole_role k.h k.n k.tag.port 1
    have like := gives.like
    rw [ctx] at like
    exact ⟨_, rfl, only, by rw [like.role]; exact held, by rw [like.role]; exact chal, by rw [like.role, ← gives.ready.role]; exact other⟩

end Sys2Proof.Machine
end

section
/-! PROOFS. The charter draft and its commit (R155 to R160, R408). -/

namespace Sys2Proof.Machine

theorem State.charterWrite_own (s : State) (k : Ctx) (off : Nat) (ws : List Word) : Own k.h s (s.charterWrite k off ws).1 := by
  unfold State.charterWrite
  dsimp only
  split
  · exact .refl ..
  · split
    · exact .refl ..
    · exact (Own.modHs (f := fun hs => { hs with draft := some ⟨_, _⟩ }) rfl (fun _ => rfl) rfl).trans (Own.act ..)

theorem State.charterDiscard_own (s : State) (k : Ctx) : Own k.h s (s.charterDiscard k).1 := by
  unfold State.charterDiscard
  dsimp only
  split
  · exact .refl ..
  · split
    · exact .refl ..
    · exact (Own.modHs (f := fun hs => { hs with draft := none }) rfl (fun _ => rfl) rfl).trans (Own.act ..)

/-- A commit answers with nothing changed, or makes the draft the pending charter. -/
theorem State.charterCommit_own (s : State) (k : Ctx) (gen atW : Word) (crc : BitVec 32) : Own k.h s (s.charterCommit k gen atW crc).1 := by
  unfold State.charterCommit
  dsimp only
  split
  · exact .refl ..
  split
  · exact .refl ..
  split
  · exact .refl ..
  split
  · exact .refl ..
  split
  · exact .refl ..
  split
  · exact .refl ..
  split
  · exact .refl ..
  exact (Own.modHs (f := fun hs => { hs with draft := none, pend := some _ }) rfl (fun _ => rfl) rfl).trans (Own.act ..)

theorem HelmState.like.draft {a b : HelmState} (k : a.like b) : a.draft = b.draft := (congrArg HelmState.draft k :)
theorem HelmState.like.pend {a b : HelmState} (k : a.like b) : a.pend = b.pend := (congrArg HelmState.pend k :)

theorem HelmState.like.foreignDraft {a b : HelmState} (k : a.like b) (p : Port) : a.foreignDraft p = b.foreignDraft p := by
  unfold HelmState.foreignDraft
  rw [k.draft]

/-- The words that a write of the draft begins with (R156). -/
def HelmState.draftBase (a : HelmState) : List Word := match a.draft with
  | some d => d.words
  | none => a.charter

theorem HelmState.like.draftBase {a b : HelmState} (k : a.like b) : a.draftBase = b.draftBase := by
  unfold HelmState.draftBase
  rw [k.draft, k.charter]

section
variable {s : State} {k : Ctx}

theorem State.charterWrite_spec (off : Nat) (ws : List Word) (free : (s.hsOf k.h).pend = none)
    (own : (s.hsOf k.h).foreignDraft k.tag.port = false) :
    (s.charterWrite k off ws).1.hsOf k.h = { s.hsOf k.h with draft := some ⟨k.tag.port, overlay k.id (s.hsOf k.h).draftBase off ws⟩ }
    ∧ (s.charterWrite k off ws).2 = Ans.ok := by
  have does : s.charterWrite k off ws = ((s.modHs k.h (fun hs =>
      { hs with draft := some ⟨k.tag.port, overlay k.id (s.hsOf k.h).draftBase off ws⟩ })).act k.h k.n k.tag.port clsAct 0x043 ws.length (wd off),
      Ans.ok) :=
    (if_neg (by rw [free]; exact Bool.false_ne_true)).trans (if_neg (by rw [own]; exact Bool.false_ne_true))
  rw [does]
  exact ⟨(State.act_hsOf ..).trans (State.modHs_hsOf ..), rfl⟩

theorem State.charterWrite_foreign (off : Nat) (ws : List Word) (free : (s.hsOf k.h).pend = none)
    (foreign : (s.hsOf k.h).foreignDraft k.tag.port = true) : s.charterWrite k off ws = (s, Ans.st .draftOwned) := by
  unfold State.charterWrite
  dsimp only
  rw [free, foreign]
  rfl

theorem State.charterWrite_busy (off : Nat) (ws : List Word) (busy : (s.hsOf k.h).pend ≠ none) : s.charterWrite k off ws = (s, Ans.st .busy) :=
  if_pos (Option.isSome_iff_ne_none.2 busy)

theorem State.charterDiscard_spec (free : (s.hsOf k.h).pend = none) (own : (s.hsOf k.h).foreignDraft k.tag.port = false) :
    (s.charterDiscard k).1.hsOf k.h = { s.hsOf k.h with draft := none } ∧ (s.charterDiscard k).2 = Ans.ok := by
  have does : s.charterDiscard k = ((s.modHs k.h (fun hs => { hs with draft := none })).act k.h k.n k.tag.port clsAct 0x043 0 0xFFFFFF, Ans.ok) :=
    (if_neg (by rw [free]; exact Bool.false_ne_true)).trans (if_neg (by rw [own]; exact Bool.false_ne_true))
  rw [does]
  exact ⟨(State.act_hsOf ..).trans (State.modHs_hsOf ..), rfl⟩

theorem State.charterDiscard_foreign (free : (s.hsOf k.h).pend = none) (foreign : (s.hsOf k.h).foreignDraft k.tag.port = true) :
    s.charterDiscard k = (s, Ans.st .draftOwned) := by
  unfold State.charterDiscard
  dsimp only
  rw [free, foreign]
  rfl

theorem State.charterDiscard_busy (busy : (s.hsOf k.h).pend ≠ none) : s.charterDiscard k = (s, Ans.st .busy) :=
  if_pos (Option.isSome_iff_ne_none.2 busy)

theorem State.charterCommit_spec {gen atW : Word} {crc : BitVec 32} {d : Draft} {n : Nat} (free : (s.hsOf k.h).pend = none)
    (draft : (s.hsOf k.h).draft = some d) (own : d.owner = k.tag.port) (at_ : Machine.atLanding (k.L + commitDelay (s.hsOf k.h).charter) atW = some n)
    (next : gen = nextGen (chGen (s.hsOf k.h).charter)) (words : chGen (chTrim d.words) = gen) (sum : chCrc (chTrim d.words) = crc)
    (good : judgeDraft d.words (s.hsOf k.h).charter (decide (((s.hsOf k.h).role k.tag.port).held = some .maker)) = none)
    (fits : budgetOver (chTrim d.words) = false) :
    (s.charterCommit k gen atW crc).1.hsOf k.h = { s.hsOf k.h with draft := none, pend := some {
        words := chTrim d.words, gen := gen, at_ := n, ok := 0, port := k.tag.port, role := ((s.hsOf k.h).role k.tag.port).held
        fp := ((s.hsOf k.h).role k.tag.port).fp } }
    ∧ (s.charterCommit k gen atW crc).2 = { status := .ok, eff := some n } := by
  have same : ¬ (decide (gen ≠ nextGen (chGen (s.hsOf k.h).charter)) || decide (chGen (chTrim d.words) ≠ gen) || decide (chCrc (chTrim d.words) ≠ crc))
      = true := by
    simp [← next, words, sum]
  have fit : ¬ budgetOver (chTrim d.words) = true := by rw [fits]; exact Bool.false_ne_true
  have does : s.charterCommit k gen atW crc = ((s.modHs k.h (fun hs => { hs with draft := none, pend := some {
      words := chTrim d.words, gen := gen, at_ := n, ok := 0, port := k.tag.port, role := (hs.role k.tag.port).held
      fp := (hs.role k.tag.port).fp } })).act k.h k.n k.tag.port clsAct 0x044 (chTrim d.words).length (wd n),
      { status := .ok, eff := some n }) := by
    unfold State.charterCommit
    refine (if_neg (by rw [free]; exact Bool.false_ne_true)).trans ?_
    dsimp only
    rw [draft]
    refine (if_neg (not_not.2 own)).trans ?_
    rw [at_]
    refine (if_neg same).trans ?_
    rw [good]
    exact if_neg fit
  rw [does]
  exact ⟨(State.act_hsOf ..).trans (State.modHs_hsOf ..), rfl⟩

theorem State.charterCommit_foreign (gen atW : Word) (crc : BitVec 32) (free : (s.hsOf k.h).pend = none)
    (foreign : (s.hsOf k.h).foreignDraft k.tag.port = true) : s.charterCommit k gen atW crc = (s, Ans.st .draftOwned) := by
  unfold HelmState.foreignDraft at foreign
  unfold State.charterCommit
  refine (if_neg (by rw [free]; exact Bool.false_ne_true)).trans ?_
  dsimp only
  cases draft : (s.hsOf k.h).draft with
  | none => rw [draft] at foreign; cases foreign
  | some d =>
    rw [draft] at foreign
    exact if_pos (of_decide_eq_true foreign)

theorem State.charterCommit_busy (gen atW : Word) (crc : BitVec 32) (busy : (s.hsOf k.h).pend ≠ none) :
    s.charterCommit k gen atW crc = (s, Ans.st .busy) :=
  if_pos (Option.isSome_iff_ne_none.2 busy)

end

/-- Settles O56: each command changes the draft, or the pending charter, of its own helm alone. -/
theorem charterCommands : Obligations.CharterCommands := by
  refine ⟨fun s h t => ?_, fun s h t gen atW crc => ?_⟩
  · obtain ⟨k, ctx, rfl, rfl, -⟩ := s.ctxOf_named h t
    dsimp only
    rw [ctx]
    refine ⟨fun off ws takes free own => ?_, fun off ws takes free foreign => ?_, fun takes free own => ?_, fun takes free foreign => ?_,
      fun off ws takes busy => ?_, fun takes busy => ?_⟩
    · obtain ⟨v, gives, only⟩ := State.hostRow_own takes fun v k => v.charterWrite_own k off ws
      have ready := gives.ready
      obtain ⟨hs, ans⟩ := State.charterWrite_spec (s := v) (k := k) off ws (ready.pend.trans free) ((ready.foreignDraft _).trans own)
      refine ⟨_, rfl, only, ?_, gives.answered (by rw [ctx]; exact ans) rfl⟩
      rw [ready.draftBase] at hs
      exact gives.like_of (f := fun a => { a with draft := some ⟨k.tag.port, overlay k.id (s.hsOf k.h).draftBase off ws⟩ }) (by rw [ctx]; exact hs)
        fun a b like => by unfold HelmState.like; rw [like]
    · obtain ⟨v, gives, -⟩ := State.hostRow_own takes fun v k => v.charterWrite_own k off ws
      have ready := gives.ready
      exact ⟨_, rfl, gives.refused (by rw [ctx]; exact State.charterWrite_foreign off ws (ready.pend.trans free) ((ready.foreignDraft _).trans foreign)) rfl⟩
    · obtain ⟨v, gives, only⟩ := State.hostRow_own takes fun v k => v.charterDiscard_own k
      have ready := gives.ready
      obtain ⟨hs, ans⟩ := State.charterDiscard_spec (s := v) (k := k) (ready.pend.trans free) ((ready.foreignDraft _).trans own)
      refine ⟨_, rfl, only, ?_, gives.answered (by rw [ctx]; exact ans) rfl⟩
      exact gives.like_of (f := fun a => { a with draft := none }) (by rw [ctx]; exact hs) fun a b like => by unfold HelmState.like; rw [like]
    · obtain ⟨v, gives, -⟩ := State.hostRow_own takes fun v k => v.charterDiscard_own k
      have ready := gives.ready
      exact ⟨_, rfl, gives.refused (by rw [ctx]; exact State.charterDiscard_foreign (ready.pend.trans free) ((ready.foreignDraft _).trans foreign)) rfl⟩
    · obtain ⟨v, gives, -⟩ := State.hostRow_own takes fun v k => v.charterWrite_own k off ws
      exact ⟨_, rfl, gives.refused (by rw [ctx]; exact State.charterWrite_busy off ws (by rw [gives.ready.pend]; exact busy)) rfl⟩
    · obtain ⟨v, gives, -⟩ := State.hostRow_own takes fun v k => v.charterDiscard_own k
      exact ⟨_, rfl, gives.refused (by rw [ctx]; exact State.charterDiscard_busy (by rw [gives.ready.pend]; exact busy)) rfl⟩
  · obtain ⟨k, ctx, rfl, rfl, -⟩ := s.ctxOf_named h t
    dsimp only
    rw [ctx]
    intro takes
    obtain ⟨v, gives, only⟩ := State.hostRow_own takes fun v k => v.charterCommit_own k gen atW crc
    have ready := gives.ready
    refine ⟨fun d n free draft own at_ next words sum good fits => ?_, fun free foreign => ?_, fun busy => ?_⟩
    · obtain ⟨hs, ans⟩ := State.charterCommit_spec (s := v) (k := k) (ready.pend.trans free) (ready.draft.trans draft) own
        (by rw [ready.charter]; exact at_) (by rw [ready.charter]; exact next) words sum (by rw [ready.charter, ready.role]; exact good) fits
      refine ⟨_, rfl, only, ?_, gives.answered (by rw [ctx]; exact ans) rfl⟩
      rw [ready.role] at hs
      exact gives.like_of (f := fun a => { a with draft := none, pend := some {
        words := chTrim d.words, gen := gen, at_ := n, ok := 0, port := k.tag.port, role := ((s.hsOf k.h).role k.tag.port).held
        fp := ((s.hsOf k.h).role k.tag.port).fp } }) (by rw [ctx]; exact hs) fun a b like => by unfold HelmState.like; rw [like]
    · exact ⟨_, rfl, gives.refused (by rw [ctx]; exact State.charterCommit_foreign gen atW crc (ready.pend.trans free) ((ready.foreignDraft _).trans foreign)) rfl⟩
    · exact ⟨_, rfl, gives.refused (by rw [ctx]; exact State.charterCommit_busy gen atW crc (by rw [ready.pend]; exact busy)) rfl⟩

end Sys2Proof.Machine
end

section
/-! PROOFS. Snapshots and wake buffers asked for by a host (R168, R169, R324, R352, R355). -/

namespace Sys2Proof.Machine

/-- A snapshot of a channel does not fit (R324). -/
def HelmState.unfit (a : HelmState) (L ch : Nat) : Bool :=
  !freeSlot (a.charterAt (L + 1)) (ch / 4) || 2 ≤ (vat a.snaps (ch / 4) []).length
    || (match vat a.reps (ch / 4) none with
      | some r => r.ckFault || ((r.ai[ch % 4]?).map (·.uns)).getD true
      | none => true)

theorem HelmState.like.unfit {a b : HelmState} (k : a.like b) (L ch : Nat) : a.unfit L ch = b.unfit L ch := by
  have reps : a.reps = b.reps := (congrArg HelmState.reps k :)
  have snaps : a.snaps = b.snaps := (congrArg HelmState.snaps k :)
  unfold HelmState.unfit HelmState.charterAt
  rw [reps, snaps, k.pend, k.charter]

/-- The request of a snapshot. -/
def HelmState.askSnap (a : HelmState) (k : Ctx) (ch : Nat) : HelmState :=
  { a with
    reqs := vmod a.reqs (ch / 4) (fun l => l ++ [.snap (ch % 4)])
    snaps := vmod a.snaps (ch / 4) (fun l => l ++ [⟨k.id, k.tag, ch, 0, 0, 0, wd (k.L + 1), 0⟩]) }

theorem State.snapshot_eq (s : State) (k : Ctx) (ch : Nat) : s.snapshot k ch =
    if (s.hsOf k.h).unfit k.L ch then (s.modHs k.h (fun hs => hs.rc (grpAddr (ch / 4) 3) 8 1), Ans.st .converterBusy)
    else (s.modHs k.h (fun hs => hs.askSnap k ch), { status := .ok, later := true }) := rfl

theorem State.snapshot_own (s : State) (k : Ctx) (ch : Nat) : Own k.h s (s.snapshot k ch).1 := by
  rw [State.snapshot_eq]
  split
  · exact Own.modHs_red s k.h (fun hs => hs.rc (grpAddr (ch / 4) 3) 8 1) (fun _ => rfl) (fun _ => rfl)
  · exact Own.modHs_red s k.h (fun hs => hs.askSnap k ch) (fun _ => rfl) (fun _ => rfl)

/-- The request of WAKE_ARM (R352). -/
def HelmState.askWake (a : HelmState) (p : Nat) (chans trig : Byte) (level : Word) (pre total : Nat) : HelmState :=
  { a with reqs := vmod a.reqs p (fun l => l.filter (fun r => match r with | .wake _ _ _ _ _ => false | _ => true)
      ++ [.wake (chans.setWidth 4) trig (sc level) pre total]) }

theorem State.wakeArm_eq (s : State) (k : Ctx) (p : Nat) (chans trig : Byte) (level : Word) (pre total : Nat) :
    s.wakeArm k p chans trig level pre total =
    if trig ≠ 0xFF && wakeBad (s.hsOf k.h).charter p chans trig pre total then (s, Ans.st .paramBad)
    else (s.modHs k.h (fun hs => hs.askWake p chans trig level pre total), Ans.ok) := rfl

theorem State.wakeArm_own (s : State) (k : Ctx) (p : Nat) (chans trig : Byte) (level : Word) (pre total : Nat) :
    Own k.h s (s.wakeArm k p chans trig level pre total).1 := by
  rw [State.wakeArm_eq]
  split
  · exact .refl ..
  · exact Own.modHs_red s k.h (fun hs => hs.askWake p chans trig level pre total) (fun _ => rfl) (fun _ => rfl)

theorem HelmState.askWake_req (a : HelmState) {p : Nat} (lt : p < 4) (chans trig : Byte) (level : Word) (pre total : Nat) :
    ManReq.wake (chans.setWidth 4) trig (sc level) pre total ∈ vat (a.askWake p chans trig level pre total).reqs p [] := by
  unfold HelmState.askWake
  rw [vat_vmod _ _ _ lt]
  exact List.mem_append_right _ (List.mem_singleton.2 rfl)

/-- The landing by which a wake read is done (R355). -/
def HelmState.wakeDone (a : HelmState) (L p count : Nat) : Nat :=
  max L (vat a.wakeNext p 0) + 1 + (if 16 * a.strokeTide = 0 then count else (count + 16 * a.strokeTide - 1) / (16 * a.strokeTide))

/-- The request of a wake read. -/
def HelmState.askRead (a : HelmState) (k : Ctx) (p off count at_ total : Nat) : HelmState :=
  { a with
    wakeNext := vset a.wakeNext p at_
    wakeReads := vmod a.wakeReads p (fun l => l ++ [⟨k.id, k.tag, p, off, count, at_, wd (k.L - 1), total⟩]) }

/-- A complete capture, as the report shows it. -/
def HelmState.captured (a : HelmState) (p : Nat) : Bool :=
  match vat a.reps p none with
  | some r => r.wake == .complete
  | none => false

theorem State.wakeRead_eq (s : State) (k : Ctx) (p off count : Nat) : s.wakeRead k p off count =
    if !(s.hsOf k.h).captured p then (s, Ans.st .notReady)
    else if 4 ≤ (vat (s.hsOf k.h).wakeReads p []).length then (s, Ans.st .busy)
    else (s.modHs k.h (fun hs => hs.askRead k p off count ((s.hsOf k.h).wakeDone k.L p count) (((vat (s.hsOf k.h).reps p none).map (·.wakeTotal)).getD 0)),
      { status := .ok, later := true }) := rfl

theorem State.wakeRead_own (s : State) (k : Ctx) (p off count : Nat) : Own k.h s (s.wakeRead k p off count).1 := by
  rw [State.wakeRead_eq]
  split
  · exact .refl ..
  · split
    · exact .refl ..
    · exact Own.modHs_red s k.h (fun hs => hs.askRead k p off count _ _) (fun _ => rfl) (fun _ => rfl)

theorem HelmState.like.reps {a b : HelmState} (k : a.like b) : a.reps = b.reps := (congrArg HelmState.reps k :)
theorem HelmState.like.wakeReads {a b : HelmState} (k : a.like b) : a.wakeReads = b.wakeReads := (congrArg HelmState.wakeReads k :)
theorem HelmState.like.wakeNext {a b : HelmState} (k : a.like b) : a.wakeNext = b.wakeNext := (congrArg HelmState.wakeNext k :)

theorem HelmState.like.captured {a b : HelmState} (k : a.like b) (p : Nat) : a.captured p = b.captured p := by
  unfold HelmState.captured
  rw [k.reps]

theorem HelmState.captured_of {a : HelmState} {p : Nat} {r : Report} (rep : vat a.reps p none = some r) : a.captured p = (r.wake == .complete) := by
  unfold HelmState.captured
  rw [rep]

theorem HelmState.captured_false {a : HelmState} {p : Nat} (no : ∀ r, vat a.reps p none = some r → r.wake ≠ .complete) : a.captured p = false := by
  unfold HelmState.captured
  cases rep : vat a.reps p none with
  | none => rfl
  | some r => exact beq_eq_false_iff_ne.2 (no r rep)

theorem HelmState.unfit_false {a : HelmState} {L ch : Nat} {r : Report} (slot : freeSlot (a.charterAt (L + 1)) (ch / 4) = true)
    (room : (vat a.snaps (ch / 4) []).length < 2) (rep : vat a.reps (ch / 4) none = some r) (well : r.ckFault = false)
    (settled : (r.ai[ch % 4]?).map (·.uns) = some false) : a.unfit L ch = false := by
  unfold HelmState.unfit
  rw [slot, rep]
  dsimp only
  rw [well, settled, decide_eq_false (Nat.not_le.2 room)]
  rfl

theorem HelmState.unfit_true {a : HelmState} {L ch : Nat} (why : freeSlot (a.charterAt (L + 1)) (ch / 4) = false ∨ 2 ≤ (vat a.snaps (ch / 4) []).length
    ∨ vat a.reps (ch / 4) none = none
    ∨ ∃ r, vat a.reps (ch / 4) none = some r ∧ (r.ckFault = true ∨ (r.ai[ch % 4]?).map (·.uns) = some true)) : a.unfit L ch = true := by
  unfold HelmState.unfit
  rw [Bool.or_eq_true, Bool.or_eq_true]
  rcases why with full | many | none | ⟨r, rep, ill⟩
  · exact .inl (.inl (by rw [full]; rfl))
  · exact .inl (.inr (decide_eq_true many))
  · exact .inr (by rw [none])
  · refine .inr ?_
    rw [rep]
    dsimp only
    rcases ill with fault | uns
    · rw [fault]; rfl
    · rw [uns]; exact Bool.or_true _

/-- Settles O58: each request changes the helm state of its own helm alone, and a refused one counts at most. -/
theorem measureCommands : Obligations.MeasureCommands := by
  intro s h t
  obtain ⟨k, ctx, rfl, rfl, -⟩ := s.ctxOf_named h t
  dsimp only
  rw [ctx]
  have wakes (p : Nat) (c g : Byte) (l : Word) (a b : Nat) (takes : s.takes k.h k.tag (.wakeArm p c g l a b))
      (good : ¬ (g ≠ 0xFF && wakeBad (s.hsOf k.h).charter p c g a b) = true) :
      OnlyHelmSide s (s.hostRow k.tag (.wakeArm p c g l a b))
        ∧ (p < 4 → ManReq.wake (c.setWidth 4) g (sc l) a b ∈ vat ((s.hostRow k.tag (.wakeArm p c g l a b)).hsOf k.h).reqs p [])
        ∧ Answered s (s.hostRow k.tag (.wakeArm p c g l a b)) k.h k.tag (.wakeArm p c g l a b) Ans.ok := by
    obtain ⟨v, gives, only⟩ := State.hostRow_own takes fun v k => v.wakeArm_own k p c g l a b
    have does : v.doCmd k (.wakeArm p c g l a b) = (v.modHs k.h (fun hs => hs.askWake p c g l a b), Ans.ok) :=
      (v.wakeArm_eq ..).trans (if_neg (by rw [gives.ready.charter]; exact good))
    refine ⟨only, fun lt => ?_, gives.answered (by rw [ctx, does]) rfl⟩
    have like := gives.like
    rw [ctx, does, State.modHs_hsOf] at like
    rw [show ((s.hostRow k.tag _).hsOf k.h).reqs = _ from (congrArg HelmState.reqs like :)]
    exact HelmState.askWake_req _ lt ..
  refine ⟨fun ch r takes slot room rep well settled => ?_, fun ch takes why => ?_, fun p c g l a b takes trig good => ?_, fun p takes => ?_,
    fun p off n r takes rep complete room lt => ?_, fun p off n r takes rep complete full => ?_, fun p off n takes no => ?_⟩
  · obtain ⟨v, gives, only⟩ := State.hostRow_own takes fun v k => v.snapshot_own k ch
    have does : v.doCmd k (.analogSnapshot ch) = (v.modHs k.h (fun hs => hs.askSnap k ch), { status := .ok, later := true }) :=
      (v.snapshot_eq ..).trans (if_neg (by rw [gives.ready.unfit, HelmState.unfit_false slot room rep well settled]; exact Bool.false_ne_true))
    refine ⟨_, rfl, only, ?_, gives.later (by rw [ctx, does])⟩
    exact gives.like_of (f := fun hs => hs.askSnap k ch) (by rw [ctx, does, State.modHs_hsOf]) fun a b like => by unfold HelmState.like; rw [like]; rfl
  · obtain ⟨v, gives, only⟩ := State.hostRow_own takes fun v k => v.snapshot_own k ch
    have does : v.doCmd k (.analogSnapshot ch) = (v.modHs k.h (fun hs => hs.rc (grpAddr (ch / 4) 3) 8 1), Ans.st .converterBusy) :=
      (v.snapshot_eq ..).trans (if_pos (by rw [gives.ready.unfit, HelmState.unfit_true why]))
    refine ⟨_, rfl, only, ?_, gives.answered (by rw [ctx, does]) rfl⟩
    exact gives.like_of (f := fun hs => hs.rc (grpAddr (ch / 4) 3) 8 1) (by rw [ctx, does, State.modHs_hsOf])
      fun a b like => by unfold HelmState.like; rw [like]; rfl
  · exact ⟨_, rfl, wakes p c g l a b takes (by rw [good, Bool.and_false]; exact Bool.false_ne_true)⟩
  · exact ⟨_, rfl, wakes p 0 0xFF 0 0 1 takes Bool.false_ne_true⟩
  · obtain ⟨v, gives, only⟩ := State.hostRow_own takes fun v k => v.wakeRead_own k p off n
    have ready := gives.ready
    have does : v.doCmd k (.wakeRead p off n) = _ := (v.wakeRead_eq ..).trans
      ((if_neg (by rw [ready.captured, HelmState.captured_of rep, complete]; exact Bool.false_ne_true)).trans
        (if_neg (by rw [ready.wakeReads]; exact Nat.not_le.2 room)))
    have like := gives.like
    rw [ctx, does, State.modHs_hsOf] at like
    refine ⟨_, rfl, only, ⟨⟨k.id, k.tag, p, off, n, (v.hsOf k.h).wakeDone k.L p n, wd (k.L - 1), ((vat (v.hsOf k.h).reps p none).map (·.wakeTotal)).getD 0⟩,
      ?_, rfl, rfl, rfl, rfl, ?_, ?_⟩, gives.later (by rw [ctx, does])⟩
    · rw [like.wakeReads]
      show vat (vmod _ _ _) _ _ = _
      rw [vat_vmod _ _ _ lt, ready.wakeReads]
    · dsimp only
      rw [ready.reps, rep]
      rfl
    · dsimp only
      unfold HelmState.wakeDone
      omega
  · obtain ⟨v, gives, -⟩ := State.hostRow_own takes fun v k => v.wakeRead_own k p off n
    have ready := gives.ready
    exact ⟨_, rfl, gives.refused (by
      rw [ctx]
      exact (v.wakeRead_eq ..).trans ((if_neg (by rw [ready.captured, HelmState.captured_of rep, complete]; exact Bool.false_ne_true)).trans
        (if_pos (by rw [ready.wakeReads]; exact full)))) rfl⟩
  · obtain ⟨v, gives, -⟩ := State.hostRow_own takes fun v k => v.wakeRead_own k p off n
    exact ⟨_, rfl, gives.refused (by
      rw [ctx]
      exact (v.wakeRead_eq ..).trans (if_pos (by rw [gives.ready.captured, HelmState.captured_false no]; rfl))) rfl⟩

end Sys2Proof.Machine
end

section
/-! PROOFS. STATUS, READ_WINDOW, CHARTER_READ and COLLECTION (R117, R139, R141, R157). -/

namespace Sys2Proof.Machine

/-! ### Reads -/

/-- Reads tag the window, and leave its words, its RC fields and the timebase. -/
def Reads (s t : State) : Prop := t.win.snap = s.win.snap ∧ t.win.rc = s.win.rc ∧ t.tb = s.tb

theorem Reads.env : Env Reads where
  refl _ := ⟨rfl, rfl, rfl⟩
  trans k l := ⟨l.1.trans k.1, l.2.1.trans k.2.1, l.2.2.trans k.2.2⟩
  mach k := by rw [Reads, k.frame]; exact ⟨rfl, rfl, rfl⟩

theorem Window.tag_reads (w : Window) (id addr count : Nat) : (w.tag id addr count).snap = w.snap ∧ (w.tag id addr count).rc = w.rc := by
  unfold Window.tag
  split <;> exact ⟨rfl, rfl⟩

theorem State.readWin_spec (s : State) (k : Ctx) (addr count : Nat) :
    Quiet k.h s (s.readWin k addr count).1 ∧ Reads s (s.readWin k addr count).1 ∧ (s.readWin k addr count).1.hsOf k.h = s.hsOf k.h := by
  unfold State.readWin State.byLead
  dsimp only
  split
  · split
    · exact ⟨Outside.quiet ⟨rfl, rfl, rfl, rfl, rfl, rfl, rfl, rfl⟩, ⟨(Window.tag_reads ..).1, (Window.tag_reads ..).2, rfl⟩, by cases k.h <;> rfl⟩
    · exact ⟨.refl .., Reads.env.refl s, rfl⟩
  · exact ⟨.refl .., Reads.env.refl s, rfl⟩

theorem Window.read_congr {v w : Window} (same : v.snap = w.snap) (addr count : Nat) : v.read addr count = w.read addr count := by
  unfold Window.read Window.word
  rw [same]

/-! ### A collection -/

/-- The frame of a collection, or what stands in for it. -/
def State.collection (s : State) (h : HelmId) (t : Tag) (k : Byte) : Entered := (s.waiting h t).getD ⟨t, 0x01, [k], s.now, s.nextId, {}⟩

theorem State.collection_tag (s : State) (h : HelmId) (t : Tag) (k : Byte) : (s.collection h t k).tag = t := by
  unfold State.collection
  cases found : s.waiting h t with
  | none => rfl
  | some e =>
    have tagged : decide (e.tag = t) = true := List.find?_some (p := fun e : Entered => decide (e.tag = t)) found
    exact of_decide_eq_true tagged

/-- A collection at a helm that computes passages. -/
theorem State.collectAt_eq {s : State} {h : HelmId} (t : Tag) (k : Byte) (computes : (s.helm h).svc.computes = true) : s.collectAt h t k =
    if s.now.background && !s.testWindow h then s.answerCollection h (s.collection h t k)
    else (s.claim h t.port (s.collection h t k).id).modHs h (fun hs => { hs with cmds := hs.cmds ++ [s.collection h t k] }) := by
  unfold State.collectAt
  rw [computes]
  exact if_neg Bool.false_ne_true

theorem State.collectAt_idle {s : State} {h : HelmId} (t : Tag) (k : Byte) (idle : (s.helm h).svc.computes = false) : s.collectAt h t k = s := by
  unfold State.collectAt
  exact if_pos (by rw [idle]; rfl)

theorem State.collectAt_replies (s : State) (h : HelmId) (t : Tag) (k : Byte) : Replies h s (s.collectAt h t k) := by
  cases computes : (s.helm h).svc.computes with
  | false =>
    rw [State.collectAt_idle t k computes]
    exact .refl h s
  | true =>
    rw [State.collectAt_eq t k computes]
    split
    · exact State.answerCollection_replies ..
    · exact (s.claim_replies h _ _).trans (Replies.modHelm fun _ => rfl)

theorem State.claim_hsOf (s : State) (h : HelmId) (p : Port) (id : Nat) :
    (s.claim h p id).hsOf h = { s.hsOf h with cmds := (s.hsOf h).cmds.filter (fun e => e.id ≠ id) } := by
  cases h <;> cases p <;> rfl

theorem HelmState.setHeld_held (a : HelmState) (p : Port) (l : List HeldReply) : (a.setHeld p l).held p = l := by cases p <;> rfl

/-- The replies held do not depend on the frames that wait. -/
theorem HelmState.hold_held (a : HelmState) (l : List Entered) (e : Entered) :
    (HelmState.hold { a with cmds := l } e).held e.tag.port = (a.hold e).held e.tag.port := by
  have hear : HelmState.hear { a with cmds := l } e.tag.port e.at_.crossing = { a.hear e.tag.port e.at_.crossing with cmds := l } := by
    unfold HelmState.hear
    dsimp only
    split <;> rfl
  unfold HelmState.hold
  dsimp only
  rw [hear]
  generalize a.hear e.tag.port e.at_.crossing = b
  have held : HelmState.held { b with cmds := l } e.tag.port = b.held e.tag.port := by cases e.tag.port <;> rfl
  rw [held]
  split
  · exact held
  · rw [HelmState.setHeld_held, HelmState.setHeld_held]

/-- What a helm collects comes from the replies held alone. -/
theorem HelmState.collect_congr {a b : HelmState} {p : Port} (held : a.held p = b.held p) (own k : Byte) (at_ : Stamp) (id : Nat) :
    a.collect p own k at_ id = b.collect p own k at_ id := by
  unfold HelmState.collect
  rw [held]

/-- A collection answered: its reply waits, or stands in the slip, last. -/
theorem State.answerCollection_spec (s : State) (h : HelmId) (e : Entered) (gen : e.tag.gen = .ul2) : let u := s.answerCollection h e
    (u.helm h).slip e.tag.port = (s.helm h).slip e.tag.port
    ∧ (u.helm h).waiting e.tag.port = (s.helm h).waiting e.tag.port
        ++ [(e.id, ((s.hsOf h).hold e).collect e.tag.port e.tag.alive (pb e.prm 0) e.at_ e.id)] := by
  have ready := (s.claim_readied h e.tag.port e.id).trans (State.hold_readied _ h e)
  have hs : (((s.claim h e.tag.port e.id).modHs h (fun hs => hs.hold e)).hsOf h).held e.tag.port = ((s.hsOf h).hold e).held e.tag.port := by
    rw [State.modHs_hsOf, State.claim_hsOf]
    exact HelmState.hold_held ..
  unfold State.answerCollection
  dsimp only
  generalize (s.claim h e.tag.port e.id).modHs h (fun hs => hs.hold e) = v at *
  have told := v.deliver_told h e.tag e.id false ((v.hsOf h).collect e.tag.port e.tag.alive (pb e.prm 0) e.at_ e.id)
  refine ⟨(told.mach.calm.slip h _).trans (ready.mach.calm.slip h _), ?_⟩
  rw [told.waiting, ready.waiting, HelmState.collect_congr hs, if_neg (by rw [gen]; simp)]

/-- The last of the other replies of a port held under an alive value. -/
def HelmState.lastHeld (a : HelmState) (p : Port) (k : Byte) (id : Nat) : Option HeldReply :=
  ((a.held p).filter (fun e => e.id ≠ id)).reverse.find? (fun e => e.alive = k)

section
variable {a : HelmState} {p : Port} {own k : Byte} {at_ : Stamp} {id : Nat} {x : HeldReply} {r : Reply}

theorem HelmState.collect_gone (last : a.lastHeld p k id = none) :
    a.collect p own k at_ id = ⟨.replyGone, own, wd (at_.landing - 1), [], none⟩ := by
  unfold HelmState.lastHeld at last
  unfold HelmState.collect
  rw [last]

theorem HelmState.collect_pending (last : a.lastHeld p k id = some x) (mute : x.reply = none) :
    a.collect p own k at_ id = ⟨.acceptedPending, own, x.eff, [], none⟩ := by
  unfold HelmState.lastHeld at last
  unfold HelmState.collect
  rw [last]
  dsimp only
  rw [mute]

theorem HelmState.collect_told (last : a.lastHeld p k id = some x) (told : x.reply = some r) : a.collect p own k at_ id = { r with alive := own } := by
  unfold HelmState.lastHeld at last
  unfold HelmState.collect
  rw [last]
  dsimp only
  rw [told]

theorem HelmState.collect_alive : (a.collect p own k at_ id).alive = own := by
  cases last : a.lastHeld p k id with
  | none => rw [HelmState.collect_gone last]
  | some x =>
    cases told : x.reply with
    | none => rw [HelmState.collect_pending last told]
    | some r => rw [HelmState.collect_told last told]

end

/-- The row of the other helm leaves a helm and its frames. -/
theorem State.collectAt_aside (s : State) (h : HelmId) (t : Tag) (k : Byte) : Aside h s (s.collectAt (otherHelm h) t k) := by
  obtain ⟨frame, -, other, portA, portB⟩ := s.collectAt_replies (otherHelm h) t k
  rw [otherHelm_otherHelm] at other portA portB
  refine ⟨by rw [other], fun p => ?_, by rw [frame]⟩
  cases p
  · exact portA.1
  · exact portB.1

/-- A collection row: the machine as it is at its helm's turn, and after it. -/
theorem execCollection_spec {s : State} (h : HelmId) (t : Tag) (k : Byte) (live : s.live = true) :
    ∃ v u, exec (.collection t k) s = .next u ∧ Aside h s v ∧ v.tb = s.tb ∧ v.outcomes = s.outcomes ∧ u.helm h = (v.collectAt h t k).helm h := by
  have run : exec (.collection t k) s =
      .next { (s.collectAt .a t k).collectAt .b t k with nextId := ((s.collectAt .a t k).collectAt .b t k).nextId + 1 } := if_pos live
  cases h with
  | a =>
    have late := ((s.collectAt .a t k).collectAt_replies .b t k).other
    exact ⟨s, _, run, .refl _ s, rfl, rfl, late⟩
  | b =>
    have frame := (s.collectAt_replies .a t k).frame
    exact ⟨s.collectAt .a t k, _, run, s.collectAt_aside .b t k, by rw [frame], by rw [frame], rfl⟩

/-- The frame of a collection is the same at its helm's turn. -/
theorem Aside.collection {h : HelmId} {s v : State} (side : Aside h s v) (tb : v.tb = s.tb) (t : Tag) (k : Byte) :
    v.collection h t k = s.collection h t k := by
  unfold State.collection State.now
  rw [side.waiting, side.nextId, tb]

/-- Settles O51: reads leave the helm state, and a collection answers what is held. -/
theorem readsAndCollection : Obligations.ReadsAndCollection := by
  refine ⟨fun s h t => ⟨fun takes => ?_, fun a n takes => ?_, fun off n takes => ?_⟩, fun s h t k live computes gen => ?_⟩
  · obtain ⟨k, ctx, rfl, rfl, -⟩ := s.ctxOf_named h t
    obtain ⟨v, gives, only⟩ := State.hostRow_own takes fun v k => .refl k.h v
    have words : v.statusWords k.tag.port = s.statusWords k.tag.port := by
      unfold State.statusWords
      rw [gives.before]
    exact ⟨_, rfl, only, gives.refused (by rw [ctx, ← words]; rfl) rfl⟩
  · obtain ⟨k, ctx, rfl, rfl, -⟩ := s.ctxOf_named h t
    obtain ⟨v, gives⟩ := State.hostRow_gives Reads.env takes (fun g v k at_ => at_ ▸ (v.readWin_spec k a n).1) (fun v k _ _ _ => (v.readWin_spec k a n).2.1)
    obtain ⟨-, reads, hs⟩ := v.readWin_spec k a n
    have after := gives.after
    rw [ctx] at after
    obtain ⟨snap, rc, tb⟩ := Reads.env.trans (Reads.env.trans gives.before reads) after
    refine ⟨_, rfl, snap, rc, tb, gives.like_of (f := id) (by rw [ctx]; exact hs) fun _ _ like => like, gives.answered ?_ rfl⟩
    rw [ctx, ← Window.read_congr gives.before.1]
    show (v.readWin k a n).2 = _
    unfold State.readWin
    simp only [Bool.and_eq_true, decide_eq_true_eq, Bool.not_eq_true']
  · obtain ⟨k, ctx, rfl, rfl, -⟩ := s.ctxOf_named h t
    obtain ⟨v, gives, only⟩ := State.hostRow_own takes fun v k => .refl k.h v
    refine ⟨_, rfl, only, gives.refused ?_ rfl⟩
    rw [ctx, ← gives.ready.charter]
    show (v, _) = _
    simp only [Bool.and_eq_true, decide_eq_true_eq]
  · dsimp only
    obtain ⟨v, u, run, side, tb, outcomes, at_⟩ := execCollection_spec h t k live
    have serves : (v.helm h).svc.computes = true := by rw [side.helm]; exact computes
    have frame := side.collection tb t k
    have when : (v.now.background && !v.testWindow h) = (s.now.background && !s.testWindow h) := by
      unfold State.testWindow State.now
      rw [tb, outcomes]
    have row := State.collectAt_eq t k serves
    rw [when, frame] at row
    have slip : (v.helm h).slip t.port = (s.helm h).slip t.port := by rw [side.helm]; cases t.port <;> rfl
    have waiting : (v.helm h).waiting t.port = (s.helm h).waiting t.port := by rw [side.helm]; cases t.port <;> rfl
    have img : (u.hsOf h).img = (s.hsOf h).img := by
      have own := (v.collectAt_replies h t k).own
      unfold Helm.Replying at own
      have kept : ((v.collectAt h t k).helm h).hs.img = (v.helm h).hs.img := (congrArg (fun x : Helm => x.hs.img) own :)
      exact (congrArg (fun x : Helm => x.hs.img) at_).trans (kept.trans (congrArg HelmState.img side.hs))
    have tag := s.collection_tag h t k
    refine ⟨fun now => ?_, fun later => ?_⟩
    · rw [now, if_pos rfl] at row
      obtain ⟨slips, waits⟩ := v.answerCollection_spec h (s.collection h t k) (by rw [tag]; exact gen)
      rw [side.hs, tag] at waits
      rw [tag] at slips
      rw [← row, ← at_] at slips waits
      refine ⟨u, ((s.hsOf h).hold (s.collection h t k)).collect t.port t.alive (pb (s.collection h t k).prm 0) (s.collection h t k).at_
        (s.collection h t k).id, run, ?_, HelmState.collect_alive, img, fun gone => ?_, fun x some mute => ?_, fun x r some told => HelmState.collect_told some told⟩
      · rw [slips, waits, slip, waiting, List.append_assoc]
        rfl
      · exact ⟨congrArg Reply.status (HelmState.collect_gone gone), congrArg Reply.data (HelmState.collect_gone gone)⟩
      · have told := HelmState.collect_pending some mute (own := t.alive) (at_ := (s.collection h t k).at_)
        exact ⟨congrArg Reply.status told, congrArg Reply.data told, congrArg Reply.eff told⟩
    · rw [later, if_neg Bool.false_ne_true] at row
      have claim := v.claim_readied h t.port (s.collection h t k).id
      have helm := at_
      rw [row, State.modHs, State.modHelm_helm] at helm
      refine ⟨u, run, ?_, ?_, ?_, img⟩
      · have hs : u.hsOf h = _ := congrArg Helm.hs helm
        rw [hs]
        show ((v.claim ..).hsOf h).cmds ++ _ = _
        rw [State.claim_hsOf, side.hs]
        rfl
      · rw [helm, ← slip, ← claim.mach.calm.slip h t.port]
        cases t.port <;> rfl
      · rw [helm, ← waiting, ← claim.waiting]
        cases t.port <;> rfl

end Sys2Proof.Machine
end

section
/-! PROOFS. Writes of the register window (R42, R80, R126, R132, R143, R144, R236). -/

namespace Sys2Proof.Machine

/-! ### One word -/

/-- The flags of TIDE_STATUS and SYNC_STATUS that a word written at an address clears. -/
def flagsAt (a : Nat) (x : Word) : BitVec 4 :=
  if a = 0x020 then BitVec.ofNat 4 (bn (bitOf x 21))
  else if a = 0x026 then BitVec.ofNat 4 (bn (bitOf x 20) * 2 + bn (bitOf x 19) * 4 + bn (bitOf x 18) * 8)
  else 0

/-- The timebase after a word written. -/
def Timebase.written (t : Timebase) (a : Nat) (x : Word) : Timebase := { t with w1c := t.w1c ||| flagsAt a x }

/-- The bell after a word written. -/
def Bell.written (b : Bell) (a : Nat) (x : Word) : Bell :=
  { b with cleared := b.cleared ||| (if a = 0x030 then x else 0), maskTo := if a = 0x031 then some (x &&& 0xFFFE00) else b.maskTo }

/-- A counter's zeroing goes with the manifest (R236). -/
def HelmState.askZero (s : HelmState) (i : Nat) : HelmState :=
  { s with reqs := vmod s.reqs (i / 4) (fun l => if l.contains (.ctZero (i % 4)) then l else l ++ [.ctZero (i % 4)]) }

/-- The helm state after a word written. -/
def HelmState.written (s : HelmState) (a : Nat) (x : Word) : HelmState :=
  if 0x130 ≤ a ∧ a < 0x140 ∧ bitOf x 20 = true then s.askZero (a - 0x130) else s

theorem Timebase.written_zero (t : Timebase) {a : Nat} {x : Word} (zero : flagsAt a x = 0) : t.written a x = t := by
  unfold Timebase.written
  rw [zero, show t.w1c ||| 0 = t.w1c from BitVec.or_zero]

theorem Bell.written_other (b : Bell) {a : Nat} (x : Word) (cause : a ≠ 0x030) (mask : a ≠ 0x031) : b.written a x = b := by
  unfold Bell.written
  rw [if_neg cause, if_neg mask, show b.cleared ||| 0 = b.cleared from BitVec.or_zero]

theorem flagsAt_other {a : Nat} (x : Word) (tide : a ≠ 0x020) (sync : a ≠ 0x026) : flagsAt a x = 0 := by
  unfold flagsAt
  rw [if_neg tide, if_neg sync]

/-- What one word written is, at its helm. -/
structure Written (h : HelmId) (a : Nat) (x : Word) (s t : State) : Prop where
  led : Led h s t
  hs : t.hsOf h = (s.hsOf h).written a x
  tb : s.acts h = true → t.tb = s.tb.written a x
  bell : s.acts h = true → t.bell = s.bell.written a x
  frame : t = { s with helmA := t.helmA, helmB := t.helmB, tb := t.tb, bell := t.bell }

/-- A word that the acting helm writes for the Quay. -/
theorem State.byLead_written {s : State} {h : HelmId} {a : Nat} {x : Word} {f : State → State} (out : Outside s (f s)) (low : a < 0x130)
    (tb : (f s).tb = s.tb.written a x) (bell : (f s).bell = s.bell.written a x)
    (frame : f s = { s with tb := (f s).tb, bell := (f s).bell }) : Written h a x s (s.byLead h f) := by
  have stays : (s.hsOf h).written a x = s.hsOf h := if_neg fun range => Nat.not_le.2 low range.1
  refine ⟨.byLead out.quiet, ?_, fun acts => ?_, fun acts => ?_, ?_⟩
  · unfold State.byLead
    split
    · rw [State.hsOf, out.helm, stays, State.hsOf]
    · exact stays.symm
  · unfold State.byLead
    rw [if_pos acts, tb]
  · unfold State.byLead
    rw [if_pos acts, bell]
  · unfold State.byLead
    split
    · rw [out.helmA, out.helmB]
      exact frame
    · rfl

theorem State.writeWord_spec (s : State) (h : HelmId) (a : Nat) (x : Word) : Written h a x s (s.writeWord h a x) := by
  have out {t : State} (same : t = { s with tb := t.tb, bell := t.bell }) (crossing : t.tb.crossing = s.tb.crossing)
      (counting : t.tb.counting = s.tb.counting) : Outside s t :=
    ⟨by rw [same], by rw [same], by rw [same], by rw [same], by rw [same], crossing, counting, by rw [same]⟩
  unfold State.writeWord
  dsimp only
  split
  · next at_ =>
    subst at_
    exact State.byLead_written (out rfl rfl rfl) (by decide) rfl (s.bell.written_other x (by decide) (by decide)).symm rfl
  split
  · next at_ =>
    subst at_
    exact State.byLead_written (out rfl rfl rfl) (by decide) rfl (s.bell.written_other x (by decide) (by decide)).symm rfl
  split
  · next at_ =>
    subst at_
    exact State.byLead_written (out rfl rfl rfl) (by decide) (s.tb.written_zero rfl).symm rfl rfl
  split
  · next at_ =>
    subst at_
    refine State.byLead_written (out rfl rfl rfl) (by decide) (s.tb.written_zero rfl).symm ?_ rfl
    unfold Bell.written
    rw [show s.bell.cleared ||| (if (0x031 : Nat) = 0x030 then x else 0) = s.bell.cleared from BitVec.or_zero]
    rfl
  next tide sync cause mask =>
  have tb : s.tb.written a x = s.tb := s.tb.written_zero (flagsAt_other x tide sync)
  have bell : s.bell.written a x = s.bell := s.bell.written_other x cause mask
  split
  · next range =>
    simp only [Bool.and_eq_true, decide_eq_true_eq] at range
    obtain ⟨⟨low, high⟩, bit⟩ := range
    have own : Own h s (s.modHs h (fun hs => hs.askZero (a - 0x130))) := Own.modHs_red s h _ (fun _ => rfl) (fun _ => rfl)
    refine ⟨own.led, ?_, fun _ => ?_, fun _ => ?_, ?_⟩
    · exact (State.modHs_hsOf ..).trans (if_pos ⟨low, high, bit⟩).symm
    · rw [tb]; cases h <;> rfl
    · rw [bell]; cases h <;> rfl
    · cases h <;> rfl
  · next range =>
    refine ⟨(Own.refl h s).led, (if_neg fun all => range ?_).symm, fun _ => tb.symm, fun _ => bell.symm, rfl⟩
    simp only [Bool.and_eq_true, decide_eq_true_eq]
    exact ⟨⟨all.1, all.2.1⟩, all.2.2⟩

/-! ### Words from an address on -/

/-- The word that a write brings to an address. -/
def wordsFrom (a : Nat) (ws : List Word) (x : Nat) : Word := if a ≤ x ∧ x < a + ws.length then ws.getD (x - a) 0 else 0

theorem wordsFrom_nil (a x : Nat) : wordsFrom a [] x = 0 := if_neg fun range => by
  have := range.2
  simp only [List.length_nil] at this
  omega

theorem wordsFrom_cons (a : Nat) (v : Word) (vs : List Word) (x : Nat) : wordsFrom a (v :: vs) x = if x = a then v else wordsFrom (a + 1) vs x := by
  unfold wordsFrom
  rw [List.length_cons]
  split
  · next range =>
    split
    · next here =>
      rw [here, Nat.sub_self]
      rfl
    · next later =>
      rw [if_pos (by omega), show x - a = (x - (a + 1)) + 1 by omega, List.getD_cons_succ]
  · next out =>
    rw [if_neg (by omega), if_neg (by omega)]

theorem wordsFrom_before (a : Nat) (vs : List Word) : wordsFrom (a + 1) vs a = 0 := if_neg (by omega)

/-- The flags that the words of a write clear. -/
def flagsOf (w : Nat → Word) : BitVec 4 := flagsAt 0x020 (w 0x020) ||| flagsAt 0x026 (w 0x026)

theorem flagsOf_cons (a : Nat) (v : Word) (vs : List Word) : flagsAt a v ||| flagsOf (wordsFrom (a + 1) vs) = flagsOf (wordsFrom a (v :: vs)) := by
  have tide : flagsAt 0x020 0 = 0 := rfl
  have sync : flagsAt 0x026 0 = 0 := rfl
  have zeroL (x : BitVec 4) : 0 ||| x = x := BitVec.zero_or
  have zeroR (x : BitVec 4) : x ||| 0 = x := BitVec.or_zero
  unfold flagsOf
  rw [wordsFrom_cons, wordsFrom_cons]
  by_cases at_tide : a = 0x020
  · subst at_tide
    rw [wordsFrom_before, if_pos rfl, if_neg (by decide), tide, zeroL]
  · rw [if_neg (Ne.symm at_tide)]
    by_cases at_sync : a = 0x026
    · subst at_sync
      rw [wordsFrom_before, if_pos rfl, sync, zeroR, BitVec.or_comm]
    · rw [if_neg (Ne.symm at_sync), flagsAt_other v at_tide at_sync, zeroL]

/-- The bell after a write. -/
def Bell.writes (b : Bell) (a : Nat) (ws : List Word) : Bell :=
  { b with cleared := b.cleared ||| wordsFrom a ws 0x030
           maskTo := if a ≤ 0x031 ∧ 0x031 < a + ws.length then some (wordsFrom a ws 0x031 &&& 0xFFFE00) else b.maskTo }

theorem Bell.writes_cons (b : Bell) (a : Nat) (v : Word) (vs : List Word) : (b.written a v).writes (a + 1) vs = b.writes a (v :: vs) := by
  have cleared : b.cleared ||| (if a = 0x030 then v else 0) ||| wordsFrom (a + 1) vs 0x030 = b.cleared ||| wordsFrom a (v :: vs) 0x030 := by
    rw [wordsFrom_cons, BitVec.or_assoc]
    by_cases here : a = 0x030
    · rw [if_pos here, if_pos here.symm, ← here, wordsFrom_before]
      exact congrArg _ BitVec.or_zero
    · rw [if_neg here, if_neg (Ne.symm here)]
      exact congrArg _ BitVec.zero_or
  have mask : (if a + 1 ≤ 0x031 ∧ 0x031 < a + 1 + vs.length then some (wordsFrom (a + 1) vs 0x031 &&& 0xFFFE00)
      else if a = 0x031 then some (v &&& 0xFFFE00) else b.maskTo)
      = if a ≤ 0x031 ∧ 0x031 < a + (v :: vs).length then some (wordsFrom a (v :: vs) 0x031 &&& 0xFFFE00) else b.maskTo := by
    rw [wordsFrom_cons, List.length_cons]
    by_cases here : a = 0x031
    · rw [if_pos here, if_pos here.symm, if_neg (by omega), if_pos (by omega)]
    · rw [if_neg here, if_neg (Ne.symm here)]
      by_cases later : a + 1 ≤ 0x031 ∧ 0x031 < a + 1 + vs.length
      · rw [if_pos later, if_pos (by omega)]
      · rw [if_neg later, if_neg (by omega)]
  unfold Bell.writes Bell.written
  dsimp only
  rw [cleared, mask]

/-- The requests that go with the manifest, with more of them at most. -/
def HelmState.Asks (a b : HelmState) : Prop :=
  b = { a with reqs := b.reqs } ∧ ∀ p r, p < 4 → r ∈ vat a.reqs p [] → r ∈ vat b.reqs p []

theorem HelmState.Asks.trans {a b c : HelmState} (k : a.Asks b) (l : b.Asks c) : a.Asks c :=
  ⟨by rw [l.1, k.1], fun p r lt mem => l.2 p r lt (k.2 p r lt mem)⟩

theorem HelmState.askZero_asks (s : HelmState) (i : Nat) : s.Asks (s.askZero i) := by
  refine ⟨rfl, fun p r lt mem => ?_⟩
  unfold HelmState.askZero
  dsimp only
  by_cases here : p = i / 4
  · subst here
    rw [vat_vmod _ _ _ lt]
    split
    · exact mem
    · exact List.mem_append_left _ mem
  · rw [vat_vmod_other _ _ _ here]
    exact mem

theorem HelmState.askZero_mem (s : HelmState) {i : Nat} (lt : i < 16) : ManReq.ctZero (i % 4) ∈ vat (s.askZero i).reqs (i / 4) [] := by
  unfold HelmState.askZero
  dsimp only
  rw [vat_vmod _ _ _ (by omega)]
  split
  · next has => exact List.contains_iff_mem.1 has
  · exact List.mem_append_right _ (List.mem_singleton.2 rfl)

theorem HelmState.written_asks (s : HelmState) (a : Nat) (x : Word) : s.Asks (s.written a x) := by
  unfold HelmState.written
  split
  · exact s.askZero_asks _
  · exact ⟨rfl, fun _ _ _ mem => mem⟩

/-- What a write is, at its helm. -/
structure Writes (h : HelmId) (a : Nat) (ws : List Word) (s t : State) : Prop where
  led : Led h s t
  asks : (s.hsOf h).Asks (t.hsOf h)
  zero : ∀ k, k < 16 → bitOf (wordsFrom a ws (0x130 + k)) 20 = true → ManReq.ctZero (k % 4) ∈ vat (t.hsOf h).reqs (k / 4) []
  none : (∀ k, k < 16 → bitOf (wordsFrom a ws (0x130 + k)) 20 = false) → t.hsOf h = s.hsOf h
  tb : s.acts h = true → t.tb = { s.tb with w1c := s.tb.w1c ||| flagsOf (wordsFrom a ws) }
  bell : s.acts h = true → t.bell = s.bell.writes a ws
  frame : t = { s with helmA := t.helmA, helmB := t.helmB, tb := t.tb, bell := t.bell }

theorem State.writeWords_spec (h : HelmId) : ∀ (ws : List Word) (a : Nat) (s : State), Writes h a ws s (s.writeWords h a ws)
  | [], a, s => by
    refine ⟨(Own.refl h s).led, ⟨rfl, fun _ _ _ mem => mem⟩, fun k lt bit => ?_, fun _ => rfl, fun _ => ?_, fun _ => ?_, rfl⟩
    · rw [wordsFrom_nil] at bit
      cases bit
    · rw [flagsOf, wordsFrom_nil, wordsFrom_nil]
      exact (s.tb.written_zero (a := 0x020) (x := 0) rfl).symm
    · unfold Bell.writes
      rw [wordsFrom_nil, if_neg (by simp only [List.length_nil]; omega), show s.bell.cleared ||| 0 = s.bell.cleared from BitVec.or_zero]
      rfl
  | v :: vs, a, s => by
    obtain ⟨led, hs, tb, bell, frame⟩ := s.writeWord_spec h a v
    have rest := State.writeWords_spec h vs (a + 1) (s.writeWord h a v)
    show Writes h a (v :: vs) s ((s.writeWord h a v).writeWords h (a + 1) vs)
    generalize s.writeWord h a v = u at *
    generalize u.writeWords h (a + 1) vs = t at *
    have acts : s.acts h = true → u.acts h = true := fun on => (led.2.calm.acts h).trans on
    have first : (s.hsOf h).Asks (u.hsOf h) := hs ▸ HelmState.written_asks ..
    refine ⟨led.trans rest.led, first.trans rest.asks, fun k lt bit => ?_, fun no => ?_, fun on => ?_, fun on => ?_, by rw [rest.frame, frame]⟩
    · rw [wordsFrom_cons] at bit
      split at bit
      · next here =>
        refine rest.asks.2 _ _ (by omega) ?_
        rw [hs, HelmState.written, if_pos ⟨by omega, by omega, bit⟩, show a - 0x130 = k by omega]
        exact HelmState.askZero_mem _ lt
      · exact rest.zero k lt bit
    · have here : ¬ (0x130 ≤ a ∧ a < 0x140 ∧ bitOf v 20 = true) := fun ⟨low, high, bit⟩ => by
        have off := no (a - 0x130) (by omega)
        rw [wordsFrom_cons, if_pos (by omega), bit] at off
        cases off
      rw [rest.none fun k lt => ?_, hs, HelmState.written, if_neg here]
      have off := no k lt
      rw [wordsFrom_cons] at off
      split at off
      · next same =>
        rw [same, wordsFrom_before]
        rfl
      · exact off
    · rw [rest.tb (acts on), tb on, ← flagsOf_cons]
      unfold Timebase.written
      rw [BitVec.or_assoc]
    · rw [rest.bell (acts on), bell on, Bell.writes_cons]

end Sys2Proof.Machine
end

section
/-! PROOFS. WRITE_WINDOW (R132, R143, R144): a bad write changes nothing, a good one writes each of its words. -/

namespace Sys2Proof.Machine

section
variable {s : State} {h : HelmId} {a : Nat} {ws : List Word}

theorem any_range_iff (n a : Nat) (f : Nat → Bool) : ((List.range n).map (a + ·)).any f = true ↔ ∃ i, i < n ∧ f (a + i) = true := by
  simp

theorem any_range_false {n a : Nat} {f : Nat → Bool} (no : ∀ i, i < n → f (a + i) = false) : ¬ ((List.range n).map (a + ·)).any f = true := by
  rw [any_range_iff]
  rintro ⟨i, lt, yes⟩
  rw [no i lt] at yes
  cases yes

theorem State.writeWin_over (past : ∃ i, i < ws.length ∧ 0x7FF < a + i) : s.writeWin h a ws = (s, Ans.st .addrOverrun) := by
  obtain ⟨i, lt, far⟩ := past
  exact if_pos ((any_range_iff ..).2 ⟨i, lt, decide_eq_true far⟩)

theorem State.writeWin_undefined (near : ∀ i, i < ws.length → a + i ≤ 0x7FF) (bad : ∃ i, i < ws.length ∧ winDefined (a + i) = false) :
    s.writeWin h a ws = (s, Ans.st .undefinedAddr) := by
  obtain ⟨i, lt, no⟩ := bad
  exact (if_neg (any_range_false fun i lt => decide_eq_false (Nat.not_lt.2 (near i lt)))).trans
    (if_pos ((any_range_iff ..).2 ⟨i, lt, by rw [no]; rfl⟩))

theorem State.writeWin_good (good : ∀ i, i < ws.length → a + i ≤ 0x7FF ∧ winDefined (a + i) = true) :
    s.writeWin h a ws = (s.writeWords h a ws, Ans.ok) :=
  (if_neg (any_range_false fun i lt => decide_eq_false (Nat.not_lt.2 (good i lt).1))).trans
    (if_neg (any_range_false fun i lt => by rw [(good i lt).2]; rfl))

/-- A write is calm. -/
theorem State.writeWin_led (s : State) (h : HelmId) (a : Nat) (ws : List Word) : Led h s (s.writeWin h a ws).1 := by
  unfold State.writeWin
  dsimp only
  split
  · exact (Own.refl h s).led
  split
  · exact (Own.refl h s).led
  exact (State.writeWords_spec h ws a s).led

end

/-- What a write may touch, whoever makes it. -/
def OnlyWrite (s t : State) : Prop :=
  t = { s with helmA := t.helmA, helmB := t.helmB, hpa := t.hpa, hpb := t.hpb, bell := t.bell, nextId := t.nextId, tb := t.tb }

theorem OnlyWrite.env : Env OnlyWrite where
  refl _ := rfl
  trans k l := by
    unfold OnlyWrite at *
    rw [l, k]
  mach k := by
    unfold OnlyWrite
    rw [k.frame]

theorem State.writeWin_only (s : State) (h : HelmId) (a : Nat) (ws : List Word) : OnlyWrite s (s.writeWin h a ws).1 := by
  unfold State.writeWin
  dsimp only
  split
  · rfl
  split
  · rfl
  have frame := (State.writeWords_spec h ws a s).frame
  unfold OnlyWrite
  dsimp only
  rw [frame]

/-- What a good write leaves. -/
structure Wrote (s : State) (h : HelmId) (t : Tag) (a : Nat) (ws : List Word) (u : State) : Prop where
  only : OnlyWrite s u
  answered : Answered s u h t (.writeWindow a ws) Ans.ok
  tb : s.soleActor h → u.tb = { s.tb with w1c := s.tb.w1c ||| flagsOf (wordsFrom a ws) }
  cleared : s.soleActor h → u.bell.cleared = s.bell.cleared ||| wordsFrom a ws 0x030
  maskTo : s.soleActor h → u.bell.maskTo = if a ≤ 0x031 ∧ 0x031 < a + ws.length then some (wordsFrom a ws 0x031 &&& 0xFFFE00) else s.bell.maskTo
  mask : s.soleActor h → u.bell.mask = s.bell.mask
  cause : s.soleActor h → s.landingsRun = true → u.bell.cause = s.bell.cause
  zero : ∀ k, k < 16 → bitOf (wordsFrom a ws (0x130 + k)) 20 = true → ManReq.ctZero (k % 4) ∈ vat (u.hsOf h).reqs (k / 4) []
  none : (∀ k, k < 16 → bitOf (wordsFrom a ws (0x130 + k)) 20 = false) → (u.hsOf h).like (s.hsOf h)
  img : (u.hsOf h).img = (s.hsOf h).img

theorem State.hostRow_wrote {s : State} {h : HelmId} {t : Tag} {a : Nat} {ws : List Word} (takes : s.takes h t (.writeWindow a ws))
    (good : ∀ i, i < ws.length → a + i ≤ 0x7FF ∧ winDefined (a + i) = true) : Wrote s h t a ws (s.hostRow t (.writeWindow a ws)) := by
  have quiet (g : HelmId) (v : State) (k : Ctx) (at_ : k.h = g) : Quiet g v (v.doCmd k (.writeWindow a ws)).1 := at_ ▸ (v.writeWin_led k.h a ws).2
  obtain ⟨k, ctx, rfl, rfl, -⟩ := s.ctxOf_named h t
  have does (v : State) : v.doCmd k (.writeWindow a ws) = (v.writeWords k.h a ws, Ans.ok) := State.writeWin_good good
  have acting (sole : s.soleActor k.h) : ∃ v, RowGives Mach s k.h k.tag (.writeWindow a ws) v (v.writeWords k.h a ws, Ans.ok)
      (s.hostRow k.tag (.writeWindow a ws)) := by
    obtain ⟨v, gives⟩ := State.hostRow_led takes sole fun v k => v.writeWin_led k.h a ws
    rw [ctx, does] at gives
    exact ⟨v, gives⟩
  have bell (sole : s.soleActor k.h) : let u := s.hostRow k.tag (.writeWindow a ws)
      u.tb = { s.tb with w1c := s.tb.w1c ||| flagsOf (wordsFrom a ws) } ∧ u.bell = { s.bell.writes a ws with due := u.bell.due, cause := u.bell.cause }
        ∧ (s.landingsRun = true → u.bell.cause = s.bell.cause) := by
    intro u
    obtain ⟨v, gives⟩ := acting sole
    have spec := State.writeWords_spec k.h ws a v
    have on : v.acts k.h = true := (gives.calm.acts _).trans sole.1
    have before : v.tb = s.tb := (congrArg State.tb gives.before.frame :)
    have after : u.tb = (v.writeWords k.h a ws).tb := (congrArg State.tb gives.after.frame :)
    have written := spec.bell on
    refine ⟨by rw [after, spec.tb on, before], ?_, fun runs => ?_⟩
    · rw [gives.after.bell, written, gives.before.bell]
      rfl
    · have still : (v.writeWords k.h a ws).landingsRun = true := by
        rw [spec.led.2.calm.landingsRun, gives.calm.landingsRun]
        exact runs
      rw [gives.after.cause still, written]
      exact gives.before.cause runs
  obtain ⟨v, gives⟩ := State.hostRow_gives OnlyWrite.env takes quiet fun v k _ _ _ => v.writeWin_only k.h a ws
  rw [ctx, does] at gives
  have spec := State.writeWords_spec k.h ws a v
  have only : OnlyWrite v (v.writeWords k.h a ws) := by
    have frame := spec.frame
    unfold OnlyWrite
    rw [frame]
  have reqs := (congrArg HelmState.reqs gives.like :)
  refine ⟨OnlyWrite.env.trans (OnlyWrite.env.trans gives.before only) gives.after, gives.answered rfl rfl, fun sole => (bell sole).1,
    fun sole => by rw [(bell sole).2.1]; rfl, fun sole => by rw [(bell sole).2.1]; rfl, fun sole => by rw [(bell sole).2.1]; rfl,
    fun sole => (bell sole).2.2, fun i lt bit => ?_, fun no => ?_, ?_⟩
  · rw [show ((s.hostRow k.tag _).hsOf k.h).reqs = _ from reqs]
    exact spec.zero i lt bit
  · have same := spec.none no
    exact gives.like.trans (same ▸ gives.ready)
  · have kept : ((v.writeWords k.h a ws).hsOf k.h).img = (v.hsOf k.h).img := (congrArg HelmState.img spec.asks.1 :)
    exact (congrArg HelmState.img gives.like :).trans (kept.trans (congrArg HelmState.img gives.ready :))

/-! ### The flags of a write -/

theorem flagsOf_eq (w : Nat → Word) : flagsOf w = BitVec.ofNat 4 (bn (bitOf (w 0x020) 21) + bn (bitOf (w 0x026) 20) * 2
    + bn (bitOf (w 0x026) 19) * 4 + bn (bitOf (w 0x026) 18) * 8) := by
  have bits : ∀ a b c d : Bool, BitVec.ofNat 4 (bn a) ||| BitVec.ofNat 4 (bn b * 2 + bn c * 4 + bn d * 8)
      = BitVec.ofNat 4 (bn a + bn b * 2 + bn c * 4 + bn d * 8) := by decide
  exact bits ..

theorem wordsFrom_one (a : Nat) (v : Word) : wordsFrom a [v] a = v := by rw [wordsFrom_cons, if_pos rfl]

theorem wordsFrom_one_other {a x : Nat} (v : Word) (other : x ≠ a) : wordsFrom a [v] x = 0 := by
  rw [wordsFrom_cons, if_neg other, wordsFrom_nil]

/-- A write of one word at a defined address. -/
theorem State.hostRow_wroteOne {s : State} {h : HelmId} {t : Tag} {a : Nat} {v : Word} (takes : s.takes h t (.writeWindow a [v])) (near : a ≤ 0x7FF)
    (defined : winDefined a = true) : Wrote s h t a [v] (s.hostRow t (.writeWindow a [v])) := by
  refine State.hostRow_wrote takes fun i lt => ?_
  obtain rfl : i = 0 := by simpa using lt
  exact ⟨near, defined⟩

/-- A write that clears no flag leaves the timebase, whoever makes it. -/
theorem State.writeWords_tb {s : State} {h : HelmId} {a : Nat} {ws : List Word} (none : flagsOf (wordsFrom a ws) = 0) : (s.writeWords h a ws).tb = s.tb := by
  have spec := State.writeWords_spec h ws a s
  cases acts : s.acts h with
  | true =>
    rw [spec.tb acts, none, show s.tb.w1c ||| 0 = s.tb.w1c from BitVec.or_zero]
  | false => exact (congrArg State.tb (spec.led.1 acts).frame :)

theorem flagsOf_one_other {a : Nat} (v : Word) (tide : a ≠ 0x020) (sync : a ≠ 0x026) : flagsOf (wordsFrom a [v]) = 0 := by
  unfold flagsOf
  rw [wordsFrom_one_other v (Ne.symm tide), wordsFrom_one_other v (Ne.symm sync)]
  rfl

theorem winDefined_counters : ∀ k : Fin 16, winDefined (0x130 + k.val) = true := by decide

/-- The timebase stays. -/
def SameTb (s t : State) : Prop := t.tb = s.tb

theorem SameTb.env : Env SameTb := ⟨fun _ => rfl, fun k l => Eq.trans l k, fun k => (congrArg State.tb k.frame :)⟩

theorem Timebase.or_none (t : Timebase) {f : BitVec 4} (none : f = 0) : { t with w1c := t.w1c ||| f } = t := by
  rw [none, show t.w1c ||| 0 = t.w1c from BitVec.or_zero]

theorem flagsOf_tide (v : Word) : flagsOf (wordsFrom 0x020 [v]) = if bitOf v 21 = true then 1 else 0 := by
  rw [flagsOf_eq, wordsFrom_one, wordsFrom_one_other v (by decide)]
  cases bitOf v 21 <;> rfl

theorem flagsOf_sync (v : Word) : flagsOf (wordsFrom 0x026 [v]) = BitVec.ofNat 4 (bn (bitOf v 20) * 2 + bn (bitOf v 19) * 4 + bn (bitOf v 18) * 8) := by
  rw [flagsOf_eq, wordsFrom_one, wordsFrom_one_other v (by decide)]
  exact congrArg _ (by simp [bn, bitOf])

/-- Settles O52: a bad write answers and changes nothing; a good one writes word for word. -/
theorem windowWrites : Obligations.WindowWrites := by
  intro s h t
  dsimp only
  have mute {a : Nat} {ws : List Word} {st : Status} (takes : s.takes h t (.writeWindow a ws))
      (does : ∀ v g, State.writeWin v g a ws = (v, Ans.st st)) : ∃ u, exec (.writeWindow t a ws) s = .next u
        ∧ (OnlyHelmSide s u ∧ (u.hsOf h).like (s.hsOf h) ∧ u.bell.cleared = s.bell.cleared ∧ u.bell.maskTo = s.bell.maskTo)
        ∧ Answered s u h t (.writeWindow a ws) (Ans.st st) := by
    have same (v : State) (k : Ctx) : v.doCmd k (.writeWindow a ws) = (v, Ans.st st) := does v k.h
    obtain ⟨v, gives, mach⟩ := State.hostRow_mach takes fun v k => by rw [same]; exact .refl k.h v
    obtain ⟨like, answered⟩ := gives.refused (same ..) rfl
    exact ⟨_, rfl, ⟨mach.only, like, by rw [mach.bell], by rw [mach.bell]⟩, answered⟩
  refine ⟨fun a ws takes past => ?_, fun a ws takes near bad => ?_, fun a live settled under computes => ?_, fun a ws takes good => ?_,
    fun v takes sole => ?_, fun v takes sole => ?_, fun v takes sole => ?_, fun v takes sole => ?_, fun k takes => ?_⟩
  · exact mute takes fun _ _ => State.writeWin_over past
  · exact mute takes fun _ _ => State.writeWin_undefined near bad
  · have refuse (v : State) (k : Ctx) : v.runCmd k (.writeWindow a []) = (v, Ans.st .paramBad) := rfl
    have same (v : State) (k : Ctx) : v.doCmd k (.writeWindow a []) = (v, Ans.ok) := rfl
    obtain ⟨v, gives⟩ := State.hostRow_runs (t := t) (c := .writeWindow a []) .mach' live settled under computes
      (fun g v k _ => by rw [same]; exact .refl g v) (fun v k _ _ _ => by rw [same]; exact .refl v)
    obtain ⟨like, answered⟩ := gives.refused (refuse ..) rfl
    have mach : Mach s _ := gives.before.trans gives.after
    exact ⟨_, rfl, ⟨mach.only, like, by rw [mach.bell], by rw [mach.bell]⟩, answered⟩
  · have wrote := State.hostRow_wrote takes good
    refine ⟨_, rfl, ?_, ?_, ?_, wrote.answered, fun sole => ⟨wrote.cleared sole, wrote.maskTo sole, ?_⟩, fun k bit => wrote.zero k.val k.isLt bit, fun no => ?_⟩
    · rw [wrote.only]
    · rw [wrote.only]
    · rw [wrote.only]
    · rw [wrote.tb sole, flagsOf_eq]
      rfl
    · exact wrote.none fun k lt => no ⟨k, lt⟩
  · have wrote := State.hostRow_wroteOne takes (by decide) (by decide)
    refine ⟨_, rfl, ?_, wrote.cause sole, ?_⟩
    · rw [← wordsFrom_one 0x030 v]
      exact wrote.cleared sole
    · exact (wrote.tb sole).trans (s.tb.or_none (flagsOf_one_other v (by decide) (by decide)))
  · have wrote := State.hostRow_wroteOne takes (by decide) (by decide)
    have tb := wrote.tb sole
    rw [flagsOf_tide] at tb
    refine ⟨s.hostRow t (.writeWindow 0x020 [v]), rfl, tb, fun b => ?_⟩
    rw [tb]
    show (s.tb.refLost && (!(s.tb.w1c ||| _).getLsbD 0 || _)) = _
    rw [BitVec.getLsbD_or]
    cases bitOf v 21 <;> cases s.tb.w1c.getLsbD 0 <;> cases s.tb.fresh.getLsbD 0 <;> rfl
  · have wrote := State.hostRow_wroteOne takes (by decide) (by decide)
    have tb := wrote.tb sole
    rw [flagsOf_sync] at tb
    refine ⟨s.hostRow t (.writeWindow 0x026 [v]), rfl, by rw [tb], fun idle old b => ?_⟩
    have clears : ∀ x y z : Bool, let f : BitVec 4 := 0 ||| BitVec.ofNat 4 (bn x * 2 + bn y * 4 + bn z * 8)
        (!f.getLsbD 1 || (0 : BitVec 4).getLsbD 1) = !x ∧ (!f.getLsbD 2 || (0 : BitVec 4).getLsbD 2) = !y
          ∧ (!f.getLsbD 3 || (0 : BitVec 4).getLsbD 3) = !z := by decide
    obtain ⟨lost, mismatch, seen⟩ := clears (bitOf v 20) (bitOf v 19) (bitOf v 18)
    rw [tb, idle]
    unfold Timebase.land
    dsimp only
    rw [old]
    exact ⟨congrArg (s.tb.syncLost && ·) lost, congrArg (s.tb.syncMismatch && ·) mismatch, congrArg (s.tb.markSeen && ·) seen⟩
  · have wrote := State.hostRow_wroteOne takes (by decide) (by decide)
    refine ⟨_, rfl, ?_, wrote.mask sole, ?_⟩
    · rw [wrote.maskTo sole, if_pos (by simp), wordsFrom_one]
    · exact (wrote.tb sole).trans (s.tb.or_none (flagsOf_one_other v (by decide) (by decide)))
  · have good (i : Nat) (lt : i < [oneBit 20].length) : 0x130 + k.val + i ≤ 0x7FF ∧ winDefined (0x130 + k.val + i) = true := by
      obtain rfl : i = 0 := by simpa using lt
      exact ⟨by omega, winDefined_counters k⟩
    have none : flagsOf (wordsFrom (0x130 + k.val) [oneBit 20]) = 0 := flagsOf_one_other _ (by omega) (by omega)
    have wrote := State.hostRow_wrote takes good
    have same (v : State) (c : Ctx) : v.doCmd c (.writeWindow (0x130 + k.val) [oneBit 20]) = (v.writeWords c.h (0x130 + k.val) [oneBit 20], Ans.ok) :=
      State.writeWin_good good
    obtain ⟨v, gives⟩ := State.hostRow_gives SameTb.env takes (fun g v c at_ => at_ ▸ (v.writeWin_led c.h _ _).2)
      (fun v c _ _ _ => by rw [same]; exact State.writeWords_tb none)
    have bit : bitOf (wordsFrom (0x130 + k.val) [oneBit 20] (0x130 + k.val)) 20 = true := by
      rw [wordsFrom_one]
      decide
    refine ⟨_, rfl, wrote.zero k.val k.isLt bit, wrote.img, ?_⟩
    have after := gives.after
    rw [same] at after
    exact (SameTb.env.trans (SameTb.env.trans gives.before (State.writeWords_tb none)) after)

end Sys2Proof.Machine
end

section
/-! PROOFS. Commands whose effect lies in the Quay (R79, R162, R165 to R167, R430, R457). -/

namespace Sys2Proof.Machine

theorem State.byLead_on {s : State} {h : HelmId} {f : State → State} (acts : s.acts h = true) : s.byLead h f = f s := if_pos acts

/-- Settings that wait for the landing (R430). -/
def State.tollDue (s : State) (c : TkSet) : State :=
  { s with toll := { s.toll with due := some ⟨{ c with moorS := s.toll.moorNow }, true, true⟩ } }

/-- A SYNC pulse issued (R79). -/
def State.syncDue (s : State) (L : Nat) : State :=
  { s with tb := { s.tb with decimDue := some (L + 1), markDue := if s.syncRole = 1 then some (L + 1) else s.tb.markDue } }

/-- A clearing of the first-fault area accepted (R165). -/
def State.clearDue (s : State) (r : Rec) : State := { s with com := { s.com with ffDue := s.com.ffDue ++ [r] } }

/-- A restart of a check unit noted (R457). -/
def State.cuDue (s : State) (o : CuOp) : State := { s with cuOps := s.cuOps ++ [o] }

section
variable (s : State) (k : Ctx)

theorem State.tollDue_outside (c : TkSet) : Outside s (s.tollDue c) := ⟨rfl, rfl, rfl, rfl, rfl, rfl, rfl, rfl⟩
theorem State.syncDue_outside (L : Nat) : Outside s (s.syncDue L) := ⟨rfl, rfl, rfl, rfl, rfl, rfl, rfl, rfl⟩
theorem State.clearDue_outside (r : Rec) : Outside s (s.clearDue r) := ⟨rfl, rfl, rfl, rfl, rfl, rfl, rfl, rfl⟩
theorem State.cuDue_outside (o : CuOp) : Outside s (s.cuDue o) := ⟨rfl, rfl, rfl, rfl, rfl, rfl, rfl, rfl⟩

theorem State.tollConfig_eq (c : TkSet) :
    s.tollConfig k c = ((s.byLead k.h (fun s => s.tollDue c)).act k.h k.n k.tag.port clsAct 0x04C c.roster.toNat (wd c.closed), Ans.ok) := rfl

theorem State.syncIssue_eq : s.syncIssue k = (s.byLead k.h (fun s => s.syncDue k.L), Ans.ok) := rfl

/-- The record that a clearing of the first-fault area brings (R443). -/
def HelmState.clearRec (a : HelmState) (k : Ctx) : Rec :=
  ⟨⟨k.n, 240⟩, helmSource k.h, clsAct, 0x04D, wd (a.roleNo k.tag.port * 2 ^ 22 + portCode k.tag.port * 2 ^ 20), (a.role k.tag.port).fp, 0⟩

theorem State.markClear_eq : s.markClear k = (s.byLead k.h (fun v => v.clearDue ((s.hsOf k.h).clearRec k)), Ans.ok) := rfl

theorem State.checkConfig_eq (unit : Nat) (c : CheckUnit) : s.checkConfig k unit c = (s.byLead k.h (fun s => s.cuDue ⟨unit, k.L, some c⟩), Ans.ok) := rfl

/-- The answer to CHECK_READ (R167). -/
def checkAnswer (cus : Vector CheckUnit 4) (unit L : Nat) : Ans :=
  let u := (vat cus unit {}).foldUpTo (L - 1)
  { status := .ok
    data := bytesOfNat 4 (u.result u.reg).toNat ++ bytesOfNat 3 u.bytes ++ [BitVec.ofNat 8 (bn u.overrun + 2 * bn (u.flags.getLsbD 0))] }

theorem State.checkRead_eq (unit : Nat) (flags : Byte) : s.checkRead k unit flags =
    (if flags.getLsbD 0 then s.byLead k.h (fun s => s.cuDue ⟨unit, k.L, none⟩) else s, checkAnswer s.cus unit k.L) := rfl

theorem State.tollConfig_led (c : TkSet) : Led k.h s (s.tollConfig k c).1 := by
  rw [State.tollConfig_eq]
  exact (Led.byLead (s.tollDue_outside c).quiet).trans (Own.act ..).led

theorem State.syncIssue_led : Led k.h s (s.syncIssue k).1 := by
  rw [State.syncIssue_eq]
  dsimp only
  exact .byLead (s.syncDue_outside k.L).quiet

theorem State.hostMark_own (a b c : Word) : Own k.h s (s.hostMark k a b c).1 := .note ..

theorem State.markClear_led : Led k.h s (s.markClear k).1 := by
  rw [State.markClear_eq]
  dsimp only
  exact .byLead (s.clearDue_outside _).quiet

theorem State.checkConfig_led (unit : Nat) (c : CheckUnit) : Led k.h s (s.checkConfig k unit c).1 := by
  rw [State.checkConfig_eq]
  dsimp only
  exact .byLead (s.cuDue_outside _).quiet

theorem State.checkRead_led (unit : Nat) (flags : Byte) : Led k.h s (s.checkRead k unit flags).1 := by
  rw [State.checkRead_eq]
  dsimp only
  split
  · exact .byLead (s.cuDue_outside _).quiet
  · exact (Own.refl ..).led

end

/-- A command that the acting helm carries out for the Quay, its helm state left. -/
theorem RowGives.led {s : State} {h : HelmId} {t : Tag} {c : Cmd} {v : State} {r : State × Ans} {u : State} (gives : RowGives Mach s h t c v r u)
    (hs : r.1.hsOf h = v.hsOf h) : (u.hsOf h).like (s.hsOf h) := gives.like.trans (hs ▸ gives.ready)

theorem Outside.hsOf {s t : State} (k : Outside s t) (h : HelmId) : t.hsOf h = s.hsOf h := congrArg Helm.hs (k.helm h)

section
variable {s : State} {h : HelmId} {t : Tag} (sole : s.soleActor h)
include sole

theorem State.tollConfig_row {r : Byte} {c o : Word} {ms : Nat} {pol : Byte} (takes : s.takes h t (.tollConfig r c o ms pol)) :
    let u := s.hostRow t (.tollConfig r c o ms pol)
    u.toll = { s.toll with due := some ⟨⟨r, c.toNat, o.toNat, ms, decide (pol = 1), s.toll.moorNow⟩, true, true⟩ } ∧ (u.hsOf h).like (s.hsOf h) := by
  obtain ⟨k, ctx, rfl, rfl, -⟩ := s.ctxOf_named h t
  let set : TkSet := { roster := r, closed := c.toNat, opened := o.toNat, pulse := ms, pol := pol = 1 }
  obtain ⟨v, gives⟩ := State.hostRow_led takes sole fun v k => v.tollConfig_led k set
  have on : v.acts k.h = true := (gives.calm.acts _).trans sole.1
  have does : v.doCmd k (.tollConfig r c o ms pol) = _ := v.tollConfig_eq k set
  rw [State.byLead_on on] at does
  rw [ctx, does] at gives
  have before : v.toll = s.toll := (congrArg State.toll gives.before.frame :)
  refine ⟨?_, gives.led ((State.act_hsOf ..).trans ((v.tollDue_outside set).hsOf _))⟩
  rw [← before]
  exact (congrArg State.toll gives.after.frame :).trans (congrArg State.toll (Own.act ..).1.frame :)

theorem State.syncIssue_row (takes : s.takes h t .syncIssue) : let u := s.hostRow t .syncIssue
    u.tb = (s.syncDue (s.ctxOf h t).L).tb ∧ (u.hsOf h).like (s.hsOf h) := by
  obtain ⟨k, ctx, rfl, rfl, -⟩ := s.ctxOf_named h t
  obtain ⟨v, gives⟩ := State.hostRow_led takes sole fun v k => v.syncIssue_led k
  have on : v.acts k.h = true := (gives.calm.acts _).trans sole.1
  have does : v.doCmd k .syncIssue = _ := State.syncIssue_eq ..
  rw [State.byLead_on on] at does
  rw [ctx, does] at gives
  have before : v.tb = s.tb := (congrArg State.tb gives.before.frame :)
  have role : v.syncRole = s.syncRole := by
    unfold State.syncRole State.timingRec
    rw [gives.before.inForce]
  have same : (v.syncDue k.L).tb = (s.syncDue k.L).tb := by
    unfold State.syncDue
    dsimp only
    rw [role, before]
  refine ⟨?_, gives.led ((v.syncDue_outside _).hsOf _)⟩
  rw [ctx, ← same]
  exact (congrArg State.tb gives.after.frame :)

omit sole in
theorem State.hostMark_row {a b c : Word} (takes : s.takes h t (.hostMark a b c)) : let u := s.hostRow t (.hostMark a b c)
    OnlyHelmSide s u ∧ (u.hsOf h).like (s.hsOf h) ∧ Answered s u h t (.hostMark a b c) Ans.ok
      ∧ (⟨⟨s.tb.crossing, 240⟩, helmSource h, clsAct, 0x051, a, b, c⟩ : Rec) ∈ (u.helm h).shared := by
  obtain ⟨k, ctx, rfl, rfl, n⟩ := s.ctxOf_named h t
  obtain ⟨v, gives, only⟩ := State.hostRow_own takes fun v k => v.hostMark_own k a b c
  have does : v.doCmd k (.hostMark a b c) = (v.note k.h k.n clsAct 0x051 a b c, Ans.ok) := rfl
  rw [ctx, does] at gives
  refine ⟨only, gives.like.trans ((State.note_hsOf ..).symm ▸ gives.ready), gives.answered rfl rfl, ?_⟩
  rw [← n]
  refine gives.shared _ ?_ rfl
  have own := (v.note_spec k.h k.n clsAct 0x051 a b c).2.2.1
  rw [own]
  exact List.mem_append_right _ (List.mem_singleton.2 rfl)

theorem State.markClear_row (takes : s.takes h t .markClear) : let u := s.hostRow t .markClear
    u.com = { s.com with ffDue := s.com.ffDue ++ [(s.hsOf h).clearRec (s.ctxOf h t)] } ∧ u.nvmA = s.nvmA ∧ u.nvmB = s.nvmB
      ∧ (u.hsOf h).like (s.hsOf h) ∧ Answered s u h t .markClear Ans.ok := by
  obtain ⟨k, ctx, rfl, rfl, -⟩ := s.ctxOf_named h t
  obtain ⟨v, gives⟩ := State.hostRow_led takes sole fun v k => v.markClear_led k
  have on : v.acts k.h = true := (gives.calm.acts _).trans sole.1
  have does : v.doCmd k .markClear = _ := State.markClear_eq ..
  rw [State.byLead_on on] at does
  rw [ctx, does] at gives
  have record : (v.hsOf k.h).clearRec k = (s.hsOf k.h).clearRec k := by
    unfold HelmState.clearRec HelmState.roleNo
    rw [gives.ready.role]
  rw [record] at gives
  have before := gives.before.frame
  have after := gives.after.frame
  refine ⟨?_, ?_, ?_, gives.led ((v.clearDue_outside _).hsOf _), gives.answered rfl rfl⟩
  · rw [ctx, show s.com = v.com from (congrArg State.com before :).symm]
    exact (congrArg State.com after :)
  · exact (congrArg State.nvmA after :).trans (congrArg State.nvmA before :)
  · exact (congrArg State.nvmB after :).trans (congrArg State.nvmB before :)

theorem State.checkConfig_row {k : Nat} {c : CheckUnit} {cmd : Cmd} (takes : s.takes h t cmd)
    (does : ∀ (v : State) (x : Ctx), v.doCmd x cmd = v.checkConfig x k c) : let u := s.hostRow t cmd
    u.cuOps = s.cuOps ++ [⟨k, (s.ctxOf h t).L, some c⟩] ∧ u.cus = s.cus ∧ (u.hsOf h).like (s.hsOf h) ∧ Answered s u h t cmd Ans.ok := by
  obtain ⟨x, ctx, rfl, rfl, -⟩ := s.ctxOf_named h t
  obtain ⟨v, gives⟩ := State.hostRow_led takes sole fun v x => by rw [does]; exact v.checkConfig_led x k c
  have on : v.acts x.h = true := (gives.calm.acts _).trans sole.1
  rw [ctx, does, State.checkConfig_eq, State.byLead_on on] at gives
  have before := gives.before.frame
  have after := gives.after.frame
  refine ⟨?_, (congrArg State.cus after :).trans (congrArg State.cus before :), gives.led ((v.cuDue_outside _).hsOf _), gives.answered rfl rfl⟩
  rw [ctx, show s.cuOps = v.cuOps from (congrArg State.cuOps before :).symm]
  exact (congrArg State.cuOps after :)

theorem State.checkRead_row {k : Nat} {f : Byte} (takes : s.takes h t (.checkRead k f)) : let u := s.hostRow t (.checkRead k f)
    u.cuOps = s.cuOps ++ (if f.getLsbD 0 then [⟨k, (s.ctxOf h t).L, none⟩] else []) ∧ u.cus = s.cus ∧ (u.hsOf h).like (s.hsOf h)
      ∧ Answered s u h t (.checkRead k f) (checkAnswer s.cus k (s.ctxOf h t).L) := by
  obtain ⟨x, ctx, rfl, rfl, -⟩ := s.ctxOf_named h t
  obtain ⟨v, gives⟩ := State.hostRow_led takes sole fun v x => v.checkRead_led x k f
  have on : v.acts x.h = true := (gives.calm.acts _).trans sole.1
  have does : v.doCmd x (.checkRead k f) = _ := State.checkRead_eq ..
  rw [State.byLead_on on] at does
  rw [ctx, does] at gives
  have before := gives.before.frame
  have after := gives.after.frame
  have cus : v.cus = s.cus := (congrArg State.cus before :)
  have ops : v.cuOps = s.cuOps := (congrArg State.cuOps before :)
  rw [cus] at gives
  refine ⟨?_, ?_, gives.led ?_, ?_⟩
  · rw [ctx, ← ops]
    refine (congrArg State.cuOps after :).trans ?_
    dsimp only
    split
    · rfl
    · exact (List.append_nil _).symm
  · rw [← cus]
    refine (congrArg State.cus after :).trans ?_
    dsimp only
    split <;> rfl
  · dsimp only
    split
    · exact (v.cuDue_outside _).hsOf _
    · rfl
  · rw [ctx]
    exact gives.answered rfl rfl

end

end Sys2Proof.Machine
end

section
/-! PROOFS. BLACKBOX_READ (R163, R164): what it reads depends on the engine and the banks alone. -/

namespace Sys2Proof.Machine

/-- The engine, the banks, the free values and the time are the same. -/
structure SameStore (s v : State) : Prop where
  com : v.com = s.com
  nvmA : v.nvmA = s.nvmA
  nvmB : v.nvmB = s.nvmB
  free : v.free = s.free
  tb : v.tb = s.tb

section
variable {s v : State} (k : SameStore s v)
include k

theorem SameStore.quayRec (r : Rec) : (v.quayRec r).com = (s.quayRec r).com := by
  unfold State.quayRec
  rw [k.com]
  split
  · exact k.com
  · split
    · rfl
    · exact k.com

theorem SameStore.bank (b : Bool) : v.bank b = s.bank b := by
  cases b
  · exact k.nvmA
  · exact k.nvmB

theorem SameStore.putBank (b : Bool) (addr : Nat) (ws : List Word) (j : Option (Nat × Word)) (ok : Bool) :
    SameStore (s.putBank b addr ws j ok) (v.putBank b addr ws j ok) := by
  have com : (v.putBank b addr ws j ok).com = (s.putBank b addr ws j ok).com := by
    rw [State.putBank_com, State.putBank_com, k.com, show v.nvmFault addr b = s.nvmFault addr b by rw [State.nvmFault, State.now, k.tb]; rfl, k.quayRec]
  have free : (v.putBank b addr ws j ok).free = (s.putBank b addr ws j ok).free := by
    have at_ (x : State) : (x.putBank b addr ws j ok).free = if ok then x.free else x.free + 9 := by cases b <;> rfl
    rw [at_, at_, k.free]
  have tb : (v.putBank b addr ws j ok).tb = (s.putBank b addr ws j ok).tb := by
    rw [State.putBank_onlyWritten v, State.putBank_onlyWritten s]
    exact k.tb
  have put : (v.putBank b addr ws j ok).bank b = (s.putBank b addr ws j ok).bank b := by
    rw [State.putBank_bank, State.putBank_bank, k.bank, k.free]
  have other : (v.putBank b addr ws j ok).bank (!b) = (s.putBank b addr ws j ok).bank (!b) := by
    rw [State.putBank_bank_other, State.putBank_bank_other, k.bank]
  cases b
  · exact ⟨com, put, other, free, tb⟩
  · exact ⟨com, other, put, free, tb⟩

theorem SameStore.writeBoth (addr : Nat) (ws : List Word) (j : Option (Nat × Word)) (p : PairBack) :
    SameStore (s.writeBoth addr ws j p) (v.writeBoth addr ws j p) := (k.putBank ..).putBank ..

theorem SameStore.quayCause (c : Nat) : SameStore (s.quayCause c) (v.quayCause c) := by
  have frame (x : State) : x.quayCause c = { x with bell := (x.ringEv c).bell, helmA := (x.quayCause c).helmA, helmB := (x.quayCause c).helmB } := by
    unfold State.quayCause
    rw [State.ringEv_frame]
    rfl
  rw [frame v, frame s]
  exact ⟨k.com, k.nvmA, k.nvmB, k.free, k.tb⟩

theorem SameStore.withCom (c : Commit) : SameStore { s with com := c } { v with com := c } := ⟨rfl, k.nvmA, k.nvmB, k.free, k.tb⟩

theorem SameStore.filled (n : Nat) : SameStore { s with com := { s.com with ffFill := n } } { v with com := { v.com with ffFill := n } } :=
  ⟨congrArg (fun c : Commit => { c with ffFill := n }) k.com, k.nvmA, k.nvmB, k.free, k.tb⟩

theorem SameStore.commitOne (r : Rec) (p : ReadBack) : SameStore (s.commitOne r p) (v.commitOne r p) := by
  have recalled : v.recall (v.undoOf r) = s.recall (s.undoOf r) := by
    unfold State.recall State.undoOf
    rw [k.com, k.nvmA, k.nvmB, k.tb]
  unfold State.commitOne
  dsimp only
  rw [recalled, k.com]
  have ring := (k.withCom { s.com with
    recent := s.recall (s.undoOf r)
    slot := if s.com.slot + 1 < ringSlots then s.com.slot + 1 else 0
    lap := if s.com.slot + 1 < ringSlots then s.com.lap else (s.com.lap + 1) % 256
    total := (s.com.total + 1) % 8192 }).writeBoth (8 * s.com.slot) r.words
      (some (journalBase + s.com.total % 8192, wd (s.com.lap % 256 * 65536 + s.com.slot))) p.ring
  split
  · have ff := ring.writeBoth (ffBase + 8 * s.com.ffFill) r.words none p.ff
    have filled := ff.filled (s.com.ffFill + 1)
    split
    · exact filled
    · exact filled.quayCause _
  · exact ring

theorem SameStore.hide (u : CommitUndo) : SameStore (s.hide u) (v.hide u) := by
  unfold State.hide
  exact ⟨k.com, by simp only [k.nvmA], by simp only [k.nvmB], k.free, k.tb⟩

theorem SameStore.undo (u : CommitUndo) : SameStore (s.undo u) (v.undo u) := by
  have hid := k.hide u
  unfold State.undo
  exact ⟨by simp only [hid.com], by simp only [hid.nvmA], by simp only [hid.nvmB], hid.free, hid.tb⟩

end

theorem SameStore.foldl {α : Type} {f : State → α → State} (step : ∀ {s v : State} (_ : SameStore s v) (x : α), SameStore (f s x) (f v x)) :
    ∀ (l : List α) {s v : State} (_ : SameStore s v), SameStore (l.foldl f s) (l.foldl f v)
  | [], _, _, k => k
  | x :: l, _, _, k => SameStore.foldl step l (step k x)

theorem SameStore.clearFf {s v : State} (k : SameStore s v) (r : Rec) : SameStore (s.clearFf r) (v.clearFf r) := by
  have back (n : Nat) : v.backAt n = s.backAt n := by
    unfold State.backAt
    rw [k.free]
  rw [State.clearFf_by, State.clearFf_by]
  generalize (fun b : Bank => b.writes ffBase (List.replicate 2048 0)) = wipe
  have wiped : SameStore (s.ffWiped wipe) (v.ffWiped wipe) := by
    unfold State.ffWiped
    exact ⟨by simp only [k.com], congrArg wipe k.nvmA, congrArg wipe k.nvmB, by simp only [k.free], k.tb⟩
  rw [State.clearBy_eq, State.clearBy_eq, back]
  unfold State.ffCleared
  rw [back]
  exact (wiped.writeBoth ..).commitOne ..

theorem SameStore.asOf {s v : State} (k : SameStore s v) (lim : Stamp) : SameStore (s.asOf lim) (v.asOf lim) := by
  unfold State.asOf
  dsimp only
  rw [k.com]
  have undone := SameStore.foldl (f := fun s u => s.undo u) (fun k u => k.undo u) (s.com.recent.reverse.takeWhile (fun u => lim.lt u.record.at_)) k
  rw [undone.com]
  exact SameStore.foldl (f := fun s u => s.hide u) (fun k u => k.hide u) _ undone

theorem State.foldl_clearFf_onlyWritten : ∀ (l : List Rec) (s : State), OnlyWritten s (l.foldl (fun s r => s.clearFf r) s)
  | [], _ => rfl
  | r :: l, s => by
    have first : OnlyWritten s (s.clearFf r) := by
      rw [State.clearFf_by]
      exact (State.clearBy_frame ..).1
    exact first.trans (State.foldl_clearFf_onlyWritten l _)

/-- A helm that is ready for a row has the records that it had. -/
theorem Readied.records {h : HelmId} {s v : State} (k : Readied h s v) (g : HelmId) :
    (v.helm g).recQ = (s.helm g).recQ ∧ (v.helm g).sure = (s.helm g).sure ∧ (v.helm g).held = (s.helm g).held ∧ (v.helm g).shared = (s.helm g).shared
      ∧ (v.helm g).hs.red.view = (s.helm g).hs.red.view := by
  have view := (k.mach.helms g).view
  obtain rfl | rfl := helm_cases h g
  · rw [k.frame]
    exact ⟨rfl, rfl, rfl, rfl, (congrArg Redund.view k.like.red :)⟩
  · rw [k.aside.helm]
    exact ⟨rfl, rfl, rfl, rfl, rfl⟩

theorem Readied.sameStore {h : HelmId} {s v : State} (k : Readied h s v) : SameStore s v := by
  rw [k.mach.frame]
  exact ⟨rfl, rfl, rfl, rfl, rfl⟩

theorem Readied.commitUpTo {h : HelmId} {s v : State} (k : Readied h s v) (lim : Stamp) : SameStore (s.commitUpTo lim) (v.commitUpTo lim) := by
  obtain ⟨recA, sureA, heldA, sharedA, viewA⟩ := k.records .a
  obtain ⟨recB, sureB, heldB, sharedB, viewB⟩ := k.records .b
  have cleared := SameStore.foldl (f := fun s r => s.clearFf r) (fun k r => k.clearFf r) (s.com.ffClear.filter (fun r => !lim.lt r.at_)) k.sameStore
  have com : v.com = s.com := k.sameStore.com
  have frame (x : State) (l : List Rec) := State.foldl_clearFf_onlyWritten l x
  have helmA (x : State) (l : List Rec) : (l.foldl (fun s r => s.clearFf r) x).helmA = x.helmA := (congrArg State.helmA (frame x l) :)
  have helmB (x : State) (l : List Rec) : (l.foldl (fun s r => s.clearFf r) x).helmB = x.helmB := (congrArg State.helmB (frame x l) :)
  unfold State.commitUpTo
  dsimp only
  rw [com, helmA, helmA, helmB, helmB, cleared.com, show v.helmA.recQ = s.helmA.recQ from recA, show v.helmB.recQ = s.helmB.recQ from recB,
    show v.helmA.sure = s.helmA.sure from sureA, show v.helmB.sure = s.helmB.sure from sureB, show v.helmA.held = s.helmA.held from heldA,
    show v.helmB.held = s.helmB.held from heldB, show v.helmA.shared = s.helmA.shared from sharedA, show v.helmB.shared = s.helmB.shared from sharedB,
    show v.helmA.hs.red.view = s.helmA.hs.red.view from viewA, show v.helmB.hs.red.view = s.helmB.hs.red.view from viewB]
  exact (SameStore.foldl (f := fun s r => s.commitOne r allGood) (fun k r => k.commitOne r allGood) _ cleared).asOf lim

theorem SameStore.bbGather {s v : State} (k : SameStore s v) (ff : Bool) : ∀ (n i room : Nat) (acc : List Word),
    v.bbGather ff n i room acc = s.bbGather ff n i room acc
  | 0, _, _, _ => rfl
  | n + 1, i, room, acc => by
    have items : v.slotItems ff i = s.slotItems ff i := by
      unfold State.slotItems
      rw [k.nvmA, k.nvmB]
    unfold State.bbGather
    rw [items]
    split
    · rfl
    · dsimp only
      split
      · rfl
      · exact k.bbGather ff n ..

theorem SameStore.oldestSlot {s v : State} (k : SameStore s v) : v.oldestSlot = s.oldestSlot := by
  unfold State.oldestSlot State.newest
  rw [k.nvmA, k.nvmB]

theorem Own.askRead (s : State) (h : HelmId) (r : NvmRead) : Own h s (s.askRead h r) := .modHelm ⟨rfl, rfl, fun _ => rfl, rfl⟩ rfl ⟨rfl, rfl⟩

theorem Own.foldl {α : Type} {h : HelmId} {f : State → α → State} (step : ∀ s x, Own h s (f s x)) : ∀ (l : List α) (s : State), Own h s (l.foldl f s)
  | [], s => .refl h s
  | x :: l, s => (step s x).trans (Own.foldl step l _)

theorem Own.readSlots (s v : State) (h : HelmId) (ff : Bool) (slots : List Nat) (landing : Nat) : Own h s (s.readSlots v h ff slots landing) :=
  Own.foldl (fun s _ => (Own.askRead ..).trans (Own.askRead ..)) slots s

theorem Own.byLead {s : State} {h : HelmId} {f : State → State} (own : Own h s (f s)) : Own h s (s.byLead h f) := by
  unfold State.byLead
  split
  · exact own
  · exact .refl h s

theorem State.askRead_hsOf (s : State) (h g : HelmId) (r : NvmRead) : (s.askRead h r).hsOf g = s.hsOf g := by cases h <;> cases g <;> rfl

theorem State.readSlots_hsOf (s v : State) (h g : HelmId) (ff : Bool) (slots : List Nat) (landing : Nat) :
    (s.readSlots v h ff slots landing).hsOf g = s.hsOf g := by
  unfold State.readSlots
  induction slots generalizing s with
  | nil => rfl
  | cons k slots ih =>
    rw [List.foldl_cons, ih, State.askRead_hsOf, State.askRead_hsOf]

/-- What BLACKBOX_READ answers. -/
def State.bbAnswer (s : State) (k : Ctx) (area : Byte) (start count : Nat) : Ans :=
  let v := s.commitUpTo ⟨k.L - 1, 240⟩
  let ff := decide (area.toNat = 1)
  let r := v.bbGather ff count (if start ≠ 0xFFFF then start else if ff then 0 else v.oldestSlot) (if k.tag.gen = .ul3 then 3070 else 190) []
  { status := .ok, data := bytesOfNat 2 r.1 ++ bytesOfWords r.2 }

theorem State.ite_hsOf {c : Prop} [Decidable c] {x y : State} {h : HelmId} {hs : HelmState} (yes : x.hsOf h = hs) (no : y.hsOf h = hs) :
    (if c then x else y).hsOf h = hs := by
  split
  · exact yes
  · exact no

theorem State.blackboxRead_spec (s : State) (k : Ctx) (area : Byte) (start count : Nat) : let r := s.blackboxRead k area start count
    Own k.h s r.1 ∧ r.1.hsOf k.h = s.hsOf k.h ∧ r.2 = s.bbAnswer k area start count := by
  intro r
  have first (n : Nat) : (if area.toNat = 1 then 0 else n) = if decide (area.toNat = 1) = true then 0 else n := by simp only [decide_eq_true_eq]
  have own (v : State) (slots : List Nat) : Own k.h s (s.byLead k.h (fun s => s.readSlots v k.h (decide (area.toNat = 1)) slots (k.n + 1))) :=
    .byLead (Own.readSlots ..)
  have hs (v : State) (slots : List Nat) :
      (s.byLead k.h (fun s => s.readSlots v k.h (decide (area.toNat = 1)) slots (k.n + 1))).hsOf k.h = s.hsOf k.h := by
    unfold State.byLead
    split
    · exact State.readSlots_hsOf ..
    · rfl
  refine ⟨?_, ?_, ?_⟩
  · unfold r State.blackboxRead
    exact .ite (fun _ => (own ..).trans (Own.chime ..)) fun _ => own ..
  · unfold r State.blackboxRead
    exact State.ite_hsOf ((State.chime_hsOf ..).trans (hs ..)) (hs ..)
  · unfold r State.blackboxRead State.bbAnswer
    dsimp only
    rw [first]

/-- Settles O57: the acting helm makes each change once, and a reading of the black box makes none. -/
theorem quayAndBlackboxCommands : Obligations.QuayAndBlackboxCommands := by
  refine ⟨fun s h t sole => ?_, fun s h t area start count takes first => ?_⟩
  · refine ⟨fun r c o ms pol takes => ?_, fun takes => ⟨_, rfl, State.syncIssue_row sole takes⟩, fun a b c takes => ⟨_, rfl, State.hostMark_row takes⟩,
      fun takes => ⟨_, rfl, ?_⟩, fun k x w f p i o takes => ⟨_, rfl, State.checkConfig_row sole takes fun _ _ => rfl⟩,
      fun k f takes => ⟨_, rfl, State.checkRead_row sole takes⟩⟩
    · obtain ⟨toll, like⟩ := State.tollConfig_row sole takes
      exact ⟨_, rfl, by rw [toll]; rfl, by rw [toll], like⟩
    · obtain ⟨com, rest⟩ := State.markClear_row sole takes
      refine ⟨?_, rest⟩
      rw [com, HelmState.clearRec, State.ctxOf_h, State.ctxOf_tag, State.ctxOf_n]
  · obtain ⟨k, ctx, rfl, rfl, -⟩ := s.ctxOf_named h t
    obtain ⟨v, gives, only⟩ := State.hostRow_own takes fun v k => (v.blackboxRead_spec k area start count).1
    obtain ⟨-, hs, ans⟩ := v.blackboxRead_spec k area start count
    have ready := gives.first first
    have same : v.bbAnswer k area start count = s.bbAnswer k area start count := by
      unfold State.bbAnswer
      dsimp only
      rw [(ready.commitUpTo _).bbGather, (ready.commitUpTo _).oldestSlot]
    rw [ctx] at gives
    dsimp only
    rw [ctx]
    exact ⟨_, rfl, only, gives.like.trans (hs.symm ▸ gives.ready), gives.answered (ans.trans same) rfl⟩

end Sys2Proof.Machine
end

section
/-! PROOFS. A row of a command that changes who holds and who serves (R172, R186, R215, R470). -/

namespace Sys2Proof.Machine

/-! ### The service states come about -/

/-- A helm has taken up a service state, its command slips flushed perhaps. -/
structure SvcTaken (g : HelmId) (s t : State) : Prop where
  frame : t = { s with helmA := t.helmA, helmB := t.helmB, hpa := t.hpa, hpb := t.hpb }
  helm : t.helm g = { s.helm g with svc := (t.helm g).svc, resync := (t.helm g).resync }
  other : t.helm (otherHelm g) = s.helm (otherHelm g)
  slips : ∀ p, (t.port p).slip (otherHelm g) = (s.port p).slip (otherHelm g)

theorem State.takeSvc_taken (s : State) (g : HelmId) (v : Svc) : SvcTaken g s (s.takeSvc g v) := by
  unfold State.takeSvc
  dsimp only
  split
  · exact ⟨by cases g <;> rfl, by cases g <;> rfl, by cases g <;> rfl, fun p => by cases g <;> cases p <;> rfl⟩
  · exact ⟨by cases g <;> rfl, by cases g <;> rfl, by cases g <;> rfl, fun p => by cases g <;> cases p <;> rfl⟩

/-- Only service states, resynchronisations and command slips differ. -/
def SvcSide (s t : State) : Prop :=
  t = { s with helmA := t.helmA, helmB := t.helmB, hpa := t.hpa, hpb := t.hpb }
  ∧ ∀ g, t.helm g = { s.helm g with svc := (t.helm g).svc, resync := (t.helm g).resync }

theorem SvcTaken.side {g : HelmId} {s t : State} (k : SvcTaken g s t) : SvcSide s t := by
  refine ⟨k.frame, fun x => ?_⟩
  obtain rfl | rfl := helm_cases g x
  · exact k.helm
  · rw [k.other]

theorem SvcSide.trans {s t u : State} (k : SvcSide s t) (l : SvcSide t u) : SvcSide s u :=
  ⟨by rw [l.1, k.1], fun g => by rw [l.2, k.2]⟩

theorem SvcTaken.aside {g : HelmId} {s t : State} (k : SvcTaken g s t) : Aside (otherHelm g) s t :=
  ⟨by rw [k.other], k.slips, by rw [k.frame]⟩

/-- The service states settled by helm h: the other helm stays unless h fences or halts it. -/
theorem State.settleSvc_frame (s : State) (h : HelmId) : SvcSide s (s.settleSvc h false)
    ∧ (((s.hsOf h).red.svc (otherHelm h) ≠ .fenced ∧ (s.hsOf h).red.svc (otherHelm h) ≠ .halted) ∨ (s.helm (otherHelm h)).svc.inService = false
      → Aside (otherHelm h) s (s.settleSvc h false) ∧ (s.settleSvc h false).helm (otherHelm h) = s.helm (otherHelm h)) := by
  have own : SvcSide s (if (s.helm h).svc.inService then s.takeSvc h ((s.hsOf h).red.svc h) else s)
      ∧ Aside (otherHelm h) s (if (s.helm h).svc.inService then s.takeSvc h ((s.hsOf h).red.svc h) else s)
      ∧ (if (s.helm h).svc.inService then s.takeSvc h ((s.hsOf h).red.svc h) else s).helm (otherHelm h) = s.helm (otherHelm h) := by
    split
    · have taken := s.takeSvc_taken h ((s.hsOf h).red.svc h)
      exact ⟨taken.side, taken.aside, taken.other⟩
    · exact ⟨⟨rfl, fun _ => rfl⟩, .refl _ s, rfl⟩
  unfold State.settleSvc
  dsimp only
  generalize (if (s.helm h).svc.inService then s.takeSvc h ((s.hsOf h).red.svc h) else s) = u at own ⊢
  obtain ⟨side, aside, other⟩ := own
  split
  · next leaves =>
    refine ⟨side.trans (State.takeSvc_taken ..).side, fun mild => ?_⟩
    simp only [Bool.and_eq_true, Bool.or_eq_true, Bool.false_or, beq_iff_eq, other] at leaves
    obtain ⟨⟨⟨-, serves⟩, -⟩, out⟩ := leaves
    rcases mild with ⟨fence, halt⟩ | idle
    · exact (out.elim fence halt).elim
    · rw [idle] at serves
      cases serves
  · exact ⟨side, fun _ => ⟨aside, other⟩⟩

/-! ### What such a command stirs -/

/-- A helm that differs in what the other helm's decisions bring it. -/
def Helm.Nudged (x y : Helm) : Prop :=
  y = { x with tests := y.tests, outCause := y.outCause, testing := y.testing, joinable := y.joinable, bistTries := y.bistTries
               loaded := y.loaded, resync := y.resync, swapped := y.swapped }

theorem Helm.Nudged.refl (x : Helm) : x.Nudged x := rfl

theorem Helm.Nudged.trans {x y z : Helm} (k : x.Nudged y) (l : y.Nudged z) : x.Nudged z := by
  unfold Helm.Nudged at *
  rw [l, k]

/-- What a row of the other helm leaves of helm h and of its frames, where it may decide about h. -/
structure Bystander (h : HelmId) (s t : State) : Prop where
  helm : (s.helm h).Nudged (t.helm h)
  slips : ∀ p, (t.port p).slip h = (s.port p).slip h
  nextId : t.nextId = s.nextId
  crossing : t.tb.crossing = s.tb.crossing

theorem Bystander.refl (h : HelmId) (s : State) : Bystander h s s := ⟨rfl, fun _ => rfl, rfl, rfl⟩

theorem Bystander.trans {h : HelmId} {s t u : State} (k : Bystander h s t) (l : Bystander h t u) : Bystander h s u :=
  ⟨k.helm.trans l.helm, fun p => (l.slips p).trans (k.slips p), l.nextId.trans k.nextId, l.crossing.trans k.crossing⟩

theorem Aside.bystander {h : HelmId} {s t : State} (k : Aside h s t) (crossing : t.tb.crossing = s.tb.crossing) : Bystander h s t :=
  ⟨by rw [k.helm]; rfl, k.slips, k.nextId, crossing⟩

/-- A helm that applies a command which may change who holds and serves, as it decides. -/
def Helm.Deciding (x y : Helm) : Prop :=
  y = { x with hs := y.hs, lastCmds := y.lastCmds, shared := y.shared, held := y.held, links := y.links, tests := y.tests
               outCause := y.outCause, testing := y.testing, joinable := y.joinable, bistTries := y.bistTries, loaded := y.loaded
               resync := y.resync, swapped := y.swapped }

theorem Helm.Deciding.refl (x : Helm) : x.Deciding x := rfl

theorem Helm.Deciding.trans {x y z : Helm} (k : x.Deciding y) (l : y.Deciding z) : x.Deciding z := by
  unfold Helm.Deciding at *
  rw [l, k]

theorem Helm.Nudged.deciding {x y : Helm} (k : x.Nudged y) : x.Deciding y := by
  unfold Helm.Nudged at k
  unfold Helm.Deciding
  rw [k]

/-- No helm that is not is decided to be fenced or halted. -/
def HelmState.Mild (a b : HelmState) : Prop :=
  ∀ g, a.red.svc g ≠ .fenced ∧ a.red.svc g ≠ .halted → b.red.svc g ≠ .fenced ∧ b.red.svc g ≠ .halted

/-- A command that stirs who holds and who serves, at its helm. -/
structure Stir (h : HelmId) (s t : State) : Prop where
  own : (s.helm h).Deciding (t.helm h)
  other : (s.helm (otherHelm h)).Nudged (t.helm (otherHelm h))
  ports : t.hpa = s.hpa ∧ t.hpb = s.hpb
  nextId : t.nextId = s.nextId
  crossing : t.tb.crossing = s.tb.crossing
  mild : (s.hsOf h).Mild (t.hsOf h)

theorem Stir.refl (h : HelmId) (s : State) : Stir h s s := ⟨rfl, rfl, ⟨rfl, rfl⟩, rfl, rfl, fun _ => id⟩

theorem Stir.trans {h : HelmId} {s t u : State} (k : Stir h s t) (l : Stir h t u) : Stir h s u :=
  ⟨k.own.trans l.own, k.other.trans l.other, ⟨l.ports.1.trans k.ports.1, l.ports.2.trans k.ports.2⟩, l.nextId.trans k.nextId,
    l.crossing.trans k.crossing, fun g no => l.mild g (k.mild g no)⟩

theorem Stir.bystander {h : HelmId} {s t : State} (k : Stir h s t) : Bystander (otherHelm h) s t :=
  ⟨k.other, fun p => by cases p <;> simp only [State.port, k.ports.1, k.ports.2], k.nextId, k.crossing⟩

theorem Stir.runCmd {h : HelmId} {k : Ctx} {c : Cmd} {v : State} (stir : Stir h v (v.doCmd k c).1) : Stir h v (v.runCmd k c).1 := by
  unfold State.runCmd
  split
  · exact .refl h v
  · exact stir

/-! ### The row -/

/-- What the statements say of a helm's marks (R186, R212, R471). -/
def Helm.marks (x : Helm) : BitVec 4 × Bool × Nat × Bool := (x.outCause, x.testing, x.bistTries, x.swapped)

/-- What a row of such a command leaves after it. -/
structure Ensued (h : HelmId) (s t : State) (p : Port) (rs : List (Nat × Reply)) : Prop where
  like : (t.hsOf h).like (s.hsOf h)
  waiting : (t.helm h).waiting p = (s.helm h).waiting p ++ rs
  slip : (t.helm h).slip p = (s.helm h).slip p
  marks : ∀ g, (t.helm g).marks = (s.helm g).marks
  fixed : ∀ g, (t.helm g).boot = (s.helm g).boot ∧ (t.helm g).bistFail = (s.helm g).bistFail
  crossing : t.tb.crossing = s.tb.crossing
  bystander : ((s.hsOf h).red.svc (otherHelm h) ≠ .fenced ∧ (s.hsOf h).red.svc (otherHelm h) ≠ .halted)
    ∨ (s.helm (otherHelm h)).svc.inService = false → Bystander (otherHelm h) s t ∧ (t.helm (otherHelm h)).svc = (s.helm (otherHelm h)).svc

theorem Mach.marks {s t : State} (k : Mach s t) (g : HelmId) : (t.helm g).marks = (s.helm g).marks := (congrArg Helm.marks (k.helms g).frame :)

theorem State.applyCmd_ensued (s : State) (k : Ctx) (c : Cmd) (n : Nat) :
    Ensued k.h (s.runCmd k c).1 (((s.applyCmd k c).settleMode k.h n).settleSvc k.h false) k.tag.port ((s.runCmd k c).2.replies c k) := by
  obtain ⟨told, aside, like, waiting, shared⟩ := s.applyCmd_told k c
  generalize (s.runCmd k c).1 = v at *
  generalize s.applyCmd k c = w at *
  obtain ⟨moded, ⟨frame, kept⟩, other, hpa, hpb, nextId⟩ := w.settleMode_spec k.h n
  generalize w.settleMode k.h n = x at *
  have mach : Mach v x := told.trans moded
  obtain ⟨⟨side, helms⟩, quiet⟩ := x.settleSvc_frame k.h
  generalize x.settleSvc k.h false = y at *
  have likes : (x.hsOf k.h).like (v.hsOf k.h) := by
    refine HelmState.like.trans ?_ like
    rw [State.hsOf, frame]
    rfl
  have red := likes.red
  refine ⟨?_, ?_, ?_, fun g => ?_, fun g => ?_, ?_, fun mild => ?_⟩
  · rw [State.hsOf, helms]
    exact likes
  · rw [helms, ← waiting, frame]
    cases k.tag.port <;> rfl
  · rw [helms, ← mach.calm.slip]
    cases k.tag.port <;> rfl
  · rw [← mach.marks g, helms]
    rfl
  · rw [helms, (mach.helms g).frame]
    exact ⟨rfl, rfl⟩
  · rw [side]
    exact mach.calm.1
  · have mild' : ((x.hsOf k.h).red.svc (otherHelm k.h) ≠ .fenced ∧ (x.hsOf k.h).red.svc (otherHelm k.h) ≠ .halted)
        ∨ (x.helm (otherHelm k.h)).svc.inService = false := by
      rw [red, mach.calm.svc]
      exact mild
    obtain ⟨late, same⟩ := quiet mild'
    have moding : Aside (otherHelm k.h) w x := ⟨by rw [other], fun p => by cases p <;> simp only [State.port, hpa, hpb], nextId⟩
    refine ⟨((aside.trans moding).trans late).bystander ?_, ?_⟩
    · rw [side]
      exact mach.calm.1
    · rw [same, mach.calm.svc]

/-- A row of a stirring command at a helm that computes passages and has begun that of the crossing. -/
theorem State.rowAt_stirs {s : State} {h : HelmId} {t : Tag} {c : Cmd} (computes : (s.helm h).svc.computes = true)
    (begun : (s.helm h).begun = some s.tb.crossing) :
    ∃ v, Readied h s v ∧ Ensued h (v.runCmd (s.ctxOf h t) c).1 (s.rowAt h t c) t.port ((v.runCmd (s.ctxOf h t) c).2.replies c (s.ctxOf h t)) := by
  refine ⟨s.readied h t, s.readied_spec h t, ?_⟩
  rw [State.rowAt_eq t c computes begun]
  have follow := State.applyCmd_ensued (s.readied h t) (s.ctxOf h t) c s.tb.crossing
  rwa [State.ctxOf_h, State.ctxOf_tag] at follow

/-- A service state that helm h has as the other helm decided it does not end at once. -/
theorem Svc.mild_of_computes {v : Svc} (computes : v.computes = true) : v ≠ .fenced ∧ v ≠ .halted := by
  constructor <;> (rintro rfl; cases computes)

theorem Nudged.svc {x y : Helm} (k : x.Nudged y) : y.svc = x.svc := (congrArg Helm.svc k :)
theorem Nudged.begun {x y : Helm} (k : x.Nudged y) : y.begun = x.begun := (congrArg Helm.begun k :)
theorem Nudged.hs {x y : Helm} (k : x.Nudged y) : y.hs = x.hs := (congrArg Helm.hs k :)

theorem Bystander.ctxOf {h : HelmId} {s t : State} (k : Bystander h s t) (tag : Tag) : t.ctxOf h tag = s.ctxOf h tag := by
  have hs : t.hsOf h = s.hsOf h := Nudged.hs k.helm
  unfold State.ctxOf State.waiting
  rw [hs, k.slips, k.crossing, k.nextId]

/-- What holds of a helm's marks and stays at every application of a command. -/
def Cmd.Leaves (c : Cmd) (g : HelmId) (P : BitVec 4 × Bool × Nat × Bool → Prop) : Prop :=
  ∀ (v : State) k, P (v.helm g).marks → P ((v.doCmd k c).1.helm g).marks

/-- What the row of the other helm leaves. -/
structure Passed (h : HelmId) (s t : State) (c : Cmd) : Prop where
  bystander : Bystander h s t
  fixed : ∀ g, (t.helm g).boot = (s.helm g).boot ∧ (t.helm g).bistFail = (s.helm g).bistFail
  marks : ∀ P g, c.Leaves g P → P (s.helm g).marks → P (t.helm g).marks

theorem Passed.refl (h : HelmId) (s : State) (c : Cmd) : Passed h s s c := ⟨.refl h s, fun _ => ⟨rfl, rfl⟩, fun _ _ _ => id⟩

theorem Stir.fixed {h : HelmId} {s t : State} (k : Stir h s t) (g : HelmId) :
    (t.helm g).boot = (s.helm g).boot ∧ (t.helm g).bistFail = (s.helm g).bistFail := by
  obtain rfl | rfl := helm_cases h g
  · rw [k.own]
    exact ⟨rfl, rfl⟩
  · rw [k.other]
    exact ⟨rfl, rfl⟩

/-- The row of such a command at the other helm, which takes helm h to serve. -/
theorem State.rowAt_passed {s : State} {h : HelmId} {t : Tag} {c : Cmd} (stir : ∀ v k, k.h = otherHelm h → Stir (otherHelm h) v (v.doCmd k c).1)
    (begun : (s.helm (otherHelm h)).svc.computes = true → (s.helm (otherHelm h)).begun = some s.tb.crossing)
    (mild : (s.helm (otherHelm h)).svc.computes = true →
      ((s.hsOf (otherHelm h)).red.svc h ≠ .fenced ∧ (s.hsOf (otherHelm h)).red.svc h ≠ .halted) ∨ (s.helm h).svc.inService = false) :
    Passed h s (s.rowAt (otherHelm h) t c) c := by
  cases computes : (s.helm (otherHelm h)).svc.computes with
  | false =>
    rw [State.rowAt_idle t c computes]
    exact .refl h s c
  | true =>
    obtain ⟨v, ready, ensued⟩ := State.rowAt_stirs (t := t) (c := c) computes (begun computes)
    have run : Stir (otherHelm h) v (v.runCmd (s.ctxOf (otherHelm h) t) c).1 := (stir v _ (s.ctxOf_h _ t)).runCmd
    have kept : ∀ P g, c.Leaves g P → P (v.helm g).marks → P ((v.runCmd (s.ctxOf (otherHelm h) t) c).1.helm g).marks := by
      intro P g leaves holds
      unfold State.runCmd
      split
      · exact holds
      · exact leaves v _ holds
    generalize (v.runCmd (s.ctxOf (otherHelm h) t) c).1 = w at run kept ensued
    generalize s.rowAt (otherHelm h) t c = u at ensued
    have first := ready.aside.bystander ready.mach.calm.1
    have second := run.bystander
    have third := ensued.bystander
    rw [otherHelm_otherHelm] at first second third
    have decided : ((w.hsOf (otherHelm h)).red.svc h ≠ .fenced ∧ (w.hsOf (otherHelm h)).red.svc h ≠ .halted)
        ∨ (w.helm h).svc.inService = false := by
      rw [Nudged.svc (first.trans second).helm]
      exact (mild computes).imp (fun no => run.mild h (by rw [ready.like.red]; exact no)) id
    have last := third decided
    refine ⟨(first.trans second).trans last.1, fun g => ?_, fun P g leaves holds => ?_⟩
    · have a := ensued.fixed g
      have b := run.fixed g
      have c : (v.helm g).boot = (s.helm g).boot ∧ (v.helm g).bistFail = (s.helm g).bistFail := by
        rw [(ready.mach.helms g).frame]
        exact ⟨rfl, rfl⟩
      exact ⟨a.1.trans (b.1.trans c.1), a.2.trans (b.2.trans c.2)⟩
    · rw [ensued.marks]
      exact kept P g leaves (by rw [ready.mach.marks]; exact holds)

/-- What a row of a stirring command gives at helm h: v is the state in which its command is applied there, r what the command makes of it,
with its answer, and u the state after the row. -/
structure RowStirs (s : State) (h : HelmId) (t : Tag) (c : Cmd) (v : State) (r : State × Ans) (u : State) : Prop where
  ready : (v.hsOf h).like (s.hsOf h)
  fixed : ∀ g, (v.helm g).boot = (s.helm g).boot ∧ (v.helm g).bistFail = (s.helm g).bistFail
  like : (u.hsOf h).like (r.1.hsOf h)
  slip : (u.helm h).slip t.port = (s.helm h).slip t.port
  waiting : (u.helm h).waiting t.port = (s.helm h).waiting t.port ++ r.2.replies c (s.ctxOf h t)
  marks : ∀ P g, c.Leaves g P → P (r.1.helm g).marks → P (u.helm g).marks

theorem Bystander.slot {h : HelmId} {s t : State} (k : Bystander h s t) (p : Port) :
    (t.helm h).slip p = (s.helm h).slip p ∧ (t.helm h).waiting p = (s.helm h).waiting p := by
  rw [k.helm]
  cases p <;> exact ⟨rfl, rfl⟩

theorem Helm.Deciding.slot {x y : Helm} (k : x.Deciding y) (p : Port) : y.slip p = x.slip p ∧ y.waiting p = x.waiting p := by
  rw [k]
  cases p <;> exact ⟨rfl, rfl⟩

/-- A row of a stirring command that executes at helm h. -/
theorem State.hostRow_stirs {s : State} {h : HelmId} {t : Tag} {c : Cmd} (takes : s.takes h t c) (stir : ∀ v k, Stir k.h v (v.doCmd k c).1) :
    ∃ v, RowStirs s h t c v (v.doCmd (s.ctxOf h t) c) (s.hostRow t c) := by
  obtain ⟨live, settled, under, computes, passes⟩ := takes
  have own (x : State) (side : Bystander h s x) (fixed : ∀ g, (x.helm g).boot = (s.helm g).boot ∧ (x.helm g).bistFail = (s.helm g).bistFail) :
      ∃ v, (v.hsOf h).like (s.hsOf h) ∧ Readied h x v
        ∧ (∀ g, (v.helm g).boot = (s.helm g).boot ∧ (v.helm g).bistFail = (s.helm g).bistFail)
        ∧ Ensued h (v.doCmd (s.ctxOf h t) c).1 (x.rowAt h t c) t.port ((v.doCmd (s.ctxOf h t) c).2.replies c (s.ctxOf h t)) := by
    have svc := Nudged.svc side.helm
    have begun : (x.helm h).begun = some x.tb.crossing := by rw [Nudged.begun side.helm, side.crossing]; exact under h computes
    obtain ⟨v, ready, ensued⟩ := State.rowAt_stirs (t := t) (c := c) (by rw [svc]; exact computes) begun
    have alike : x.hsOf h = s.hsOf h := Nudged.hs side.helm
    have free : v.checkCmd (s.ctxOf h t) c = none :=
      (State.checkCmd_like (s := s) c (by rw [State.ctxOf_h, ← alike]; exact ready.like) (by rw [State.ctxOf_h, ← alike]; exact ready.mode)).trans passes
    have run : v.runCmd (s.ctxOf h t) c = v.doCmd (s.ctxOf h t) c := by
      unfold State.runCmd
      rw [free]
    rw [side.ctxOf, run] at ensued
    refine ⟨v, alike ▸ ready.like, ready, fun g => ?_, ensued⟩
    rw [(ready.mach.helms g).frame]
    exact fixed g
  have row : s.hostRow t c = { (s.rowAt .a t c).rowAt .b t c with nextId := ((s.rowAt .a t c).rowAt .b t c).nextId + 1 } := by
    unfold State.hostRow
    rw [live]
    rfl
  have done (x z : State) (side : Bystander h s x) (fixed : ∀ g, (x.helm g).boot = (s.helm g).boot ∧ (x.helm g).bistFail = (s.helm g).bistFail)
      (late : Passed h (x.rowAt h t c) z c) (whole : s.hostRow t c = { z with nextId := z.nextId + 1 }) :
      ∃ v, RowStirs s h t c v (v.doCmd (s.ctxOf h t) c) (s.hostRow t c) := by
    obtain ⟨v, like, ready, same, ensued⟩ := own x side fixed
    have helm (g : HelmId) : (s.hostRow t c).helm g = z.helm g := by
      rw [whole]
      cases g <;> rfl
    have mine : (s.hostRow t c).hsOf h = (x.rowAt h t c).hsOf h := (congrArg Helm.hs (helm h)).trans (Nudged.hs late.bystander.helm)
    have run : (v.helm h).Deciding ((v.doCmd (s.ctxOf h t) c).1.helm h) := by
      have run := (stir v (s.ctxOf h t)).own
      rwa [State.ctxOf_h] at run
    obtain ⟨slip₁, waiting₁⟩ := side.slot t.port
    obtain ⟨slip₂, waiting₂⟩ := run.slot t.port
    obtain ⟨slip₃, waiting₃⟩ := late.bystander.slot t.port
    refine ⟨v, like, same, ?_, ?_, ?_, fun P g leaves holds => ?_⟩
    · rw [mine]
      exact ensued.like
    · rw [helm, slip₃, ensued.slip, slip₂, ready.mach.calm.slip, slip₁]
    · rw [helm, waiting₃, ensued.waiting, waiting₂, ready.waiting, waiting₁]
    · rw [helm]
      exact late.marks P g leaves (by rw [ensued.marks]; exact holds)
  have mild (o g : HelmId) (serves : (s.helm o).svc.computes = true) (out : (s.helm g).svc.computes = true) :
      (s.hsOf o).red.svc g ≠ .fenced ∧ (s.hsOf o).red.svc g ≠ .halted := by
    rw [settled o serves g]
    exact Svc.mild_of_computes out
  cases h with
  | a =>
    obtain ⟨v, like, ready, -, ensued⟩ := own s (.refl _ s) fun _ => ⟨rfl, rfl⟩
    have run : Stir .a v (v.doCmd (s.ctxOf .a t) c).1 := by
      have run := stir v (s.ctxOf .a t)
      rwa [State.ctxOf_h] at run
    have before := (ready.aside.bystander ready.mach.calm.1).trans run.bystander
    have still : ((s.hsOf .a).red.svc .b ≠ .fenced ∧ (s.hsOf .a).red.svc .b ≠ .halted) ∨ (s.helm .b).svc.inService = false := by
      rw [settled .a computes]
      cases (s.helm .b).svc <;> simp [Svc.inService]
    obtain ⟨step, svc⟩ := ensued.bystander (still.imp (fun no => run.mild .b (by rw [ready.like.red]; exact no))
      fun idle => (congrArg Svc.inService (Nudged.svc before.helm)).trans idle)
    have side := before.trans step
    have same : ((s.rowAt .a t c).helm .b).svc = (s.helm .b).svc := Nudged.svc side.helm
    have passed : Passed .a (s.rowAt .a t c) ((s.rowAt .a t c).rowAt .b t c) c := by
      refine State.rowAt_passed (h := .a) (fun v k at_ => at_ ▸ stir v k) (fun serves => ?_) fun serves => Or.inl ?_
      · exact (Nudged.begun side.helm).trans ((under .b (by rw [← same]; exact serves)).trans (congrArg some side.crossing.symm))
      · have alike : (s.rowAt .a t c).hsOf .b = s.hsOf .b := Nudged.hs side.helm
        show ((s.rowAt .a t c).hsOf .b).red.svc .a ≠ _ ∧ ((s.rowAt .a t c).hsOf .b).red.svc .a ≠ _
        rw [alike]
        exact mild .b .a (by rw [← same]; exact serves) computes
    exact done s _ (.refl _ s) (fun _ => ⟨rfl, rfl⟩) passed row
  | b =>
    have passed : Passed .b s (s.rowAt .a t c) c := State.rowAt_passed (h := .b) (fun v k at_ => at_ ▸ stir v k) (under .a)
      fun serves => Or.inl (mild .a .b serves computes)
    exact done (s.rowAt .a t c) _ passed.bystander passed.fixed (.refl _ _ _) row

end Sys2Proof.Machine
end

section
/-! PROOFS. The helm commands: handover, return hold, self-tests and debug (R172, R197, R201, R203, R215, R216). -/

namespace Sys2Proof.Machine

section
variable {s t : State} {h : HelmId}

/-! ### What the parts of these commands stir -/

theorem Own.stir (k : Own h s t) : Stir h s t := by
  obtain ⟨mach, calm, other, ports, nextId, waitA, waitB⟩ := k
  refine ⟨?_, ?_, ports, nextId, calm.1, fun g no => ?_⟩
  · unfold Helm.Deciding
    rw [(mach.helms h).frame] at waitA waitB ⊢
    dsimp only at waitA waitB ⊢
    rw [waitA, waitB]
  · rw [other]
    rfl
  · rw [State.hsOf, (mach.helms h).svc]
    exact no

theorem HelmState.Mild.refl (a : HelmState) : a.Mild a := fun _ => id

/-- A change at a helm of what the decisions bring it. -/
theorem State.modHelm_stir (s : State) (h g : HelmId) {f : Helm → Helm} (nudged : ∀ x : Helm, x.Nudged (f x)) : Stir h s (s.modHelm g f) := by
  have ports : (s.modHelm g f).hpa = s.hpa ∧ (s.modHelm g f).hpb = s.hpb := by cases g <;> exact ⟨rfl, rfl⟩
  have hs (x : HelmId) : (s.modHelm g f).hsOf x = s.hsOf x := by
    have same (y : Helm) : (f y).hs = y.hs := Nudged.hs (nudged y)
    cases g <;> cases x
    · exact same _
    · rfl
    · rfl
    · exact same _
  have helm (x : HelmId) : (s.helm x).Nudged ((s.modHelm g f).helm x) := by
    cases g <;> cases x
    · exact nudged _
    · exact .refl _
    · exact .refl _
    · exact nudged _
  refine ⟨(helm h).deciding, helm _, ports, by cases g <;> rfl, by cases g <;> rfl, ?_⟩
  rw [hs]
  exact .refl _

theorem State.modHs_stir (s : State) (h : HelmId) {f : HelmState → HelmState} (mild : (s.hsOf h).Mild (f (s.hsOf h))) : Stir h s (s.modHs h f) := by
  refine ⟨?_, ?_, by cases h <;> exact ⟨rfl, rfl⟩, by cases h <;> rfl, by cases h <;> rfl, ?_⟩
  · rw [State.modHs, State.modHelm_helm]
    rfl
  · rw [State.modHs, State.modHelm_helm_other]
    exact .refl _
  · rw [State.modHs_hsOf]
    exact mild

theorem Stir.byLead {f : State → State} (stir : Stir h s (f s)) : Stir h s (s.byLead h f) := by
  unfold State.byLead
  split
  · exact stir
  · exact .refl h s

theorem Stir.ite {c : Prop} [Decidable c] {u : State} (k : Stir h s t) (l : Stir h s u) : Stir h s (if c then t else u) := by
  split
  · exact k
  · exact l

theorem Outside.stir (k : Outside s t) : Stir h s t := by
  refine ⟨?_, ?_, ⟨k.hpa, k.hpb⟩, k.nextId, k.crossing, ?_⟩
  · rw [k.helm]
    exact .refl _
  · rw [k.helm]
    exact .refl _
  · unfold State.hsOf
    rw [k.helm]
    exact .refl _

theorem State.rcAdd_outside (s : State) (addr lo : Nat) (amount : Int) : Outside s (s.rcAdd addr lo amount) :=
  ⟨rfl, rfl, rfl, rfl, rfl, rfl, rfl, rfl⟩

/-! ### The holder changes -/

theorem Redund.svc_setSvc (r : Redund) (g x : HelmId) (v : Svc) : (r.setSvc g v).svc x = if x = g then v else r.svc x := by
  cases g <;> cases x <;> rfl

theorem Redund.view_setSvc (r : Redund) (g : HelmId) (v : Svc) : (r.setSvc g v).view = r.view := by cases g <;> rfl

theorem Redund.lastHandover_setSvc (r : Redund) (g : HelmId) (v : Svc) : (r.setSvc g v).lastHandover = r.lastHandover := by cases g <;> rfl

/-- Helm g holds, the other stands by if it held. -/
def Redund.heldBy (r : Redund) (n : Nat) (g : HelmId) : Redund :=
  let r := { r.setSvc g .holding with view := some g, lastHandover := n, proveLeft := 0 }
  if r.svc (otherHelm g) = .holding then r.setSvc (otherHelm g) .standby else r

/-- The return to the primary that goes with it (R203). -/
def Redund.returning (r : Redund) (ch : List Word) (g : HelmId) : Redund :=
  if chPrimary ch = some g then { r with retLeft := 0, retOn := false }
  else if chPrimary ch = some (otherHelm g) && r.svc (otherHelm g) = .standby then r.startReturn ch else r

theorem Redund.returning_kept (r : Redund) (ch : List Word) (g : HelmId) :
    (r.returning ch g).view = r.view ∧ (r.returning ch g).lastHandover = r.lastHandover ∧ ∀ x, (r.returning ch g).svc x = r.svc x := by
  unfold Redund.returning Redund.startReturn
  split
  · exact ⟨rfl, rfl, fun _ => rfl⟩
  · split <;> exact ⟨rfl, rfl, fun _ => rfl⟩

theorem Redund.heldBy_spec (r : Redund) (n : Nat) (g : HelmId) :
    (r.heldBy n g).view = some g ∧ (r.heldBy n g).lastHandover = n ∧ (r.heldBy n g).svc g = .holding
      ∧ ((r.heldBy n g).svc (otherHelm g) = .standby ∨ (r.heldBy n g).svc (otherHelm g) = r.svc (otherHelm g)) := by
  unfold Redund.heldBy
  cases g
  · dsimp only
    split
    · exact ⟨rfl, rfl, rfl, .inl rfl⟩
    · exact ⟨rfl, rfl, rfl, .inr rfl⟩
  · dsimp only
    split
    · exact ⟨rfl, rfl, rfl, .inl rfl⟩
    · exact ⟨rfl, rfl, rfl, .inr rfl⟩

theorem State.changeView_eq (s : State) (h : HelmId) (n : Nat) (g : HelmId) (ret : Bool) : s.changeView h n g ret =
    if (s.hsOf h).red.view = some g then s else
      let red := ((s.hsOf h).red.heldBy n g).returning (s.hsOf h).charter g
      let v := if (s.hsOf h).red.svc (otherHelm g) = .holding
        then s.byLead h (fun s => s.modHelm (otherHelm g) (fun x => { x with swapped := false })) else s
      let v := v.modHs h (fun hs => { (hs.rc 0x603 0 1) with red := red })
      (v.note h n clsInfo (if ret then 0x028 else 0x027) (subj (helmSubj g)) (wd (v.helm g).outCause.toNat)
        (match (s.hsOf h).red.view with
          | some v => wd (helmSubj v)
          | none => 0)).chime h bellHelm := rfl

theorem State.byLead_hsOf {s : State} {h g : HelmId} {f : State → State} (same : (f s).hsOf g = s.hsOf g) : (s.byLead h f).hsOf g = s.hsOf g := by
  unfold State.byLead
  split
  · exact same
  · rfl

theorem State.modHelm_hsOf (s : State) (g h : HelmId) {f : Helm → Helm} (same : ∀ x : Helm, (f x).hs = x.hs) : (s.modHelm g f).hsOf h = s.hsOf h := by
  cases g <;> cases h
  · exact same _
  · rfl
  · rfl
  · exact same _

theorem State.unswap_hsOf (s : State) (h g : HelmId) :
    (s.byLead h (fun s => s.modHelm g (fun x => { x with swapped := false }))).hsOf h = s.hsOf h := by
  refine State.byLead_hsOf (f := fun s => s.modHelm g (fun x => { x with swapped := false })) ?_
  exact State.modHelm_hsOf s g h fun _ => rfl

theorem State.changeView_stir (s : State) (h : HelmId) (n : Nat) (g : HelmId) (ret : Bool) : Stir h s (s.changeView h n g ret) := by
  rw [State.changeView_eq]
  refine .ite (.refl h s) ?_
  dsimp only
  obtain ⟨-, -, svcG, svcO⟩ := (s.hsOf h).red.heldBy_spec n g
  obtain ⟨-, -, kept⟩ := ((s.hsOf h).red.heldBy n g).returning_kept (s.hsOf h).charter g
  generalize ((s.hsOf h).red.heldBy n g).returning (s.hsOf h).charter g = red at *
  have unswap : Stir h s (if (s.hsOf h).red.svc (otherHelm g) = .holding
      then s.byLead h (fun s => s.modHelm (otherHelm g) (fun x => { x with swapped := false })) else s) :=
    .ite (.byLead (f := fun s => s.modHelm (otherHelm g) (fun x => { x with swapped := false })) (s.modHelm_stir h _ fun _ => rfl)) (.refl h s)
  have same : (if (s.hsOf h).red.svc (otherHelm g) = .holding
      then s.byLead h (fun s => s.modHelm (otherHelm g) (fun x => { x with swapped := false })) else s).hsOf h = s.hsOf h :=
    State.ite_hsOf (s.unswap_hsOf h _) rfl
  refine ((unswap.trans (State.modHs_stir _ h ?_)).trans (Own.note ..).stir).trans (Own.chime ..).stir
  rw [same]
  intro x no
  show red.svc x ≠ _ ∧ red.svc x ≠ _
  rw [kept]
  obtain rfl | rfl := helm_cases g x
  · rw [svcG]
    exact ⟨nofun, nofun⟩
  · rcases svcO with is | is
    · rw [is]
      exact ⟨nofun, nofun⟩
    · rw [is]
      exact no

/-- The helm state in which helm g takes the helm at landing n. -/
theorem State.changeView_hsOf {s : State} {h : HelmId} {g : HelmId} (n : Nat) (ret : Bool) (other : (s.hsOf h).red.view ≠ some g) :
    (s.changeView h n g ret).hsOf h
      = { (s.hsOf h).rc 0x603 0 1 with red := ((s.hsOf h).red.heldBy n g).returning (s.hsOf h).charter g } := by
  rw [State.changeView_eq, if_neg other]
  dsimp only
  rw [State.chime_hsOf, State.note_hsOf, State.modHs_hsOf]
  have same : (if (s.hsOf h).red.svc (otherHelm g) = .holding
      then s.byLead h (fun s => s.modHelm (otherHelm g) (fun x => { x with swapped := false })) else s).hsOf h = s.hsOf h :=
    State.ite_hsOf (s.unswap_hsOf h _) rfl
  rw [same]

/-! ### A helm leaves service -/

/-- What a helm takes along that leaves service with a cause (R186). -/
def Helm.left_ (x : Helm) (cause : BitVec 4) : Helm :=
  { x with outCause := cause, testing := decide (cause ≠ 4 && cause ≠ 8 && cause ≠ 9), joinable := decide (cause ≠ 4), bistTries := 0
           loaded := false, resync := {} }

/-- That decision. -/
def HelmState.letGo (hs : HelmState) (g : HelmId) (to_ : Svc) : HelmState :=
  let r := hs.red.setSvc g to_
  { hs with red := if chPrimary hs.charter = some g then { r with retLeft := 0, retOn := false } else r }

/-- Up to that decision: another helm takes the helm, and a resynchronisation is aborted. -/
def State.unhelm (s : State) (h : HelmId) (n : Nat) (g : HelmId) : State :=
  let held := (s.hsOf h).red.view = some g
  let s := if held && ((s.hsOf h).red.svc (otherHelm g)).computes then s.changeView h n (otherHelm g) false else s
  if held then s.abortResync (otherHelm g) n else s

/-- The record of it. -/
def State.leaveRec (s : State) (h : HelmId) (n : Nat) (g : HelmId) (to_ : Svc) (cause : BitVec 4) (d2 : Word) : State :=
  match to_ with
  | .halted => s.note h n clsFault 0x023 (subj (helmSubj g)) (wd cause.toNat) d2
  | .fenced => s.note h n clsFault 0x024 (subj (helmSubj g)) (wd cause.toNat) d2
  | _ => s

theorem State.leave_eq (s : State) (h : HelmId) (n : Nat) (g : HelmId) (to_ : Svc) (cause : BitVec 4) : s.leave h n g to_ cause =
    ((((s.unhelm h n g).modHs h (fun hs => hs.letGo g to_)).modHelm g (fun x => x.left_ cause)).leaveRec h n g to_ cause
      (if (s.hsOf h).red.view = some g then wd (helmSubj g) else 0)).chime h bellHelm := rfl

theorem State.leaveRec_own (s : State) (h : HelmId) (n : Nat) (g : HelmId) (to_ : Svc) (cause : BitVec 4) (d2 : Word) :
    Own h s (s.leaveRec h n g to_ cause d2) := by
  unfold State.leaveRec
  split
  · exact .note ..
  · exact .note ..
  · exact .refl h s

theorem HelmState.letGo_svc (hs : HelmState) (g x : HelmId) (to_ : Svc) : (hs.letGo g to_).red.svc x = if x = g then to_ else hs.red.svc x := by
  unfold HelmState.letGo
  rw [← Redund.svc_setSvc]
  dsimp only
  split
  · rfl
  · rfl

theorem HelmState.letGo_view (hs : HelmState) (g : HelmId) (to_ : Svc) : (hs.letGo g to_).red.view = hs.red.view := by
  rw [← hs.red.view_setSvc g to_]
  unfold HelmState.letGo
  dsimp only
  split
  · rfl
  · rfl

theorem State.abortResync_stir (s : State) (h g : HelmId) (n : Nat) : Stir h s (s.abortResync g n) := by
  unfold State.abortResync
  dsimp only
  split
  · exact (s.modHelm_stir h g (f := fun x => { x with resync := { retryAt := n + 16 } }) fun _ => rfl).trans (State.rcAdd_outside ..).stir
  · exact .refl h s

theorem State.unhelm_stir (s : State) (h : HelmId) (n : Nat) (g : HelmId) : Stir h s (s.unhelm h n g) := by
  have first : Stir h s (if (decide ((s.hsOf h).red.view = some g) && ((s.hsOf h).red.svc (otherHelm g)).computes) = true
      then s.changeView h n (otherHelm g) false else s) := .ite (s.changeView_stir ..) (.refl h s)
  unfold State.unhelm
  exact .ite (first.trans (State.abortResync_stir ..)) first

theorem State.unhelm_free {s : State} {h : HelmId} {g : HelmId} (n : Nat) (free : (s.hsOf h).red.view ≠ some g) : s.unhelm h n g = s := by
  unfold State.unhelm
  simp only [free, decide_false, Bool.false_and, Bool.false_eq_true, if_false]

theorem State.leave_stir (s : State) (h : HelmId) (n : Nat) (g : HelmId) {to_ : Svc} (cause : BitVec 4) (mild : to_ ≠ .fenced ∧ to_ ≠ .halted) :
    Stir h s (s.leave h n g to_ cause) := by
  rw [State.leave_eq]
  refine ((((s.unhelm_stir h n g).trans (State.modHs_stir _ h ?_)).trans (State.modHelm_stir _ h g (f := fun x => x.left_ cause) fun _ => rfl)).trans
    (State.leaveRec_own ..).stir).trans (Own.chime ..).stir
  intro x no
  rw [HelmState.letGo_svc]
  split
  · exact mild
  · exact no

theorem Own.hs_red {s t : State} {h : HelmId} (k : Own h s t) : (t.hsOf h).red.view = (s.hsOf h).red.view ∧ ∀ g, (t.hsOf h).red.svc g = (s.hsOf h).red.svc g :=
  ⟨(k.1.helms h).view, (k.1.helms h).svc⟩

theorem State.leaveRec_hsOf (s : State) (h : HelmId) (n : Nat) (g : HelmId) (to_ : Svc) (cause : BitVec 4) (d2 : Word) :
    (s.leaveRec h n g to_ cause d2).hsOf h = s.hsOf h := by
  unfold State.leaveRec
  split
  · exact State.note_hsOf ..
  · exact State.note_hsOf ..
  · rfl

theorem State.leave_hsOf (s : State) (h : HelmId) (n : Nat) (g : HelmId) (to_ : Svc) (cause : BitVec 4) :
    (s.leave h n g to_ cause).hsOf h = ((s.unhelm h n g).hsOf h).letGo g to_ := by
  rw [State.leave_eq, State.chime_hsOf, State.leaveRec_hsOf, State.modHelm_hsOf _ _ _ (f := fun x => x.left_ cause) fun _ => rfl, State.modHs_hsOf]

/-- The marks of a helm that leaves. -/
theorem State.leave_marks (s : State) (h : HelmId) (n : Nat) (g : HelmId) (to_ : Svc) (cause : BitVec 4) :
    ∃ swapped, ((s.leave h n g to_ cause).helm g).marks = (cause, decide (cause ≠ 4 && cause ≠ 8 && cause ≠ 9), 0, swapped) := by
  rw [State.leave_eq, (Own.chime ..).1.marks, (State.leaveRec_own ..).1.marks, State.modHelm_helm]
  exact ⟨_, rfl⟩

end

end Sys2Proof.Machine
end

section
/-! PROOFS. The helm commands and their rows (R172, R197, R201, R203, R215, R216). -/

namespace Sys2Proof.Machine

section
variable (s : State) (k : Ctx)

/-! ### Test passages -/

/-- A test passage comes due in a helm, when it is named. -/
def State.dueTest (key : TestKey) (g : HelmId) (named : Bool) : State :=
  if named && (s.helm g).svc.computes && !(s.helm g).tests.contains key then
    s.modHelm g (fun x => { x with tests := x.tests ++ [key] }) else s

theorem State.dueTest_helm (key : TestKey) (g : HelmId) (named : Bool) (x : HelmId) :
    ((s.dueTest key g named).helm x) = { s.helm x with tests := ((s.dueTest key g named).helm x).tests }
      ∧ ∀ r ∈ (s.helm x).tests, r ∈ ((s.dueTest key g named).helm x).tests := by
  unfold State.dueTest
  split
  · obtain rfl | rfl := helm_cases g x
    · rw [State.modHelm_helm]
      exact ⟨rfl, fun r mem => List.mem_append_left _ mem⟩
    · rw [State.modHelm_helm_other]
      exact ⟨rfl, fun r mem => mem⟩
  · exact ⟨rfl, fun r mem => mem⟩

theorem State.dueTest_frame (key : TestKey) (g : HelmId) (named : Bool) :
    s.dueTest key g named = { s with helmA := (s.dueTest key g named).helmA, helmB := (s.dueTest key g named).helmB } := by
  unfold State.dueTest
  split
  · exact State.modHelm_frame ..
  · rfl

theorem State.dueTest_mem (key : TestKey) {g : HelmId} {named : Bool} (yes : named = true) (computes : (s.helm g).svc.computes = true) :
    key ∈ ((s.dueTest key g named).helm g).tests := by
  unfold State.dueTest
  rw [yes, computes]
  split
  · rw [State.modHelm_helm]
    exact List.mem_append_right _ (List.mem_singleton.2 rfl)
  · next there => simpa using there

/-- Its outcome is to come. -/
def State.dueOutcome (key : TestKey) (a b : Bool) : State :=
  if s.outcomes.any (fun t => t.key = key) then
    { s with outcomes := s.outcomes.map (fun t => if t.key = key then { t with nameA := t.nameA || a, nameB := t.nameB || b } else t) }
  else { s with outcomes := s.outcomes ++ [⟨key, a, b, .none, .none⟩] }

theorem State.openTest_eq (key : TestKey) (a b : Bool) : s.openTest key a b = ((s.dueTest key .a a).dueTest key .b b).dueOutcome key a b := rfl

theorem State.dueOutcome_outside (key : TestKey) (a b : Bool) : Outside s (s.dueOutcome key a b) := by
  unfold State.dueOutcome
  split <;> exact ⟨rfl, rfl, rfl, rfl, rfl, rfl, rfl, rfl⟩

theorem State.dueTest_quiet (key : TestKey) (g h : HelmId) (named : Bool) : Quiet h s (s.dueTest key g named) := by
  have frame := s.dueTest_frame key g named
  have helm := fun x => (s.dueTest_helm key g named x).1
  refine ⟨⟨?_, ?_, ?_, fun x => ?_⟩, helm _, ⟨?_, ?_⟩, ?_, ?_⟩
  · rw [frame]
  · rw [frame]
  · rw [frame]
  · rw [helm]
    exact ⟨rfl, rfl, fun _ => rfl, rfl⟩
  · rw [frame]
  · rw [frame]
  · rw [frame]
  · rw [helm]
    exact ⟨rfl, rfl⟩

theorem State.openTest_quiet (key : TestKey) (a b : Bool) (h : HelmId) : Quiet h s (s.openTest key a b) := by
  rw [State.openTest_eq]
  exact ((State.dueTest_quiet ..).trans (State.dueTest_quiet ..)).trans (State.dueOutcome_outside ..).quiet

theorem State.openTest_spec (key : TestKey) (named : HelmId → Bool) (new : ∀ r ∈ s.outcomes, r.key ≠ key) :
    let t := s.openTest key (named .a) (named .b)
    t.outcomes = s.outcomes ++ [{ key := key, nameA := named .a, nameB := named .b }]
      ∧ ∀ g, named g = true → (s.helm g).svc.computes = true → key ∈ (t.helm g).tests := by
  intro t
  have outcomes : ((s.dueTest key .a (named .a)).dueTest key .b (named .b)).outcomes = s.outcomes := by
    rw [State.dueTest_frame, State.dueTest_frame]
  have first : t = { (s.dueTest key .a (named .a)).dueTest key .b (named .b) with
      outcomes := s.outcomes ++ [⟨key, named .a, named .b, .none, .none⟩] } := by
    unfold t
    rw [State.openTest_eq, State.dueOutcome, outcomes, if_neg (by simpa using new)]
  rw [first]
  refine ⟨rfl, fun g yes computes => ?_⟩
  cases g with
  | a => exact ((s.dueTest key .a (named .a)).dueTest_helm key .b (named .b) .a).2 key (State.dueTest_mem s key yes computes)
  | b =>
    refine State.dueTest_mem (s.dueTest key .a (named .a)) key (g := .b) yes ?_
    rw [(s.dueTest_helm key .a (named .a) .b).1]
    exact computes

/-- The helms that a byte names (R197). -/
def namesHelm (code : Nat) (g : HelmId) : Bool := decide (code = 3) || decide (code = helmCode g)

theorem State.testRequest_eq (code : Nat) : s.testRequest k code =
    ((s.byLead k.h (fun s => s.openTest (k.L + 2, true) (namesHelm code .a) (namesHelm code .b))).helmAct k 0xA0 (code * 256 + 1) k.L, Ans.ok) := rfl

theorem State.helmAct_own (op prm eff : Nat) : Own k.h s (s.helmAct k op prm eff) := .act ..

theorem State.helmAct_hsOf (op prm eff : Nat) (g : HelmId) : (s.helmAct k op prm eff).hsOf g = s.hsOf g := State.act_hsOf ..

theorem State.testRequest_led (code : Nat) : Led k.h s (s.testRequest k code).1 := by
  rw [State.testRequest_eq]
  exact (Led.byLead (f := fun s => s.openTest (k.L + 2, true) (namesHelm code .a) (namesHelm code .b)) (s.openTest_quiet _ _ _ k.h)).trans
    (State.helmAct_own ..).led

/-! ### The return hold -/

theorem State.returnHold_eq (on : Bool) : s.returnHold k on =
    ((s.modHs k.h (fun hs => { hs with red := { hs.red with retHold := on } })).helmAct k 0x91 (bn on) k.L, Ans.ok) := rfl

theorem State.returnHold_own (on : Bool) : Own k.h s (s.returnHold k on).1 := by
  rw [State.returnHold_eq]
  exact (Own.modHs (f := fun hs => { hs with red := { hs.red with retHold := on } }) rfl (fun g => by cases g <;> rfl) rfl).trans (State.helmAct_own ..)

/-! ### The handover -/

theorem State.handover_stir (g : HelmId) : Stir k.h s (s.handover k g).1 := by
  unfold State.handover
  dsimp only
  split
  · exact .refl ..
  · split
    · exact .refl ..
    · exact (State.helmAct_own ..).stir.trans (State.changeView_stir ..)

/-! ### Full self-tests -/

/-- The state in which a full self-test is asked for (R212). -/
def Helm.retest (x : Helm) : Helm := { x with testing := true, joinable := true, bistTries := 0 }

theorem State.fullRequest_cases (code : Nat) : let r := s.fullRequest k code
    (∃ st, r = (s, Ans.st st))
    ∨ (∃ g, helmOfCode code = some g ∧ r.1 = (((s.leave k.h k.n g .starting 0xA).modHelm g
        (fun x => { x with testing := true, joinable := true })).helmAct k 0xA0 (code * 256 + 2) k.L))
    ∨ (∃ g, helmOfCode code = some g ∧ r.1 = (s.modHelm g Helm.retest).helmAct k 0xA0 (code * 256 + 2) k.L) := by
  intro r
  unfold r State.fullRequest
  dsimp only
  split
  · exact .inl ⟨_, rfl⟩
  · next g is =>
    split
    · exact .inl ⟨_, rfl⟩
    · split
      · exact .inr (.inl ⟨g, is, rfl⟩)
      · split
        · exact .inr (.inr ⟨g, is, rfl⟩)
        · exact .inl ⟨_, rfl⟩

theorem State.fullRequest_stir (code : Nat) : Stir k.h s (s.fullRequest k code).1 := by
  rcases s.fullRequest_cases k code with ⟨st, is⟩ | ⟨g, -, is⟩ | ⟨g, -, is⟩
  · rw [is]
    exact .refl ..
  · rw [is]
    exact ((s.leave_stir k.h k.n g (to_ := .starting) 0xA ⟨nofun, nofun⟩).trans
      (State.modHelm_stir _ _ _ (f := fun x => { x with testing := true, joinable := true }) fun _ => rfl)).trans (State.helmAct_own _ k ..).stir
  · rw [is]
    exact (State.modHelm_stir _ _ _ (f := Helm.retest) fun _ => rfl).trans (State.helmAct_own _ k ..).stir

/-! ### Debug attachments -/

theorem State.attach_eq (g : HelmId) :
    s.attach k g = (s.leave k.h k.n g .debug 8).act k.h k.n k.tag.port clsAct 0x04F (helmCode g) 0 := rfl

theorem State.attach_stir (g : HelmId) : Stir k.h s (s.attach k g) := by
  rw [State.attach_eq]
  exact (s.leave_stir k.h k.n g (to_ := .debug) 8 ⟨nofun, nofun⟩).trans (Own.act ..).stir

theorem State.debugOpen_stir (code : Nat) : Stir k.h s (s.debugOpen k code).1 := by
  have both (v : HelmId) : Stir k.h s ((s.attach k (otherHelm v)).attach k v) := (State.attach_stir ..).trans (State.attach_stir ..)
  unfold State.debugOpen
  dsimp only
  split
  · next g _ =>
    split
    · exact .refl ..
    · split
      · exact s.attach_stir k g
      · exact s.attach_stir k g
      · exact s.attach_stir k g
      · exact .refl ..
      · exact .refl ..
  · split
    · exact .refl ..
    · next v _ =>
      split
      · exact .refl ..
      · exact both v

/-- Opening at a helm marks it, and only it. -/
theorem State.debugOpen_marks {code : Nat} {g : HelmId} (is : helmOfCode code = some g) :
    let r := (s.debugOpen k code).1
    r = s ∨ r = s.attach k g := by
  intro r
  unfold r State.debugOpen
  dsimp only
  rw [is]
  dsimp only
  split
  · exact .inl rfl
  · split
    · exact .inr rfl
    · exact .inr rfl
    · exact .inr rfl
    · exact .inl rfl
    · exact .inl rfl

theorem State.attach_marks (g : HelmId) : ∃ swapped, ((s.attach k g).helm g).marks = (8, false, 0, swapped) := by
  rw [State.attach_eq, (Own.act ..).1.marks]
  exact s.leave_marks k.h k.n g .debug 8

/-- The state of a helm whose attachment ends (R216). -/
def Helm.detached (x : Helm) : Helm := { x with svc := .halted, testing := true, joinable := true, bistTries := 0, outCause := 8 }

theorem State.detach_eq {g h : HelmId} (attached : (s.hsOf h).red.svc g = .debug) : s.detach h g =
    ((s.modHs h (fun hs => { hs with red := hs.red.setSvc g .halted })).modHelm g Helm.detached).chime h bellHelm := if_pos attached

/-- DEBUG_ENABLE close of one helm. -/
theorem State.debugClose_eq {code : Nat} {g : HelmId} (is : code = helmCode g) (attached : (s.hsOf k.h).red.svc g = .debug) :
    s.debugClose k code = ((s.act k.h k.n k.tag.port clsAct 0x050 (helmCode g) 0).detach k.h g, Ans.ok) := by
  unfold State.debugClose
  subst is
  cases g <;> simp [helmCode, attached]

end

/-! ### What the rows leave -/

section
variable {s : State} {h : HelmId} {t : Tag} {c : Cmd} {v : State} {r : State × Ans} {u : State}

theorem RowStirs.answered (gives : RowStirs s h t c v r u) {a : Ans} (ans : r.2 = a) (now : a.later = false) : Answered s u h t c a := by
  have waiting := gives.waiting
  unfold Ans.replies at waiting
  rw [ans, if_neg (by rw [now]; exact Bool.false_ne_true), State.ctxOf_tag] at waiting
  exact ⟨waiting, gives.slip⟩

theorem State.handover_row {b : Byte} {g : HelmId} (takes : s.takes h t (.handover b)) (is : helmOf b = some g)
    (other : (s.hsOf h).red.view ≠ some g) (standby : (s.hsOf h).red.svc g = .standby) (calm : (s.hsOf h).red.arb = none) :
    let u := s.hostRow t (.handover b)
    (u.hsOf h).red.view = some g ∧ (u.hsOf h).red.svc g = .holding ∧ (u.hsOf h).red.lastHandover = s.tb.crossing
      ∧ (u.hsOf h).img = (s.hsOf h).img ∧ Answered s u h t (.handover b) { status := .ok, eff := some (s.ctxOf h t).L } := by
  have cmd (v : State) (k : Ctx) : v.doCmd k (.handover b) = v.handover k g := by
    show (match helmOf b with
      | some g => v.handover k g
      | none => (v, Ans.st .paramBad)) = _
    rw [is]
  obtain ⟨v, gives⟩ := State.hostRow_stirs takes fun v k => cmd v k ▸ v.handover_stir k g
  obtain ⟨k, ctx, kh, -, kn⟩ := s.ctxOf_named h t
  have red := gives.ready.red
  rw [cmd] at gives
  rw [ctx] at gives ⊢
  have does : v.handover k g = ((v.helmAct k 0x90 (helmCode g) k.L).changeView k.h k.n g false, { status := .ok, eff := some k.L }) := by
    unfold State.handover
    rw [kh]
    exact (if_neg (by rw [red]; exact other)).trans (if_neg (by rw [red, standby, calm]; decide))
  have hs : (v.handover k g).1.hsOf h
      = { (v.hsOf h).rc 0x603 0 1 with red := ((v.hsOf h).red.heldBy k.n g).returning (v.hsOf h).charter g } := by
    rw [does, ← kh]
    dsimp only
    rw [State.changeView_hsOf _ _ (by rw [State.helmAct_hsOf, kh, red]; exact other), State.helmAct_hsOf]
  have like := gives.like
  rw [hs, kn] at like
  obtain ⟨view, last, svc, -⟩ := (v.hsOf h).red.heldBy_spec s.tb.crossing g
  obtain ⟨view', last', svc'⟩ := ((v.hsOf h).red.heldBy s.tb.crossing g).returning_kept (v.hsOf h).charter g
  refine ⟨?_, ?_, ?_, ?_, gives.answered (congrArg Prod.snd does) rfl⟩
  · rw [like.red]
    exact view'.trans view
  · rw [like.red]
    exact (svc' g).trans svc
  · rw [like.red]
    exact last'.trans last
  · exact (congrArg HelmState.img like :).trans (congrArg HelmState.img gives.ready :)

theorem State.returnHold_row {b : Byte} (takes : s.takes h t (.returnHold b)) :
    let u := s.hostRow t (.returnHold b)
    OnlyHelmSide s u ∧ (u.hsOf h).like { s.hsOf h with red := { (s.hsOf h).red with retHold := decide (b = 1) } }
      ∧ Answered s u h t (.returnHold b) Ans.ok := by
  obtain ⟨v, gives, only⟩ := State.hostRow_own takes fun v k => v.returnHold_own k (b = 1)
  refine ⟨only, gives.like_of (f := fun a => { a with red := { a.red with retHold := decide (b = 1) } }) ?_ (fun a b like => ?_),
    gives.answered (a := Ans.ok) rfl rfl⟩
  · show (v.returnHold (s.ctxOf h t) (b = 1)).1.hsOf h = _
    rw [State.returnHold_eq, State.helmAct_hsOf, State.ctxOf_h, State.modHs_hsOf]
  · unfold HelmState.like
    rw [like]

theorem State.testRequest_row {b : Byte} (takes : s.takes h t (.selftest b 1)) (sole : s.soleActor h)
    (new : ∀ r ∈ s.outcomes, r.key ≠ ((s.ctxOf h t).L + 2, true)) :
    let u := s.hostRow t (.selftest b 1)
    u.outcomes = s.outcomes ++ [{ key := ((s.ctxOf h t).L + 2, true), nameA := namesHelm b.toNat .a, nameB := namesHelm b.toNat .b }]
      ∧ (∀ g, namesHelm b.toNat g = true → (s.helm g).svc.computes = true → ((s.ctxOf h t).L + 2, true) ∈ (u.helm g).tests)
      ∧ (u.hsOf h).like (s.hsOf h) := by
  have cmd (v : State) (k : Ctx) : v.doCmd k (.selftest b 1) = v.testRequest k b.toNat := rfl
  obtain ⟨v, gives⟩ := State.hostRow_led takes sole fun v k => cmd v k ▸ v.testRequest_led k b.toNat
  obtain ⟨k, ctx, rfl, -, -⟩ := s.ctxOf_named h t
  rw [cmd, ctx] at gives
  rw [ctx] at new ⊢
  have acts : v.acts k.h = true := (gives.calm.acts k.h).trans sole.1
  have outcomes : v.outcomes = s.outcomes := by rw [gives.before.frame]
  obtain ⟨opened, due⟩ := v.openTest_spec (k.L + 2, true) (namesHelm b.toNat) (by rw [outcomes]; exact new)
  have does : v.testRequest k b.toNat = ((v.openTest (k.L + 2, true) (namesHelm b.toNat .a) (namesHelm b.toNat .b)).helmAct k 0xA0
      (b.toNat * 256 + 1) k.L, Ans.ok) := by
    rw [State.testRequest_eq, State.byLead_on acts]
  have quiet := v.openTest_quiet (k.L + 2, true) (namesHelm b.toNat .a) (namesHelm b.toNat .b) (otherHelm k.h)
  have hs : (v.openTest (k.L + 2, true) (namesHelm b.toNat .a) (namesHelm b.toNat .b)).hsOf k.h = v.hsOf k.h := by
    have aside := quiet.aside
    rw [otherHelm_otherHelm] at aside
    exact aside.hs
  rw [does] at gives
  have mach : Mach (v.openTest (k.L + 2, true) (namesHelm b.toNat .a) (namesHelm b.toNat .b)) (s.hostRow t (.selftest b 1)) :=
    (State.helmAct_own ..).1.trans gives.after
  refine ⟨?_, fun g yes computes => ?_, ?_⟩
  · rw [mach.frame, ← outcomes, ← opened]
  · rw [mach.tests]
    exact due g yes (by rw [gives.calm.svc]; exact computes)
  · refine gives.like.trans ?_
    dsimp only
    rw [State.helmAct_hsOf, hs]
    exact gives.ready

end

end Sys2Proof.Machine
end

section
/-! PROOFS. The rows of self-tests and of debug, and the helm commands as a whole (R172, R215, R216). -/

namespace Sys2Proof.Machine

section
variable {s : State} {h : HelmId} {t : Tag} {c : Cmd} {v : State} {r : State × Ans} {u : State}

theorem Helm.marks_of {x : Helm} {cause : BitVec 4} {testing : Bool} {tries : Nat} {swapped : Bool} (is : x.marks = (cause, testing, tries, swapped)) :
    x.outCause = cause ∧ x.testing = testing ∧ x.bistTries = tries ∧ x.swapped = swapped := by
  unfold Helm.marks at is
  simpa using is

/-! ### Full self-tests -/

theorem Cmd.selftest_two (v : State) (k : Ctx) (b : Byte) : v.doCmd k (.selftest b 2) = v.fullRequest k b.toNat :=
  if_neg (t := v.testRequest k b.toNat) (show ¬ (2 : Byte) = 1 by decide)

/-- A full self-test marks no helm otherwise than the one it names. -/
theorem Cmd.selftest_leaves {b : Byte} {g : HelmId} (is : helmOfCode b.toNat = some g) {P : BitVec 4 × Bool × Nat × Bool → Prop}
    (out : ∀ swapped, P (0xA, true, 0, swapped)) (again : ∀ m, P m → P (m.1, true, 0, m.2.2.2)) : (Cmd.selftest b 2).Leaves g P := by
  intro v k holds
  rw [Cmd.selftest_two]
  rcases v.fullRequest_cases k b.toNat with ⟨st, does⟩ | ⟨g', is', does⟩ | ⟨g', is', does⟩
  · rw [does]
    exact holds
  · obtain rfl : g = g' := Option.some.inj (is.symm.trans is')
    rw [does, (State.helmAct_own ..).1.marks, State.modHelm_helm]
    obtain ⟨swapped, marks⟩ := v.leave_marks k.h k.n g .starting 0xA
    obtain ⟨cause, -, tries, swaps⟩ := Helm.marks_of marks
    unfold Helm.marks
    dsimp only
    rw [cause, tries]
    exact out _
  · obtain rfl : g = g' := Option.some.inj (is.symm.trans is')
    rw [does, (State.helmAct_own ..).1.marks, State.modHelm_helm]
    exact again _ holds

theorem State.leave_free_svc {v : State} {k : Ctx} {g : HelmId} (to_ : Svc) (cause : BitVec 4) (free : (v.hsOf k.h).red.view ≠ some g) :
    ((v.leave k.h k.n g to_ cause).hsOf k.h).red.svc g = to_ := by
  rw [State.leave_hsOf, State.unhelm_free _ free, HelmState.letGo_svc, if_pos rfl]

theorem State.fullRequest_row {b : Byte} {g : HelmId} (takes : s.takes h t (.selftest b 2)) (is : helmOfCode b.toNat = some g)
    (other : (s.hsOf h).red.view ≠ some g) (standby : (s.hsOf h).red.svc g = .standby) :
    let u := s.hostRow t (.selftest b 2)
    (u.hsOf h).red.svc g = .starting ∧ (u.helm g).outCause = 0xA ∧ (u.helm g).testing = true ∧ Answered s u h t (.selftest b 2) Ans.ok := by
  obtain ⟨v, gives⟩ := State.hostRow_stirs takes fun v k => Cmd.selftest_two v k b ▸ v.fullRequest_stir k b.toNat
  obtain ⟨k, ctx, rfl, -, -⟩ := s.ctxOf_named h t
  have red := gives.ready.red
  rw [Cmd.selftest_two, ctx] at gives
  have does : v.fullRequest k b.toNat = (((v.leave k.h k.n g .starting 0xA).modHelm g
      (fun x => { x with testing := true, joinable := true })).helmAct k 0xA0 (b.toNat * 256 + 2) k.L, Ans.ok) := by
    unfold State.fullRequest
    rw [is]
    dsimp only
    rw [if_neg (by rw [red]; exact other), red, standby]
  have hs : ((v.fullRequest k b.toNat).1.hsOf k.h).red.svc g = .starting := by
    rw [does]
    dsimp only
    rw [State.helmAct_hsOf, State.modHelm_hsOf _ _ _ (f := fun x => { x with testing := true, joinable := true }) fun _ => rfl,
      State.leave_free_svc _ _ (by rw [red]; exact other)]
  have marks := gives.marks (fun m => m.1 = 0xA ∧ m.2.1 = true) g (Cmd.selftest_leaves is (fun _ => ⟨rfl, rfl⟩) fun m holds => ⟨holds.1, rfl⟩) (by
    rw [does]
    dsimp only
    rw [(State.helmAct_own ..).1.marks, State.modHelm_helm]
    obtain ⟨swapped, marks⟩ := v.leave_marks k.h k.n g .starting 0xA
    exact ⟨(Helm.marks_of marks).1, rfl⟩)
  exact ⟨by rw [gives.like.red]; exact hs, marks.1, marks.2, gives.answered (congrArg Prod.snd does) rfl⟩

theorem State.retest_row {b : Byte} {g : HelmId} (takes : s.takes h t (.selftest b 2)) (is : helmOfCode b.toNat = some g)
    (other : (s.hsOf h).red.view ≠ some g) (starting : (s.hsOf h).red.svc g = .starting) (failed : (s.helm g).bistFail = true) :
    let u := s.hostRow t (.selftest b 2)
    (u.helm g).testing = true ∧ (u.helm g).bistTries = 0 ∧ Answered s u h t (.selftest b 2) Ans.ok := by
  obtain ⟨v, gives⟩ := State.hostRow_stirs takes fun v k => Cmd.selftest_two v k b ▸ v.fullRequest_stir k b.toNat
  obtain ⟨k, ctx, rfl, -, -⟩ := s.ctxOf_named h t
  have red := gives.ready.red
  rw [Cmd.selftest_two, ctx] at gives
  have does : v.fullRequest k b.toNat = ((v.modHelm g Helm.retest).helmAct k 0xA0 (b.toNat * 256 + 2) k.L, Ans.ok) := by
    unfold State.fullRequest
    rw [is]
    dsimp only
    rw [if_neg (by rw [red]; exact other), red, starting]
    dsimp only
    rw [(gives.fixed g).2, failed]
    rfl
  have marks := gives.marks (fun m => m.2.1 = true ∧ m.2.2.1 = 0) g (Cmd.selftest_leaves is (fun _ => ⟨rfl, rfl⟩) fun _ _ => ⟨rfl, rfl⟩) (by
    rw [does]
    dsimp only
    rw [(State.helmAct_own ..).1.marks, State.modHelm_helm]
    exact ⟨rfl, rfl⟩)
  exact ⟨marks.1, marks.2, gives.answered (congrArg Prod.snd does) rfl⟩

/-! ### Debug -/

theorem Cmd.debug_open (v : State) (k : Ctx) (b : Byte) : v.doCmd k (.debug b 1) = v.debugOpen k b.toNat := rfl

theorem Cmd.debug_close (v : State) (k : Ctx) (b : Byte) : v.doCmd k (.debug b 0) = v.debugClose k b.toNat :=
  if_neg (t := v.debugOpen k b.toNat) (show ¬ (0 : Byte) = 1 by decide)

theorem State.debugBoth_row {b : Byte} (takes : s.takes h t (.debug b 1)) (is : helmOfCode b.toNat = none)
    (alone : ∀ v, (s.hsOf h).red.view = some v → (s.hsOf h).red.svc (otherHelm v) ≠ .standby ∨ (s.hsOf h).red.arb ≠ none) :
    let u := s.hostRow t (.debug b 1)
    (u.hsOf h).like (s.hsOf h) ∧ Answered s u h t (.debug b 1) (Ans.st .noStandby) := by
  obtain ⟨v, gives⟩ := State.hostRow_stirs takes fun v k => Cmd.debug_open v k b ▸ v.debugOpen_stir k b.toNat
  obtain ⟨k, ctx, rfl, -, -⟩ := s.ctxOf_named h t
  have red := gives.ready.red
  rw [Cmd.debug_open, ctx] at gives
  have does : v.debugOpen k b.toNat = (v, Ans.st .noStandby) := by
    unfold State.debugOpen
    rw [is]
    dsimp only
    split
    · rfl
    · next x view =>
      rw [red] at view ⊢
      exact if_pos (by simpa [Option.isSome_iff_ne_none] using alone x view)
  refine ⟨?_, gives.answered (congrArg Prod.snd does) rfl⟩
  have like := gives.like
  rw [does] at like
  exact like.trans gives.ready

theorem Cmd.debug_leaves {b : Byte} {g : HelmId} (is : helmOfCode b.toNat = some g) : (Cmd.debug b 1).Leaves g fun m => m.1 = 8 := by
  intro v k holds
  rw [Cmd.debug_open]
  rcases v.debugOpen_marks k is with does | does
  · rw [does]
    exact holds
  · rw [does]
    obtain ⟨swapped, marks⟩ := v.attach_marks k g
    exact (Helm.marks_of marks).1

theorem State.debugOpen_row {b : Byte} {g : HelmId} (takes : s.takes h t (.debug b 1)) (is : helmOfCode b.toNat = some g)
    (other : (s.hsOf h).red.view ≠ some g) (standby : (s.hsOf h).red.svc g = .standby) :
    let u := s.hostRow t (.debug b 1)
    (u.hsOf h).red.svc g = .debug ∧ (u.helm g).outCause = 8 ∧ (u.hsOf h).red.view = (s.hsOf h).red.view ∧ Answered s u h t (.debug b 1) Ans.ok := by
  obtain ⟨v, gives⟩ := State.hostRow_stirs takes fun v k => Cmd.debug_open v k b ▸ v.debugOpen_stir k b.toNat
  obtain ⟨k, ctx, rfl, -, -⟩ := s.ctxOf_named h t
  have red := gives.ready.red
  rw [Cmd.debug_open, ctx] at gives
  have free : (v.hsOf k.h).red.view ≠ some g := by rw [red]; exact other
  have does : v.debugOpen k b.toNat = (v.attach k g, Ans.ok) := by
    unfold State.debugOpen
    rw [is]
    dsimp only
    rw [if_neg (by simp [free]), red, standby]
  have hs : ((v.attach k g).hsOf k.h) = (v.hsOf k.h).letGo g .debug := by
    rw [State.attach_eq, State.act_hsOf, State.leave_hsOf, State.unhelm_free _ free]
  have like := gives.like
  rw [does] at like
  dsimp only at like
  rw [hs] at like
  refine ⟨?_, gives.marks _ g (Cmd.debug_leaves is) ?_, ?_, gives.answered (congrArg Prod.snd does) rfl⟩
  · rw [like.red, HelmState.letGo_svc, if_pos rfl]
  · rw [does]
    obtain ⟨swapped, marks⟩ := v.attach_marks k g
    exact (Helm.marks_of marks).1
  · rw [like.red, HelmState.letGo_view, red]

/-! ### The end of an attachment -/

theorem State.hostRow_alone (live : s.live = true) (before : (s.helm (otherHelm h)).svc.computes = false)
    (after : ((s.rowAt h t c).helm (otherHelm h)).svc.computes = false) (g : HelmId) : (s.hostRow t c).helm g = (s.rowAt h t c).helm g := by
  have row : s.hostRow t c = { (s.rowAt .a t c).rowAt .b t c with nextId := ((s.rowAt .a t c).rowAt .b t c).nextId + 1 } := by
    unfold State.hostRow
    rw [live]
    rfl
  rw [row]
  cases h with
  | a =>
    rw [State.rowAt_idle (h := .b) t c after]
    cases g <;> rfl
  | b =>
    rw [State.rowAt_idle (h := .a) t c before]
    cases g <;> rfl

theorem State.detach_spec {h : HelmId} (v : State) (attached : (v.hsOf h).red.svc (otherHelm h) = .debug) : let d := v.detach h (otherHelm h)
    (d.hsOf h).red.svc (otherHelm h) = .halted ∧ (d.helm (otherHelm h)).svc = .halted ∧ (d.helm (otherHelm h)).testing = true
      ∧ d.helm h = { v.helm h with hs := d.hsOf h } := by
  intro d
  have helm (g : HelmId) : d.helm g
      = ((v.modHs h (fun hs => { hs with red := hs.red.setSvc (otherHelm h) .halted })).modHelm (otherHelm h) Helm.detached).helm g := by
    unfold d
    rw [State.detach_eq v attached, (State.chime_mach ..).2.helm]
  refine ⟨?_, ?_, ?_, ?_⟩
  · rw [State.hsOf, helm]
    cases h <;> rfl
  · rw [helm, State.modHelm_helm]
    rfl
  · rw [helm, State.modHelm_helm]
    rfl
  · rw [State.hsOf, helm]
    cases h <;> rfl

theorem State.debugClose_row {b : Byte} {g : HelmId} (takes : s.takes h t (.debug b 0)) (is : b.toNat = helmCode g) (apart : g ≠ h)
    (attached : (s.hsOf h).red.svc g = .debug) :
    let u := s.hostRow t (.debug b 0)
    (u.hsOf h).red.svc g = .halted ∧ (u.helm g).svc = .halted ∧ (u.helm g).testing = true ∧ Answered s u h t (.debug b 0) Ans.ok := by
  obtain ⟨live, settled, under, computes, passes⟩ := takes
  obtain rfl : g = otherHelm h := (helm_cases h g).resolve_left apart
  have idle : (s.helm (otherHelm h)).svc = .debug := (settled h computes (otherHelm h)).symm.trans attached
  obtain ⟨v, ready, ensued⟩ := State.rowAt_stirs (t := t) (c := .debug b 0) computes (under h computes)
  obtain ⟨k, ctx, rfl, ktag, -⟩ := s.ctxOf_named h t
  have red := ready.like.red
  have free : v.checkCmd (s.ctxOf k.h t) (.debug b 0) = none :=
    (State.checkCmd_like (s := s) _ (by rw [State.ctxOf_h]; exact ready.like) (by rw [State.ctxOf_h]; exact ready.mode)).trans passes
  have run : v.runCmd (s.ctxOf k.h t) (.debug b 0) = v.debugClose k b.toNat := by
    unfold State.runCmd
    rw [free, Cmd.debug_close, ctx]
  rw [run, ctx, v.debugClose_eq k is (by rw [red]; exact attached)] at ensued
  dsimp only at ensued
  obtain ⟨w, close⟩ : ∃ w, v.act k.h k.n k.tag.port clsAct 0x050 (helmCode (otherHelm k.h)) 0 = w := ⟨_, rfl⟩
  have own : Own k.h v w := close ▸ .act ..
  rw [close] at ensued
  obtain ⟨decided, halted, testing, frame⟩ := w.detach_spec (h := k.h) (by rw [← close, State.act_hsOf, red]; exact attached)
  generalize w.detach k.h (otherHelm k.h) = d at *
  obtain ⟨-, svc⟩ := ensued.bystander (.inr (by rw [halted]; rfl))
  have whole (g : HelmId) := State.hostRow_alone (c := .debug b 0) (t := t) live (by rw [idle]; rfl) (by rw [svc, halted]; rfl) g
  have slot : (d.helm k.h).slip t.port = (s.helm k.h).slip t.port ∧ (d.helm k.h).waiting t.port = (s.helm k.h).waiting t.port := by
    rw [← ready.waiting, ← ready.mach.calm.slip, ← own.2.waiting, ← own.2.slip, frame]
    cases t.port <;> exact ⟨rfl, rfl⟩
  refine ⟨?_, ?_, ?_, ?_⟩
  · rw [State.hsOf, whole]
    exact (congrArg (fun r => r.svc (otherHelm k.h)) ensued.like.red).trans decided
  · rw [whole, svc, halted]
  · rw [whole]
    have marks : (Helm.marks _).2.1 = (Helm.marks _).2.1 := congrArg (fun m => m.2.1) (ensued.marks (otherHelm k.h))
    exact marks.trans testing
  · unfold Answered
    rw [ctx, whole, ensued.waiting, ensued.slip, slot.1, slot.2, ← ktag]
    exact ⟨rfl, rfl⟩

end

/-- Settles O60: the decisions of a command are its helm's, and the row of the other helm takes none of them back. -/
theorem helmCommands : Obligations.HelmCommands := by
  intro s h t
  refine ⟨fun b g takes is other standby calm => ⟨_, rfl, State.handover_row takes is other standby calm⟩,
    fun takes => ⟨_, rfl, State.returnHold_row takes⟩, fun takes => ⟨_, rfl, State.returnHold_row takes⟩, fun b takes sole new => ⟨_, rfl, ?_⟩,
    fun b g takes is other standby => ⟨_, rfl, State.fullRequest_row takes is other standby⟩,
    fun b g takes is other starting failed => ⟨_, rfl, State.retest_row takes is other starting failed⟩,
    fun b takes is alone => ⟨_, rfl, State.debugBoth_row takes is alone⟩,
    fun b g takes is other standby => ⟨_, rfl, State.debugOpen_row takes is other standby⟩,
    fun b g takes is apart attached => ⟨_, rfl, State.debugClose_row takes is apart attached⟩⟩
  obtain ⟨outcomes, due, like⟩ := State.testRequest_row takes sole new
  exact ⟨⟨outcomes, due⟩, like⟩

end Sys2Proof.Machine
end

section
/-! PROOFS. The landing at the Quay, stroke 240 (R61, R67, R68, R128, R456). -/

namespace Sys2Proof.Machine

/-! ### Words for the banks -/

/-- Words written to a bank in their order. -/
def Bank.writesAll (b : Bank) (l : List NvmDue) : Bank := l.foldl (fun b d => b.writes d.addr d.words) b

theorem NvmDue.foldl_write : ∀ (l : List NvmDue) (s : State), l.foldl (fun s d => d.write s) s
    = { s with nvmA := s.nvmA.writesAll (l.filter (·.toA)), nvmB := s.nvmB.writesAll (l.filter (·.toB)) }
  | [], _ => rfl
  | d :: l, s => by
    rw [List.foldl_cons, NvmDue.foldl_write l]
    unfold NvmDue.write Bank.writesAll
    dsimp only
    rw [List.filter_cons, List.filter_cons]
    cases d.toA <;> cases d.toB <;> rfl

/-- Words written where there is room read back. -/
theorem Bank.read_writes {b : Bank} {ws : List Word} {a i : Nat} (room : a + ws.length ≤ bankWords) (lt : i < ws.length) :
    (b.writes a ws).read (a + i) = ws.getD i 0 := by
  have reads := Bank.reads_writes ws b room
  have at_ : (b.writes a ws).read (a + i) = ((b.writes a ws).reads a ws.length).getD i 0 := by
    simp [Bank.reads, lt]
  rw [at_, reads]

/-! ### The landing once the reads are served -/

/-- What the passage of crossing n asked for outside the helm states takes effect, if it is kept, and its records wait (R68). -/
def State.effects (s : State) (n : Nat) : State := (if s.keeps n then (s.landEffects n).restartCus n else s).landRecords n

/-- The landing, once the reads are served. -/
def State.landed (r : State) (n : Nat) : State :=
  let kept := r.keeps n
  let leader := r.leader
  let s := r.effects n
  let s := { s with
    keptAt := if kept then some n else s.keptAt
    tb := { s.tb.land (bb s.timingRec 1 20) kept with mark := .landing, ageLand := s.tb.age }
    rst := { s.rst with landed := s.rst.landed || leader.isSome }
    holder := if s.helmA.svc.inService || s.helmB.svc.inService then (if kept then leader.or s.holder else s.holder) else none
    mode := match kept, leader with
      | true, some h => (s.helm h).hs.modes.mode
      | _, _ => s.mode
    bell := if kept then s.bell.land else s.bell.landRaised
    toll := if kept then s.toll.land else s.toll
    tollSnap := { s.toll with left := s.toll.ticksLeft s.rst.tick, wdp := s.toll.wdpAt s.rst.tick }
    win := s.win.land
    cus := s.cus.map (fun (u : CheckUnit) => u.land n) }
  { s with quay := s.quayNow }

theorem State.atLanding_eq (s : State) (n : Nat) : s.atLanding n = (((s.closeAttached .a).closeAttached .b).serveReads).landed n := rfl

/-- The setups reach the pontoons that run and are loaded (R409). -/
def State.setupPonts (s : State) (n : Nat) : Vector Pont 4 :=
  match s.setups with
  | some ch => s.ponts.map (fun x => if x.running && x.loaded then { x with nextSetup := some (n, ch) } else x)
  | none => s.ponts

/-- A helm after the landing: what is staged is written, and the records wait. -/
theorem State.effects_frame (s : State) (n : Nat) (kept : s.keeps n = true) : s.effects n =
    { s with
      helmA := (s.effects n).helmA
      helmB := (s.effects n).helmB
      nvmA := s.nvmA.writesAll (s.nvmDue.filter (·.toA))
      nvmB := s.nvmB.writesAll (s.nvmDue.filter (·.toB))
      nvmDue := []
      setups := none
      ponts := s.setupPonts n
      com := { s.com with ffClear := s.com.ffClear ++ s.com.ffDue, ffDue := [] }
      cus := (s.cuOps.filter (fun o => o.at_ ≤ n)).foldl (fun v o => vmod v o.unit (fun u => o.apply u s.snooped)) s.cus
      cuOps := s.cuOps.filter (fun o => n < o.at_) } := by
  unfold State.effects State.landEffects
  rw [if_pos kept, NvmDue.foldl_write]
  rfl

theorem State.effects_none (s : State) (n : Nat) (dropped : s.keeps n = false) : s.effects n =
    { s with helmA := (s.effects n).helmA, helmB := (s.effects n).helmB } := by
  unfold State.effects
  rw [if_neg (by rw [dropped]; exact Bool.false_ne_true)]
  rfl

/-- A helm that differs in what it has staged and in its records. -/
def Helm.Landed (x y : Helm) : Prop :=
  y = { x with hs := y.hs, saved := y.saved, shared := y.shared, held := y.held, sure := y.sure, recQ := y.recQ }
    ∧ y.hs = { x.hs with staged := y.hs.staged }

theorem Helm.landRecs_landed {x y : Helm} (h : HelmId) (n : Nat) (k : x.Landed y) : x.Landed (y.landRecs h n) := by
  obtain ⟨frame, hs⟩ := k
  unfold Helm.landRecs Helm.handing
  dsimp only
  split
  · split
    · exact ⟨by dsimp only; rw [frame], hs⟩
    · exact ⟨by dsimp only; rw [frame], hs⟩
  · exact ⟨by dsimp only; rw [frame], hs⟩

theorem State.effects_helm (s : State) (n : Nat) (h : HelmId) : (s.helm h).Landed ((s.effects n).helm h) := by
  have before : (s.helm h).Landed ((if s.keeps n then (s.landEffects n).restartCus n else s).helm h) := by
    split
    · unfold State.landEffects
      rw [NvmDue.foldl_write]
      cases h <;> exact ⟨rfl, rfl⟩
    · exact ⟨rfl, rfl⟩
  unfold State.effects
  cases h
  · exact Helm.landRecs_landed .a n before
  · exact Helm.landRecs_landed .b n before

/-! ### What the landing reads of the state before it -/

theorem State.keeps_congr {s r : State} (n : Nat) (hs : ∀ h, (r.helm h).hs = (s.helm h).hs) (svc : ∀ h, (r.helm h).svc = (s.helm h).svc)
    (passNo : ∀ h, (r.helm h).passNo = (s.helm h).passNo) (ponts : r.ponts = s.ponts) : r.leader = s.leader ∧ r.keeps n = s.keeps n := by
  have leader : r.leader = s.leader := by
    have hsA : r.helmA.hs = s.helmA.hs := hs .a
    have hsB : r.helmB.hs = s.helmB.hs := hs .b
    have svcA : r.helmA.svc = s.helmA.svc := svc .a
    have svcB : r.helmB.svc = s.helmB.svc := svc .b
    unfold State.leader
    rw [hsA, hsB, svcA, svcB]
  refine ⟨leader, ?_⟩
  unfold State.keeps
  rw [leader]
  cases s.leader with
  | none => rfl
  | some h =>
    dsimp only
    rw [hs, passNo, ponts]

end Sys2Proof.Machine
end

section
/-! PROOFS. Strokes: the tokens, strokes 0, 32 and 240 (R27, R31, R35, R76). -/

namespace Sys2Proof.Machine

/-! ### The token -/

/-- A stroke slip with a token that comes, which is lost where there is no room (R27). -/
def strokeSlipWith (l : List Stamp) (t : Stamp) : List Stamp := (l ++ [t]).take (max 4 l.length)

theorem Helm.pushStroke_eq (x : Helm) (t : Stamp) : x.pushStroke t = { x with strokeSlip := strokeSlipWith x.strokeSlip t } := by
  unfold Helm.pushStroke strokeSlipWith
  split
  · next room =>
    rw [List.take_of_length_le (by rw [List.length_append]; simp; omega)]
  · next full =>
    rw [Nat.max_eq_right (by omega), List.take_left']
    rfl

/-- The timebase as a stroke begins. -/
def Timebase.advance (t : Timebase) : Timebase :=
  if !t.counting then { t with counting := true, stroke := 0 }
  else if t.stroke < 255 then { t with age := t.age + t.strokeTide, stroke := t.stroke + 1 }
  else { t with age := t.age + t.strokeTide, stroke := 0, crossing := t.crossing + 1 }

/-- The instant of a timebase. -/
def Timebase.at_ (t : Timebase) : Stamp := ⟨t.crossing, t.stroke⟩

/-- The token of the present stroke comes to both helms. -/
def State.pushed (s : State) : State := { s with helmA := s.helmA.pushStroke s.now, helmB := s.helmB.pushStroke s.now }

theorem State.pushed_helm (s : State) (h : HelmId) :
    s.pushed.helm h = { s.helm h with strokeSlip := strokeSlipWith (s.helm h).strokeSlip s.now } := by
  cases h <;> exact Helm.pushStroke_eq ..

/-- The timebase at stroke 0 of a sounding (R76). -/
def State.sounded (s : State) : Timebase :=
  let marked : Bool := s.syncRole = 1 && s.tb.markAt = some s.tb.crossing
  { s.tb with
    mark := .sounding
    ageSnd := s.tb.age
    strokeTide := if chStrokeTide s.inForce = 0 then s.tb.strokeTide else chStrokeTide s.inForce
    syncOut := s.leadPulse s.tb.crossing
    markSeen := s.tb.markSeen || marked
    fresh := if marked then s.tb.fresh ||| 8 else s.tb.fresh
    markAt := if s.tb.markAt = some s.tb.crossing then none else s.tb.markAt }

/-- At other strokes the SYNC pulse runs out (R76). -/
def Timebase.syncEnds (t : Timebase) : Timebase := { t with syncOut := if t.pulseOn t.stroke then t.syncOut else 0 }

/-- Stroke 0. -/
def State.strokeZero (s : State) : State := { s.pushed with tb := s.pushed.sounded }

/-- Another stroke. -/
def State.strokeOn (s : State) : State := { s.pushed with tb := s.pushed.tb.syncEnds }

/-- Of the timebase only the SYNC pulse has changed. -/
theorem State.strokeOn_eq (s : State) : ∃ pulse, s.strokeOn = { s.pushed with tb := { s.tb with syncOut := pulse } } := ⟨_, rfl⟩

/-- Stroke 32. -/
def State.strokeTake (s : State) : State :=
  { s.strokeOn with helmA := s.strokeOn.helmA.takeSlips s.tb.crossing, helmB := s.strokeOn.helmB.takeSlips s.tb.crossing }

theorem State.atStroke_eq (s : State) : s.atStroke =
    if s.tb.stroke = 0 then s.strokeZero else if s.tb.stroke = 32 then s.strokeTake
    else if s.tb.stroke = 240 then s.strokeOn.atLanding s.tb.crossing else s.strokeOn := rfl

theorem State.advanceStroke_eq (s : State) : s.advanceStroke = { s with tb := s.tb.advance }.atStroke := by
  unfold State.advanceStroke Timebase.advance
  dsimp only
  split
  · rfl
  · split <;> rfl

theorem Timebase.advance_at (t : Timebase) : t.advance.counting = true ∧ t.advance.at_ =
    if t.counting = false then ⟨t.crossing, 0⟩ else if t.stroke < 255 then ⟨t.crossing, t.stroke + 1⟩ else ⟨t.crossing + 1, 0⟩ := by
  unfold Timebase.advance Timebase.at_
  cases counting : t.counting with
  | false => exact ⟨rfl, rfl⟩
  | true =>
    by_cases lt : t.stroke < 255
    · simp [lt]
    · simp [lt]

/-! ### The landing leaves the ports and the tokens -/

/-- What a landing leaves of the state whatever it brings. -/
structure Landing (s t : State) : Prop where
  hpa : t.hpa = s.hpa
  hpb : t.hpb = s.hpb
  now : t.now = s.now
  counting : t.tb.counting = s.tb.counting
  slips : ∀ h, (t.helm h).strokeSlip = (s.helm h).strokeSlip

theorem Landing.refl (s : State) : Landing s s := ⟨rfl, rfl, rfl, rfl, fun _ => rfl⟩

theorem Landing.trans {s t u : State} (k : Landing s t) (l : Landing t u) : Landing s u :=
  ⟨l.hpa.trans k.hpa, l.hpb.trans k.hpb, l.now.trans k.now, l.counting.trans k.counting, fun h => (l.slips h).trans (k.slips h)⟩

theorem State.closeAttached_open {s : State} {h : HelmId} (no : (s.helm h).closing = false) : s.closeAttached h = s := by
  unfold State.closeAttached
  rw [no]
  rfl

theorem State.closeAttached_landing (s : State) (h : HelmId) : Landing s (s.closeAttached h) := by
  unfold State.closeAttached
  split
  · exact .refl s
  · dsimp only
    rw [State.quayRec_frame]
    cases h
    · exact ⟨rfl, rfl, rfl, rfl, fun g => by cases g <;> rfl⟩
    · exact ⟨rfl, rfl, rfl, rfl, fun g => by cases g <;> rfl⟩

theorem State.serveReads_landing (s : State) : Landing s s.serveReads := by
  obtain ⟨side, -, -, hpa, hpb, asking, -⟩ := s.serveReads_spec
  refine ⟨hpa, hpb, ?_, ?_, fun h => ?_⟩
  · rw [State.now, side.tb]
    rfl
  · rw [side.tb]
  · exact (congrArg Helm.strokeSlip (asking h) :)

theorem State.effects_landing (s : State) (n : Nat) : Landing s (s.effects n) := by
  have slips (h : HelmId) : ((s.effects n).helm h).strokeSlip = (s.helm h).strokeSlip := (congrArg Helm.strokeSlip (s.effects_helm n h).1 :)
  cases kept : s.keeps n with
  | true =>
    have frame := s.effects_frame n kept
    exact ⟨by rw [frame], by rw [frame], by rw [frame]; rfl, by rw [frame], slips⟩
  | false =>
    have frame := s.effects_none n kept
    exact ⟨by rw [frame], by rw [frame], by rw [frame]; rfl, by rw [frame], slips⟩

theorem Timebase.land_at (t : Timebase) (refclk kept : Bool) :
    (t.land refclk kept).crossing = t.crossing ∧ (t.land refclk kept).stroke = t.stroke ∧ (t.land refclk kept).counting = t.counting := by
  cases kept <;> exact ⟨rfl, rfl, rfl⟩

theorem State.landed_landing (s : State) (n : Nat) : Landing s (s.landed n) := by
  refine (s.effects_landing n).trans ⟨rfl, rfl, ?_, ?_, fun h => by cases h <;> rfl⟩
  · obtain ⟨crossing, stroke, -⟩ := (s.effects n).tb.land_at (bb (s.effects n).timingRec 1 20) (s.keeps n)
    exact congrArg₂ Stamp.mk crossing stroke
  · exact (Timebase.land_at ..).2.2

theorem State.atLanding_landing (s : State) (n : Nat) : Landing s (s.atLanding n) := by
  rw [State.atLanding_eq]
  exact (((s.closeAttached_landing .a).trans (State.closeAttached_landing ..)).trans (State.serveReads_landing _)).trans (State.landed_landing _ n)

theorem Helm.takeSlips_eq (x : Helm) (n : Nat) : x.takeSlips n = { x with reports := (x.takeSlips n).reports, repSlips := (x.takeSlips n).repSlips } := by
  unfold Helm.takeSlips
  split <;> rfl

/-- What a stroke leaves of the helms. -/
def Helm.Stroked (x y : Helm) : Prop := y = { x with strokeSlip := y.strokeSlip, reports := y.reports, repSlips := y.repSlips }

/-- A stroke other than that of the landing. -/
structure Stroking (s t : State) : Prop where
  frame : t = { s with tb := t.tb, helmA := t.helmA, helmB := t.helmB }
  helms : ∀ h, (s.helm h).Stroked (t.helm h)
  now : t.now = s.now
  counting : t.tb.counting = s.tb.counting
  slips : ∀ h, (t.helm h).strokeSlip = strokeSlipWith (s.helm h).strokeSlip s.now

theorem State.pushed_stroking (s : State) (tb : Timebase) (crossing : tb.crossing = s.tb.crossing) (stroke : tb.stroke = s.tb.stroke)
    (counting : tb.counting = s.tb.counting) : Stroking s { s.pushed with tb := tb } := by
  have helm (h : HelmId) : ({ s.pushed with tb := tb } : State).helm h = s.pushed.helm h := by cases h <;> rfl
  refine ⟨rfl, fun h => ?_, congrArg₂ Stamp.mk crossing stroke, counting, fun h => ?_⟩
  · unfold Helm.Stroked
    rw [helm, s.pushed_helm]
  · rw [helm, s.pushed_helm]

theorem State.strokeZero_stroking (s : State) : Stroking s s.strokeZero := s.pushed_stroking _ rfl rfl rfl

theorem State.strokeOn_stroking (s : State) : Stroking s s.strokeOn := by
  obtain ⟨pulse, is⟩ := s.strokeOn_eq
  rw [is]
  exact s.pushed_stroking _ rfl rfl rfl

theorem State.strokeTake_stroking (s : State) : Stroking s s.strokeTake := by
  have took (h : HelmId) : s.strokeTake.helm h = { s.strokeOn.helm h with
      reports := (s.strokeTake.helm h).reports, repSlips := (s.strokeTake.helm h).repSlips } := by
    cases h <;> exact Helm.takeSlips_eq ..
  have frame : s.strokeTake = { s.strokeOn with helmA := s.strokeTake.helmA, helmB := s.strokeTake.helmB } := rfl
  have on := s.strokeOn_stroking
  generalize s.strokeTake = t at *
  generalize s.strokeOn = u at *
  obtain ⟨above, helms, now, counting, slips⟩ := on
  refine ⟨by rw [frame, above], fun h => ?_, ?_, ?_, fun h => ?_⟩
  · unfold Helm.Stroked
    rw [took, helms]
  · rw [frame]
    exact now
  · rw [frame]
    exact counting
  · rw [took]
    exact slips h

/-- A stroke just begun, other than that of the landing. -/
theorem State.atStroke_stroking {s : State} (not : s.tb.stroke ≠ 240) : Stroking s s.atStroke := by
  rw [State.atStroke_eq, if_neg not]
  split
  · exact s.strokeZero_stroking
  · split
    · exact s.strokeTake_stroking
    · exact s.strokeOn_stroking

theorem State.atStroke_lands {s : State} (is : s.tb.stroke = 240) : s.atStroke = s.strokeOn.atLanding s.tb.crossing := by
  rw [State.atStroke_eq, if_neg (by omega), if_neg (by omega), if_pos is]

/-- Any stroke just begun. -/
theorem State.atStroke_any (s : State) : s.atStroke.hpa = s.hpa ∧ s.atStroke.hpb = s.hpb ∧ s.atStroke.now = s.now
    ∧ s.atStroke.tb.counting = s.tb.counting ∧ ∀ h, (s.atStroke.helm h).strokeSlip = strokeSlipWith (s.helm h).strokeSlip s.now := by
  by_cases is : s.tb.stroke = 240
  · rw [State.atStroke_lands is]
    obtain ⟨hpa, hpb, now, counting, slips⟩ := s.strokeOn.atLanding_landing s.tb.crossing
    obtain ⟨frame, -, now', counting', slips'⟩ := s.strokeOn_stroking
    exact ⟨hpa.trans (by rw [frame]), hpb.trans (by rw [frame]), now.trans now', counting.trans counting', fun h => (slips h).trans (slips' h)⟩
  · obtain ⟨frame, -, now, counting, slips⟩ := State.atStroke_stroking is
    exact ⟨by rw [frame], by rw [frame], now, counting, slips⟩

/-- Stroke 32 at a helm in service (R31). -/
theorem State.strokeTake_takes {s : State} {h : HelmId} (serves : (s.helm h).svc.inService = true) (p : Fin 4) :
    (s.strokeTake.helm h).repSlips[p] = []
      ∧ (s.strokeTake.helm h).reports[p] = (s.helm h).repSlips[p].find? (fun r => r.crossing = s.tb.crossing) := by
  have taken (x : Helm) (serves : x.svc.inService = true) : (x.takeSlips s.tb.crossing).repSlips[p] = []
      ∧ (x.takeSlips s.tb.crossing).reports[p] = x.repSlips[p].find? (fun r => r.crossing = s.tb.crossing) := by
    unfold Helm.takeSlips Helm.slipReport vat
    rw [if_pos serves]
    simp
  have frame := s.strokeOn_stroking.helms h
  have svc : (s.strokeOn.helm h).svc = (s.helm h).svc := (congrArg Helm.svc frame :)
  have slips : (s.strokeOn.helm h).repSlips = (s.helm h).repSlips := by
    obtain ⟨pulse, is⟩ := s.strokeOn_eq
    rw [is]
    exact (by cases h <;> rfl : _ = (s.pushed.helm h).repSlips).trans (congrArg Helm.repSlips (s.pushed_helm h) :)
  have took := taken (s.strokeOn.helm h) (by rw [svc]; exact serves)
  rw [slips] at took
  cases h <;> exact took

/-- Stroke 0: the sounding, and the pulse that a LEAD drives (R76). -/
theorem State.strokeZero_sounds (s : State) : s.strokeZero.tb.mark = .sounding
    ∧ (s.syncRole = 1 → s.rst.vddio = true → s.strokeZero.tb.syncOut = if s.tb.markAt = some s.tb.crossing then 4000 else 1000) := by
  refine ⟨rfl, fun lead vddio => ?_⟩
  have hs (g : HelmId) : (s.pushed.helm g).hs = (s.helm g).hs := (congrArg Helm.hs (s.pushed_helm g) :)
  have loaded (g : HelmId) : (s.pushed.helm g).loaded = (s.helm g).loaded := (congrArg Helm.loaded (s.pushed_helm g) :)
  have charter : s.pushed.inForce = s.inForce := by
    have hsA := hs .a
    have hsB := hs .b
    have first := loaded .a
    dsimp only [State.helm] at hsA hsB first
    unfold State.inForce
    rw [hsA, hsB, first]
    cases holder : s.holder with
    | none =>
      rw [show s.pushed.holder = none from holder]
    | some g =>
      rw [show s.pushed.holder = some g from holder]
      dsimp only
      rw [hs]
  have role : s.pushed.syncRole = 1 := by
    rw [← lead]
    unfold State.syncRole State.timingRec
    rw [charter]
  show s.pushed.leadPulse s.tb.crossing = _
  unfold State.leadPulse
  rw [if_pos]
  · rfl
  · simp only [role, decide_true, Bool.true_and]
    exact vddio

end Sys2Proof.Machine
end

section
/-! PROOFS. The stroke of the landing, from the state before it (R61, R67, R68, R128, R456). -/

namespace Sys2Proof.Machine

/-! ### The reads served do not depend on the stroke -/

/-- States that ask the same of the general ports, and of the check units. -/
structure SameAsk (s v : State) : Prop where
  links : ∀ h, (v.helm h).links = (s.helm h).links
  genTurn : v.genTurn = s.genTurn
  cus : v.cus = s.cus
  snooped : v.snooped = s.snooped
  crossing : v.tb.crossing = s.tb.crossing

section
variable {s v : State}

theorem SameAsk.modHelm (k : SameAsk s v) (h : HelmId) (f : Links → Links) :
    SameAsk (s.modHelm h (fun x => { x with links := f x.links })) (v.modHelm h (fun x => { x with links := f x.links })) := by
  refine ⟨fun g => ?_, ?_, ?_, ?_, ?_⟩
  · have a := k.links .a
    have b := k.links .b
    cases h <;> cases g
    · exact congrArg f a
    · exact b
    · exact a
    · exact congrArg f b
  · cases h <;> exact k.genTurn
  · cases h <;> exact k.cus
  · cases h <;> exact k.snooped
  · cases h <;> exact k.crossing

theorem SameAsk.turn (k : SameAsk s v) (f : BitVec 2 → BitVec 2) :
    SameAsk { s with genTurn := f s.genTurn } { v with genTurn := f v.genTurn } :=
  ⟨fun g => by cases g; exacts [k.links .a, k.links .b], congrArg f k.genTurn, k.cus, k.snooped, k.crossing⟩

theorem SameAsk.delivered (k : SameAsk s v) (b : Bool) (addr : Nat) (ws : List Word) (landing : Nat) :
    SameAsk (s.delivered b addr ws landing) (v.delivered b addr ws landing) := by
  unfold State.delivered State.snoop
  rw [k.cus, k.snooped, k.crossing]
  exact ⟨fun g => by cases g; exacts [k.links .a, k.links .b], k.genTurn, rfl, rfl, k.crossing⟩

theorem SameAsk.nextRead (k : SameAsk s v) : v.nextRead = s.nextRead := by
  have a : v.helmA.links = s.helmA.links := k.links .a
  have b : v.helmB.links = s.helmB.links := k.links .b
  unfold State.nextRead
  rw [a, b, k.genTurn]

/-- The order in which the general ports turn to a helm's next request (R32). -/
def turnTo (h : HelmId) (r : NvmRead) (t : BitVec 2) : BitVec 2 :=
  if h = HelmId.a then t ||| BitVec.ofNat 2 (2 ^ bn r.bank) else t &&& ~~~BitVec.ofNat 2 (2 ^ bn r.bank)

/-- A helm's oldest request is taken. -/
def Links.served (l : Links) : Links := { l with nvmSlip := l.nvmSlip.drop 1 }.askNvm

/-- One request served. -/
def State.serveOne (s : State) (h : HelmId) (r : NvmRead) : State :=
  let s := s.modHelm h (fun x => { x with links := x.links.served })
  { s with genTurn := turnTo h r s.genTurn }.delivered r.bank r.addr r.words r.landing

theorem State.servePorts_succ (n : Nat) (s : State) : State.servePorts (n + 1) s =
    match s.nextRead with
    | none => s
    | some (h, r) => State.servePorts n (s.serveOne h r) := rfl

theorem SameAsk.serveOne (k : SameAsk s v) (h : HelmId) (r : NvmRead) : SameAsk (s.serveOne h r) (v.serveOne h r) :=
  ((k.modHelm h Links.served).turn (turnTo h r)).delivered r.bank r.addr r.words r.landing

theorem SameAsk.servePorts : ∀ (n : Nat) {s v : State}, SameAsk s v → SameAsk (State.servePorts n s) (State.servePorts n v)
  | 0, _, _, k => k
  | n + 1, s, v, k => by
    rw [State.servePorts_succ, State.servePorts_succ, k.nextRead]
    cases s.nextRead with
    | none => exact k
    | some x => exact SameAsk.servePorts n (k.serveOne x.1 x.2)

theorem SameAsk.serveReads (k : SameAsk s v) : SameAsk s.serveReads v.serveReads := by
  have a : v.helmA.links = s.helmA.links := k.links .a
  have b : v.helmB.links = s.helmB.links := k.links .b
  unfold State.serveReads State.readsAsked
  rw [a, b]
  exact SameAsk.servePorts _ ((k.modHelm .a Links.askNvm).modHelm .b Links.askNvm)

end

/-! ### Before the landing -/

/-- The state in which the landing of crossing n is made, the reads served. -/
structure Ashore (s r : State) : Prop where
  frame : r = { s with tb := r.tb, helmA := r.helmA, helmB := r.helmB, genTurn := r.genTurn, cus := r.cus, snooped := r.snooped }
  tb : r.tb = { s.tb with stroke := 240, age := r.tb.age, syncOut := r.tb.syncOut }
  helms : ∀ h, r.helm h = { s.helm h with strokeSlip := (r.helm h).strokeSlip, links := (r.helm h).links }
  cus : r.cus = s.serveReads.cus
  snooped : r.snooped = s.serveReads.snooped
  asked : r.readsAsked = 0

theorem State.serveReads_frame (s : State) : s.serveReads = { s with
    helmA := s.serveReads.helmA, helmB := s.serveReads.helmB, genTurn := s.serveReads.genTurn, cus := s.serveReads.cus
    snooped := s.serveReads.snooped } := by
  obtain ⟨side, com, outcomes, hpa, hpb, -⟩ := s.serveReads_spec
  unfold TokenSide at side
  rw [com, outcomes, hpa, hpb] at side
  exact side

theorem State.ashore (s : State) : Ashore s (({ s with tb := { s.tb with age := s.tb.age + s.tb.strokeTide, stroke := 240 } } : State).strokeOn).serveReads := by
  generalize at_ : ({ s with tb := { s.tb with age := s.tb.age + s.tb.strokeTide, stroke := 240 } } : State) = b
  obtain ⟨pulse, is⟩ := b.strokeOn_eq
  have helm (h : HelmId) : b.strokeOn.helm h = { s.helm h with strokeSlip := (b.strokeOn.helm h).strokeSlip } := by
    have pushed : b.strokeOn.helm h = b.pushed.helm h := by
      rw [is]
      cases h <;> rfl
    have base : b.helm h = s.helm h := by
      rw [← at_]
      cases h <;> rfl
    rw [pushed, b.pushed_helm, base]
  have frame : b.strokeOn = { s with tb := b.strokeOn.tb, helmA := b.strokeOn.helmA, helmB := b.strokeOn.helmB } := by
    rw [is, ← at_]
    rfl
  have tb : b.strokeOn.tb = { s.tb with stroke := 240, age := b.strokeOn.tb.age, syncOut := b.strokeOn.tb.syncOut } := by
    rw [is, ← at_]
  generalize b.strokeOn = w at *
  have asks : SameAsk s w := by
    refine ⟨fun h => ?_, ?_, ?_, ?_, ?_⟩
    · rw [helm]
    · rw [frame]
    · rw [frame]
    · rw [frame]
    · rw [tb]
  obtain ⟨-, -, cus, snooped, -⟩ := asks.serveReads
  have served := w.serveReads_frame
  obtain ⟨side, -, -, -, -, asking, asked⟩ := w.serveReads_spec
  have same : w.serveReads.tb = w.tb := side.tb
  refine ⟨?_, ?_, fun h => ?_, cus, snooped, asked⟩
  · rw [served, frame]
  · rw [same]
    exact tb
  · have one : w.serveReads.helm h = _ := asking h
    rw [one, helm]

end Sys2Proof.Machine
end

section
/-! PROOFS. Strokes and landings as a whole (R27, R35, R43, R61, R72, R147). -/

namespace Sys2Proof.Machine

/-! ### Check units restart -/

theorem getElem_vmod {α : Type} {n : Nat} (v : Vector α n) (i : Nat) (f : α → α) (k : Fin n) :
    (vmod v i f)[k] = if i = k.val then f v[k] else v[k] := by
  unfold vmod
  split
  · next lt =>
    show (v.set i (f v[i]) lt)[k.val] = _
    rw [Vector.getElem_set]
    split
    · next same =>
      subst same
      rfl
    · rfl
  · next ge =>
    rw [if_neg (by omega)]

/-- Restarts of check units, one after another, are made in each unit in their order (R58, R457). -/
theorem getElem_foldl_vmod {α β : Type} {n : Nat} (unit : β → Nat) (f : β → α → α) (k : Fin n) : ∀ (l : List β) (v : Vector α n),
    (l.foldl (fun v o => vmod v (unit o) (f o)) v)[k] = (l.filter (fun o => unit o = k.val)).foldl (fun u o => f o u) v[k]
  | [], _ => rfl
  | o :: l, v => by
    rw [List.foldl_cons, getElem_foldl_vmod unit f k l, getElem_vmod, List.filter_cons]
    by_cases is : unit o = k.val
    · simp [is]
    · simp [is]

/-! ### Associations -/

theorem assocGet_assocSet {κ β : Type} [DecidableEq κ] (l : List (κ × β)) (k j : κ) (v : β) :
    assocGet (assocSet l k v) j = if j = k then some v else assocGet l j := by
  have fresh : ∀ l : List (κ × β), l.any (fun e => e.1 = k) = false → assocGet l k = none := by
    intro l none_
    unfold assocGet
    rw [List.find?_eq_none.2 (by simpa using none_)]
    rfl
  have mapped : ∀ l : List (κ × β), l.any (fun e => e.1 = k) = true →
      assocGet (l.map (fun e => if e.1 = k then (k, v) else e)) j = if j = k then some v else assocGet l j := by
    intro l
    induction l with
    | nil => exact fun no => absurd no (by simp)
    | cons e l ih =>
      intro there
      unfold assocGet at ih ⊢
      rw [List.map_cons, List.find?_cons, List.find?_cons]
      by_cases is : e.1 = k
      · by_cases jk : j = k
        · subst jk
          simp [is]
        · have kj : ¬ k = j := fun kj => jk kj.symm
          simp only [is, if_true, kj, jk, decide_false, if_false]
          by_cases rest : l.any (fun e => e.1 = k) = true
          · rw [ih rest, if_neg jk]
          · congr 1
            have id_ : l.map (fun e => if e.1 = k then (k, v) else e) = l := by
              rw [List.map_congr_left (g := id), List.map_id]
              intro e mem
              have no : ¬ e.1 = k := by
                simp only [List.any_eq_true, decide_eq_true_eq, not_exists, not_and] at rest
                exact rest e mem
              simp [no]
            rw [id_]
      · have rest : l.any (fun e => e.1 = k) = true := by simpa [is] using there
        simp only [is, if_false]
        by_cases ej : e.1 = j
        · have jk : ¬ j = k := fun jk => is (ej.trans jk)
          simp [ej, jk]
        · simp only [ej, decide_false]
          exact ih rest
  unfold assocSet
  split
  · next there => exact mapped l there
  · next absent =>
    have absent : l.any (fun e => e.1 = k) = false := Bool.eq_false_iff.2 absent
    unfold assocGet
    rw [List.find?_append]
    by_cases jk : j = k
    · subst jk
      have none_ := fresh l absent
      unfold assocGet at none_
      simp only [Option.map_eq_none_iff] at none_
      simp [none_]
    · have kj : ¬ k = j := fun kj => jk kj.symm
      simp [kj, jk]

/-! ### RC fields -/

/-- The value of a count (R147). -/
def Window.rcVal (w : Window) (k : RcKey) : Int := (w.rcGet k.addr k.lo).getD 0

theorem assocGet_rcBump_other (l : List (RcKey × Int)) (e : RcInc) {k : RcKey} (apart : e.key ≠ k) : assocGet (rcBump l e) k = assocGet l k := by
  have kj : ¬ k = e.key := fun is => apart is.symm
  unfold rcBump
  split <;> rw [assocGet_assocSet, if_neg kj]

theorem Window.rcVal_count (w : Window) {k : RcKey} {lim : Nat} (kind : rcKind k = .count lim) (n : Int) :
    (w.count ⟨k, n⟩).rcVal k = min (lim : Int) (w.rcVal k + n) := by
  show (assocGet (rcBump w.rc ⟨k, n⟩) k).getD 0 = _
  unfold rcBump
  dsimp only
  rw [kind]
  dsimp only
  rw [assocGet_assocSet, if_pos rfl]
  rfl

theorem Window.rcVal_count_other (w : Window) {k j : RcKey} (apart : j ≠ k) (n : Int) : (w.count ⟨j, n⟩).rcVal k = w.rcVal k := by
  show (assocGet (rcBump w.rc ⟨j, n⟩) k).getD 0 = _
  rw [assocGet_rcBump_other w.rc ⟨j, n⟩ apart]
  rfl

/-- The clear of a reading that returned one count (R147). -/
theorem Window.clearRead_one {w : Window} {k : RcKey} {lim : Nat} (kind : rcKind k = .count lim) {id : Nat} {t : RcTag} {v : Int}
    (found : w.tags.find? (fun t => t.id = id) = some t) (base : t.base = [(k, v)]) :
    w.clearRead id = { w with
      rc := assocSet w.rc k (if v = lim ∨ (assocGet t.since k).getD 0 = lim then (assocGet t.since k).getD 0 else max 0 (w.rcVal k - v))
      tags := w.tags.filter (fun u => u.id ≠ id) } := by
  unfold Window.clearRead
  rw [found]
  dsimp only
  rw [base]
  unfold rcClear1
  dsimp only [List.foldl]
  rw [kind]
  simp only [Bool.or_eq_true, decide_eq_true_eq]
  rfl

/-! ### The landing, from the state before it -/

section
variable {s r : State}

theorem Ashore.same (k : Ashore s r) (n : Nat) : r.leader = s.leader ∧ r.keeps n = s.keeps n :=
  State.keeps_congr n (fun h => (congrArg Helm.hs (k.helms h) :)) (fun h => (congrArg Helm.svc (k.helms h) :))
    (fun h => (congrArg Helm.passNo (k.helms h) :)) (by rw [k.frame])

theorem State.landed_helm (r : State) (n : Nat) (h : HelmId) : (r.landed n).helm h = (r.effects n).helm h := by cases h <;> rfl

/-- No read asked of the general ports is left (R456). -/
theorem Ashore.reads (k : Ashore s r) (n : Nat) (h : HelmId) :
    ((r.landed n).helm h).links.nvmSlip = [] ∧ ((r.landed n).helm h).links.nvmWait = [] := by
  have links : ((r.landed n).helm h).links = (r.helm h).links := by
    rw [State.landed_helm]
    exact (congrArg Helm.links (r.effects_helm n h).1 :)
  have none_ := k.asked
  unfold State.readsAsked at none_
  rw [links]
  cases h
  · exact ⟨List.length_eq_zero_iff.1 (by simp only [State.helm]; omega), List.length_eq_zero_iff.1 (by simp only [State.helm]; omega)⟩
  · exact ⟨List.length_eq_zero_iff.1 (by simp only [State.helm]; omega), List.length_eq_zero_iff.1 (by simp only [State.helm]; omega)⟩

/-- A flag whose clear was written, at the landing (R146). -/
theorem flag_landed (was w1c fresh : Bool) : (was && (!w1c || fresh)) = true ↔ was = true ∧ (w1c = false ∨ fresh = true) := by
  revert was w1c fresh
  decide

/-- The landing leader, when it is kept (R55). -/
theorem State.leader_serves {s : State} {h : HelmId} (leads : s.leader = some h) : (s.helm h).svc.inService = true := by
  have computes : (s.helm h).svc.computes = true := by
    unfold State.leader at leads
    split at leads
    · next a =>
      obtain rfl : HelmId.a = h := Option.some.inj leads
      exact (Bool.and_eq_true_iff.1 a).1
    · split at leads
      · next b =>
        obtain rfl : HelmId.b = h := Option.some.inj leads
        exact (Bool.and_eq_true_iff.1 b).1
      · cases leads
  exact Svc.computes_inService computes

/-- What a landing brings whether its passage is kept or not. -/
theorem Ashore.any (k : Ashore s r) (n : Nat) : let t := r.landed n
    t.tb.mark = .landing ∧ t.tb.at_ = ⟨s.tb.crossing, 240⟩ ∧ t.bell.raised = 0 ∧ t.tb.fresh = 0 ∧ t.win = s.win.land := by
  intro t
  obtain ⟨crossing, stroke, -⟩ := (r.effects n).tb.land_at (bb (r.effects n).timingRec 1 20) (r.keeps n)
  have tb : (r.effects n).tb = r.tb ∧ (r.effects n).win = r.win := by
    cases kept : r.keeps n with
    | true => rw [r.effects_frame n kept]; exact ⟨rfl, rfl⟩
    | false => rw [r.effects_none n kept]; exact ⟨rfl, rfl⟩
  refine ⟨rfl, ?_, ?_, ?_, ?_⟩
  · refine (congrArg₂ Stamp.mk crossing stroke).trans ?_
    rw [tb.1, k.tb]
  · show (if r.keeps n then (r.effects n).bell.land else (r.effects n).bell.landRaised).raised = 0
    split <;> rfl
  · show ((r.effects n).tb.land _ (r.keeps n)).fresh = 0
    cases r.keeps n <;> rfl
  · show (r.effects n).win.land = _
    rw [tb.2, k.frame]

/-- The timebase at the landing of a passage that is kept (R79, R146). -/
theorem Timebase.land_kept (t : Timebase) (refclk : Bool) : let u := t.land refclk true
    u.markAt = t.markDue.or t.markAt ∧ u.decimAt = t.decimDue.or t.decimAt ∧ u.markDue = none ∧ u.decimDue = none ∧ u.w1c = 0
      ∧ (u.refLost = true ↔ t.refLost = true ∧ (t.w1c.getLsbD 0 = false ∨ t.fresh.getLsbD 0 = true))
      ∧ (u.syncLost = true ↔ t.syncLost = true ∧ (t.w1c.getLsbD 1 = false ∨ t.fresh.getLsbD 1 = true))
      ∧ (u.syncMismatch = true ↔ t.syncMismatch = true ∧ (t.w1c.getLsbD 2 = false ∨ t.fresh.getLsbD 2 = true))
      ∧ (u.markSeen = true ↔ t.markSeen = true ∧ (t.w1c.getLsbD 3 = false ∨ t.fresh.getLsbD 3 = true)) :=
  ⟨rfl, rfl, rfl, rfl, rfl, flag_landed .., flag_landed .., flag_landed .., flag_landed ..⟩

theorem Ashore.kept (k : Ashore s r) {n : Nat} (kept : s.keeps n = true) : let t := r.landed n
    t.bell = s.bell.land ∧ t.keptAt = some n ∧ t.com = { s.com with ffClear := s.com.ffClear ++ s.com.ffDue, ffDue := [] }
      ∧ (∀ h, s.leader = some h → t.mode = (s.helm h).hs.modes.mode ∧ t.holder = some h ∧ t.rst.landed = true)
      ∧ t.nvmDue = [] ∧ t.nvmA = s.nvmA.writesAll (s.nvmDue.filter (·.toA)) ∧ t.nvmB = s.nvmB.writesAll (s.nvmDue.filter (·.toB))
      ∧ t.setups = none ∧ t.ponts = s.setupPonts n ∧ t.toll = s.toll.land ∧ t.cuOps = s.cuOps.filter (fun o => n < o.at_)
      ∧ (∀ i : Fin 4, t.cus[i] = (((s.cuOps.filter (fun o => o.at_ ≤ n ∧ o.unit = i.val)).foldl
          (fun u o => o.apply u r.snooped) r.cus[i]).land n))
      ∧ ∃ (refclk : Bool) (tb : Timebase), t.tb = { tb.land refclk true with mark := .landing, ageLand := tb.age }
        ∧ tb = { s.tb with stroke := 240, age := tb.age, syncOut := tb.syncOut } := by
  intro t
  obtain ⟨leader, keeps⟩ := k.same n
  have kept' : r.keeps n = true := keeps.trans kept
  have frame := r.effects_frame n kept'
  have at_ : t = r.landed n := rfl
  have fx := r.effects_helm n
  unfold State.landed at at_
  rw [kept', leader] at at_
  clear_value t
  generalize r.effects n = e at at_ frame fx
  have whole : e = { s with
      tb := r.tb, helmA := e.helmA, helmB := e.helmB, genTurn := r.genTurn, snooped := r.snooped, nvmA := e.nvmA, nvmB := e.nvmB, nvmDue := []
      setups := none, ponts := s.setupPonts n, com := e.com, cus := e.cus, cuOps := e.cuOps } := by
    rw [frame, k.frame]
    rfl
  refine ⟨?_, ?_, ?_, fun h leads => ?_, ?_, ?_, ?_, ?_, ?_, ?_, ?_, fun i => ?_, ?_⟩
  · rw [at_, whole]
    rfl
  · rw [at_]
    rfl
  · rw [at_, frame, k.frame]
  · have serves := State.leader_serves leads
    have hs : (e.helm h).hs.modes = (s.helm h).hs.modes :=
      (congrArg HelmState.modes (fx h).2 :).trans (congrArg (fun x => x.hs.modes) (k.helms h) :)
    have svc : (e.helm h).svc = (s.helm h).svc := (congrArg Helm.svc (fx h).1 :).trans (congrArg Helm.svc (k.helms h) :)
    have any : (e.helmA.svc.inService || e.helmB.svc.inService) = true := by
      rw [← svc] at serves
      cases h
      · rw [show e.helmA.svc.inService = true from serves]
        rfl
      · rw [show e.helmB.svc.inService = true from serves, Bool.or_true]
    rw [at_, leads]
    dsimp only
    rw [any]
    exact ⟨by rw [hs], rfl, Bool.or_true _⟩
  · rw [at_, whole]
  · rw [at_, frame, k.frame]
  · rw [at_, frame, k.frame]
  · rw [at_, whole]
  · rw [at_, whole]
  · rw [at_, whole]
    rfl
  · rw [at_, frame, k.frame]
  · have cus : t.cus = e.cus.map (fun (u : CheckUnit) => u.land n) := by rw [at_]
    have ops : r.cuOps = s.cuOps := by rw [k.frame]
    rw [cus, Fin.getElem_fin, Vector.getElem_map, frame]
    dsimp only
    rw [ops]
    exact congrArg (fun u : CheckUnit => u.land n) ((getElem_foldl_vmod CuOp.unit (fun o u => o.apply u r.snooped) i _ r.cus).trans
      (by rw [List.filter_filter]; simp only [Bool.decide_and, Bool.and_comm]))
  · refine ⟨bb e.timingRec 1 20, r.tb, ?_, k.tb⟩
    rw [at_]
    dsimp only
    rw [show e.tb = r.tb by rw [whole]]

theorem Ashore.dropped (k : Ashore s r) {n : Nat} (dropped : s.keeps n = false) : let t := r.landed n
    t.bell = s.bell.landRaised ∧ t.mode = s.mode ∧ t.nvmA = s.nvmA ∧ t.nvmB = s.nvmB ∧ t.com = s.com ∧ t.ponts = s.ponts ∧ t.toll = s.toll
      ∧ t.nvmDue = s.nvmDue ∧ t.setups = s.setups ∧ t.cuOps = s.cuOps ∧ t.keptAt = s.keptAt ∧ (∀ i : Fin 4, t.cus[i] = (r.cus[i]).land n)
      ∧ ∃ (refclk : Bool) (tb : Timebase), t.tb = { tb.land refclk false with mark := .landing, ageLand := tb.age }
        ∧ tb = { s.tb with stroke := 240, age := tb.age, syncOut := tb.syncOut } := by
  intro t
  obtain ⟨leader, keeps⟩ := k.same n
  have kept' : r.keeps n = false := keeps.trans dropped
  have frame := r.effects_none n kept'
  have at_ : t = r.landed n := rfl
  unfold State.landed at at_
  rw [kept', leader] at at_
  clear_value t
  generalize r.effects n = e at at_ frame
  have whole : e = { s with
      tb := r.tb, helmA := e.helmA, helmB := e.helmB, genTurn := r.genTurn, cus := r.cus, snooped := r.snooped } := by
    rw [frame, k.frame]
  refine ⟨?_, ?_, ?_, ?_, ?_, ?_, ?_, ?_, ?_, ?_, ?_, fun i => ?_, ?_⟩
  · rw [at_, whole]
    rfl
  · rw [at_, whole]
  · rw [at_, whole]
  · rw [at_, whole]
  · rw [at_, whole]
  · rw [at_, whole]
  · rw [at_, whole]
    rfl
  · rw [at_, whole]
  · rw [at_, whole]
  · rw [at_, whole]
  · rw [at_, whole]
    rfl
  · have cus : t.cus = r.cus.map (fun (u : CheckUnit) => u.land n) := by rw [at_, whole]
    rw [cus, Fin.getElem_fin, Vector.getElem_map]
    rfl
  · refine ⟨bb e.timingRec 1 20, r.tb, ?_, k.tb⟩
    rw [at_]
    dsimp only
    rw [show e.tb = r.tb by rw [whole]]

/-! ### Strokes -/

/-- The counter runs. -/
theorem State.stroke_runs {s : State} (tides : s.tb.tides = true) (alive : s.tb.ts ≠ .dead)
    (runs : s.live = true ∧ s.rst.started = true ∧ s.rst.firstGiven = true)
    (holds : ¬((s.tb.stepping = true ∨ s.moorHeld = true) ∧ s.tb.counting = true ∧ s.tb.stroke = 255)) :
    exec .stroke s = .next s.advanceStroke := by
  obtain ⟨live, started, given⟩ := runs
  refine if_pos ?_
  have on : ((s.tb.stepping || s.moorHeld) && s.tb.counting && decide (s.tb.stroke = 255)) = false := by
    refine Bool.eq_false_iff.2 fun yes => holds ?_
    simpa [and_assoc] using yes
  simp [tides, live, started, given, alive, on]

theorem State.stroke_held {s : State} (stands : s.tb.tides = false ∨ s.tb.ts = .dead ∨ ¬(s.live = true ∧ s.rst.started = true ∧ s.rst.firstGiven = true)
    ∨ ((s.tb.stepping = true ∨ s.moorHeld = true) ∧ s.tb.counting = true ∧ s.tb.stroke = 255)) :
    exec .stroke s = .next { s with tb := { s.tb with age := s.tb.age + s.tb.strokeTide } } := by
  refine if_neg fun yes => ?_
  simp only [Bool.and_eq_true, bne_iff_ne, Bool.not_eq_true', Bool.and_eq_false_iff, decide_eq_false_iff_not, Bool.or_eq_false_iff] at yes
  obtain ⟨⟨⟨⟨⟨tides, alive⟩, live⟩, started⟩, given⟩, free⟩ := yes
  rcases stands with stop | dead | stop | ⟨hold, counting, stroke⟩
  · rw [tides] at stop
    cases stop
  · exact alive dead
  · exact stop ⟨live, started, given⟩
  · rcases free with (⟨step, moor⟩ | still) | other
    · rcases hold with on | on
      · rw [step] at on
        cases on
      · rw [moor] at on
        cases on
    · rw [counting] at still
      cases still
    · exact other stroke

/-- The stroke of the landing. -/
theorem State.stroke_lands {s : State} (live : s.live = true) (tides : s.tb.tides = true) (alive : s.tb.ts ≠ .dead) (started : s.rst.started = true)
    (given : s.rst.firstGiven = true) (counting : s.tb.counting = true) (stroke : s.tb.stroke = 239) (calmA : s.helmA.closing = false)
    (calmB : s.helmB.closing = false) : ∃ r, Ashore s r ∧ exec .stroke s = .next (r.landed s.tb.crossing) := by
  refine ⟨_, s.ashore, ?_⟩
  rw [State.stroke_runs tides alive ⟨live, started, given⟩ (fun ⟨_, _, is⟩ => by omega), s.advanceStroke_eq]
  have advance : s.tb.advance = { s.tb with age := s.tb.age + s.tb.strokeTide, stroke := 240 } := by
    unfold Timebase.advance
    simp [counting, stroke]
  rw [advance, State.atStroke_lands rfl, State.atLanding_eq]
  generalize at_ : ({ s with tb := { s.tb with age := s.tb.age + s.tb.strokeTide, stroke := 240 } } : State) = b
  have closing (h : HelmId) (calm : (s.helm h).closing = false) : (b.strokeOn.helm h).closing = false := by
    refine (congrArg Helm.closing (b.strokeOn_stroking.helms h) :).trans ?_
    rw [← calm, ← at_]
    cases h <;> rfl
  have first := State.closeAttached_open (closing .a calmA)
  rw [first, State.closeAttached_open (closing .b calmB), ← at_]

/-! ### Beats -/

theorem Pont.pushBeat_eq (x : Pont) (a b : Bool) (m : Beat) :
    (x.pushBeat a b m).gwA.slip = (if a = true then (x.gwA.slip ++ [m]).take (max 2 x.gwA.slip.length) else x.gwA.slip)
    ∧ (x.pushBeat a b m).gwB.slip = (if b = true then (x.gwB.slip ++ [m]).take (max 2 x.gwB.slip.length) else x.gwB.slip)
    ∧ x.pushBeat a b m = { x with gwA := (x.pushBeat a b m).gwA, gwB := (x.pushBeat a b m).gwB } := by
  have push (g : GwPort) : (if g.slip.length < 2 then { g with slip := g.slip ++ [m] } else g).slip = (g.slip ++ [m]).take (max 2 g.slip.length) := by
    split
    · next room =>
      rw [List.take_of_length_le (by rw [List.length_append]; simp; omega)]
    · next full =>
      rw [Nat.max_eq_right (by omega), List.take_left']
      rfl
  refine ⟨?_, ?_, rfl⟩
  · unfold Pont.pushBeat
    cases a
    · rfl
    · exact push _
  · unfold Pont.pushBeat
    cases b
    · rfl
    · exact push _

end

theorem Timebase.advance_markAt (t : Timebase) : t.advance.markAt = t.markAt := by
  unfold Timebase.advance
  split
  · rfl
  · split <;> rfl

/-- The stroke begun. -/
def State.strokeBegun (s : State) : State := { s with tb := s.tb.advance }

theorem State.begun_spec (s : State) : let b := s.strokeBegun
    b = { s with tb := b.tb } ∧ (∀ h, b.helm h = s.helm h) ∧ b.tb.markAt = s.tb.markAt ∧ b.syncRole = s.syncRole ∧ b.now = s.tb.advance.at_
      ∧ b.rst = s.rst :=
  ⟨rfl, fun h => by cases h <;> rfl, s.tb.advance_markAt, rfl, rfl, rfl⟩

/-- Settles O4: the strokes, the beats, the landing at the Quay, and the RC fields. -/
theorem strokesAndLandings : Obligations.StrokesAndLandings := by
  refine ⟨fun s => ⟨State.stroke_held, fun tides alive runs holds => ?_⟩, fun s live tides counting => ?_, ?_, fun w k lim kind => ?_⟩
  · refine ⟨_, State.stroke_runs tides alive runs holds, ?_⟩
    obtain ⟨counts, at_⟩ := s.tb.advance_at
    rw [s.advanceStroke_eq]
    obtain ⟨whole, base, mark, role, now, rst⟩ := s.begun_spec
    rw [show ({ s with tb := s.tb.advance } : State) = s.strokeBegun from rfl]
    rw [show s.tb.advance = s.strokeBegun.tb from rfl] at counts
    generalize s.strokeBegun = b at *
    obtain ⟨hpa, hpb, same, going, slips⟩ := b.atStroke_any
    have crossing : b.atStroke.tb.crossing = b.tb.crossing := congrArg Stamp.crossing same
    have stroke : b.atStroke.tb.stroke = b.tb.stroke := congrArg Stamp.stroke same
    refine ⟨going.trans counts, (same.trans now).trans at_, hpa.trans (by rw [whole]), hpb.trans (by rw [whole]), fun h => ?_, fun not => ?_,
      fun zero => ?_, fun take h serves p => ?_⟩
    · rw [slips, same, base]
      rfl
    · have on := State.atStroke_stroking (s := b) (by rw [← stroke]; exact not)
      refine ⟨by rw [on.frame, whole], fun h => ?_⟩
      rw [on.helms, base]
      exact ⟨rfl, rfl⟩
    · rw [stroke] at zero
      have is : b.atStroke = b.strokeZero := by rw [State.atStroke_eq, if_pos zero]
      rw [crossing, is, ← role, ← mark, ← rst]
      exact b.strokeZero_sounds
    · rw [stroke] at take
      have is : b.atStroke = b.strokeTake := by rw [State.atStroke_eq, if_neg (by omega), if_pos take]
      rw [crossing, is, ← base]
      exact State.strokeTake_takes (by rw [base]; exact serves) p
  · refine ⟨_, if_pos (by simp [live, tides, counting]), rfl, fun p => ?_⟩
    have pushed : ({ s with
        ponts := s.ponts.map (fun x => x.pushBeat s.helmA.svc.beats s.helmB.svc.beats ⟨s.tb.mark, s.tb.beatNo + 1⟩)
        tb := { s.tb with mark := .plain, beatNo := s.tb.beatNo + 1 } } : State).pont p
        = (s.pont p).pushBeat s.helmA.svc.beats s.helmB.svc.beats ⟨s.tb.mark, s.tb.beatNo + 1⟩ := by
      simp [State.pont]
    rw [pushed]
    exact Pont.pushBeat_eq ..
  · intro s live tides alive started given counting stroke calmA calmB n r put flag
    obtain ⟨q, ashore, runs⟩ := State.stroke_lands live tides alive started given counting stroke calmA calmB
    obtain ⟨mark, at_, raised, fresh, win⟩ := ashore.any n
    refine ⟨_, runs, mark, at_, raised, fresh, win, ashore.reads n, fun kept => ?_, fun dropped => ?_⟩
    · obtain ⟨bell, keptAt, com, leads, nvmDue, nvmA, nvmB, setups, ponts, toll, cuOps, cus, refclk, tb, is, of⟩ := ashore.kept kept
      obtain ⟨markAt, decimAt, markDue, decimDue, w1c, refLost, syncLost, syncMismatch, markSeen⟩ := tb.land_kept refclk
      rw [of] at markAt decimAt refLost syncLost syncMismatch markSeen
      refine ⟨by rw [bell]; rfl, by rw [bell]; rfl, by rw [bell]; rfl, by rw [bell]; rfl, keptAt, by rw [bell]; rfl, com, leads, nvmDue, nvmA, nvmB,
        setups, fun none_ => ?_, fun ch is p => ?_, fun d is => ?_, fun none_ => ?_, cuOps, fun k => ?_, ?_⟩
      · rw [ponts, State.setupPonts, none_]
      · have at_ : (q.landed n).pont p = (s.setupPonts n)[p] := congrArg (fun v : Vector Pont 4 => v[p]) ponts
        rw [at_, State.setupPonts, is]
        simp only [Fin.getElem_fin, Vector.getElem_map, Bool.and_eq_true]
        rfl
      · rw [toll, Toll.land, is]
      · rw [toll, Toll.land, none_]
      · rw [cus, ashore.cus, ashore.snooped]
      · rw [is, of]
        exact ⟨markAt, decimAt, markDue, decimDue, w1c, refLost, syncLost, syncMismatch, markSeen⟩
    · obtain ⟨bell, mode, nvmA, nvmB, com, ponts, toll, nvmDue, setups, cuOps, keptAt, cus, refclk, tb, is, of⟩ := ashore.dropped dropped
      refine ⟨bell, mode, nvmA, nvmB, com, ponts, toll, nvmDue, setups, cuOps, keptAt, fun k => ?_, ?_⟩
      · rw [cus, ashore.cus]
      · rw [is, of]
        exact ⟨rfl, rfl, rfl, rfl, rfl, rfl, rfl, rfl, rfl⟩
  · refine ⟨fun n => w.rcVal_count kind n, fun j n apart => w.rcVal_count_other apart n, fun id t v found base => ?_, fun id none_ => ?_⟩
    · rw [Window.clearRead_one kind found base]
      refine ⟨?_, rfl, rfl, fun j apart => ?_⟩
      · exact (congrArg (Option.getD · 0) ((assocGet_assocSet w.rc k k _).trans (if_pos rfl)) :)
      · exact (assocGet_assocSet w.rc k j _).trans (if_neg apart)
    · unfold Window.clearRead
      rw [List.find?_eq_none.2 (by simpa using none_)]

end Sys2Proof.Machine
end

section
/-! PROOFS. Firmware: staging, finishing and swapping (R68, R171, R172, R468 to R470). -/

namespace Sys2Proof.Machine

/-! ### What the commands do -/

section
variable (s : State) (k : Ctx)

/-- Where words wait that a bank has room for. -/
def NvmDue.fits (d : NvmDue) : Prop := helmBase ≤ d.addr ∧ d.addr + d.words.length ≤ factoryBase

theorem State.queueNvm_fits {s : State} {addr : Nat} {ws : List Word} (above : helmBase ≤ addr) (below : addr + ws.length ≤ factoryBase) :
    s.queueNvm true true addr ws = { s with nvmDue := s.nvmDue ++ [⟨true, true, addr, ws⟩] } :=
  if_pos (by simp [above, below])

theorem State.queueNvm_outside (addr : Nat) (ws : List Word) : Outside s (s.queueNvm true true addr ws) := by
  unfold State.queueNvm
  split <;> exact ⟨rfl, rfl, rfl, rfl, rfl, rfl, rfl, rfl⟩

theorem State.queueNvm_banks (addr : Nat) (ws : List Word) :
    (s.queueNvm true true addr ws).nvmA = s.nvmA ∧ (s.queueNvm true true addr ws).nvmB = s.nvmB
      ∧ ∀ d ∈ s.nvmDue, d ∈ (s.queueNvm true true addr ws).nvmDue := by
  unfold State.queueNvm
  split
  · exact ⟨rfl, rfl, fun d mem => List.mem_append_left _ mem⟩
  · exact ⟨rfl, rfl, fun d mem => mem⟩

theorem State.setTable_led (h : HelmId) (t : List Word) : Led h s (s.setTable h t) := by
  refine (Own.modHs_red s h (fun hs => { hs with imgTab := t }) (fun _ => rfl) (fun _ => rfl)).led.trans ?_
  exact Led.byLead (f := fun s => s.queueNvm true true imgBase (imgTableWords t)) (State.queueNvm_outside ..).quiet

theorem State.setTable_hsOf (h : HelmId) (t : List Word) : (s.setTable h t).hsOf h = { s.hsOf h with imgTab := t } := by
  unfold State.setTable
  rw [State.byLead_hsOf (f := fun s => s.queueNvm true true imgBase (imgTableWords t)), State.modHs_hsOf]
  exact congrArg Helm.hs ((State.queueNvm_outside ..).helm h)

/-- States with the same banks, and the words that wait for them at least. -/
def KeepsBanks (s t : State) : Prop := t.nvmA = s.nvmA ∧ t.nvmB = s.nvmB ∧ ∀ d ∈ s.nvmDue, d ∈ t.nvmDue

theorem KeepsBanks.env : Env KeepsBanks :=
  ⟨fun _ => ⟨rfl, rfl, fun _ mem => mem⟩, fun k l => ⟨l.1.trans k.1, l.2.1.trans k.2.1, fun d mem => l.2.2 d (k.2.2 d mem)⟩,
    fun k => by rw [k.frame]; exact ⟨rfl, rfl, fun _ mem => mem⟩⟩

theorem Own.banks {h : HelmId} {s t : State} (k : Own h s t) : KeepsBanks s t := KeepsBanks.env.mach k.1

theorem KeepsBanks.byLead {s : State} {h : HelmId} {f : State → State} (keeps : KeepsBanks s (f s)) : KeepsBanks s (s.byLead h f) := by
  unfold State.byLead
  split
  · exact keeps
  · exact KeepsBanks.env.refl s

theorem State.setTable_banks (h : HelmId) (t : List Word) : KeepsBanks s (s.setTable h t) := by
  refine KeepsBanks.env.trans (Own.modHs_red s h (fun hs => { hs with imgTab := t }) (fun _ => rfl) (fun _ => rfl)).banks ?_
  exact KeepsBanks.byLead (f := fun s => s.queueNvm true true imgBase (imgTableWords t)) (State.queueNvm_banks ..)

/-- Words staged by a port (R171). -/
def HelmState.stage (a : HelmState) (p : Port) (d : Nat × List Word) : HelmState := { a with stageOwner := some p, staged := a.staged ++ [d] }

theorem State.stageData_ok {s : State} {k : Ctx} {off i : Nat} {ws : List Word} (area : (s.hsOf k.h).staging k.tag.port = .ok i) :
    s.stageData k off ws =
      (let v := s.byLead k.h (fun s => s.queueNvm true true (imgSlotBase i + off) ws)
       let v := if slotState (s.hsOf k.h).imgTab i = 1 then v
         else v.setTable k.h (imgSlotSet (s.hsOf k.h).imgTab i [wd (1 * 2 ^ 22), 0, 0, 0, 0])
       v.modHs k.h (fun a => a.stage k.tag.port (imgSlotBase i + off, ws)), Ans.ok) := by
  unfold State.stageData
  dsimp only
  rw [area]
  rfl

theorem State.stageData_error {s : State} {k : Ctx} {off : Nat} {ws : List Word} {e : Status} (area : (s.hsOf k.h).staging k.tag.port = .error e) :
    s.stageData k off ws = (s, Ans.st e) := by
  unfold State.stageData
  dsimp only
  rw [area]

theorem Own.stage (h : HelmId) (p : Port) (d : Nat × List Word) : Own h s (s.modHs h (fun a => a.stage p d)) :=
  .modHs_red s h (fun a => a.stage p d) (fun _ => rfl) (fun _ => rfl)

theorem Led.ite {c : Prop} [Decidable c] {h : HelmId} {s t u : State} (k : Led h s t) (l : Led h s u) : Led h s (if c then t else u) := by
  split
  · exact k
  · exact l

theorem State.stageData_led (off : Nat) (ws : List Word) : Led k.h s (s.stageData k off ws).1 := by
  cases area : (s.hsOf k.h).staging k.tag.port with
  | error e =>
    rw [State.stageData_error area]
    exact (Own.refl ..).led
  | ok i =>
    rw [State.stageData_ok area]
    have queued : Led k.h s (s.byLead k.h (fun s => s.queueNvm true true (imgSlotBase i + off) ws)) :=
      Led.byLead (f := fun s => s.queueNvm true true (imgSlotBase i + off) ws) (State.queueNvm_outside ..).quiet
    exact (Led.ite queued (queued.trans (State.setTable_led ..))).trans (Own.stage ..).led

/-- What Finish writes into the image table (R171). -/
def State.finishTable (s : State) (hs : HelmState) (i len : Nat) (crc : BitVec 32) (ver : Word) : List Word :=
  imgSlotSet hs.imgTab i
    [wd ((if crcWords ((List.range len).map (fun j => s.stagedRead hs (imgSlotBase i + j))) = crc then 2 else 3) * 2 ^ 22
      + (Config.imageFormat ver).toNat), wd len, wd (crc.toNat / 65536), wd (crc.toNat % 65536), ver]

theorem State.stageFinish_ok {s : State} {k : Ctx} {i len : Nat} {crc : BitVec 32} {ver : Word} (area : (s.hsOf k.h).staging k.tag.port = .ok i) :
    s.stageFinish k len crc ver =
      ((((s.byLead k.h (fun v => v.askRead k.h ⟨false, imgSlotBase i, (List.range len).map (fun j => s.stagedRead (s.hsOf k.h) (imgSlotBase i + j)),
          k.n + 1⟩)).setTable k.h (s.finishTable (s.hsOf k.h) i len crc ver)).modHs k.h (fun hs => { hs with stageOwner := some k.tag.port })).act
          k.h k.n k.tag.port clsAct 0x049
          (if crcWords ((List.range len).map (fun j => s.stagedRead (s.hsOf k.h) (imgSlotBase i + j))) = crc then 2 else 3) ver, Ans.ok) := by
  unfold State.stageFinish
  dsimp only
  rw [area]
  rfl

theorem State.stageFinish_error {s : State} {k : Ctx} {len : Nat} {crc : BitVec 32} {ver : Word} {e : Status}
    (area : (s.hsOf k.h).staging k.tag.port = .error e) : s.stageFinish k len crc ver = (s, Ans.st e) := by
  unfold State.stageFinish
  dsimp only
  rw [area]

/-- Finish: what it leaves of the state, and of the banks. -/
theorem State.stageFinish_spec (len : Nat) (crc : BitVec 32) (ver : Word) :
    Quiet k.h s (s.stageFinish k len crc ver).1 ∧ KeepsBanks s (s.stageFinish k len crc ver).1 := by
  cases area : (s.hsOf k.h).staging k.tag.port with
  | error e =>
    rw [State.stageFinish_error area]
    exact ⟨.refl .., KeepsBanks.env.refl s⟩
  | ok i =>
    rw [State.stageFinish_ok area]
    have asked (r : NvmRead) : Own k.h s (s.byLead k.h (fun v => v.askRead k.h r)) := .byLead (f := fun v => v.askRead k.h r) (Own.askRead ..)
    have owned (v : State) : Own k.h v (v.modHs k.h (fun hs => { hs with stageOwner := some k.tag.port })) :=
      .modHs_red v k.h (fun hs => { hs with stageOwner := some k.tag.port }) (fun _ => rfl) (fun _ => rfl)
    have noted (v : State) (st : Nat) : Own k.h v (v.act k.h k.n k.tag.port clsAct 0x049 st ver) := .act ..
    exact ⟨(((asked _).2.trans (State.setTable_led ..).2).trans (owned _).2).trans (noted _ _).2,
      KeepsBanks.env.trans (KeepsBanks.env.trans (KeepsBanks.env.trans (asked _).banks (State.setTable_banks ..)) (owned _).banks) (noted _ _).banks⟩

end

/-! ### The rows of staging -/

section
variable {s : State} {h : HelmId} {t : Tag}

theorem HelmState.like.imgTab {a b : HelmState} (k : a.like b) : a.imgTab = b.imgTab := (congrArg HelmState.imgTab k :)

theorem HelmState.like.staging {a b : HelmState} (k : a.like b) (p : Port) : a.staging p = b.staging p := by
  have owner : a.stageOwner = b.stageOwner := (congrArg HelmState.stageOwner k :)
  unfold HelmState.staging
  rw [k.imgTab, owner]

theorem HelmState.staging_lt {a : HelmState} {p : Port} {i : Nat} (area : a.staging p = .ok i) : i = 0 ∨ i = 1 := by
  unfold HelmState.staging at area
  split at area
  · cases area
  · next slot is =>
    split at area
    · cases area
    · obtain rfl : slot = i := Except.ok.inj area
      unfold stagingSlot at is
      dsimp only at is
      split at is
      · cases is
      · split at is
        · exact .inr (Option.some.inj is).symm
        · exact .inl (Option.some.inj is).symm

theorem Cmd.stageData_room {s : State} {k : Ctx} {off : Nat} {ws : List Word} (passes : s.checkCmd k (.stageData off ws) = none) :
    off + ws.length ≤ 43690 := by
  by_contra far
  have bad : (Cmd.stageData off ws).paramBad = true := by
    unfold Cmd.paramBad
    simp only [Bool.or_eq_true, decide_eq_true_eq]
    exact .inr (by omega)
  unfold State.checkCmd at passes
  rw [bad] at passes
  cases passes

/-- Words in an image slot have room. -/
theorem imgSlot_fits {i off len : Nat} (slot : i = 0 ∨ i = 1) (room : off + len ≤ 43690) :
    helmBase ≤ imgSlotBase i + off ∧ imgSlotBase i + off + len ≤ factoryBase := by
  unfold imgSlotBase helmBase factoryBase
  rcases slot with rfl | rfl
  · simp only [if_true]
    omega
  · simp only [Nat.one_ne_zero, if_false]
    omega

/-- A slot's entry in the table, once it is being staged. -/
theorem slotState_staged (t : List Word) {i : Nat} (slot : i = 0 ∨ i = 1) : slotState (imgSlotSet t i [wd (1 * 2 ^ 22), 0, 0, 0, 0]) i = 1 := by
  have entry : (imgSlotSet t i [wd (1 * 2 ^ 22), 0, 0, 0, 0]).getD (1 + 5 * i) 0 = wd (1 * 2 ^ 22) := by
    rcases slot with rfl | rfl <;> simp [imgSlotSet, List.range_succ]
  rw [slotState, entry]
  decide

theorem State.stageData_row {off i : Nat} {ws : List Word} (takes : s.takes h t (.stageData off ws)) (sole : s.soleActor h)
    (area : (s.hsOf h).staging t.port = .ok i) : let u := s.hostRow t (.stageData off ws)
    (slotState (s.hsOf h).imgTab i = 1 → OnlyHelmSide { s with nvmDue := s.nvmDue ++ [⟨true, true, imgSlotBase i + off, ws⟩] } u
      ∧ (u.hsOf h).like { s.hsOf h with stageOwner := some t.port, staged := (s.hsOf h).staged ++ [(imgSlotBase i + off, ws)] })
    ∧ (slotState (s.hsOf h).imgTab i ≠ 1 → (⟨true, true, imgSlotBase i + off, ws⟩ : NvmDue) ∈ u.nvmDue ∧ slotState (u.hsOf h).imgTab i = 1
      ∧ (u.hsOf h).stageOwner = some t.port ∧ u.nvmA = s.nvmA ∧ u.nvmB = s.nvmB)
    ∧ Answered s u h t (.stageData off ws) Ans.ok := by
  have slot := HelmState.staging_lt area
  obtain ⟨above, below⟩ := imgSlot_fits slot (Cmd.stageData_room takes.2.2.2.2)
  have cmd (v : State) (k : Ctx) : v.doCmd k (.stageData off ws) = v.stageData k off ws := rfl
  obtain ⟨v, gives⟩ := State.hostRow_led takes sole fun v k => cmd v k ▸ v.stageData_led k off ws
  obtain ⟨k, ctx, rfl, rfl, -⟩ := s.ctxOf_named h t
  rw [cmd, ctx] at gives
  have acts : v.acts k.h = true := (gives.calm.acts k.h).trans sole.1
  have does := State.stageData_ok (ws := ws) (off := off) ((gives.ready.staging k.tag.port).trans area)
  rw [gives.ready.imgTab, State.byLead_on (f := fun s => s.queueNvm true true (imgSlotBase i + off) ws) acts,
    State.queueNvm_fits above below] at does
  obtain ⟨w, is⟩ : ∃ w : State, { v with nvmDue := v.nvmDue ++ [⟨true, true, imgSlotBase i + off, ws⟩] } = w := ⟨_, rfl⟩
  have hs : w.hsOf k.h = v.hsOf k.h := by
    rw [← is]
    cases k.h <;> rfl
  dsimp only at does
  rw [is] at does
  refine ⟨fun going => ?_, fun fresh => ?_, gives.answered (congrArg Prod.snd does) rfl⟩
  · rw [if_pos going] at does
    rw [does] at gives
    have after := (Own.stage w k.h k.tag.port (imgSlotBase i + off, ws)).1.only.trans gives.after.only
    refine ⟨OnlyHelmSide.trans ?_ after, gives.like.trans ?_⟩
    · rw [← is, gives.before.frame]
      rfl
    · dsimp only
      rw [State.modHs_hsOf, hs]
      have ready := gives.ready
      unfold HelmState.like HelmState.stage at *
      rw [ready]
  · rw [if_neg fresh] at does
    rw [does] at gives
    have banks : KeepsBanks w (s.hostRow k.tag (.stageData off ws)) :=
      KeepsBanks.env.trans (KeepsBanks.env.trans (State.setTable_banks w k.h _) (Own.stage ..).banks) (KeepsBanks.env.mach gives.after)
    have like := gives.like
    dsimp only at like
    rw [State.modHs_hsOf, State.setTable_hsOf] at like
    obtain ⟨bankA, bankB, due⟩ := banks
    refine ⟨due _ ?_, ?_, (congrArg HelmState.stageOwner like :), bankA.trans ?_, bankB.trans ?_⟩
    · rw [← is]
      exact List.mem_append_right _ (List.mem_singleton.2 rfl)
    · rw [like.imgTab]
      exact slotState_staged _ slot
    · rw [← is, gives.before.frame]
    · rw [← is, gives.before.frame]

theorem State.stageFinish_row {i len : Nat} {crc : BitVec 32} {ver : Word} (takes : s.takes h t (.stageFinish len crc ver))
    (area : (s.hsOf h).staging t.port = .ok i) : let u := s.hostRow t (.stageFinish len crc ver)
    (u.hsOf h).imgTab = s.finishTable (s.hsOf h) i len crc ver ∧ u.nvmA = s.nvmA ∧ u.nvmB = s.nvmB
      ∧ Answered s u h t (.stageFinish len crc ver) Ans.ok := by
  have cmd (v : State) (k : Ctx) : v.doCmd k (.stageFinish len crc ver) = v.stageFinish k len crc ver := rfl
  obtain ⟨v, gives⟩ := State.hostRow_gives KeepsBanks.env takes
    (fun g v k at_ => at_ ▸ cmd v k ▸ (v.stageFinish_spec k len crc ver).1) fun v k _ _ _ => cmd v k ▸ (v.stageFinish_spec k len crc ver).2
  obtain ⟨k, ctx, rfl, rfl, -⟩ := s.ctxOf_named h t
  rw [cmd, ctx] at gives
  have does := State.stageFinish_ok (len := len) (crc := crc) (ver := ver) ((gives.ready.staging k.tag.port).trans area)
  obtain ⟨bankA, bankB, -⟩ := KeepsBanks.env.trans (KeepsBanks.env.trans gives.before (v.stageFinish_spec k len crc ver).2) gives.after
  have table : v.finishTable (v.hsOf k.h) i len crc ver = s.finishTable (s.hsOf k.h) i len crc ver := by
    have staged : (v.hsOf k.h).staged = (s.hsOf k.h).staged := (congrArg HelmState.staged gives.ready :)
    unfold State.finishTable State.stagedRead
    rw [gives.ready.imgTab, staged, gives.before.1]
  refine ⟨?_, bankA, bankB, gives.answered (congrArg Prod.snd does) rfl⟩
  rw [gives.like.imgTab, does]
  dsimp only
  rw [State.act_hsOf, State.modHs_hsOf, State.setTable_hsOf]
  exact table

end

end Sys2Proof.Machine
end

section
/-! PROOFS. The swap of firmware, and firmware as a whole (R68, R172, R468 to R471). -/

namespace Sys2Proof.Machine

section
variable (s : State) (k : Ctx) (g : HelmId)

/-- The image that a swap gives helm g (R470). -/
def swapTarget (t : List Word) (g : HelmId) : Nat :=
  if bootOf t .a = bootOf t .b then (stagingSlot t).getD 3 else bootOf t (otherHelm g)

/-- The swap itself. -/
def State.swapped (s : State) (k : Ctx) (g : HelmId) : State :=
  let t := (s.hsOf k.h).imgTab
  (((s.setTable k.h (setBoot t g (swapTarget t g))).leave k.h k.n g .starting 9).modHelm g (fun x => { x with swapped := true })).act
    k.h k.n k.tag.port clsAct 0x04A (helmCode g) (if swapTarget t g < 2 then t.getD (5 + 5 * swapTarget t g) 0 else 0)

theorem State.fwSwap_eq : s.fwSwap k g =
    let t := (s.hsOf k.h).imgTab
    if (s.hsOf k.h).red.view = some g then (s, Ans.st .paramBad)
    else if swapTarget t g < 2 && slotState t (swapTarget t g) ≠ 2 then (s, Ans.st .notReady)
    else if (s.hsOf k.h).red.svc g ≠ .standby then (s, Ans.st .noStandby)
    else if bootFormat t (swapTarget t g) ≠ bootFormat t (s.helm (otherHelm g)).boot.toNat then (s, Ans.st .paramBad)
    else (s.swapped k g, { status := .ok, eff := some k.L }) := rfl

theorem State.fwSwap_cases : (s.fwSwap k g).1 = s ∨ (s.fwSwap k g).1 = s.swapped k g := by
  rw [State.fwSwap_eq]
  dsimp only
  split
  · exact .inl rfl
  · split
    · exact .inl rfl
    · split
      · exact .inl rfl
      · split
        · exact .inl rfl
        · exact .inr rfl

theorem State.setTable_stir (h : HelmId) (t : List Word) : Stir h s (s.setTable h t) := by
  have queued (v : State) : Stir h v (v.byLead h (fun s => s.queueNvm true true imgBase (imgTableWords t))) :=
    .byLead (f := fun s => s.queueNvm true true imgBase (imgTableWords t)) (State.queueNvm_outside ..).stir
  exact (Own.modHs_red s h (fun hs => { hs with imgTab := t }) (fun _ => rfl) (fun _ => rfl)).stir.trans (queued _)

theorem State.swapped_stir : Stir k.h s (s.swapped k g) := by
  have mark (v : State) : Stir k.h v (v.modHelm g (fun x => { x with swapped := true })) :=
    v.modHelm_stir k.h g (f := fun x => { x with swapped := true }) fun _ => rfl
  have note (v : State) (d : Word) : Stir k.h v (v.act k.h k.n k.tag.port clsAct 0x04A (helmCode g) d) := (Own.act ..).stir
  exact (((s.setTable_stir k.h _).trans (State.leave_stir _ k.h k.n g (to_ := .starting) 9 ⟨nofun, nofun⟩)).trans (mark _)).trans (note _ _)

theorem State.fwSwap_stir : Stir k.h s (s.fwSwap k g).1 := by
  rcases s.fwSwap_cases k g with is | is
  · rw [is]
    exact .refl ..
  · rw [is]
    exact s.swapped_stir k g

theorem State.swapped_marks : ∃ testing tries, ((s.swapped k g).helm g).marks = (9, testing, tries, true) := by
  unfold State.swapped
  dsimp only
  rw [(Own.act ..).1.marks, State.modHelm_helm]
  obtain ⟨swapped, marks⟩ := (s.setTable k.h (setBoot (s.hsOf k.h).imgTab g (swapTarget (s.hsOf k.h).imgTab g))).leave_marks k.h k.n g .starting 9
  obtain ⟨cause, -⟩ := Helm.marks_of marks
  unfold Helm.marks
  dsimp only
  rw [cause]
  exact ⟨_, _, rfl⟩

theorem State.swapped_hsOf {s : State} {k : Ctx} {g : HelmId} (free : (s.hsOf k.h).red.view ≠ some g) :
    (s.swapped k g).hsOf k.h = ({ s.hsOf k.h with
      imgTab := setBoot (s.hsOf k.h).imgTab g (swapTarget (s.hsOf k.h).imgTab g) } : HelmState).letGo g .starting := by
  unfold State.swapped
  dsimp only
  rw [State.act_hsOf, State.modHelm_hsOf _ _ _ (f := fun x => { x with swapped := true }) fun _ => rfl, State.leave_hsOf,
    State.unhelm_free _ (by rw [State.setTable_hsOf]; exact free), State.setTable_hsOf]

end

section
variable {s : State} {h : HelmId} {t : Tag}

theorem Cmd.fwSwap_of {b : Byte} {g : HelmId} (is : helmOf b = some g) (v : State) (k : Ctx) : v.doCmd k (.fwSwap b) = v.fwSwap k g := by
  show (match helmOf b with
    | some g => v.fwSwap k g
    | none => (v, Ans.st .paramBad)) = _
  rw [is]

theorem State.fwSwap_row {b : Byte} {g : HelmId} (takes : s.takes h t (.fwSwap b)) (is : helmOf b = some g)
    (other : (s.hsOf h).red.view ≠ some g) (standby : (s.hsOf h).red.svc g = .standby)
    (whole : swapTarget (s.hsOf h).imgTab g < 2 → slotState (s.hsOf h).imgTab (swapTarget (s.hsOf h).imgTab g) = 2)
    (format : bootFormat (s.hsOf h).imgTab (swapTarget (s.hsOf h).imgTab g) = bootFormat (s.hsOf h).imgTab (s.helm (otherHelm g)).boot.toNat) :
    let u := s.hostRow t (.fwSwap b)
    (u.hsOf h).imgTab = setBoot (s.hsOf h).imgTab g (swapTarget (s.hsOf h).imgTab g) ∧ (u.hsOf h).red.svc g = .starting
      ∧ (u.helm g).outCause = 9 ∧ (u.helm g).swapped = true := by
  obtain ⟨v, gives⟩ := State.hostRow_stirs takes fun v k => Cmd.fwSwap_of is v k ▸ v.fwSwap_stir k g
  obtain ⟨k, ctx, rfl, -, -⟩ := s.ctxOf_named h t
  have red := gives.ready.red
  have tab := gives.ready.imgTab
  rw [Cmd.fwSwap_of is, ctx] at gives
  have free : (v.hsOf k.h).red.view ≠ some g := by rw [red]; exact other
  have does : (v.fwSwap k g).1 = v.swapped k g := by
    rw [State.fwSwap_eq]
    dsimp only
    rw [if_neg free, tab, if_neg, if_neg (by rw [red, standby]; decide), if_neg (by rw [(gives.fixed _).1]; exact not_not_intro format)]
    simp only [Bool.and_eq_true, decide_eq_true_eq, not_and, ne_eq, not_not]
    exact whole
  have like := gives.like
  rw [does, State.swapped_hsOf free, tab] at like
  have marks := gives.marks (fun m => m.1 = 9 ∧ m.2.2.2 = true) g (fun w k' holds => by
      rw [Cmd.fwSwap_of is]
      rcases w.fwSwap_cases k' g with same | swap
      · rw [same]
        exact holds
      · obtain ⟨testing, tries, marks⟩ := w.swapped_marks k' g
        rw [swap, marks]
        exact ⟨rfl, rfl⟩) (by
      obtain ⟨testing, tries, marks⟩ := v.swapped_marks k g
      rw [does, marks]
      exact ⟨rfl, rfl⟩)
  refine ⟨?_, ?_, marks⟩
  · rw [like.imgTab]
    rfl
  · rw [like.red, HelmState.letGo_svc, if_pos rfl]

end

/-- Settles O59: a passage stages and swaps in its image table, and the landing that keeps it writes the banks. -/
theorem firmwareCommands : Obligations.FirmwareCommands := by
  intro s h t
  refine ⟨fun i off ws takes sole area going => ⟨_, rfl, ?_⟩, fun i off ws takes sole area fresh => ⟨_, rfl, ?_⟩,
    fun i len crc ver takes area => ⟨_, rfl, State.stageFinish_row takes area⟩,
    fun b g takes is other standby whole format => ⟨_, rfl, State.fwSwap_row takes is other standby whole format⟩, ?_⟩
  · obtain ⟨going_, -, answered⟩ := State.stageData_row takes sole area
    exact ⟨(going_ going).1, (going_ going).2, answered⟩
  · obtain ⟨-, fresh_, answered⟩ := State.stageData_row takes sole area
    obtain ⟨due, state, owner, bankA, bankB⟩ := fresh_ fresh
    exact ⟨due, state, owner, bankA, bankB, answered⟩
  · intro live tides alive started given counting stroke calmA calmB pending kept
    obtain ⟨r, ashore, runs⟩ := State.stroke_lands (s := { s with pending := [] }) live tides alive started given counting stroke calmA calmB
    obtain ⟨-, -, -, -, nvmDue, nvmA, nvmB, -⟩ := ashore.kept (n := s.tb.crossing) kept
    refine ⟨_, ?_, nvmDue, nvmA, nvmB, fun d one wf room i lt => ?_⟩
    · unfold step
      rw [pending]
      exact runs
    · rw [nvmA, nvmB]
      dsimp only
      rw [one]
      refine ⟨fun toA => ?_, fun toB => ?_⟩
      · rw [List.filter_singleton, toA]
        exact Bank.read_writes room lt
      · rw [List.filter_singleton, toB]
        exact Bank.read_writes room lt

end Sys2Proof.Machine
end

section
/-! PROOFS. The return to helm, where the two helms differ about who serves (R185, R203). -/

namespace Sys2Proof.Machine

/-- Helm B holds in place of the primary, which stands by again and which has, by its own account, the helm, and has decided that helm B is
halted. -/
def divided : State := (Tests.back).modHs .a (fun hs => { hs with red := { hs.red with view := some .a, svcB := .halted } })

theorem divided_returns : divided.live = true ∧ (divided.helm .b).svc.computes = true ∧ Tests.underWayB divided = true
    ∧ chPrimary (divided.hsOf .b).charter = some .a ∧ (divided.hsOf .b).red.svc .a = .standby
    ∧ (divided.hsOf .b).red.view = some (otherHelm .a) ∧ (divided.hsOf .b).red.retOn = true ∧ (divided.hsOf .b).red.retLeft = 0
    ∧ (divided.hsOf .b).red.retHold = false ∧ (divided.hsOf .b).red.arb = none := by decide +kernel

/-- The holder in the view of helm B after a row. -/
def viewOfB : Host.Outcome State Fault Refusal → Option HelmId
  | .next t => (t.hsOf .b).red.view
  | _ => none

/-- Helm A's part of the row comes first, and takes helm B out of service before its own. -/
theorem divided_stays : viewOfB (exec .returnToHelm divided) = some .b := by decide +kernel

/-- Refutes O44: helm A settles the service states in its part of RETURN_TO_HELM. Where it has decided that helm B is halted, while helm B still
computes, it takes helm B out of service before helm B's part, in which helm B would have made the return. -/
theorem not_provenAndReturn : ¬ Obligations.ProvenAndReturn := by
  intro h
  obtain ⟨live, computes, under, primary, standby, view, on, none_, free, calm⟩ := divided_returns
  obtain ⟨-, -, returns, -⟩ := h divided .b .a live computes (Tests.underWay_of under)
  obtain ⟨t, row, holds, -⟩ := returns primary standby view on none_ free calm
  have stays := divided_stays
  rw [row] at stays
  exact absurd (holds.symm.trans stays) (by decide)

end Sys2Proof.Machine
end

section
/-! PROOFS. Events of a passage that the table names apart (R86, R151, R269, R355, R393, R398). -/

namespace Sys2Proof.Machine

/-! ### A change in every helm that computes -/

/-- A change of helm g that leaves the other helm, and the crossing. -/
structure Apart (g : HelmId) (s t : State) : Prop where
  other : t.helm (otherHelm g) = s.helm (otherHelm g)
  crossing : t.tb.crossing = s.tb.crossing

section
variable {s t u : State} {g : HelmId}

theorem Apart.refl (g : HelmId) (s : State) : Apart g s s := ⟨rfl, rfl⟩

theorem Apart.trans (k : Apart g s t) (l : Apart g t u) : Apart g s u := ⟨l.other.trans k.other, l.crossing.trans k.crossing⟩

theorem Apart.ite {c : Prop} [Decidable c] (k : Apart g s t) (l : Apart g s u) : Apart g s (if c then t else u) := by
  split
  · exact k
  · exact l

theorem Apart.modHelm (s : State) (g : HelmId) (f : Helm → Helm) : Apart g s (s.modHelm g f) :=
  ⟨State.modHelm_helm_other .., by cases g <;> rfl⟩

theorem Apart.modHs (s : State) (g : HelmId) (f : HelmState → HelmState) : Apart g s (s.modHs g f) := .modHelm ..

theorem Apart.note (s : State) (g : HelmId) (n cls code : Nat) (d0 d1 d2 : Word) : Apart g s (s.note g n cls code d0 d1 d2) := by
  unfold State.note State.sharedRec
  exact .modHelm ..

theorem Apart.act (s : State) (g : HelmId) (n : Nat) (p : Port) (cls code detail : Nat) (data : Word) :
    Apart g s (s.act g n p cls code detail data) := .note ..

theorem Apart.chime (s : State) (g : HelmId) (k : Nat) : Apart g s (s.chime g k) :=
  ⟨(s.chime_mach g k).2.helm _, by rw [(s.chime_mach g k).2]⟩

end

theorem State.beginFor_begun {s : State} {h : HelmId} (begun : (s.helm h).begun = some s.tb.crossing) : s.beginFor h s.tb.crossing = s :=
  if_pos (by simp [begun])

/-- One helm's part. -/
def State.helmPart (s : State) (f : HelmId → State → State) (h : HelmId) : State :=
  let s := if (s.helm h).svc.computes then s.beginFor h s.tb.crossing else s
  if (s.helm h).svc.computes then f h (s.openMode h s.tb.crossing) else s

theorem State.eachHelm_eq (s : State) (f : HelmId → State → State) : s.eachHelm f = (s.helmPart f .a).helmPart f .b := rfl

theorem State.helmPart_on {s : State} {f : HelmId → State → State} {h : HelmId} (computes : (s.helm h).svc.computes = true)
    (begun : (s.helm h).begun = some s.tb.crossing) : s.helmPart f h = f h (s.openMode h s.tb.crossing) := by
  unfold State.helmPart
  rw [if_pos computes, State.beginFor_begun begun]
  exact if_pos computes

theorem State.helmPart_off {s : State} {f : HelmId → State → State} {h : HelmId} (idle : (s.helm h).svc.computes = false) : s.helmPart f h = s := by
  unfold State.helmPart
  simp only [idle, Bool.false_eq_true, if_false]

theorem State.helmPart_apart {s : State} {f : HelmId → State → State} {h : HelmId} (apart : ∀ g v, Apart g v (f g v))
    (begun : (s.helm h).svc.computes = true → (s.helm h).begun = some s.tb.crossing) : Apart h s (s.helmPart f h) := by
  cases computes : (s.helm h).svc.computes with
  | true =>
    rw [State.helmPart_on computes (begun computes)]
    exact (Apart.modHs ..).trans (apart ..)
  | false =>
    rw [State.helmPart_off computes]
    exact .refl h s

/-- A change in every helm, as helm h sees it: v is the state in which its own part is made. -/
theorem State.eachHelm_at {s : State} {f : HelmId → State → State} {h : HelmId} (apart : ∀ g v, Apart g v (f g v)) (under : s.underWay)
    (computes : (s.helm h).svc.computes = true) :
    ∃ v, v.helm h = (s.openMode h s.tb.crossing).helm h ∧ v.tb.crossing = s.tb.crossing ∧ (s.eachHelm f).helm h = (f h v).helm h := by
  have opened (x : State) (helm : x.helm h = s.helm h) (crossing : x.tb.crossing = s.tb.crossing) :
      x.helmPart f h = f h (x.openMode h s.tb.crossing) ∧ (x.openMode h s.tb.crossing).helm h = (s.openMode h s.tb.crossing).helm h
        ∧ (x.openMode h s.tb.crossing).tb.crossing = s.tb.crossing := by
    refine ⟨?_, ?_, (Apart.modHs x h _).crossing.trans crossing⟩
    · rw [State.helmPart_on (by rw [helm]; exact computes) (by rw [helm, crossing]; exact under h computes), crossing]
    · unfold State.openMode State.modHs
      rw [State.modHelm_helm, State.modHelm_helm, helm]
  rw [State.eachHelm_eq]
  cases h with
  | a =>
    obtain ⟨own, helm, crossing⟩ := opened s rfl rfl
    have first : Apart .a s (s.helmPart f .a) := State.helmPart_apart apart (under .a)
    have late : Apart .b (s.helmPart f .a) ((s.helmPart f .a).helmPart f .b) := by
      refine State.helmPart_apart apart fun serves => ?_
      have other : (s.helmPart f .a).helm .b = s.helm .b := first.other
      rw [other] at serves ⊢
      rw [first.crossing]
      exact under .b serves
    exact ⟨_, helm, crossing, late.other.trans (congrArg (fun x => x.helm .a) own)⟩
  | b =>
    have first : Apart .a s (s.helmPart f .a) := State.helmPart_apart apart (under .a)
    obtain ⟨own, helm, crossing⟩ := opened (s.helmPart f .a) first.other first.crossing
    exact ⟨_, helm, crossing, congrArg (fun x => x.helm .b) own⟩

/-! ### Pulses, challenges, lockouts -/

/-- A change of the helm state in every helm that computes, as helm h has it after the row. -/
theorem State.eachHelm_hsOf {s : State} {h : HelmId} {f : HelmId → State → State} {F : HelmState → HelmState} (apart : ∀ g v, Apart g v (f g v))
    (does : ∀ v : State, v.tb.crossing = s.tb.crossing → (f h v).hsOf h = F (v.hsOf h)) (under : s.underWay)
    (computes : (s.helm h).svc.computes = true) : (s.eachHelm f).hsOf h = F ((s.openMode h s.tb.crossing).hsOf h) := by
  obtain ⟨v, helm, crossing, row⟩ := State.eachHelm_at apart under computes
  have hs : (s.eachHelm f).hsOf h = (f h v).hsOf h := congrArg Helm.hs row
  rw [hs, does v crossing]
  exact congrArg (fun x : Helm => F x.hs) helm

/-- A challenge ends at a helm (R398). -/
def HelmState.chalEnds (a : HelmState) (n : Nat) (p : Port) : HelmState :=
  match (a.role p).chal with
  | some c => if c.expires ≤ n then a.modRole p (fun r => { r with chal := none }) else a
  | none => a

theorem HelmState.chalEnds_some {a : HelmState} {n : Nat} {p : Port} {c : Chal} (is : (a.role p).chal = some c) :
    a.chalEnds n p = if c.expires ≤ n then a.modRole p (fun r => { r with chal := none }) else a := by
  rw [HelmState.chalEnds, is]

theorem HelmState.chalEnds_none {a : HelmState} {n : Nat} {p : Port} (is : (a.role p).chal = none) : a.chalEnds n p = a := by
  rw [HelmState.chalEnds, is]

theorem State.chalExpiry_spec (s : State) (h : HelmId) (n : Nat) (p : Port) :
    Apart h s (s.chalExpiry h n p) ∧ (s.chalExpiry h n p).hsOf h = (s.hsOf h).chalEnds n p := by
  unfold State.chalExpiry
  split
  · next c is =>
    rw [HelmState.chalEnds_some is]
    split
    · exact ⟨.modHs .., State.modHs_hsOf ..⟩
    · exact ⟨.refl h s, rfl⟩
  · next is =>
    rw [HelmState.chalEnds_none is]
    exact ⟨.refl h s, rfl⟩

/-- A lockout ends at a helm (R398). -/
def HelmState.lockEnds (a : HelmState) (n : Nat) (p : Port) : HelmState :=
  match (a.role p).lockedUntil with
  | some u => if u ≤ n then a.modRole p (fun r => { r with lockedUntil := none, fails := 0 }) else a
  | none => a

theorem HelmState.lockEnds_some {a : HelmState} {n : Nat} {p : Port} {u : Nat} (is : (a.role p).lockedUntil = some u) :
    a.lockEnds n p = if u ≤ n then a.modRole p (fun r => { r with lockedUntil := none, fails := 0 }) else a := by
  rw [HelmState.lockEnds, is]

theorem HelmState.lockEnds_none {a : HelmState} {n : Nat} {p : Port} (is : (a.role p).lockedUntil = none) : a.lockEnds n p = a := by
  rw [HelmState.lockEnds, is]

theorem State.lockEnd_spec (s : State) (h : HelmId) (n : Nat) (p : Port) :
    Apart h s (s.lockEnd h n p) ∧ (s.lockEnd h n p).hsOf h = (s.hsOf h).lockEnds n p := by
  unfold State.lockEnd
  split
  · next c is =>
    rw [HelmState.lockEnds_some is]
    split
    · exact ⟨.modHs .., State.modHs_hsOf ..⟩
    · exact ⟨.refl h s, rfl⟩
  · next is =>
    rw [HelmState.lockEnds_none is]
    exact ⟨.refl h s, rfl⟩

/-- A port's role state put. -/
def HelmState.putRole (a : HelmState) (p : Port) (r : RoleSt) : HelmState :=
  match p with
  | .hpa => { a with roleA := r }
  | .hpb => { a with roleB := r }

theorem HelmState.modRole_eq (a : HelmState) (p : Port) (f : RoleSt → RoleSt) : a.modRole p f = a.putRole p (f (a.role p)) := by cases p <;> rfl

theorem HelmState.role_putRole (a : HelmState) (p : Port) (r : RoleSt) : (a.putRole p r).role p = r := by cases p <;> rfl

theorem HelmState.putRole_self (a : HelmState) (p : Port) : a.putRole p (a.role p) = a := by cases p <;> rfl

theorem HelmState.putRole_putRole (a : HelmState) (p : Port) (r q : RoleSt) : (a.putRole p r).putRole p q = a.putRole p q := by cases p <;> rfl

/-! ### Idle roles -/

/-- A role that no port's frames have kept ends (R398). -/
def HelmState.idles (a : HelmState) (n : Nat) (p : Port) : Prop :=
  bf (chBody a.charter 0x04) 0 15 0 ≠ 0 ∧ a.crossings (bf (chBody a.charter 0x04) 0 15 0) ≤ n - 2 - (a.role p).lastHeard

theorem State.endRole_hsOf (s : State) (h : HelmId) (n : Nat) (p : Port) (cause : Nat) : (s.endRole h n p cause).hsOf h =
    (s.hsOf h).putRole p { (s.hsOf h).role p with held := none, chal := none
                                                  fp := if ((s.hsOf h).role p).held = none ∧ ((s.hsOf h).role p).chal = none
                                                    then ((s.hsOf h).role p).fp else 0 } := by
  unfold State.endRole
  dsimp only
  split
  · next none_ =>
    simp only [Bool.and_eq_true, Option.isNone_iff_eq_none] at none_
    rw [if_pos none_]
    refine (HelmState.putRole_self _ p).symm.trans (congrArg _ ?_)
    obtain ⟨held, chal⟩ := none_
    generalize (s.hsOf h).role p = r at *
    rw [← held, ← chal]
  · next some_ =>
    simp only [Bool.and_eq_true, Option.isNone_iff_eq_none] at some_
    rw [if_neg some_, State.modHs_hsOf, State.act_hsOf, HelmState.modRole_eq]

theorem State.endRole_apart (s : State) (h : HelmId) (n : Nat) (p : Port) (cause : Nat) : Apart h s (s.endRole h n p cause) := by
  unfold State.endRole
  exact .ite (.refl h s) ((Apart.act ..).trans (Apart.modHs ..))

theorem State.roleIdle_hsOf (s : State) (h : HelmId) (n : Nat) (p : Port) :
    ((s.hsOf h).idles n p → (s.roleIdle h n p).hsOf h = (s.endRole h n p 3).hsOf h)
      ∧ (¬ (s.hsOf h).idles n p → (s.roleIdle h n p).hsOf h = s.hsOf h) := by
  unfold State.roleIdle HelmState.idles
  dsimp only
  constructor
  · intro idle
    rw [if_pos (by simpa using idle)]
  · intro busy
    rw [if_neg (by simpa using busy)]

theorem State.roleIdle_apart (s : State) (h : HelmId) (n : Nat) (p : Port) : Apart h s (s.roleIdle h n p) := by
  unfold State.roleIdle
  exact .ite (State.endRole_apart ..) (.refl h s)

end Sys2Proof.Machine
end

section
/-! PROOFS. Host loss, HAIL-CHECK misses and wake reads, and the events of passages as a whole (R86, R269, R355). -/

namespace Sys2Proof.Machine

/-! ### Host loss -/

/-- Pulses that end together. -/
def HelmState.endAll (a : HelmState) (l : List (Fin 32)) : HelmState :=
  l.foldl (fun (hs : HelmState) (q : Fin 32) => if hs.pulses[q].isSome then hs.endPulse q else hs) a

theorem HelmState.endPulse_pulses (a : HelmState) (q r : Fin 32) : (a.endPulse q).pulses[r] = if q = r then none else a.pulses[r] := by
  unfold HelmState.endPulse
  simp only [Fin.getElem_fin, Vector.getElem_set, Fin.val_inj]

theorem HelmState.endAll_spec : ∀ (l : List (Fin 32)) (a : HelmState),
    a.endAll l = { a with img := (a.endAll l).img, pulses := (a.endAll l).pulses }
      ∧ ∀ q : Fin 32, q ∈ l ∨ a.pulses[q] = none → (a.endAll l).pulses[q] = none
  | [], a => ⟨rfl, fun q gone => gone.resolve_left List.not_mem_nil⟩
  | x :: l, a => by
    have one : (if a.pulses[x].isSome then a.endPulse x else a) = { a with
        img := (if a.pulses[x].isSome then a.endPulse x else a).img, pulses := (if a.pulses[x].isSome then a.endPulse x else a).pulses }
        ∧ ∀ q : Fin 32, q = x ∨ a.pulses[q] = none → (if a.pulses[x].isSome then a.endPulse x else a).pulses[q] = none := by
      split
      · refine ⟨rfl, fun q gone => ?_⟩
        rw [HelmState.endPulse_pulses]
        split
        · rfl
        · next apart => exact gone.resolve_left fun is => apart is.symm
      · next no =>
        refine ⟨rfl, fun q gone => gone.elim (fun is => ?_) id⟩
        rw [is]
        simpa using no
    obtain ⟨frame, ends⟩ := one
    have rest := HelmState.endAll_spec l (if a.pulses[x].isSome then a.endPulse x else a)
    rw [show a.endAll (x :: l) = (if a.pulses[x].isSome then a.endPulse x else a).endAll l from rfl]
    generalize (if a.pulses[x].isSome then a.endPulse x else a) = b at *
    refine ⟨?_, fun q gone => rest.2 q ?_⟩
    · rw [rest.1, frame]
    · rcases gone with mem | none_
      · rcases List.mem_cons.1 mem with is | mem
        · exact .inr (ends q (.inl is))
        · exact .inl mem
      · exact .inr (ends q (.inr none_))

/-- A helm state whose host is lost, its pulses ended (R269). -/
def HelmState.lostWith (a : HelmState) (count : Nat) : HelmState :=
  { a with hl := .lost, hlCount := count, forced := Vector.replicate 32 none }.rc 0x20A 18 1

/-- A helm state in which the host is lost (R269). -/
def HelmState.lose (a : HelmState) (count : Nat) : HelmState := (a.endAll (List.finRange 32)).lostWith count

/-- Its safe states replace the manifest (R61, R269). -/
def HelmState.sendSafe (a : HelmState) : HelmState := { a.holdSafe with man := Vector.ofFn (fun (q : Fin 32) => a.holdSafe.safeValue q) }

theorem State.loseHost_spec (s : State) (h : HelmId) (n count : Nat) :
    Apart h s (s.loseHost h n count) ∧ (s.loseHost h n count).hsOf h = (s.hsOf h).lose count := by
  have is : ∃ who : Word, s.loseHost h n count = ((s.modHs h (fun a => a.lose count)).note h n clsFault 0x082 who (wd count) 0).chime h bellOutput :=
    ⟨_, rfl⟩
  obtain ⟨who, is⟩ := is
  rw [is]
  refine ⟨((Apart.modHs ..).trans (Apart.note ..)).trans (Apart.chime ..), ?_⟩
  rw [State.chime_hsOf, State.note_hsOf, State.modHs_hsOf]

/-- One more crossing not heard passes the limit (R269). -/
def HelmState.losing (a : HelmState) : Bool :=
  a.modes.mode.watches && (a.hl == .expired || (a.hl == .watching && (chHostLoss a.charter).1)) && decide ((chHostLoss a.charter).2.2 < a.hlCount + 1)

/-- HOST_LOST at a helm. -/
def State.lostAt (g : HelmId) (s : State) : State :=
  if (s.hsOf g).losing then (s.loseHost g s.tb.crossing ((s.hsOf g).hlCount + 1)).modHs g HelmState.sendSafe else s

theorem execHostLost_eq {s : State} (live : s.live = true) : exec .hostLost s = .next (s.eachHelm State.lostAt) := by
  show execHostLost s = _
  unfold execHostLost
  rw [live]
  rfl

theorem State.lostAt_spec (g : HelmId) (s : State) : Apart g s (State.lostAt g s)
    ∧ (State.lostAt g s).hsOf g = if (s.hsOf g).losing then ((s.hsOf g).lose ((s.hsOf g).hlCount + 1)).sendSafe else s.hsOf g := by
  obtain ⟨apart, lost⟩ := s.loseHost_spec g s.tb.crossing ((s.hsOf g).hlCount + 1)
  unfold State.lostAt
  by_cases over_ : (s.hsOf g).losing = true
  · rw [if_pos over_, if_pos over_, State.modHs_hsOf, lost]
    exact ⟨apart.trans (.modHs ..), rfl⟩
  · rw [if_neg over_, if_neg over_]
    exact ⟨.refl g s, rfl⟩

theorem HelmState.lose_safe (a : HelmState) (count : Nat) : let b := (a.lose count).sendSafe
    b.hl = .lost ∧ b.hlCount = count ∧ b.forced = Vector.replicate 32 none ∧ (∀ q : Fin 32, b.pulses[q] = none)
      ∧ (∀ q : Fin 32, (chSafe a.charter q = 0 → b.man[q] = 0) ∧ (chSafe a.charter q = 1 → b.man[q] = 1)) ∧ b.modes = a.modes := by
  intro b
  obtain ⟨frame, ends⟩ := a.endAll_spec (List.finRange 32)
  have is : b = ((a.endAll (List.finRange 32)).lostWith count).sendSafe := rfl
  clear_value b
  generalize a.endAll (List.finRange 32) = e at frame ends is
  have charter : (e.lostWith count).holdSafe.charter = a.charter := (congrArg HelmState.charter frame :)
  rw [is]
  refine ⟨rfl, rfl, rfl, fun q => ends q (.inl (List.mem_finRange q)), fun q => ?_, (congrArg HelmState.modes frame :)⟩
  have man : (e.lostWith count).sendSafe.man[q] = (e.lostWith count).holdSafe.safeValue q := by
    unfold HelmState.sendSafe
    simp
  rw [man]
  unfold HelmState.safeValue
  rw [charter]
  exact ⟨fun is => by rw [is]; rfl, fun is => by rw [is]; rfl⟩

/-! ### HAIL-CHECK misses -/

theorem HelmState.hailMiss_spec {a : HelmState} {k : Fin 64} (check : bf ((chOrders a.charter).getD k []) 0 23 20 = 6)
    (good : (vat a.orders k {}).failed = false) : let b := a.hailMiss k
    vat b.orders k {} = { vat a.orders k {} with misses := (vat a.orders k {}).misses + 1 }
      ∧ b = { a with orders := b.orders } ∧ ∀ m : Fin 64, m ≠ k → b.orders[m] = a.orders[m] := by
  intro b
  have is : b = { a with orders := vset a.orders k { vat a.orders k {} with misses := (vat a.orders k {}).misses + 1 } } := by
    unfold b HelmState.hailMiss
    dsimp only
    rw [if_neg (by rw [check, good]; decide)]
  rw [is]
  refine ⟨?_, rfl, fun m apart => ?_⟩
  · unfold vset
    rw [dif_pos k.isLt]
    unfold vat
    rw [dif_pos k.isLt]
    simp
  · unfold vset
    rw [dif_pos k.isLt]
    exact Vector.getElem_set_ne k.isLt m.isLt fun is => apart (Fin.ext is.symm)

/-! ### Wake reads -/

theorem Told.apart {g : HelmId} {s t : State} {p : Port} {rs : List (Nat × Reply)} (k : Told g s t p rs) : Apart g s t := by
  refine ⟨?_, k.mach.calm.1⟩
  rw [k.aside.helm, k.mach.tests]

/-- A wake read is taken from those outstanding, and its words from the store (R355). -/
def State.takeRead (s : State) (h : HelmId) (p : Nat) (r : OutReq) : State :=
  (s.modHs h (fun hs => { hs with wakeReads := vmod hs.wakeReads p (fun l => l.drop 1) })).modHelm h (fun x =>
    { x with bulk := vmod x.bulk p (fun l => l.filter (fun e => e.1 < r.off || decide (r.off + min r.count (r.total - r.off) ≤ e.1))) })

/-- The words of a wake read that have come (R355). -/
def Helm.readGot (x : Helm) (p : Nat) (r : OutReq) : List Word :=
  (List.range (min r.count (r.total - r.off))).filterMap (fun j => assocGet (vat x.bulk p []) (r.off + j))

/-- The answer to a wake read (R355). -/
def OutReq.answer (r : OutReq) (got : List Word) : Reply :=
  if got.length < min r.count (r.total - r.off) then ⟨.notReady, r.tag.alive, r.eff, [], none⟩
  else ⟨if min r.count (r.total - r.off) < r.count then .addrOverrun else .ok, r.tag.alive, r.eff,
    bytesOfWords (got ++ List.replicate (r.count - min r.count (r.total - r.off)) noValue), none⟩

theorem State.wakeDone_eq (s : State) (h : HelmId) (p : Nat) (r : OutReq) :
    s.wakeDone h p r = (s.takeRead h p r).deliver h r.tag r.id false (r.answer ((s.helm h).readGot p r)) := by
  unfold State.wakeDone OutReq.answer Helm.readGot
  dsimp only
  split
  · rfl
  · rfl

theorem State.wakeDone_told (s : State) (h : HelmId) (p : Nat) (r : OutReq) :
    Told h (s.takeRead h p r) (s.wakeDone h p r) r.tag.port
      (if r.tag.gen = .ul1 then [] else [(r.id, r.answer ((s.helm h).readGot p r))]) := by
  rw [State.wakeDone_eq]
  have told := (s.takeRead h p r).deliver_told h r.tag r.id false (r.answer ((s.helm h).readGot p r))
  simpa using told

theorem State.takeRead_helm (s : State) (h : HelmId) (p : Nat) (r : OutReq) : (s.takeRead h p r).helm h = { s.helm h with
    hs := { s.hsOf h with wakeReads := vmod (s.hsOf h).wakeReads p (fun l => l.drop 1) }
    bulk := vmod (s.helm h).bulk p (fun l => l.filter (fun e => e.1 < r.off || decide (r.off + min r.count (r.total - r.off) ≤ e.1))) } := by
  unfold State.takeRead State.modHs
  rw [State.modHelm_helm, State.modHelm_helm]
  rfl

theorem State.wakeDue_apart (s : State) (h : HelmId) (n p : Nat) : Apart h s (s.wakeDue h n p) := by
  have done (r : OutReq) : Apart h s (s.wakeDone h p r) := ((Apart.modHs ..).trans (Apart.modHelm ..)).trans (s.wakeDone_told h p r).apart
  unfold State.wakeDue
  split
  · exact .ite (done _) (.refl h s)
  · exact .refl h s

/-- A wake read that is done, as its helm has it after the row (R355). -/
theorem State.wakeDone_helm (s : State) (h : HelmId) (p : Fin 4) (r : OutReq) : let t := s.wakeDone h p r
    (t.hsOf h).wakeReads[p] = (s.hsOf h).wakeReads[p].drop 1 ∧ (t.hsOf h).img = (s.hsOf h).img
      ∧ (t.helm h).bulk[p]
        = (s.helm h).bulk[p].filter (fun e => e.1 < r.off || decide (r.off + min r.count (r.total - r.off) ≤ e.1))
      ∧ (t.helm h).slip r.tag.port = (s.helm h).slip r.tag.port
      ∧ (t.helm h).waiting r.tag.port = (s.helm h).waiting r.tag.port
        ++ (if r.tag.gen = .ul1 then [] else [(r.id, r.answer ((s.helm h).readGot p r))]) := by
  intro t
  have told := s.wakeDone_told h p r
  have taken := s.takeRead_helm h p r
  have mid : (s.takeRead h p r).hsOf h = { s.hsOf h with wakeReads := vmod (s.hsOf h).wakeReads p (fun l => l.drop 1) } :=
    (congrArg Helm.hs taken :)
  have same (v : Vector (List OutReq) 4) : (vmod v p (fun l => l.drop 1))[p] = v[p].drop 1 := (getElem_vmod v p _ p).trans (if_pos rfl)
  have bulk : (t.helm h).bulk = ((s.takeRead h p r).helm h).bulk := (congrArg Helm.bulk (told.mach.helms h).frame :)
  refine ⟨?_, ?_, ?_, ?_, ?_⟩
  · have reads : (t.hsOf h).wakeReads = ((s.takeRead h p r).hsOf h).wakeReads := (congrArg HelmState.wakeReads told.like :)
    rw [reads, mid]
    exact same _
  · exact (congrArg HelmState.img told.like :).trans (congrArg HelmState.img mid :)
  · rw [bulk, taken]
    exact (getElem_vmod _ p _ p).trans (if_pos rfl)
  · rw [told.mach.calm.slip, taken]
    cases r.tag.port <;> rfl
  · rw [told.waiting, taken]
    cases r.tag.port <;> rfl

end Sys2Proof.Machine
end

section
/-! PROOFS. Events of passages, as a whole (R86, R151, R269, R355, R393, R398). -/

namespace Sys2Proof.Machine

section
variable {s : State} {h : HelmId}

/-! ### Timers -/

theorem State.pulseEnd_row (live : s.live = true) (computes : (s.helm h).svc.computes = true) (under : s.underWay) (q : Fin 32) :
    ∃ t, exec (.pulseEnd q) s = .next t ∧ t.hsOf h =
      (let hs := (s.openMode h s.tb.crossing).hsOf h
       if hs.pulseDue s.tb.crossing q then hs.endPulse q else hs) := by
  refine ⟨_, if_neg (by rw [live]; decide), ?_⟩
  exact State.eachHelm_hsOf (f := fun g v => v.modHs g (fun hs => if hs.pulseDue s.tb.crossing q then hs.endPulse q else hs))
    (F := fun hs => if hs.pulseDue s.tb.crossing q then hs.endPulse q else hs) (fun g v => .modHs ..) (fun v _ => State.modHs_hsOf ..) under computes

theorem State.challengeExpiry_row (live : s.live = true) (computes : (s.helm h).svc.computes = true) (under : s.underWay) (p : Port) :
    ∃ t, exec (.challengeExpiry p) s = .next t ∧ t.hsOf h = ((s.openMode h s.tb.crossing).hsOf h).chalEnds s.tb.crossing p := by
  refine ⟨_, if_neg (by rw [live]; decide), ?_⟩
  exact State.eachHelm_hsOf (f := fun g v => v.chalExpiry g v.tb.crossing p) (F := fun hs => hs.chalEnds s.tb.crossing p)
    (fun g v => (v.chalExpiry_spec ..).1) (fun v at_ => at_ ▸ (v.chalExpiry_spec ..).2) under computes

theorem State.lockoutEnd_row (live : s.live = true) (computes : (s.helm h).svc.computes = true) (under : s.underWay) (p : Port) :
    ∃ t, exec (.lockoutEnd p) s = .next t ∧ t.hsOf h = ((s.openMode h s.tb.crossing).hsOf h).lockEnds s.tb.crossing p := by
  refine ⟨_, if_neg (by rw [live]; decide), ?_⟩
  exact State.eachHelm_hsOf (f := fun g v => v.lockEnd g v.tb.crossing p) (F := fun hs => hs.lockEnds s.tb.crossing p)
    (fun g v => (v.lockEnd_spec ..).1) (fun v at_ => at_ ▸ (v.lockEnd_spec ..).2) under computes

/-- The crossings in which a port was heard are noted (R268). -/
def HelmState.hearsTo (a : HelmState) (n : Nat) (p : Port) : HelmState := (a.drainHeard n).noteHeard n p

/-- The part of ROLE_IDLE_EXPIRY at a helm. -/
def HelmState.idleEnds (a : HelmState) (p : Port) : HelmState :=
  a.putRole p { a.role p with held := none, chal := none
                              fp := if (a.role p).held = none ∧ (a.role p).chal = none then (a.role p).fp else 0 }

theorem State.roleIdleExpiry_row (live : s.live = true) (computes : (s.helm h).svc.computes = true) (under : s.underWay) (p : Port) :
    let heard := ((s.openMode h s.tb.crossing).hsOf h).hearsTo s.tb.crossing p
    ∃ t, exec (.roleIdleExpiry p) s = .next t ∧ (heard.idles s.tb.crossing p → t.hsOf h = heard.idleEnds p)
      ∧ (¬ heard.idles s.tb.crossing p → t.hsOf h = heard) := by
  intro heard
  refine ⟨_, if_neg (by rw [live]; decide), ?_⟩
  obtain ⟨v, helm, crossing, row⟩ := State.eachHelm_at
    (f := fun g v => (v.modHs g (fun hs => hs.hearsTo v.tb.crossing p)).roleIdle g v.tb.crossing p)
    (fun g v => (Apart.modHs ..).trans (State.roleIdle_apart ..)) under computes
  have hs : (s.eachHelm (fun g v => (v.modHs g (fun hs => hs.hearsTo v.tb.crossing p)).roleIdle g v.tb.crossing p)).hsOf h
      = ((v.modHs h (fun hs => hs.hearsTo v.tb.crossing p)).roleIdle h v.tb.crossing p).hsOf h := congrArg Helm.hs row
  have noted : (v.modHs h (fun hs => hs.hearsTo v.tb.crossing p)).hsOf h = heard := by
    rw [State.modHs_hsOf, crossing]
    exact congrArg (fun x : Helm => x.hs.hearsTo s.tb.crossing p) helm
  obtain ⟨idle, busy⟩ := (v.modHs h (fun hs => hs.hearsTo v.tb.crossing p)).roleIdle_hsOf h v.tb.crossing p
  rw [State.endRole_hsOf] at idle
  rw [noted, crossing] at idle busy
  rw [crossing] at hs
  exact ⟨fun is => hs.trans (idle is), fun no => hs.trans (busy no)⟩

theorem HelmState.hearsTo_spec (a : HelmState) (n : Nat) (p : Port) : let heard := a.hearsTo n p
    heard = ({ a with heard := heard.heard, evs := heard.evs } : HelmState).putRole p { a.role p with lastHeard := (heard.role p).lastHeard }
      ∧ (a.evs = [] → a.heard = [] → (heard.role p).lastHeard = (a.role p).lastHeard)
      ∧ (∀ c, a.evs = [] → a.heard = [(p, c)] → (a.role p).lastHeard ≤ c → c + 2 ≤ n → n < c + 4 → (heard.role p).lastHeard = c) := by
  intro heard
  have last : (heard.role p).lastHeard
      = (((a.drainHeard n).heard.filter (fun e => e.1 = p && e.2 + 2 ≤ n)).map (·.2)).foldl max (a.role p).lastHeard := by
    unfold heard HelmState.hearsTo HelmState.noteHeard
    dsimp only
    rw [HelmState.modRole_eq, HelmState.role_putRole]
    cases p <;> rfl
  refine ⟨?_, fun evs none_ => ?_, fun c evs one le done fresh => ?_⟩
  · unfold heard HelmState.hearsTo HelmState.noteHeard
    dsimp only
    rw [HelmState.modRole_eq]
    cases p <;> rfl
  · rw [last]
    simp [HelmState.drainHeard, evs, none_]
  · rw [last]
    simp [HelmState.drainHeard, evs, one, done, fresh, le]

/-! ### Events of orders and of the host -/

theorem State.hostLost_row (live : s.live = true) (computes : (s.helm h).svc.computes = true) (under : s.underWay) :
    ∃ t, exec .hostLost s = .next t ∧ t.hsOf h =
      (let hs := (s.openMode h s.tb.crossing).hsOf h
       if hs.losing then (hs.lose (hs.hlCount + 1)).sendSafe else hs) := by
  refine ⟨_, execHostLost_eq live, ?_⟩
  exact State.eachHelm_hsOf (F := fun hs => if hs.losing then (hs.lose (hs.hlCount + 1)).sendSafe else hs)
    (fun g v => (State.lostAt_spec g v).1) (fun v _ => (State.lostAt_spec h v).2) under computes

theorem State.hailCheckMiss_row (live : s.live = true) (computes : (s.helm h).svc.computes = true) (under : s.underWay) (k : Fin 64) :
    ∃ t, exec (.hailCheckMiss k) s = .next t ∧ t.hsOf h = ((s.openMode h s.tb.crossing).hsOf h).hailMiss k := by
  refine ⟨_, if_neg (by rw [live]; decide), ?_⟩
  exact State.eachHelm_hsOf (f := fun g v => v.modHs g (fun hs => hs.hailMiss k)) (F := fun hs => hs.hailMiss k) (fun g v => .modHs ..)
    (fun v _ => State.modHs_hsOf ..) under computes

/-! ### Wake reads -/

/-- A helm whose mode words have been noted holds what it held. -/
theorem State.openMode_helm (s : State) (h : HelmId) (n : Nat) :
    (s.openMode h n).helm h = { s.helm h with hs := { s.hsOf h with modes := ((s.openMode h n).hsOf h).modes } } := by
  unfold State.openMode State.modHs State.hsOf
  rw [State.modHelm_helm]

theorem State.wakeRead_row (live : s.live = true) (computes : (s.helm h).svc.computes = true) (under : s.underWay) (p : Fin 4) {r : OutReq}
    {l : List OutReq} (reads : (s.hsOf h).wakeReads[p] = r :: l) : ∃ t, exec (.wakeReadComplete p) s = .next t
      ∧ (r.doneAt ≤ s.tb.crossing → (t.hsOf h).wakeReads[p] = l ∧ (t.hsOf h).img = (s.hsOf h).img
        ∧ (t.helm h).bulk[p] = (s.helm h).bulk[p].filter (fun e => e.1 < r.off || decide (r.off + min r.count (r.total - r.off) ≤ e.1))
        ∧ (t.helm h).slip r.tag.port = (s.helm h).slip r.tag.port
        ∧ (t.helm h).waiting r.tag.port = (s.helm h).waiting r.tag.port
          ++ (if r.tag.gen = .ul1 then [] else [(r.id, r.answer ((s.helm h).readGot p r))]))
      ∧ (s.tb.crossing < r.doneAt → t.helm h = (s.openMode h s.tb.crossing).helm h) := by
  refine ⟨_, if_neg (by rw [live]; decide), ?_⟩
  obtain ⟨v, helm, crossing, row⟩ := State.eachHelm_at (f := fun g v => v.wakeDue g v.tb.crossing p) (fun g v => v.wakeDue_apart g _ p) under computes
  have opened := s.openMode_helm h s.tb.crossing
  have due : vat (v.hsOf h).wakeReads p [] = r :: l := by
    have same : (v.hsOf h).wakeReads = (s.hsOf h).wakeReads := (congrArg (fun x : Helm => x.hs.wakeReads) (helm.trans opened) :)
    rw [same, ← reads]
    exact dif_pos p.isLt
  have whole : (s.eachHelm (fun g v => v.wakeDue g v.tb.crossing p)).helm h = (v.wakeDue h s.tb.crossing p).helm h := by
    rw [row, crossing]
  have hs : (s.eachHelm (fun g v => v.wakeDue g v.tb.crossing p)).hsOf h = (v.wakeDue h s.tb.crossing p).hsOf h := congrArg Helm.hs whole
  have does : v.wakeDue h s.tb.crossing p = if r.doneAt ≤ s.tb.crossing then v.wakeDone h p r else v := by
    unfold State.wakeDue
    rw [due]
    rfl
  rw [whole, hs, does]
  refine ⟨fun come => ?_, fun early => ?_⟩
  · rw [if_pos come]
    obtain ⟨taken, img, bulk, slip, waiting⟩ := v.wakeDone_helm h p r
    have at_ : v.helm h = { s.helm h with hs := { s.hsOf h with modes := ((s.openMode h s.tb.crossing).hsOf h).modes } } := helm.trans opened
    have got : (v.helm h).readGot p r = (s.helm h).readGot p r := by
      rw [at_]
      rfl
    have list : (v.hsOf h).wakeReads[p] = r :: l := by
      rw [← due]
      exact (dif_pos p.isLt).symm
    rw [got] at waiting
    refine ⟨taken.trans (by rw [list]; rfl), img.trans (congrArg (fun x : Helm => x.hs.img) at_ :),
      bulk.trans ?_, slip.trans ?_, waiting.trans ?_⟩
    · rw [at_]
    · rw [at_]
      cases r.tag.port <;> rfl
    · rw [at_]
      cases r.tag.port <;> rfl
  · rw [if_neg (by omega)]
    exact helm

end

/-! ### The statement -/

/-- The answer to a wake read whose words have all come (R355). -/
theorem OutReq.answer_whole {r : OutReq} {x : Helm} {p : Fin 4} (inside : r.off + r.count ≤ r.total)
    (come : ((List.range r.count).filterMap (fun j => assocGet x.bulk[p] (r.off + j))).length = r.count) :
    r.answer (x.readGot p r) = ⟨.ok, r.tag.alive, r.eff, bytesOfWords ((List.range r.count).filterMap (fun j => assocGet x.bulk[p] (r.off + j))), none⟩ := by
  have want : min r.count (r.total - r.off) = r.count := by omega
  have got : x.readGot p r = (List.range r.count).filterMap (fun j => assocGet x.bulk[p] (r.off + j)) := by
    unfold Helm.readGot vat
    rw [want, dif_pos p.isLt]
    rfl
  unfold OutReq.answer
  rw [got, want, if_neg (by omega), if_neg (by omega)]
  simp

/-- And where some have not. -/
theorem OutReq.answer_short {r : OutReq} {x : Helm} {p : Fin 4} (inside : r.off + r.count ≤ r.total)
    (short : ((List.range r.count).filterMap (fun j => assocGet x.bulk[p] (r.off + j))).length < r.count) :
    r.answer (x.readGot p r) = ⟨.notReady, r.tag.alive, r.eff, [], none⟩ := by
  have want : min r.count (r.total - r.off) = r.count := by omega
  have got : x.readGot p r = (List.range r.count).filterMap (fun j => assocGet x.bulk[p] (r.off + j)) := by
    unfold Helm.readGot vat
    rw [want, dif_pos p.isLt]
    rfl
  unfold OutReq.answer
  rw [got, want, if_pos short]

/-- Settles O43: each event is made in every helm that computes, and in each on its own. -/
theorem eventsOfPassages : Obligations.EventsOfPassages := by
  refine ⟨fun s h live computes under => ?_, fun s h live computes under => ?_, fun s h p r l live computes under reads => ?_⟩
  · intro n hs put
    have put_eq (a : HelmState) (p : Port) (r : RoleSt) : put a p r = a.putRole p r := by cases p <;> rfl
    refine ⟨fun q => ?_, fun p => ?_, fun p => ?_, fun p => ?_⟩
    · obtain ⟨t, row, is⟩ := State.pulseEnd_row live computes under q
      refine ⟨t, row, fun l pulse due => ?_, fun later => ?_⟩
      · refine is.trans (if_pos ?_)
        unfold HelmState.pulseDue
        rw [pulse]
        exact decide_eq_true due
      · refine is.trans (if_neg ?_)
        unfold HelmState.pulseDue
        split
        · next l pulse =>
          have := later l pulse
          simp only [decide_eq_true_eq]
          omega
        · exact Bool.false_ne_true
    · obtain ⟨t, row, is⟩ := State.challengeExpiry_row live computes under p
      refine ⟨t, row, fun ⟨c, chal, due⟩ => ?_, fun later => ?_⟩
      · rw [is, HelmState.chalEnds, chal, put_eq]
        exact (if_pos due).trans (HelmState.modRole_eq ..)
      · rw [is, HelmState.chalEnds]
        split
        · next c chal => exact if_neg (Nat.not_le.2 (later c chal))
        · rfl
    · obtain ⟨t, row, is⟩ := State.lockoutEnd_row live computes under p
      refine ⟨t, row, fun ⟨c, lock, due⟩ => ?_, fun later => ?_⟩
      · rw [is, HelmState.lockEnds, lock, put_eq]
        exact (if_pos due).trans (HelmState.modRole_eq ..)
      · rw [is, HelmState.lockEnds]
        split
        · next c lock => exact if_neg (Nat.not_le.2 (later c lock))
        · rfl
    · obtain ⟨t, row, idle, busy⟩ := State.roleIdleExpiry_row live computes under p
      obtain ⟨frame, none_, one⟩ := hs.hearsTo_spec n p
      refine ⟨t, row, ?_⟩
      intro lim heard
      have charter : heard.charter = hs.charter := by
        refine (congrArg HelmState.charter frame :).trans ?_
        cases p <;> rfl
      have role : heard.role p = { hs.role p with lastHeard := (heard.role p).lastHeard } :=
        (congrArg (fun a : HelmState => a.role p) frame :).trans (HelmState.role_putRole ..)
      have idles : heard.idles n p ↔ lim ≠ 0 ∧ hs.crossings lim ≤ n - 2 - (heard.role p).lastHeard := by
        unfold HelmState.idles HelmState.crossings HelmState.strokeTide
        rw [charter]
      refine ⟨by rw [put_eq]; exact frame, none_, one, fun some_ due => ?_, fun early => ?_⟩
      · rw [put_eq, idle (idles.2 ⟨some_, due⟩), HelmState.idleEnds]
        have held : (heard.role p).held = (hs.role p).held := (congrArg RoleSt.held role :)
        have chal : (heard.role p).chal = (hs.role p).chal := (congrArg RoleSt.chal role :)
        have fp : (heard.role p).fp = (hs.role p).fp := (congrArg RoleSt.fp role :)
        rw [← held, ← chal, ← fp]
        rfl
      · refine busy fun is => ?_
        obtain ⟨some_, due⟩ := idles.1 is
        rcases early with zero | early
        · exact some_ zero
        · omega
  · intro hs r
    refine ⟨fun watching on modes over_ => ?_, fun stands => ?_, fun k => ?_⟩
    · obtain ⟨t, row, is⟩ := State.hostLost_row live computes under
      have losing : hs.losing = true := by
        have watches : hs.modes.mode.watches = true := by
          unfold Mode.watches
          rcases modes with is | is
          · rw [is]
            rfl
          · rw [is, Bool.or_true]
        unfold HelmState.losing
        rw [watches, watching, show (chHostLoss hs.charter).1 = true from on, decide_eq_true over_]
        rfl
      have lost : t.hsOf h = _ := is.trans (if_pos losing)
      refine ⟨t, row, ?_⟩
      rw [lost]
      exact hs.lose_safe _
    · obtain ⟨t, row, is⟩ := State.hostLost_row live computes under
      refine ⟨t, row, is.trans (if_neg fun losing => ?_)⟩
      unfold HelmState.losing at losing
      simp only [Bool.and_eq_true, decide_eq_true_eq] at losing
      rcases stands with lost | below
      · rw [show (hs.hl) = .lost from lost] at losing
        exact absurd losing.1.2 Bool.false_ne_true
      · exact absurd losing.2 (Nat.not_lt.2 below)
    · intro b o check good
      obtain ⟨t, row, is⟩ := State.hailCheckMiss_row live computes under k
      refine ⟨t, row, ?_⟩
      rw [is]
      exact HelmState.hailMiss_spec check good
  · intro got all
    obtain ⟨t, row, come, early⟩ := State.wakeRead_row live computes under p reads
    refine ⟨fun due inside whole gen => ?_, fun due inside short gen => ?_, fun later => ?_⟩
    · obtain ⟨left_, img, bulk, slip, waiting⟩ := come due
      have want : min r.count (r.total - r.off) = r.count := by omega
      rw [if_neg gen, OutReq.answer_whole inside whole] at waiting
      rw [want] at bulk
      refine ⟨t, row, left_, ?_, ?_, bulk, img⟩
      · show (t.helm h).slip _ ++ (t.helm h).waiting _ = _
        rw [slip, waiting, ← List.append_assoc]
      · rw [slip]
        exact Nat.le_max_right ..
    · obtain ⟨left_, -, -, slip, waiting⟩ := come due
      rw [if_neg gen, OutReq.answer_short inside short] at waiting
      refine ⟨t, row, left_, ?_⟩
      show (t.helm h).slip _ ++ (t.helm h).waiting _ = _
      rw [slip, waiting, ← List.append_assoc]
    · have same := early later
      refine ⟨t, row, congrArg Helm.hs same, ?_⟩
      rw [same, State.openMode_helm]
      cases r.tag.port <;> rfl

end Sys2Proof.Machine
end

section
/-! PROOFS. A HAIL-CHECK order of MISS_LIMIT 0 (R86): its target's code is seen, and the order acts all the same. -/

namespace Sys2Proof.Machine

/-- A HAIL-CHECK order on Q0 by the input 0, with MISS_LIMIT 0, which the charter's checks refuse (R87). -/
def hailOrder : List Word := [0x600000, 0]

/-- The code of Q0, heard at the input 0 in a slot in which Q0 took action. -/
def codeHeard : HailHeard := ⟨0, 0, true, true⟩

/-- A report that brings it. -/
def hailReport : Report := { Tests.repT with hails := [codeHeard] }

/-- A helm state with that report of pontoon 0. -/
def hailHelm : HelmState := { Tests.up.helmA.hs with reps := (Vector.replicate 4 none).set 0 (some hailReport) }

/-- The manifest in the making at that helm. -/
def hailRun : OrdRun := ⟨hailHelm.img, hailHelm, false⟩

/-- The order's result is 0, as though the code had been missed. -/
theorem hailRun_result : (vat (hailRun.eval 0 0 hailOrder).hs.orders 0 {}).result = false := by decide +kernel

theorem hailRun_report : vat hailRun.hs.reps (bf hailOrder 1 23 16 / 8) none = some hailReport := by decide +kernel

/-- Refutes O42: the clause on a HAIL-CHECK order whose target's code was heard gives it the result 1 whatever its MISS_LIMIT; with
MISS_LIMIT 0, which no check of a charter lets pass but the statement does not rule out, no miss at all is needed for the result 0. -/
theorem not_passage : ¬ Obligations.Passage := by
  intro h
  obtain ⟨-, -, -, orders, -⟩ := h
  obtain ⟨-, -, -, -, -, -, -, -, -, -, -, -, heard⟩ := orders hailRun 0 0 hailOrder (by decide)
  obtain ⟨seen, -⟩ := heard hailReport codeHeard (by decide) hailRun_report rfl (by decide) (by decide) rfl
  obtain ⟨⟨-, one⟩, -⟩ := seen rfl
  exact Bool.false_ne_true (hailRun_result.symm.trans one)

end Sys2Proof.Machine
end

section
/-! PROOFS. CRC-32C (R158) tells two messages apart that differ in one bit. -/

namespace Sys2Proof.Machine

/-! ### The register, for two messages at once -/

section
variable {w : Nat} {poly : BitVec w}

/-- Two registers through the same bit: their difference passes as a register of its own. -/
theorem crcStep_xor (r q : BitVec w) (b : Bool) : crcStep poly r b ^^^ crcStep poly q b = crcStep poly (r ^^^ q) false := by
  unfold crcStep
  rw [BitVec.getLsbD_xor, BitVec.shiftLeft_xor_distrib]
  generalize r <<< 1 = u, q <<< 1 = v
  refine BitVec.eq_of_getLsbD_eq fun i _ => ?_
  cases r.getLsbD (w - 1) <;> cases q.getLsbD (w - 1) <;> cases b <;> simp [Bool.xor_comm, Bool.xor_left_comm]

theorem crcStep_injective (odd : poly.getLsbD 0 = true) (b : Bool) : Function.Injective (fun r => crcStep poly r b) := by
  intro r q same
  have zero : crcStep poly (r ^^^ q) ((0#w).getLsbD (w - 1)) = 0#w <<< 1 := by
    rw [BitVec.getLsbD_zero, ← crcStep_xor r q b, show crcStep poly r b = crcStep poly q b from same, BitVec.xor_self, BitVec.zero_shiftLeft]
  exact BitVec.xor_eq_zero_iff.1 ((crcStep_eq_shiftLeft_iff odd _ _).1 zero)

theorem foldl_crcStep_injective (odd : poly.getLsbD 0 = true) : ∀ l : List Bool, Function.Injective (fun r => l.foldl (crcStep poly) r)
  | [], _, _, same => same
  | b :: l, _, _, same => crcStep_injective odd b (foldl_crcStep_injective odd l same)

/-- A bit and its opposite leave different registers. -/
theorem crcStep_bit_ne (odd : poly.getLsbD 0 = true) (r : BitVec w) : crcStep poly r false ≠ crcStep poly r true := by
  intro same
  have lowest := congrArg (BitVec.getLsbD · 0) same
  unfold crcStep at lowest
  generalize r.getLsbD (w - 1) = top at lowest
  cases top <;> simp [odd] at lowest

/-- Messages that differ in one bit leave different registers. -/
theorem foldl_crcStep_ne (odd : poly.getLsbD 0 = true) (r : BitVec w) (k l : List Bool) :
    (k ++ false :: l).foldl (crcStep poly) r ≠ (k ++ true :: l).foldl (crcStep poly) r := by
  rw [List.foldl_append, List.foldl_append, List.foldl_cons, List.foldl_cons]
  exact fun same => crcStep_bit_ne odd _ (foldl_crcStep_injective odd l same)

end

/-! ### The register, reflected -/

/-- The lowest j bits of a number, the lowest first, spelling a number most significant bit first. -/
def turned (n : Nat) : Nat → Nat
  | 0 => 0
  | j + 1 => 2 * turned n j + (n.testBit j).toNat

theorem turned_inj {n m : Nat} : ∀ j, turned n j = turned m j → ∀ k < j, n.testBit k = m.testBit k
  | 0, _, k, lt => absurd lt (Nat.not_lt_zero k)
  | j + 1, same, k, lt => by
    unfold turned at same
    have bit (b : Bool) : b.toNat ≤ 1 := Bool.toNat_le b
    have below := bit (n.testBit j)
    have below' := bit (m.testBit j)
    rcases Nat.lt_succ_iff_lt_or_eq.1 lt with lt | rfl
    · exact turned_inj j (by omega) k lt
    · have bits : (n.testBit k).toNat = (m.testBit k).toNat := by omega
      revert bits
      cases n.testBit k <;> cases m.testBit k <;> decide

theorem reflectN_turned (w n : Nat) : reflectN w n = turned n w := by
  have part : ∀ j ≤ w, (List.range j).foldl (fun a k => a + (if n.testBit k then 2 ^ (w - 1 - k) else 0)) 0 = 2 ^ (w - j) * turned n j := by
    intro j
    induction j with
    | zero => exact fun _ => (Nat.mul_zero _).symm
    | succ j ih =>
      intro le
      rw [List.range_succ, List.foldl_append, ih (Nat.le_of_succ_le le), List.foldl_cons, List.foldl_nil, turned]
      obtain ⟨d, rfl⟩ := Nat.exists_eq_add_of_le le
      rw [show j + 1 + d - j = d + 1 by omega, show j + 1 + d - (j + 1) = d by omega, show j + 1 + d - 1 - j = d by omega]
      cases n.testBit j <;> simp <;> ring
  have whole := part w (Nat.le_refl w)
  rwa [Nat.sub_self, pow_zero, Nat.one_mul] at whole

theorem turned_lt (n : Nat) : ∀ j, turned n j < 2 ^ j
  | 0 => Nat.one_pos
  | j + 1 => by
    have ih := turned_lt n j
    have bit : (n.testBit j).toNat ≤ 1 := Bool.toNat_le _
    unfold turned
    rw [pow_succ]
    omega

/-! ### CRC-32C -/

/-- The bits of bytes in the order in which CRC-32C takes them. -/
def bitsLow (bs : List Byte) : List Bool := bs.flatMap (fun b => (bitsOfByte b).reverse)

theorem crcRun_low {w : Nat} (poly r : BitVec w) (bs : List Byte) :
    crcRun w poly.toNat true r.toNat bs = ((bitsLow bs).foldl (crcStep poly) r).toNat := by
  unfold bitsLow
  rw [List.foldl_flatMap]
  exact List.foldl_hom BitVec.toNat fun r b => List.foldl_hom BitVec.toNat fun r b => crcBit_eq_crcStep poly r b

theorem crc32c_ne {bs cs : List Byte} (differ : (bitsLow bs).foldl (crcStep 0x1EDC6F41#32) 0xFFFFFFFF#32
    ≠ (bitsLow cs).foldl (crcStep 0x1EDC6F41#32) 0xFFFFFFFF#32) : crc32c bs ≠ crc32c cs := by
  intro same
  unfold crc32c at same
  rw [show crcRun 32 0x1EDC6F41 true 0xFFFFFFFF bs = _ from crcRun_low 0x1EDC6F41#32 0xFFFFFFFF#32 bs,
    show crcRun 32 0x1EDC6F41 true 0xFFFFFFFF cs = _ from crcRun_low 0x1EDC6F41#32 0xFFFFFFFF#32 cs] at same
  generalize (bitsLow bs).foldl (crcStep 0x1EDC6F41#32) 0xFFFFFFFF#32 = r at same differ
  generalize (bitsLow cs).foldl (crcStep 0x1EDC6F41#32) 0xFFFFFFFF#32 = q at same differ
  rw [reflectN_turned, reflectN_turned] at same
  have equal : turned r.toNat 32 = turned q.toNat 32 := by
    have nat := congrArg BitVec.toNat same
    rw [BitVec.toNat_ofNat, BitVec.toNat_ofNat, Nat.mod_eq_of_lt (Nat.xor_lt_two_pow (turned_lt ..) (by decide)),
      Nat.mod_eq_of_lt (Nat.xor_lt_two_pow (turned_lt ..) (by decide))] at nat
    exact Nat.xor_right_injective.eq_iff.1 (by rwa [Nat.xor_comm, Nat.xor_comm 0xFFFFFFFF])
  exact differ (BitVec.eq_of_getLsbD_eq fun i lt => turned_inj 32 equal i lt)

/-- A 32-bit CRC in two words of the header (R452). -/
theorem crc_split (x : BitVec 32) :
    BitVec.ofNat 32 (fld (wd (x.toNat / 65536)) 15 0 * 65536 + fld (wd (x.toNat % 65536)) 15 0) = x := by
  have lt := x.isLt
  have low : fld (wd (x.toNat % 65536)) 15 0 = x.toNat % 65536 := by
    show (x.toNat % 65536 % 2 ^ 24) >>> 0 % 2 ^ 16 = _
    rw [Nat.shiftRight_zero]
    omega
  have high : fld (wd (x.toNat / 65536)) 15 0 = x.toNat / 65536 := by
    show (x.toNat / 65536 % 2 ^ 24) >>> 0 % 2 ^ 16 = _
    rw [Nat.shiftRight_zero]
    omega
  rw [low, high, Nat.div_add_mod']
  exact BitVec.eq_of_toNat_eq (Nat.mod_eq_of_lt lt)

/-- Words that differ in one bit of the last one have different CRCs. -/
theorem crcWords_ne (l : List Word) : crcWords (l ++ [0xDFFFFF]) ≠ crcWords (l ++ [0xFFFFFF]) := by
  unfold crcWords bytesOfWords
  refine crc32c_ne ?_
  rw [List.flatMap_append, List.flatMap_append]
  generalize l.flatMap bytesOfWord = bs
  have low : bitsLow (bs ++ [(0xDFFFFF : Word)].flatMap bytesOfWord)
      = (bitsLow bs ++ List.replicate 5 true) ++ false :: List.replicate 18 true := by
    unfold bitsLow
    rw [List.flatMap_append, List.append_assoc]
    exact congrArg _ (by decide)
  have high : bitsLow (bs ++ [(0xFFFFFF : Word)].flatMap bytesOfWord)
      = (bitsLow bs ++ List.replicate 5 true) ++ true :: List.replicate 18 true := by
    unfold bitsLow
    rw [List.flatMap_append, List.append_assoc]
    exact congrArg _ (by decide)
  rw [low, high]
  exact foldl_crcStep_ne (poly := 0x1EDC6F41#32) (by decide) _ _ _

end Sys2Proof.Machine
end

section
/-! PROOFS. CHARTER_LOAD with an image table whose image reaches beyond its slot into the table itself (R468, R469): NVM-B's copy of the image is
whole before the table is written there and not after. -/

namespace Sys2Proof.Machine

/-! ### The image table written -/

theorem Bank.reads_last (b : Bank) (a n : Nat) : b.reads a (n + 1) = b.reads a n ++ [b.read (a + n)] := by
  unfold Bank.reads
  rw [List.range_succ, List.map_append]
  rfl

theorem Bank.writes_table (x : Bank) {t : List Word} (len : t.length = 11) : let y := x.writes imgBase (imgTableWords t)
    y.reads imgBase 11 = t ∧ y.tableOk = true := by
  intro y
  have all : y.reads imgBase (11 + 1) = t ++ [crc24 (bytesOfWords t)] := by
    have whole := Bank.reads_writes (imgTableWords t) x (a := imgBase) (by rw [imgTableWords, List.length_append, len]; exact (by decide : imgBase + 12 ≤ bankWords))
    rwa [show (imgTableWords t).length = 11 + 1 by rw [imgTableWords, List.length_append, len]; rfl] at whole
  rw [Bank.reads_last] at all
  obtain ⟨words, check⟩ := List.append_inj' all rfl
  refine ⟨words, ?_⟩
  unfold Bank.tableOk
  rw [words, List.head_eq_of_cons_eq check]
  exact beq_self_eq_true _

/-! ### The table and the banks -/

/-- The words from the base of slot 1 up to the image table. -/
abbrev gapWords : Nat := 43776

/-- A table that has helm B load slot 1, whose image ends with the table's own first word, and has the CRC x. -/
def crossedTable (x : BitVec 32) : List Word :=
  [0xDFFFFF, 0, 0, 0, 0, 0, 0, wd (gapWords + 1), wd (x.toNat / 65536), wd (x.toNat % 65536), 0]

/-- Whether the image of slot 1 in a bank has the CRC x. -/
theorem imageIntact_crossed (b : Bank) (x : BitVec 32) :
    imageIntact b (crossedTable x) 1 = (crcWords (b.reads (imgSlotBase 1) (gapWords + 1)) == x) := by
  unfold imageIntact
  exact congrArg (crcWords (b.reads (imgSlotBase 1) (gapWords + 1)) == ·) (crc_split x)

/-- The image of slot 1 in a blank bank. -/
theorem blank_image : (({} : Bank)).reads (imgSlotBase 1) (gapWords + 1) = (({} : Bank)).reads (imgSlotBase 1) gapWords ++ [0xFFFFFF] := by
  rw [Bank.reads_last]
  rfl

/-- The image of slot 1 once the table is written in a bank that is blank below it. -/
theorem written_image {x : Bank} (below : ∀ a < imgBase, x.read a = (({} : Bank)).read a) (c : BitVec 32) :
    (x.writes imgBase (imgTableWords (crossedTable c))).reads (imgSlotBase 1) (gapWords + 1)
      = (({} : Bank)).reads (imgSlotBase 1) gapWords ++ [0xDFFFFF] := by
  rw [Bank.reads_last _ _ gapWords]
  refine congrArg₂ (· ++ ·) ?_ ?_
  · refine Bank.reads_congr fun a _ lt => ?_
    have lt : a < imgBase := lt
    rw [Bank.read_writes_other _ _ fun h => absurd h.1 (Nat.not_le.2 lt), below a lt]
  · have first := (x.writes_table (t := crossedTable c) rfl).1
    rw [show (11 : Nat) = 10 + 1 from rfl, Bank.reads_succ] at first
    exact congrArg (fun w => [w]) (List.head_eq_of_cons_eq first)

/-! ### The machine -/

/-- Helm B is to load; NVM-A holds that table, NVM-B is blank. -/
def crossed (x : BitVec 32) : State :=
  { Tests.copies none none none with nvmA := (({} : Bank)).writes imgBase (imgTableWords (crossedTable x)), nvmB := {} }

theorem crossed_loads (x : BitVec 32) : (crossed x).live = true ∧ ((crossed x).helm .b).svc = .starting ∧ ((crossed x).helm .b).testing = false
    ∧ ((crossed x).helm .b).bistFail = false ∧ ((crossed x).helm .b).loaded = false := by
  have is : (Tests.copies none none none).live = true ∧ ((Tests.copies none none none).helm .b).svc = .starting
      ∧ ((Tests.copies none none none).helm .b).testing = false ∧ ((Tests.copies none none none).helm .b).bistFail = false
      ∧ ((Tests.copies none none none).helm .b).loaded = false := by decide +kernel
  exact is

theorem crossed_imgTable (x : BitVec 32) : (crossed x).imgTable = crossedTable x := by
  obtain ⟨words, whole⟩ := (({} : Bank)).writes_table (t := crossedTable x) rfl
  exact (if_pos whole).trans words

theorem crossed_below (x : BitVec 32) (b : Bool) (a : Nat) (lt : a < imgBase) : ((crossed x).bank b).read a = (({} : Bank)).read a := by
  cases b
  · exact Bank.read_writes_other _ _ fun h => absurd h.1 (Nat.not_le.2 lt)
  · rfl

/-- No copy of a charter is intact. -/
theorem crossed_copyOk (x : BitVec 32) (c : Nat) : (crossed x).copyOk c = false := by
  have len : (crossed x).copyLen c = 0xFFFFFF := by
    unfold State.copyLen
    rw [crossed_below x _ _ (by unfold copyRegion; split <;> decide)]
    unfold copyRegion
    split <;> rfl
  unfold State.copyOk
  dsimp only
  rw [len]
  rfl

/-! ### The row -/

section
variable {s : State} {h : HelmId}

theorem execCharterLoad_boot (live : s.live = true) (starting : (s.helm h).svc = .starting) (tested : (s.helm h).testing = false)
    (passed : (s.helm h).bistFail = false) (unloaded : (s.helm h).loaded = false) : ∃ t, exec (.charterLoad h) s = .next t
      ∧ (t.helm h).boot = (((s.readCopies.readTable.writeImgTable s.imgTable).loadImage h s.imgTable).helm h).boot := by
  have loads : ¬(!(s.live && (s.helm h).svc == .starting && !(s.helm h).testing && !(s.helm h).bistFail && !(s.helm h).loaded)) = true := by
    simp [live, starting, tested, passed, unloaded]
  show ∃ t, execCharterLoad h s = .next t ∧ _
  unfold execCharterLoad
  dsimp only
  rw [if_neg loads]
  generalize (s.readCopies.readTable.writeImgTable s.imgTable).loadImage h s.imgTable = u
  refine ⟨_, rfl, ?_⟩
  split <;> cases h <;> rfl

theorem State.readTable_banks (s : State) : s.readTable.nvmA = s.nvmA ∧ s.readTable.nvmB = s.nvmB := by
  unfold State.readTable
  dsimp only
  generalize s.nvmA.tableOk = whole
  cases whole <;> exact ⟨rfl, rfl⟩

theorem State.foldl_readCopy_banks : ∀ (l : List Nat) (s : State), (l.foldl State.readCopy s).nvmA = s.nvmA ∧ (l.foldl State.readCopy s).nvmB = s.nvmB
  | [], _ => ⟨rfl, rfl⟩
  | c :: l, s => State.foldl_readCopy_banks l (s.readCopy c)

/-- The banks once the table is written. -/
theorem State.tableWritten_banks (s : State) (t : List Word) : (s.readCopies.readTable.writeImgTable t).nvmA = s.nvmA.writes imgBase (imgTableWords t)
    ∧ (s.readCopies.readTable.writeImgTable t).nvmB = s.nvmB.writes imgBase (imgTableWords t) := by
  obtain ⟨a, b⟩ := State.foldl_readCopy_banks (List.range 3) s
  obtain ⟨a', b'⟩ := s.readCopies.readTable_banks
  exact ⟨congrArg (fun x : Bank => x.writes imgBase (imgTableWords t)) (a'.trans a),
    congrArg (fun x : Bank => x.writes imgBase (imgTableWords t)) (b'.trans b)⟩

theorem State.loadImage_broken {t : List Word} (slot : bootOf t h < 2) (a : imageIntact s.nvmA t (bootOf t h) = false)
    (b : imageIntact s.nvmB t (bootOf t h) = false) : ((s.loadImage h t).helm h).boot = 3 := by
  unfold State.loadImage
  dsimp only
  rw [if_pos slot]
  have banks : (s.readImage t (bootOf t h)).nvmA = s.nvmA ∧ (s.readImage t (bootOf t h)).nvmB = s.nvmB := by
    unfold State.readImage
    dsimp only
    split <;> exact ⟨rfl, rfl⟩
  rw [banks.1, banks.2, a, b, if_pos (by simp [slot])]
  generalize s.readImage t (bootOf t h) = u
  obtain ⟨queues, -, -⟩ := (u.modHelm h (fun x => { x with boot := 3 })).helmRec_side h u.now clsFault 0x00A 0 0 (wd (imgSlotBase (bootOf t h)))
  obtain ⟨side, -, -, -⟩ := ((u.modHelm h (fun x => { x with boot := 3 })).helmRec h u.now clsFault 0x00A 0 0
    (wd (imgSlotBase (bootOf t h)))).offerRecords_spec h
  have own := congrArg Helm.boot (queues.trans side).own
  rw [State.modHelm_helm] at own
  exact own

end

/-- Refutes O41: helm B is to load slot 1, whose length in NVM-A's table, longer than a slot, ends it with the first word of the image table.
NVM-B's blank copy has the CRC of that table; but the load writes the table to both banks before it looks at the image, and neither copy is
whole any more, so that the helm loads code ROM, where the statement judges the copies as they stood before. -/
theorem not_chartersInNvm : ¬ Obligations.ChartersInNvm := by
  intro h
  obtain ⟨x, whole⟩ : ∃ x, crcWords ((({} : Bank)).reads (imgSlotBase 1) (gapWords + 1)) = x := ⟨_, rfl⟩
  have broken {y : Bank} (below : ∀ a < imgBase, y.read a = (({} : Bank)).read a) :
      imageIntact (y.writes imgBase (imgTableWords (crossedTable x))) (crossedTable x) 1 = false := by
    rw [imageIntact_crossed, written_image below, ← whole, blank_image]
    exact beq_eq_false_iff_ne.2 (crcWords_ne _)
  obtain ⟨live, starting, tested, passed, unloaded⟩ := crossed_loads x
  have none_ (c : Nat) : ¬(crossed x).copyOk c = true := by
    rw [crossed_copyOk]
    exact Bool.false_ne_true
  obtain ⟨-, -, -, -, -, -, -, -, -, -, -, loads⟩ := (h.1 (crossed x) .b).1 live starting tested passed unloaded
  obtain ⟨t, row, -, -, -, -, -, -, -, ⟨-, boot⟩, -⟩ := loads (none_ 0) (none_ 1) (none_ 2)
  obtain ⟨t', row', boots⟩ := execCharterLoad_boot live starting tested passed unloaded
  obtain rfl : t = t' := Host.Outcome.next.inj (row.symm.trans row')
  have slot : bootOf (crossedTable x) .b = 1 := by
    show fld (0xDFFFFF : Word) 21 20 = 1
    decide
  rw [crossed_imgTable, slot] at boot
  have good : imageIntact (crossed x).nvmB (crossedTable x) 1 = true := by
    rw [imageIntact_crossed]
    exact beq_iff_eq.2 whole
  have one := boot (by decide)
  rw [good, if_neg (by simp)] at one
  rw [crossed_imgTable] at boots
  obtain ⟨a, b⟩ := (crossed x).tableWritten_banks (crossedTable x)
  generalize (crossed x).readCopies.readTable.writeImgTable (crossedTable x) = u at a b boots
  have three : ((u.loadImage .b (crossedTable x)).helm .b).boot = 3 := by
    refine State.loadImage_broken (by rw [slot]; decide) ?_ ?_ <;> rw [slot]
    · rw [a]
      exact broken (y := (crossed x).nvmA) (crossed_below x false)
    · rw [b]
      exact broken (y := (crossed x).nvmB) (crossed_below x true)
  exact absurd (one.symm.trans (boots.trans three)) (by decide)

end Sys2Proof.Machine
end
